-- ==== Sys2Proof/Word.lean ====
section
/-! DEFINITION. Words and byte strings of the EQX-6480: the plainest types, with nothing of the machine in them. -/
namespace Sys2Proof

/-- One byte. -/
abbrev Byte := BitVec 8
/-- A byte string, first byte first. -/
abbrev Bytes := List (BitVec 8)
/-- A set-up register value (R9). -/
abbrev Word := BitVec 32
/-- A 64-bit quantity. -/
abbrev Dword := BitVec 64

end Sys2Proof
end

