-- ==== Sys2Proof/Syntax.lean ====
section
/-! DEFINITION. The commands of the block: one constructor of `Instr` per row of the opcode table, with the operands
that the row's rule gives the event (a slice, a queue, a value written, data that arrives, the job concerned). -/
namespace Sys2Proof

/-- How a read or a translation issued by the device failed (R50, R82; bits of HIF_DMA_STATUS). -/
inductive ReadError where
  | ur | ca | poisoned | timeout | denied
deriving DecidableEq, Repr

/-- A reference of the Time Base that was lost (R407). -/
inductive RefLoss where
  | pps | ppsInterval | ref10 | ptm
deriving DecidableEq, Repr

/-- A detector of R436 whose alarm a command reports. -/
inductive Detector where
  | dieMesh | substrateMesh | vbat | temperature | supply | clock | light
deriving DecidableEq, Repr

/-- What an operator card answers (R491, R492). -/
inductive CardAnswer where
  | selected                       -- SELECT succeeded
  | identity (id : Bytes)          -- GET_ID: the custodian identifier
  | signature (sig : Bytes)        -- SIGN: the signature, P-256
  | secret (point : Bytes)         -- ECDH: the shared secret
  | refused                        -- a malformed answer
  | exhausted                      -- block retransmissions are used up (R491)
deriving DecidableEq, Repr

/-- A removable-card event of the SD port (R476). -/
inductive SdAnswer where
  | ready (wide hs : Bool) (blocks : Nat)   -- identification finished: 4-bit bus, High Speed, capacity in blocks
  | unsupported                    -- SDSC, or no answer to CMD8
  | data (block : Bytes)           -- a data token with its block
  | accepted                       -- the command, data or busy phase of a write ended well, or CMD13 shows no error
  | writeProtected                 -- the card reports a write-protect violation
  | error                          -- a response or token reports an error
deriving DecidableEq, Repr

/-- The SRAM regions of R26, and the eMRAM of R27. -/
inductive SramRegion where
  | keyTable | keyCache (block : Nat) | needle (n : BitVec 5) | darner (n : BitVec 2) | mangle (n : BitVec 5) | thimble
  | session (ctx : BitVec 12) | staging | metrology | tables | emram
deriving DecidableEq, Repr

/-- What the request THIMBLE_HALT asks for (R467, R499). -/
inductive ThimbleDebug where
  | halt | step | readOut
deriving DecidableEq, Repr

/-- Configuration bits that stand beside Bus Master Enable and Memory Space Enable: the ATS enable and the power state D3hot (R45). -/
structure ConfigBits where
  ats : Bool
  d3hot : Bool
deriving DecidableEq, Repr

/-- The commands, one constructor per row of the opcode table, in its order. -/
inductive Instr where
  /-- PORST_ASSERT: R519 -/
  | porstAssert (powerOn : Bool)
  /-- START_UP: R518 -/
  | startUp
  /-- BROWN_OUT: R517 -/
  | brownOut (fast : Bool)
  /-- MAIN_POWER_LOSS: R444 -/
  | mainPowerLoss
  /-- CONVENTIONAL_RESET: R519 -/
  | conventionalReset
  /-- PERST_DEASSERT: R62 -/
  | perstDeassert
  /-- FUNCTION_LEVEL_RESET: R63 -/
  | functionLevelReset
  /-- LINK_STATE_CHANGE: R42 -/
  | linkStateChange (speed : BitVec 3) (width : BitVec 5) (flit : Bool) (dlActive : Bool)
  /-- RETRAIN: R64 -/
  | retrain (value : BitVec 32)
  /-- BUS_MASTER_ENABLE_WRITE: R54 -/
  | busMasterEnableWrite (bme : Bool) (mse : Bool) (more : ConfigBits)
  /-- MSIX_CONTROL_WRITE: R56 -/
  | msixControlWrite (enable : Bool) (mask : Bool)
  /-- MSIX_TABLE_WRITE: R56 -/
  | msixTableWrite (offset : Nat) (wide : Bool) (value : BitVec 64)
  /-- BAR_ACCESS_UNSUPPORTED: R16 -/
  | barAccessUnsupported (bar : BitVec 3) (offset : Nat) (size : Nat)
  /-- ATS_INVALIDATION_REQUEST: R53 -/
  | atsInvalidationRequest (tag : BitVec 5) (glob : Bool) (slice : BitVec 8) (page : Nat) (count : Nat)
  /-- ATS_INVALIDATION_COMPLETE: R53 -/
  | atsInvalidationComplete (tag : BitVec 5)
  /-- TRANSLATION_COMPLETION: R52 -/
  | translationCompletion (slice : BitVec 8) (page : Nat) (granted : Bool) (writeOk : Bool)
  /-- DMA_READ_COMPLETION: R49 -/
  | dmaReadCompletion (tag : Nat) (offset : Nat) (data : Bytes) (err : Option ReadError)
  /-- COMPLETION_TIMEOUT: R50 -/
  | completionTimeout (tag : Nat)
  /-- DOE_REQUEST: R57 -/
  | doeRequest (protocol : BitVec 8) (data : Bytes)
  /-- DOE_ABORT: R58 -/
  | doeAbort
  /-- SPDM_GET_VERSION: R57 -/
  | spdmGetVersion
  /-- SPDM_GET_CAPABILITIES: R57 -/
  | spdmGetCapabilities (flags : BitVec 32)
  /-- SPDM_NEGOTIATE_ALGORITHMS: R57 -/
  | spdmNegotiateAlgorithms (base : BitVec 32) (hash : BitVec 32)
  /-- SPDM_GET_DIGESTS: R57 -/
  | spdmGetDigests
  /-- SPDM_GET_CERTIFICATE: R57 -/
  | spdmGetCertificate (slot : BitVec 3) (offset : BitVec 16) (length : BitVec 16)
  /-- SPDM_CHALLENGE: R57 -/
  | spdmChallenge (slot : BitVec 3) (nonce : Bytes)
  /-- SPDM_GET_MEASUREMENTS: R57 -/
  | spdmGetMeasurements (index : BitVec 8) (sign : Bool) (nonce : Bytes)
  /-- SPDM_KEY_EXCHANGE: R57 -/
  | spdmKeyExchange (slot : BitVec 3) (random : Bytes) (exchange : Bytes)
  /-- SPDM_FINISH: R57 -/
  | spdmFinish (verify : Bytes)
  /-- SPDM_KEY_UPDATE: R57 -/
  | spdmKeyUpdate
  /-- SPDM_HEARTBEAT: R57 -/
  | spdmHeartbeat
  /-- SPDM_END_SESSION: R57 -/
  | spdmEndSession
  /-- IDE_STREAM_SECURE: R60 -/
  | ideStreamSecure (stream : BitVec 6) (link : Bool)
  /-- IDE_INTEGRITY_FAILURE: R61 -/
  | ideIntegrityFailure (stream : BitVec 6)
  /-- PTM_EXCHANGE: R406 -/
  | ptmExchange (master : BitVec 64) (good : Bool)
  /-- SQ_TAIL_DOORBELL: R76 -/
  | sqTailDoorbell (slice : BitVec 8) (queue : BitVec 4) (value : BitVec 64)
  /-- CQ_HEAD_DOORBELL: R91 -/
  | cqHeadDoorbell (slice : BitVec 8) (queue : BitVec 4) (value : BitVec 64)
  /-- CELL_FETCH_RETURN: R77 -/
  | cellFetchReturn (slice : BitVec 8) (queue : BitVec 4) (cells : List (BitVec 16 × Bytes)) (err : Option ReadError)
  /-- CELL_REFETCH_TIMER: R77 -/
  | cellRefetchTimer (slice : BitVec 8) (queue : BitVec 4)
  /-- SQ_STALL_WATCHDOG: R78 -/
  | sqStallWatchdog (slice : BitVec 8) (queue : BitVec 4)
  /-- JOB_INTAKE: R79 -/
  | jobIntake (slice : BitVec 8)
  /-- SQ_ENABLE: R96 -/
  | sqEnable (value : BitVec 32)
  /-- SQ_DISABLE: R96 -/
  | sqDisable (value : BitVec 32)
  /-- CQ_ENABLE: R97 -/
  | cqEnable (value : BitVec 32)
  /-- CQ_DISABLE: R97 -/
  | cqDisable (value : BitVec 32)
  /-- SQ_FAULT_CLEAR: R82 -/
  | sqFaultClear (value : BitVec 32)
  /-- CQ_MODERATION_TIMER: R93 -/
  | cqModerationTimer (slice : BitVec 8) (queue : BitVec 4)
  /-- JOB_DISPATCH: R417 -/
  | jobDispatch (cls : BitVec 4)
  /-- ENGINE_COMPUTATION_COMPLETE: R108 -/
  | engineComputationComplete (job : Nat)
  /-- SAFE_POINT_STOP: R114 -/
  | safePointStop (job : Nat)
  /-- ENGINE_WIPE_COMPLETE: R113 -/
  | engineWipeComplete (job : Nat)
  /-- MICROWORD_EXECUTE: R156 -/
  | microwordExecute (mangle : BitVec 5)
  /-- SAFE_POINT_WATCHDOG: R164 -/
  | safePointWatchdog (mangle : BitVec 5)
  /-- PATCH_RELOAD: R167 -/
  | patchReload (mangle : BitVec 5)
  /-- PATTERN_PATCH_LOAD: R169 -/
  | patternPatchLoad (mangle : BitVec 5)
  /-- MANGLE_FAULT: R153 -/
  | mangleFault (mangle : BitVec 5)
  /-- DARNER_FAULT: R245 -/
  | darnerFault (darner : BitVec 2)
  /-- ENGINE_MEMORY_TEST_DONE: R153 -/
  | engineMemoryTestDone (engine : BitVec 7) (passed : Bool)
  /-- CORRECTED_MEMORY_ERROR: R289 -/
  | correctedMemoryError (engine : BitVec 7)
  /-- EKC_FILL_COMPLETE: R128 -/
  | ekcFillComplete (job : Nat)
  /-- EKC_FLUSH: R131 -/
  | ekcFlush (value : BitVec 32)
  /-- EKC_ENABLE_WRITE: R151 -/
  | ekcEnableWrite (value : BitVec 32)
  /-- EKC_QUOTA_WRITE: R152 -/
  | ekcQuotaWrite (slice : BitVec 8) (value : BitVec 32)
  /-- DPK_FLUSH: R230 -/
  | dpkFlush (value : BitVec 32)
  /-- DPK_QUOTA_WRITE: R245 -/
  | dpkQuotaWrite (slice : BitVec 8) (value : BitVec 32)
  /-- DPK_FILL_COMPLETE: R229 -/
  | dpkFillComplete (job : Nat)
  /-- WRINGER_BLOCK_BOUNDARY: R177 -/
  | wringerBlockBoundary (engine : BitVec 7)
  /-- INDEX_COMMIT_COMPLETE: R210 -/
  | indexCommitComplete (key : BitVec 16) (good : Bool)
  /-- USE_RESERVATION_COMMIT: R313 -/
  | useReservationCommit (key : BitVec 16)
  /-- TMK_ROTATION: R324 -/
  | tmkRotation
  /-- TMK_SWEEP_COMPLETE: R324 -/
  | tmkSweepComplete
  /-- VRK_SHARE_REFRESH: R325 -/
  | vrkShareRefresh
  /-- PS_RETENTION_REFRESH: R326 -/
  | psRetentionRefresh
  /-- RINSE_ASSERT: R327 -/
  | rinseAssert (source : BitVec 8) (detail : BitVec 8)
  /-- SRAM_CLEAR_COMPLETE: R442 -/
  | sramClearComplete
  /-- TLOOP_ALARM: R437 -/
  | tloopAlarm (loop : BitVec 3) (bit : BitVec 8)
  /-- CASE_SW_ALARM: R438 -/
  | caseSwAlarm (switch : BitVec 2)
  /-- TAMPER_ALARM: R436 -/
  | tamperAlarm (detector : Detector) (detail : BitVec 8)
  /-- VBAT_LOW_WARNING: R543 -/
  | vbatLowWarning (mv : BitVec 16)
  /-- TAMPER_COMMIT: R440 -/
  | tamperCommit (value : BitVec 32)
  /-- TDIS_BURN: R439 -/
  | tdisBurn (value : BitVec 32)
  /-- SHADOW_MISMATCH: R452 -/
  | shadowMismatch (code : BitVec 8) (detail : BitVec 8)
  /-- LOCKSTEP_MISMATCH: R453 -/
  | lockstepMismatch
  /-- THIMBLE_RESTART_COMPLETE: R453 -/
  | thimbleRestartComplete
  /-- VENT_ACKNOWLEDGE: R449 -/
  | ventAcknowledge (high : Bool) (value : BitVec 32)
  /-- VENT_AUTO_ACKNOWLEDGE: R449 -/
  | ventAutoAcknowledge (cls : BitVec 3)
  /-- VENT_RESUME: R451 -/
  | ventResume (value : BitVec 32)
  /-- VENT_INJECT: R454 -/
  | ventInject (value : BitVec 32)
  /-- NOISE_STARTUP_TEST_COMPLETE: R363 -/
  | noiseStartupTestComplete (aOk : Bool) (bOk : Bool) (kat : Bool) (rct : BitVec 16) (apt : BitVec 16) (aptMax : BitVec 11) (rctMax : BitVec 6)
  /-- HEALTH_TEST_FAILURE: R368 -/
  | healthTestFailure (apt : Bool)
  /-- DRBG_RESEED: R364 -/
  | drbgReseed
  /-- DRBG_REQUEST_SERVED: R365 -/
  | drbgRequestServed
  /-- RNG_REQUEST_TIMEOUT: R367 -/
  | rngRequestTimeout (job : Nat)
  /-- RNG_DOMAIN_RESET: R369 -/
  | rngDomainReset (value : BitVec 32)
  /-- RNG_AUTO_RESET: R370 -/
  | rngAutoReset
  /-- MG_RESEED_REQUEST: R372 -/
  | mgReseedRequest (gen : BitVec 7)
  /-- MG_SEED_ARRIVAL: R373 -/
  | mgSeedArrival (gen : BitVec 7)
  /-- MG_STALL: R373 -/
  | mgStall (gen : BitVec 7)
  /-- MG_STALL_TIMEOUT: R373 -/
  | mgStallTimeout (job : Nat)
  /-- SLICE_ENABLE: R379 -/
  | sliceEnable (slice : BitVec 8) (value : BitVec 32)
  /-- SLICE_DISABLE: R380 -/
  | sliceDisable (slice : BitVec 8) (value : BitVec 32)
  /-- SLICE_RESET: R385 -/
  | sliceReset (slice : BitVec 8) (value : BitVec 32)
  /-- SLICE_RESET_PENDING_ACT: R387 -/
  | sliceResetPendingAct (slice : BitVec 8)
  /-- FREEZE_DRAIN_LIMIT: R392 -/
  | freezeDrainLimit (slice : BitVec 8)
  /-- MIG_NONCE_EXPIRY: R394 -/
  | migNonceExpiry
  /-- TICK_BOUNDARY: R415 -/
  | tickBoundary
  /-- TIME_SOURCE_WRITE: R407 -/
  | timeSourceWrite (value : BitVec 32)
  /-- TAI_SET: R406 -/
  | taiSet (value : BitVec 32)
  /-- PPS_EDGE: R406 -/
  | ppsEdge (cycles : Nat)
  /-- REFERENCE_LOSS: R407 -/
  | referenceLoss (cause : RefLoss)
  /-- CLASS_CFG_WRITE: R414 -/
  | classCfgWrite (cls : BitVec 3) (value : BitVec 32)
  /-- MET_CTRL_WRITE: R422 -/
  | metCtrlWrite (value : BitVec 32)
  /-- QUORUM_WAIT_EXPIRY: R336 -/
  | quorumWaitExpiry
  /-- QUORUM_TTL_EXPIRY: R337 -/
  | quorumTtlExpiry
  /-- OC_CARD_INSERT: R489 -/
  | ocCardInsert (port : BitVec 1)
  /-- OC_CARD_REMOVAL: R491 -/
  | ocCardRemoval (port : BitVec 1)
  /-- OC_ATR_RECEIVED: R490 -/
  | ocAtrReceived (port : BitVec 1) (atr : Option Bytes)
  /-- OC_PPS_RESPONSE: R490 -/
  | ocPpsResponse (port : BitVec 1) (good : Bool)
  /-- OC_APDU_RESPONSE: R492 -/
  | ocApduResponse (port : BitVec 1) (answer : CardAnswer) (sw : BitVec 16)
  /-- OC_WAITING_TIME_EXPIRY: R491 -/
  | ocWaitingTimeExpiry (port : BitVec 1)
  /-- SD_CARD_INSERT: R474 -/
  | sdCardInsert (wp : Bool)
  /-- SD_CARD_REMOVAL: R478 -/
  | sdCardRemoval
  /-- SD_RESPONSE: R476 -/
  | sdResponse (answer : SdAnswer) (wp : Bool)
  /-- SD_TIMEOUT: R475 -/
  | sdTimeout
  /-- BKP_FORMAT: R485 -/
  | bkpFormat (value : BitVec 32)
  /-- BKP_WRITE: R486 -/
  | bkpWrite (value : BitVec 32)
  /-- BKP_RESTORE: R488 -/
  | bkpRestore (value : BitVec 32)
  /-- BKP_ABORT: R485 -/
  | bkpAbort (value : BitVec 32)
  /-- BKP_WAIT_EXPIRY: R488 -/
  | bkpWaitExpiry
  /-- DROOP_TRIP: R522 -/
  | droopTrip
  /-- DROOP_CLEAR: R522 -/
  | droopClear
  /-- THERMAL_HOLD: R523 -/
  | thermalHold (tj : BitVec 8)
  /-- THERMAL_HOLD_RELEASE: R523 -/
  | thermalHoldRelease (tj : BitVec 8)
  /-- THERMTRIP: R523 -/
  | thermtrip (tj : BitVec 8)
  /-- START_CREDIT_TICK: R524 -/
  | startCreditTick
  /-- ENGINE_POWER_GATE: R524 -/
  | enginePowerGate (engine : BitVec 7)
  /-- EREF_MEASUREMENT: R526 -/
  | erefMeasurement (eref : Nat)
  /-- EFF_WINDOW_END: R527 -/
  | effWindowEnd (cls : BitVec 3) (energy : Nat)
  /-- BLOCK_LOCK: R34 -/
  | blockLock (block : BitVec 4) (value : BitVec 32)
  /-- REGISTER_WRITE: R11 -/
  | registerWrite (offset : BitVec 24) (wide : Bool) (value : BitVec 64)
  /-- RC_REGISTER_READ: R13 -/
  | rcRegisterRead (offset : BitVec 24)
  /-- COUNTER_LOW_READ: R10 -/
  | counterLowRead (offset : BitVec 24) (wide : Bool)
  /-- SMB_TEMPERATURE: R540 -/
  | smbTemperature
  /-- SMB_STATUS: R540 -/
  | smbStatus
  /-- SMB_VBAT: R540 -/
  | smbVbat
  /-- SMB_SERIAL: R540 -/
  | smbSerial
  /-- SMB_SUFFIX: R540 -/
  | smbSuffix
  /-- SMB_DEVICE_ID: R540 -/
  | smbDeviceId
  /-- SMB_REVISION: R540 -/
  | smbRevision
  /-- RSL_LINK_UP: R494 -/
  | rslLinkUp
  /-- RSL_LINK_DOWN: R494 -/
  | rslLinkDown
  /-- RSL_HELLO: R497 -/
  | rslHello (seq : BitVec 16)
  /-- RSL_KEX: R497 -/
  | rslKex (seq : BitVec 16) (point : Bytes)
  /-- RSL_KEX_DONE: R497 -/
  | rslKexDone (seq : BitVec 16) (ciphertext : Bytes)
  /-- RSL_CLOSE: R498 -/
  | rslClose
  /-- RSL_SESSION_TIMEOUT: R498 -/
  | rslSessionTimeout
  /-- RSL_NONCE: R466 -/
  | rslNonce (seq : BitVec 16)
  /-- RSL_CERT: R465 -/
  | rslCert (seq : BitVec 16) (cert : Bytes)
  /-- RSL_DEACTIVATE: R467 -/
  | rslDeactivate (seq : BitVec 16)
  /-- RSL_LCS_TRANSITION: R462 -/
  | rslLcsTransition (seq : BitVec 16) (target : BitVec 32)
  /-- LCS_BURN_COMPLETE: R462 -/
  | lcsBurnComplete
  /-- DAC_EXPIRY: R467 -/
  | dacExpiry
  /-- IMAGE_BEGIN: R502 -/
  | imageBegin (seq : BitVec 16)
  /-- IMAGE_DATA: R502 -/
  | imageData (seq : BitVec 16) (data : Bytes)
  /-- IMAGE_END: R502 -/
  | imageEnd (seq : BitVec 16)
  /-- ACTIVATE: R503 -/
  | activate (seq : BitVec 16)
  /-- ACTIVATION_DRAIN_COMPLETE: R503 -/
  | activationDrainComplete
  /-- ACTIVATION_DRAIN_TIMEOUT: R503 -/
  | activationDrainTimeout
  /-- RSL_EVENT_READ: R510 -/
  | rslEventRead (seq : BitVec 16) (first : BitVec 64) (count : BitVec 32)
  /-- RSL_EVENT_CLEAR: R511 -/
  | rslEventClear (seq : BitVec 16)
  /-- RSL_PATTERN_READ: R170 -/
  | rslPatternRead (seq : BitVec 16) (mangle : BitVec 5)
  /-- THIMBLE_HALT: R467 -/
  | thimbleHalt (seq : BitVec 16) (sub : ThimbleDebug)
  /-- NEEDLE_TRACE: R467 -/
  | needleTrace (seq : BitVec 16) (needle : BitVec 5)
  /-- METRO_UNSEAL: R426 -/
  | metroUnseal (seq : BitVec 16)
  /-- METRO_LOAD: R426 -/
  | metroLoad (seq : BitVec 16) (image : Bool) (data : Bytes)
  /-- METRO_RESEAL: R426 -/
  | metroReseal (seq : BitVec 16)
  /-- TAP_RESET: R469 -/
  | tapReset
  /-- EXTEST: R471 -/
  | extest
  /-- SAMPLE_PRELOAD: R470 -/
  | samplePreload (pins : Bytes) (preload : Bytes)
  /-- IDCODE: R469 -/
  | idcode
  /-- EXTEST_PULSE: R471 -/
  | extestPulse
  /-- EXTEST_TRAIN: R471 -/
  | extestTrain
  /-- CLAMP: R471 -/
  | clamp
  /-- HIGHZ: R471 -/
  | highz
  /-- FTM_ENTER: R468 -/
  | ftmEnter
  /-- BYPASS: R470 -/
  | bypass
  /-- ML_KEM_KEYGEN: R143 -/
  | mlKemKeygen (job : Nat)
  /-- ML_KEM_ENCAPS: R144 -/
  | mlKemEncaps (job : Nat)
  /-- ML_KEM_DECAPS: R148 -/
  | mlKemDecaps (job : Nat)
  /-- ML_DSA_KEYGEN: R143 -/
  | mlDsaKeygen (job : Nat)
  /-- ML_DSA_SIGN: R138 -/
  | mlDsaSign (job : Nat)
  /-- ML_DSA_VERIFY: R147 -/
  | mlDsaVerify (job : Nat)
  /-- FN_DSA_KEYGEN: R126 -/
  | fnDsaKeygen (job : Nat)
  /-- FN_DSA_SIGN: R139 -/
  | fnDsaSign (job : Nat)
  /-- FN_DSA_VERIFY: R147 -/
  | fnDsaVerify (job : Nat)
  /-- LAT_PUBLIC_KEY: R146 -/
  | latPublicKey (job : Nat)
  /-- LAT_PRELOAD: R146 -/
  | latPreload (job : Nat)
  /-- SLH_DSA_KEYGEN: R199 -/
  | slhDsaKeygen (job : Nat)
  /-- SLH_DSA_SIGN: R200 -/
  | slhDsaSign (job : Nat)
  /-- SLH_DSA_VERIFY: R218 -/
  | slhDsaVerify (job : Nat)
  /-- HBS_KEYGEN: R216 -/
  | hbsKeygen (job : Nat)
  /-- HBS_TREE_BUILD: R206 -/
  | hbsTreeBuild (job : Nat)
  /-- HBS_SIGN: R217 -/
  | hbsSign (job : Nat)
  /-- HBS_VERIFY: R218 -/
  | hbsVerify (job : Nat)
  /-- HBS_STATE: R219 -/
  | hbsState (job : Nat)
  /-- HBS_PUBLIC_KEY: R215 -/
  | hbsPublicKey (job : Nat)
  /-- CME_KEYGEN: R233 -/
  | cmeKeygen (job : Nat)
  /-- CME_ENCAPS: R228 -/
  | cmeEncaps (job : Nat)
  /-- CME_DECAPS: R242 -/
  | cmeDecaps (job : Nat)
  /-- HQC_KEYGEN: R238 -/
  | hqcKeygen (job : Nat)
  /-- HQC_ENCAPS: R241 -/
  | hqcEncaps (job : Nat)
  /-- HQC_DECAPS: R242 -/
  | hqcDecaps (job : Nat)
  /-- CB_PUBLIC_KEY: R240 -/
  | cbPublicKey (job : Nat)
  /-- CB_PRELOAD: R240 -/
  | cbPreload (job : Nat)
  /-- PK_KEYGEN: R262 -/
  | pkKeygen (job : Nat)
  /-- ECDSA_SIGN: R261 -/
  | ecdsaSign (job : Nat)
  /-- ECDSA_VERIFY: R258 -/
  | ecdsaVerify (job : Nat)
  /-- KEY_AGREE: R256 -/
  | keyAgree (job : Nat)
  /-- EDDSA_SIGN: R263 -/
  | eddsaSign (job : Nat)
  /-- EDDSA_VERIFY: R258 -/
  | eddsaVerify (job : Nat)
  /-- RSA_SIGN: R260 -/
  | rsaSign (job : Nat)
  /-- RSA_VERIFY: R258 -/
  | rsaVerify (job : Nat)
  /-- RSA_OAEP_ENCRYPT: R263 -/
  | rsaOaepEncrypt (job : Nat)
  /-- RSA_OAEP_DECRYPT: R259 -/
  | rsaOaepDecrypt (job : Nat)
  /-- EC_CURVE_LOAD: R252 -/
  | ecCurveLoad (job : Nat)
  /-- EC_CURVE_CLEAR: R253 -/
  | ecCurveClear (job : Nat)
  /-- PK_PUBLIC_KEY: R262 -/
  | pkPublicKey (job : Nat)
  /-- CIPHER_ENCRYPT: R268 -/
  | cipherEncrypt (job : Nat)
  /-- CIPHER_DECRYPT: R268 -/
  | cipherDecrypt (job : Nat)
  /-- GCM_ENCRYPT: R270 -/
  | gcmEncrypt (job : Nat)
  /-- GCM_DECRYPT: R112 -/
  | gcmDecrypt (job : Nat)
  /-- GCM_SESSION_OPEN: R270 -/
  | gcmSessionOpen (job : Nat)
  /-- GCM_SESSION_UPDATE: R270 -/
  | gcmSessionUpdate (job : Nat)
  /-- GCM_SESSION_FINAL: R270 -/
  | gcmSessionFinal (job : Nat)
  /-- GCM_SESSION_CLOSE: R270 -/
  | gcmSessionClose (job : Nat)
  /-- CMAC_GENERATE: R268 -/
  | cmacGenerate (job : Nat)
  /-- CMAC_VERIFY: R270 -/
  | cmacVerify (job : Nat)
  /-- KW_WRAP: R268 -/
  | kwWrap (job : Nat)
  /-- KW_UNWRAP: R270 -/
  | kwUnwrap (job : Nat)
  /-- DIGEST: R187 -/
  | digest (job : Nat)
  /-- SESSION_OPEN: R180 -/
  | sessionOpen (job : Nat)
  /-- SESSION_UPDATE: R182 -/
  | sessionUpdate (job : Nat)
  /-- SESSION_FINAL: R183 -/
  | sessionFinal (job : Nat)
  /-- SESSION_CLOSE: R184 -/
  | sessionClose (job : Nat)
  /-- KEY_GENERATE: R332 -/
  | keyGenerate (job : Nat)
  /-- KEY_DELETE: R317 -/
  | keyDelete (job : Nat)
  /-- KEY_GET_ATTR: R332 -/
  | keyGetAttr (job : Nat)
  /-- KEY_SET_ATTR: R321 -/
  | keySetAttr (job : Nat)
  /-- KEY_PERSIST: R322 -/
  | keyPersist (job : Nat)
  /-- KEY_REPLACE: R318 -/
  | keyReplace (job : Nat)
  /-- KEY_EXPORT_WRAPPED: R328 -/
  | keyExportWrapped (job : Nat)
  /-- KEY_IMPORT_WRAPPED: R329 -/
  | keyImportWrapped (job : Nat)
  /-- KEY_DERIVE: R332 -/
  | keyDerive (job : Nat)
  /-- KEY_PROVE: R323 -/
  | keyProve (job : Nat)
  /-- RNG_GENERATE: R376 -/
  | rngGenerate (job : Nat)
  /-- PIN_TRANSLATE: R346 -/
  | pinTranslate (job : Nat)
  /-- PIN_VERIFY: R347 -/
  | pinVerify (job : Nat)
  /-- EMV_ARQC_VERIFY: R349 -/
  | emvArqcVerify (job : Nat)
  /-- EMV_ARPC_GENERATE: R349 -/
  | emvArpcGenerate (job : Nat)
  /-- BDK_GENERATE: R348 -/
  | bdkGenerate (job : Nat)
  /-- DUKPT_DERIVE_IK: R348 -/
  | dukptDeriveIk (job : Nat)
  /-- KB_IMPORT: R350 -/
  | kbImport (job : Nat)
  /-- KB_EXPORT: R350 -/
  | kbExport (job : Nat)
  /-- PAY_SET_POLICY: R346 -/
  | paySetPolicy (job : Nat)
  /-- COMPOSITE_BIND: R340 -/
  | compositeBind (job : Nat)
  /-- HYB_SIGN: R341 -/
  | hybSign (job : Nat)
  /-- HYB_VERIFY: R342 -/
  | hybVerify (job : Nat)
  /-- HYB_KEM_ENCAPS: R343 -/
  | hybKemEncaps (job : Nat)
  /-- HYB_KEM_DECAPS: R343 -/
  | hybKemDecaps (job : Nat)
  /-- CERT_ISSUE: R352 -/
  | certIssue (job : Nat)
  /-- MDOC_ISSUE: R353 -/
  | mdocIssue (job : Nat)
  /-- TPL_LOAD: R354 -/
  | tplLoad (job : Nat)
  /-- TPL_DELETE: R354 -/
  | tplDelete (job : Nat)
  /-- CRED_ISSUE: R355 -/
  | credIssue (job : Nat)
  /-- QUORUM_OPEN: R336 -/
  | quorumOpen (job : Nat)
  /-- QUORUM_CLOSE: R337 -/
  | quorumClose (job : Nat)
  /-- QUORUM_STATUS: R357 -/
  | quorumStatus (job : Nat)
  /-- QUORUM_ENROLL: R335 -/
  | quorumEnroll (job : Nat)
  /-- HYB_PUBLIC_KEY: R356 -/
  | hybPublicKey (job : Nat)
  /-- MET_SOURCE_ADD: R434 -/
  | metSourceAdd (job : Nat)
  /-- MET_EVENT: R428 -/
  | metEvent (job : Nat)
  /-- MET_INFO: R434 -/
  | metInfo (job : Nat)
  /-- MET_RECORD_GET: R433 -/
  | metRecordGet (job : Nat)
  /-- SLICE_FREEZE: R391 -/
  | sliceFreeze (job : Nat)
  /-- SLICE_SAVE: R398 -/
  | sliceSave (job : Nat)
  /-- SLICE_THAW: R393 -/
  | sliceThaw (job : Nat)
  /-- SLICE_RELEASE: R401 -/
  | sliceRelease (job : Nat)
  /-- MIG_PREPARE: R394 -/
  | migPrepare (job : Nat)
  /-- SLICE_RESTORE: R399 -/
  | sliceRestore (job : Nat)
  /-- CONTRACT_SET: R414 -/
  | contractSet (job : Nat)
  /-- CONTRACT_GET: R419 -/
  | contractGet (job : Nat)
  /-- TIME_READ: R419 -/
  | timeRead (job : Nat)
  /-- EVENT_READ: R510 -/
  | eventRead (job : Nat)
  /-- EVENT_VERIFY: R509 -/
  | eventVerify (job : Nat)
  /-- EVENT_CLEAR: R511 -/
  | eventClear (job : Nat)
  /-- FW_INFO: R512 -/
  | fwInfo (job : Nat)
  /-- ADD: R282 -/
  | add (needle : BitVec 5) (rd : BitVec 5) (rs1 : BitVec 5) (rs2 : BitVec 5)
  /-- SUB: R282 -/
  | sub (needle : BitVec 5) (rd : BitVec 5) (rs1 : BitVec 5) (rs2 : BitVec 5)
  /-- AND: R282 -/
  | and (needle : BitVec 5) (rd : BitVec 5) (rs1 : BitVec 5) (rs2 : BitVec 5)
  /-- OR: R282 -/
  | or (needle : BitVec 5) (rd : BitVec 5) (rs1 : BitVec 5) (rs2 : BitVec 5)
  /-- XOR: R282 -/
  | xor (needle : BitVec 5) (rd : BitVec 5) (rs1 : BitVec 5) (rs2 : BitVec 5)
  /-- SLL: R282 -/
  | sll (needle : BitVec 5) (rd : BitVec 5) (rs1 : BitVec 5) (rs2 : BitVec 5)
  /-- SRL: R282 -/
  | srl (needle : BitVec 5) (rd : BitVec 5) (rs1 : BitVec 5) (rs2 : BitVec 5)
  /-- SRA: R282 -/
  | sra (needle : BitVec 5) (rd : BitVec 5) (rs1 : BitVec 5) (rs2 : BitVec 5)
  /-- SLT: R281 -/
  | slt (needle : BitVec 5) (rd : BitVec 5) (rs1 : BitVec 5) (rs2 : BitVec 5)
  /-- SLTU: R281 -/
  | sltu (needle : BitVec 5) (rd : BitVec 5) (rs1 : BitVec 5) (rs2 : BitVec 5)
  /-- MUL: R282 -/
  | mul (needle : BitVec 5) (rd : BitVec 5) (rs1 : BitVec 5) (rs2 : BitVec 5)
  /-- MULH: R281 -/
  | mulh (needle : BitVec 5) (rd : BitVec 5) (rs1 : BitVec 5) (rs2 : BitVec 5)
  /-- MULHU: R281 -/
  | mulhu (needle : BitVec 5) (rd : BitVec 5) (rs1 : BitVec 5) (rs2 : BitVec 5)
  /-- DIVS: R282 -/
  | divs (needle : BitVec 5) (rd : BitVec 5) (rs1 : BitVec 5) (rs2 : BitVec 5)
  /-- DIVU: R282 -/
  | divu (needle : BitVec 5) (rd : BitVec 5) (rs1 : BitVec 5) (rs2 : BitVec 5)
  /-- REMS: R282 -/
  | rems (needle : BitVec 5) (rd : BitVec 5) (rs1 : BitVec 5) (rs2 : BitVec 5)
  /-- REMU: R282 -/
  | remu (needle : BitVec 5) (rd : BitVec 5) (rs1 : BitVec 5) (rs2 : BitVec 5)
  /-- MOVNZ: R282 -/
  | movnz (needle : BitVec 5) (rd : BitVec 5) (rs1 : BitVec 5) (rs2 : BitVec 5)
  /-- ADDI: R281 -/
  | addi (needle : BitVec 5) (rd : BitVec 5) (rs1 : BitVec 5) (imm : BitVec 16)
  /-- ANDI: R281 -/
  | andi (needle : BitVec 5) (rd : BitVec 5) (rs1 : BitVec 5) (imm : BitVec 16)
  /-- ORI: R281 -/
  | ori (needle : BitVec 5) (rd : BitVec 5) (rs1 : BitVec 5) (imm : BitVec 16)
  /-- XORI: R281 -/
  | xori (needle : BitVec 5) (rd : BitVec 5) (rs1 : BitVec 5) (imm : BitVec 16)
  /-- SLLI: R281 -/
  | slli (needle : BitVec 5) (rd : BitVec 5) (rs1 : BitVec 5) (high : BitVec 8) (amount : BitVec 6)
  /-- SRLI: R281 -/
  | srli (needle : BitVec 5) (rd : BitVec 5) (rs1 : BitVec 5) (high : BitVec 8) (amount : BitVec 6)
  /-- SRAI: R281 -/
  | srai (needle : BitVec 5) (rd : BitVec 5) (rs1 : BitVec 5) (high : BitVec 8) (amount : BitVec 6)
  /-- LUI: R281 -/
  | lui (needle : BitVec 5) (rd : BitVec 5) (rs1 : BitVec 5) (imm : BitVec 16)
  /-- LD8U: R281 -/
  | ld8u (needle : BitVec 5) (rd : BitVec 5) (rs1 : BitVec 5) (imm : BitVec 16)
  /-- LD16U: R281 -/
  | ld16u (needle : BitVec 5) (rd : BitVec 5) (rs1 : BitVec 5) (imm : BitVec 16)
  /-- LD32U: R281 -/
  | ld32u (needle : BitVec 5) (rd : BitVec 5) (rs1 : BitVec 5) (imm : BitVec 16)
  /-- LD64: R281 -/
  | ld64 (needle : BitVec 5) (rd : BitVec 5) (rs1 : BitVec 5) (imm : BitVec 16)
  /-- LD8S: R281 -/
  | ld8s (needle : BitVec 5) (rd : BitVec 5) (rs1 : BitVec 5) (imm : BitVec 16)
  /-- LD16S: R281 -/
  | ld16s (needle : BitVec 5) (rd : BitVec 5) (rs1 : BitVec 5) (imm : BitVec 16)
  /-- LD32S: R281 -/
  | ld32s (needle : BitVec 5) (rd : BitVec 5) (rs1 : BitVec 5) (imm : BitVec 16)
  /-- ST8: R281 -/
  | st8 (needle : BitVec 5) (src : BitVec 5) (rs1 : BitVec 5) (imm : BitVec 16)
  /-- ST16: R281 -/
  | st16 (needle : BitVec 5) (src : BitVec 5) (rs1 : BitVec 5) (imm : BitVec 16)
  /-- ST32: R281 -/
  | st32 (needle : BitVec 5) (src : BitVec 5) (rs1 : BitVec 5) (imm : BitVec 16)
  /-- ST64: R281 -/
  | st64 (needle : BitVec 5) (src : BitVec 5) (rs1 : BitVec 5) (imm : BitVec 16)
  /-- FLD: R281 -/
  | fld (needle : BitVec 5) (rd : BitVec 5) (rs1 : BitVec 5) (imm : BitVec 16)
  /-- FST: R281 -/
  | fst (needle : BitVec 5) (src : BitVec 5) (rs1 : BitVec 5) (imm : BitVec 16)
  /-- CBR: R285 -/
  | cbr (needle : BitVec 5) (cond : BitVec 4) (rs1 : BitVec 5) (rs2 : BitVec 5) (off : BitVec 12)
  /-- JR: R280 -/
  | jr (needle : BitVec 5) (rs1 : BitVec 5) (mask : BitVec 16)
  /-- CALLR: R286 -/
  | callr (needle : BitVec 5) (rs1 : BitVec 5) (mask : BitVec 16)
  /-- RET: R286 -/
  | ret (needle : BitVec 5) (rs1 : BitVec 5) (mask : BitVec 16)
  /-- CALL: R286 -/
  | call (needle : BitVec 5) (mask : BitVec 16) (off : BitVec 14)
  /-- FADD: R290 -/
  | fadd (needle : BitVec 5) (rd : BitVec 5) (rs1 : BitVec 5) (rs2 : BitVec 5)
  /-- FSUB: R290 -/
  | fsub (needle : BitVec 5) (rd : BitVec 5) (rs1 : BitVec 5) (rs2 : BitVec 5)
  /-- FMUL: R290 -/
  | fmul (needle : BitVec 5) (rd : BitVec 5) (rs1 : BitVec 5) (rs2 : BitVec 5)
  /-- FDIV: R290 -/
  | fdiv (needle : BitVec 5) (rd : BitVec 5) (rs1 : BitVec 5) (rs2 : BitVec 5)
  /-- FSQRT: R290 -/
  | fsqrt (needle : BitVec 5) (rd : BitVec 5) (rs1 : BitVec 5) (rs2 : BitVec 5)
  /-- FMA: R281 -/
  | fma (needle : BitVec 5) (rd : BitVec 5) (rs1 : BitVec 5) (rs2 : BitVec 5)
  /-- FMIN: R290 -/
  | fmin (needle : BitVec 5) (rd : BitVec 5) (rs1 : BitVec 5) (rs2 : BitVec 5)
  /-- FMAX: R290 -/
  | fmax (needle : BitVec 5) (rd : BitVec 5) (rs1 : BitVec 5) (rs2 : BitVec 5)
  /-- FCMP_EQ: R290 -/
  | fcmpEq (needle : BitVec 5) (rd : BitVec 5) (rs1 : BitVec 5) (rs2 : BitVec 5)
  /-- FCMP_LT: R290 -/
  | fcmpLt (needle : BitVec 5) (rd : BitVec 5) (rs1 : BitVec 5) (rs2 : BitVec 5)
  /-- FCMP_LE: R290 -/
  | fcmpLe (needle : BitVec 5) (rd : BitVec 5) (rs1 : BitVec 5) (rs2 : BitVec 5)
  /-- FCVT_D_L: R290 -/
  | fcvtDL (needle : BitVec 5) (rd : BitVec 5) (rs1 : BitVec 5) (rs2 : BitVec 5)
  /-- FCVT_L_D: R290 -/
  | fcvtLD (needle : BitVec 5) (rd : BitVec 5) (rs1 : BitVec 5) (rs2 : BitVec 5)
  /-- FMV_X_D: R290 -/
  | fmvXD (needle : BitVec 5) (rd : BitVec 5) (rs1 : BitVec 5) (rs2 : BitVec 5)
  /-- FMV_D_X: R290 -/
  | fmvDX (needle : BitVec 5) (rd : BitVec 5) (rs1 : BitVec 5) (rs2 : BitVec 5)
  /-- FCSR_R: R291 -/
  | fcsrR (needle : BitVec 5) (rd : BitVec 5) (rs1 : BitVec 5) (rs2 : BitVec 5)
  /-- FCSR_W: R291 -/
  | fcsrW (needle : BitVec 5) (rd : BitVec 5) (rs1 : BitVec 5) (rs2 : BitVec 5)
  /-- VSETVL: R292 -/
  | vsetvl (needle : BitVec 5) (m : Bool) (vd : BitVec 5) (vs1 : BitVec 5) (vs2 : BitVec 5)
  /-- VADD: R294 -/
  | vadd (needle : BitVec 5) (m : Bool) (vd : BitVec 5) (vs1 : BitVec 5) (vs2 : BitVec 5)
  /-- VSUB: R294 -/
  | vsub (needle : BitVec 5) (m : Bool) (vd : BitVec 5) (vs1 : BitVec 5) (vs2 : BitVec 5)
  /-- VAND: R294 -/
  | vand (needle : BitVec 5) (m : Bool) (vd : BitVec 5) (vs1 : BitVec 5) (vs2 : BitVec 5)
  /-- VOR: R294 -/
  | vor (needle : BitVec 5) (m : Bool) (vd : BitVec 5) (vs1 : BitVec 5) (vs2 : BitVec 5)
  /-- VXOR: R294 -/
  | vxor (needle : BitVec 5) (m : Bool) (vd : BitVec 5) (vs1 : BitVec 5) (vs2 : BitVec 5)
  /-- VMUL: R294 -/
  | vmul (needle : BitVec 5) (m : Bool) (vd : BitVec 5) (vs1 : BitVec 5) (vs2 : BitVec 5)
  /-- VMULHU: R294 -/
  | vmulhu (needle : BitVec 5) (m : Bool) (vd : BitVec 5) (vs1 : BitVec 5) (vs2 : BitVec 5)
  /-- VSLL: R294 -/
  | vsll (needle : BitVec 5) (m : Bool) (vd : BitVec 5) (vs1 : BitVec 5) (vs2 : BitVec 5)
  /-- VSRL: R294 -/
  | vsrl (needle : BitVec 5) (m : Bool) (vd : BitVec 5) (vs1 : BitVec 5) (vs2 : BitVec 5)
  /-- VSRA: R294 -/
  | vsra (needle : BitVec 5) (m : Bool) (vd : BitVec 5) (vs1 : BitVec 5) (vs2 : BitVec 5)
  /-- VMIN: R294 -/
  | vmin (needle : BitVec 5) (m : Bool) (vd : BitVec 5) (vs1 : BitVec 5) (vs2 : BitVec 5)
  /-- VMAX: R294 -/
  | vmax (needle : BitVec 5) (m : Bool) (vd : BitVec 5) (vs1 : BitVec 5) (vs2 : BitVec 5)
  /-- VMINU: R294 -/
  | vminu (needle : BitVec 5) (m : Bool) (vd : BitVec 5) (vs1 : BitVec 5) (vs2 : BitVec 5)
  /-- VMAXU: R294 -/
  | vmaxu (needle : BitVec 5) (m : Bool) (vd : BitVec 5) (vs1 : BitVec 5) (vs2 : BitVec 5)
  /-- VCMP_EQ: R294 -/
  | vcmpEq (needle : BitVec 5) (m : Bool) (vd : BitVec 5) (vs1 : BitVec 5) (vs2 : BitVec 5)
  /-- VCMP_LT: R294 -/
  | vcmpLt (needle : BitVec 5) (m : Bool) (vd : BitVec 5) (vs1 : BitVec 5) (vs2 : BitVec 5)
  /-- VCMP_LTU: R294 -/
  | vcmpLtu (needle : BitVec 5) (m : Bool) (vd : BitVec 5) (vs1 : BitVec 5) (vs2 : BitVec 5)
  /-- VBCAST: R294 -/
  | vbcast (needle : BitVec 5) (m : Bool) (vd : BitVec 5) (vs1 : BitVec 5) (vs2 : BitVec 5)
  /-- VEXT: R294 -/
  | vext (needle : BitVec 5) (m : Bool) (vd : BitVec 5) (vs1 : BitVec 5) (vs2 : BitVec 5)
  /-- VRED_ADD: R294 -/
  | vredAdd (needle : BitVec 5) (m : Bool) (vd : BitVec 5) (vs1 : BitVec 5) (vs2 : BitVec 5)
  /-- VSAD: R298 -/
  | vsad (needle : BitVec 5) (m : Bool) (sg : Bool) (vd : BitVec 5) (vs1 : BitVec 5) (vs2 : BitVec 5)
  /-- VFADD: R294 -/
  | vfadd (needle : BitVec 5) (m : Bool) (vd : BitVec 5) (vs1 : BitVec 5) (vs2 : BitVec 5)
  /-- VFSUB: R294 -/
  | vfsub (needle : BitVec 5) (m : Bool) (vd : BitVec 5) (vs1 : BitVec 5) (vs2 : BitVec 5)
  /-- VFMUL: R294 -/
  | vfmul (needle : BitVec 5) (m : Bool) (vd : BitVec 5) (vs1 : BitVec 5) (vs2 : BitVec 5)
  /-- VFMA: R294 -/
  | vfma (needle : BitVec 5) (m : Bool) (vd : BitVec 5) (vs1 : BitVec 5) (vs2 : BitVec 5)
  /-- VFDIV: R294 -/
  | vfdiv (needle : BitVec 5) (m : Bool) (vd : BitVec 5) (vs1 : BitVec 5) (vs2 : BitVec 5)
  /-- VFSQRT: R294 -/
  | vfsqrt (needle : BitVec 5) (m : Bool) (vd : BitVec 5) (vs1 : BitVec 5) (vs2 : BitVec 5)
  /-- VFCVT_D_L: R294 -/
  | vfcvtDL (needle : BitVec 5) (m : Bool) (vd : BitVec 5) (vs1 : BitVec 5) (vs2 : BitVec 5)
  /-- VFCVT_L_D: R294 -/
  | vfcvtLD (needle : BitVec 5) (m : Bool) (vd : BitVec 5) (vs1 : BitVec 5) (vs2 : BitVec 5)
  /-- VLD: R296 -/
  | vld (needle : BitVec 5) (m : Bool) (vd : BitVec 5) (vs1 : BitVec 5) (vs2 : BitVec 5)
  /-- VLDS: R296 -/
  | vlds (needle : BitVec 5) (m : Bool) (vd : BitVec 5) (vs1 : BitVec 5) (vs2 : BitVec 5)
  /-- VGATHER: R297 -/
  | vgather (needle : BitVec 5) (m : Bool) (vd : BitVec 5) (vs1 : BitVec 5) (vs2 : BitVec 5)
  /-- VST: R297 -/
  | vst (needle : BitVec 5) (m : Bool) (vd : BitVec 5) (vs1 : BitVec 5) (vs2 : BitVec 5)
  /-- VSTS: R297 -/
  | vsts (needle : BitVec 5) (m : Bool) (vd : BitVec 5) (vs1 : BitVec 5) (vs2 : BitVec 5)
  /-- VSCATTER: R297 -/
  | vscatter (needle : BitVec 5) (m : Bool) (vd : BitVec 5) (vs1 : BitVec 5) (vs2 : BitVec 5)
  /-- PLDA: R299 -/
  | plda (needle : BitVec 5) (rd : BitVec 5) (rs1 : BitVec 5) (rs2 : BitVec 5)
  /-- PMAC: R299 -/
  | pmac (needle : BitVec 5) (rd : BitVec 5) (rs1 : BitVec 5) (rs2 : BitVec 5)
  /-- PSHR: R299 -/
  | pshr (needle : BitVec 5) (rd : BitVec 5) (rs1 : BitVec 5) (rs2 : BitVec 5)
  /-- PRD: R299 -/
  | prd (needle : BitVec 5) (rd : BitVec 5) (rs1 : BitVec 5) (rs2 : BitVec 5)
  /-- PCLR: R299 -/
  | pclr (needle : BitVec 5) (rd : BitVec 5) (rs1 : BitVec 5) (rs2 : BitVec 5)
  /-- PLDACC: R299 -/
  | pldacc (needle : BitVec 5) (rd : BitVec 5) (rs1 : BitVec 5) (rs2 : BitVec 5)
  /-- FXIN: R300 -/
  | fxin (needle : BitVec 5) (rd : BitVec 5) (rs1 : BitVec 5) (rs2 : BitVec 5) (arg : BitVec 4)
  /-- FXOUT: R300 -/
  | fxout (needle : BitVec 5) (rd : BitVec 5) (rs1 : BitVec 5) (rs2 : BitVec 5) (arg : BitVec 4)
  /-- KRECV: R300 -/
  | krecv (needle : BitVec 5) (rd : BitVec 5) (rs1 : BitVec 5) (rs2 : BitVec 5) (arg : BitVec 4)
  /-- RAND: R300 -/
  | rand (needle : BitVec 5) (rd : BitVec 5) (rs1 : BitVec 5) (rs2 : BitVec 5) (arg : BitVec 4)
  /-- END: R301 -/
  | endTask (needle : BitVec 5) (rd : BitVec 5) (rs1 : BitVec 5) (rs2 : BitVec 5) (arg : BitVec 4)
  /-- MAIN_POWER_RETURN: R437 -/
  | mainPowerReturn
  /-- HIF_READY: R62 -/
  | hifReady
  /-- AUTO_RESET_WINDOW_EXPIRY: R370 -/
  | autoResetWindowExpiry
  /-- SRAM_SCRUB_ERROR: R26 -/
  | sramScrubError (region : SramRegion) (uncorrectable : Bool)
  /-- NEEDLE_MEM_UNCORR: R288 -/
  | needleMemUncorr (needle : BitVec 5)
  /-- WRINGER_LANE_ERROR: R188 -/
  | wringerLaneError (engine : BitVec 7) (job : Nat)
  /-- SVC_FRAME_ERROR: R496 -/
  | svcFrameError
deriving DecidableEq, Repr

end Sys2Proof
end

