-- ==== Sys2Proof/Decode.lean ====
section
/-! DEFINITION. The decoder of table words. The opcode table gives no row any bits: every row is an event at one of the block's
interfaces, so no word spells a command and every word is rejected (log 3). -/
namespace Sys2Proof

/-- The command a table word spells: none, because the table gives no row bits. -/
def decodeTableWord (_nbits _w : Nat) : Option Instr := none

end Sys2Proof
end

