-- ==== Sys2Proof/Config.lean ====
section
/-! DEFINITION. What an implementation fixes and the specification does not state, and the free values. Each constant
here has no body, so no proof can lean on a value of it (log 4, log 5, log 17, log 18, log 19). -/
namespace Sys2Proof.Config

/-! ## Free values: applied to the counter `freeCtr` of the state -/

/-- Byte `i` of the free value number `n`. -/
opaque freeByte (n i : Nat) : BitVec 8
/-- The free number `n`. -/
opaque freeNat (n : Nat) : Nat
/-- The free bit `n`. -/
opaque freeBool (n : Nat) : Bool

/-- `len` free bytes, number `n`. -/
def freeBytes (n len : Nat) : Bytes := (List.range len).map (freeByte n)

/-! ## Algorithms of published standards (R17): named, never evaluated (log 5) -/

/-- The functions that published standards define. -/
inductive Alg where
  /-- Digests and keyed digests: SHA-2, SHA-3, SHAKE, cSHAKE, HMAC, KMAC (R172, R173), by FUNC. -/
  | digest | kmac128 | kmac256 | hmac
  /-- FIPS 203. -/
  | mlKemEk | mlKemCt | mlKemSs | mlKemDecaps | mlKemEkOk
  /-- FIPS 204. -/
  | mlDsaPk | mlDsaSign | mlDsaVerify | mlDsaAttempts
  /-- FIPS 206. -/
  | fnDsaPk | fnDsaSign | fnDsaAttempts | fnDsaVerify | fnDsaSeedFits
  /-- FIPS 205. -/
  | slhSign | slhVerify | slhLeaves | slhRoot
  /-- LMS, HSS, XMSS, XMSS^MT (SP 800-208). -/
  | hbsNode | hbsSign | hbsVerify | hbsSeg | hbsPath
  /-- Classic McEliece and HQC. -/
  | cmePk | cmeEncaps | cmeSecret | cmeGoppa | cmeDecaps | cmeAttempt | hqcPk | hqcCt | hqcSs | hqcDecaps
  /-- Curves and RSA. -/
  | ecPk | ecdsaSign | ecdsaVerify | ecdh | eddsaSign | eddsaVerify | pointStatus | curveOk
  | rsaKey | rsaSign | rsaVerify | rsaEncrypt | rsaDecrypt | rsaDecryptStatus | rsaCheck
  /-- AES, TDES and their modes. -/
  | aes | aesXts | aesXtsDec | gcmTag | cmac | kwp | kwpUnwrap | kwpOk | kw | kwUnwrap | kwOk | tdes
  /-- Key derivation. -/
  | hkdf | kdf | dukpt | emv
  /-- Keccak-f[1600] and the sampler of a Mangle (R119). -/
  | keccakF | keccakAbsorb | sampler | unmask
  /-- X.509, CBOR and other structured inputs. -/
  | derOk | chainOk | certSerial | certBuild | mdocBuild | credBuild | keyBlock | keyBlockOpen | keyBlockOk
  /-- Images and certificates of the vendor. -/
  | imageParse | patchParse
  /-- Import and consistency checks of key material. -/
  | importOk | checkValue
deriving DecidableEq, Repr

/-- The byte string a standard's function gives. -/
opaque crypto (a : Alg) (args : List Bytes) : Bytes
/-- The outcome of a standard's check. -/
opaque check (a : Alg) (args : List Bytes) : Bool
/-- A number a standard's procedure gives (a count of attempts, a status among several). -/
opaque measure (a : Alg) (args : List Bytes) : Nat

/-! ## Fixed per stepping or per device -/

/-- Microword of the Pattern ROM (R154) other than word 0, which R158 gives. -/
opaque patternRom (addr : Nat) : BitVec 160
/-- Entry word of an operation, by opcode, parameter set and masking order (R158): 0 stands for word 0x0001, 62 for word 0x003F. -/
opaque entryWord (opcode pset : Nat) (order2 : Bool) : Fin 63
/-- Twiddle constant of a modulus at a twiddle pointer (R160). -/
opaque zeta (mod tp : Nat) : Nat
/-- Target count of the rejection filter for a job (R157). -/
opaque sampleTarget (opcode pset : Nat) : Nat
/-- A Mangle that runs job `j` after a missed lookup is still expanding the key when free value `n` is next (R151). -/
opaque expanding (j n : Nat) : Bool
/-- ROM version shown in ENG_PAT_ID (R171): 0x0001 on the first production stepping. -/
def romId : Nat := 1
/-- Entry address that the image of a version gives a Needle task for its opcode (R276): a word number of the code space. -/
opaque needleEntry (version opcode : Nat) : BitVec 18
/-- Word of the Needle code segment of an image at a code address (R277). -/
opaque needleCode (version addr : Nat) : BitVec 32
/-- FMA of 0 × ∞ with a quiet NaN sets NV: IEEE 754-2019 leaves it to the implementation (R290). -/
opaque fmaQuietInvalid : Bool
/-- Capacity charge of an opcode variant that R412 does not list. -/
opaque costCharge (opcode variant len : Nat) : Nat
/-- Computation part of the deadline bound that R412 does not list; 0 where the table gives none. -/
opaque costBound (opcode variant len : Nat) : Nat
/-- Switching events of an operation, N_op of R526. -/
opaque nOp (opcode variant : Nat) : Nat
/-- Switching events of the reference operation of efficiency class `k` (R526, R527). -/
opaque nOpRef (k : Nat) : Nat
/-- Device Serial Number (R45). -/
opaque serial : BitVec 64
/-- The OTP device identity from which the identity key is derived (R310). -/
opaque identity : Nat → BitVec 8
/-- The vendor key hash in OTP (R28). -/
opaque vendorKeyHash : Nat → BitVec 8
/-- The firmware image key in the boot ROM (R501). -/
opaque imageKey : Nat → BitVec 8
/-- Moabry's JEDEC manufacturer code (R469). -/
opaque jedec : BitVec 11
/-- Digest of the boot ROM (R57). -/
opaque bootRom : Nat → BitVec 8
/-- Certificate chain of SPDM slot 0 and, where the integrator provisioned one, of slot 1 (R57). -/
opaque certChain (slot : Nat) : Option (List (BitVec 8))
/-- Moabry's PCI-SIG-assigned Vendor ID (R44). -/
opaque vendorId : BitVec 16
/-- The vector of slice 0 that tells DOE readiness (R55). -/
opaque doeVector : BitVec 3
/-- Revision ID: 0x01 for the first production stepping (R44). -/
def revision : BitVec 8 := 0x01

end Sys2Proof.Config
end

