-- ==== Sys2Proof/Machine/Bits.lean ====
section
/-! DEFINITION. Bit fields, byte order and saturating counters, as 00_scope.md states them (R4, R6, R11, R13). -/
namespace Sys2Proof.Machine

/-- Field of `w` bits whose lowest bit is bit `lo` (R6). -/
def fld {n : Nat} (v : BitVec n) (lo w : Nat) : BitVec w := v.extractLsb' lo w

/-- One bit. -/
def bit {n : Nat} (v : BitVec n) (i : Nat) : Bool := v.getLsbD i

/-- A register word put together from (value, lowest bit) pairs. -/
def word (fs : List (Nat × Nat)) : Word :=
  BitVec.ofNat 32 (fs.foldl (fun a f => a + f.1 * 2 ^ f.2) 0)

/-- A Boolean as a field value. -/
def flag (b : Bool) : Nat := if b then 1 else 0

/-- `n` bytes, least significant first (R6: fields of this manual are little-endian). -/
def leBytes : Nat → Nat → Bytes
  | 0, _ => []
  | n + 1, v => BitVec.ofNat 8 v :: leBytes n (v / 256)

/-- `n` bytes, most significant first (byte strings of published standards, R6). -/
def beBytes (n v : Nat) : Bytes := (leBytes n v).reverse

/-- The value of a little-endian byte string. -/
def ofLE : Bytes → Nat
  | [] => 0
  | b :: bs => b.toNat + 256 * ofLE bs

/-- The value of a big-endian byte string. -/
def ofBE (bs : Bytes) : Nat := ofLE bs.reverse

/-- `n` bytes from byte `i` on; bytes past the end read as zero, so the answer always has length `n`. -/
def cut (bs : Bytes) (i n : Nat) : Bytes :=
  let t := (bs.drop i).take n
  t ++ List.replicate (n - t.length) 0

/-- The little-endian field of bytes i+n-1:i. -/
def fieldLE (bs : Bytes) (i n : Nat) : Nat := ofLE (cut bs i n)

/-- One byte of a string, zero past the end. -/
def byteAt (bs : Bytes) (i : Nat) : Byte := bs.getD i 0

/-- `bs` cut or zero-filled to exactly `n` bytes. -/
def fit (n : Nat) (bs : Bytes) : Bytes := cut bs 0 n

/-- `n` zero bytes. -/
def zeros (n : Nat) : Bytes := List.replicate n 0

/-- Bytewise exclusive or of two strings, as long as the first. -/
def xorBytes : Bytes → Bytes → Bytes
  | a :: as, b :: bs => (a ^^^ b) :: xorBytes as bs
  | as, [] => as
  | [], _ => []

/-- The bytes of an ASCII string (customisation strings of the manual). -/
def ascii (s : String) : Bytes := s.toList.map (fun c => BitVec.ofNat 8 c.toNat)

/-- A counter that saturates at all ones. -/
def satInc {n : Nat} (v : BitVec n) : BitVec n := if v = BitVec.allOnes n then v else v + 1

/-- `n` increments of a saturating counter. -/
def satAdd {n : Nat} (v : BitVec n) (k : Nat) : BitVec n := BitVec.ofNat n (min (v.toNat + k) (2 ^ n - 1))

/-- Bytes until a multiple of `m` is reached. -/
def roundUp (n m : Nat) : Nat := (n + m - 1) / m * m

/-- `⌈a / b⌉`. -/
def ceilDiv (a b : Nat) : Nat := (a + b - 1) / b

/-- Keeps the last `n` entries of a list. -/
def lastN {α : Type} (n : Nat) (l : List α) : List α := l.drop (l.length - n)

/-- The first entry of a list that answers, with its place taken out. -/
def replaceFirst {α : Type} (p : α → Bool) (f : α → α) : List α → List α
  | [] => []
  | x :: xs => if p x then f x :: xs else x :: replaceFirst p f xs

/-- Every entry for which `p` holds, changed by `f`. -/
def mapIf {α : Type} (p : α → Bool) (f : α → α) (l : List α) : List α :=
  l.map (fun x => if p x then f x else x)

/-- The numbers 0 to n-1 for which `p` holds. -/
def below (n : Nat) (p : Nat → Bool) : List Nat := (List.range n).filter p

/-- Bits set among the low `k` bits of a number. -/
def popCount : Nat → Nat → Nat
  | 0, _ => 0
  | k + 1, v => v % 2 + popCount k (v / 2)

/-- CRC-32C (polynomial 0x1EDC_6F41, reflected form 0x82F6_3B78), one bit at a time. -/
def crcBits : Nat → BitVec 32 → BitVec 32
  | 0, c => c
  | k + 1, c => crcBits k (if c.getLsbD 0 then (c >>> 1) ^^^ 0x82F63B78#32 else c >>> 1)

/-- CRC-32C over a byte string. -/
def crc32c (bs : Bytes) : BitVec 32 :=
  (bs.foldl (fun c b => crcBits 8 (c ^^^ b.zeroExtend 32)) 0xFFFFFFFF#32) ^^^ 0xFFFFFFFF#32

end Sys2Proof.Machine
end

