-- ==== Sys2Proof/Machine/Flags.lean ====
section
/-! DEFINITION. Binary64 arithmetic and the flags it sets (11_stitch_isa.md, R290, R291): exact values on integers, one rounding. -/
namespace Sys2Proof.Machine

/-- What a binary64 datum stands for: a NaN (signalling or quiet), an infinity, or ± m * 2^e. -/
inductive FVal where
  | nan (signalling : Bool)
  | inf (neg : Bool)
  | fin (neg : Bool) (m : Nat) (e : Int)
deriving DecidableEq, Repr

/-- A result with the flags it sets: NV, DZ, OF, UF, NX in bits 4 to 0 (R291). -/
structure FRes where
  val : BitVec 64
  flags : BitVec 5 := 0
deriving DecidableEq, Repr

abbrev fNV : BitVec 5 := 16
abbrev fDZ : BitVec 5 := 8
abbrev fOF : BitVec 5 := 4
abbrev fUF : BitVec 5 := 2
abbrev fNX : BitVec 5 := 1

/-- The one NaN that results (R290). -/
abbrev canonNan : BitVec 64 := 0x7FF8000000000000

/-- The value of a datum. -/
def fdecode (x : BitVec 64) : FVal :=
  let e := (fld x 52 11).toNat
  let f := (fld x 0 52).toNat
  if e = 2047 then (if f = 0 then .inf (bit x 63) else .nan (!bit x 51))
  else if e = 0 then .fin (bit x 63) f (-1074)
  else .fin (bit x 63) (f + 2 ^ 52) ((e : Int) - 1075)

def fbits (neg : Bool) (magnitude : Nat) : BitVec 64 := BitVec.ofNat 64 (flag neg * 2 ^ 63 + magnitude)
def fzero (neg : Bool) : BitVec 64 := fbits neg 0
def finf (neg : Bool) : BitVec 64 := fbits neg (2047 * 2 ^ 52)

def FVal.isNan : FVal → Bool
  | .nan _ => true
  | _ => false
def FVal.isSnan : FVal → Bool
  | .nan s => s
  | _ => false

/-- A NaN result; NV where the operation is invalid. -/
def nanRes (invalid : Bool) : FRes := { val := canonNan, flags := if invalid then fNV else 0 }

/-! ## Rounding -/

/-- m / 2^k rounded to an integer under a rounding mode (R291), and whether bits were lost. -/
def roundShift (rm : BitVec 3) (neg : Bool) (m k : Nat) : Nat × Bool :=
  let q := m / 2 ^ k
  let r := m % 2 ^ k
  let up := match rm with
    | 0 => decide (2 ^ k < 2 * r) || (2 * r == 2 ^ k && k != 0 && q % 2 == 1)
    | 1 => false
    | 2 => neg && r != 0
    | _ => !neg && r != 0
  (if up then q + 1 else q, r != 0)

/-- m * 2^e scaled to a multiple of 2^t, rounded where t is above e. -/
def roundAt (rm : BitVec 3) (neg : Bool) (m : Nat) (e t : Int) : Nat × Bool :=
  if e < t then roundShift rm neg m (t - e).toNat else (m * 2 ^ (e - t).toNat, false)

/-- The largest finite value or infinity, as the mode asks on overflow. -/
def overflowRes (rm : BitVec 3) (neg : Bool) : FRes :=
  let toInf := match rm with
    | 0 => true
    | 1 => false
    | 2 => neg
    | _ => !neg
  { val := if toInf then finf neg else fbits neg (2047 * 2 ^ 52 - 1), flags := fOF ||| fNX }

/-- ± m * 2^e as a binary64 datum, m not zero; tininess is found after rounding (R290). -/
def roundPack (rm : BitVec 3) (neg : Bool) (m : Nat) (e : Int) : FRes :=
  let top : Int := e + (Nat.log2 m : Int)
  let t := max (top - 52) (-1074)
  let (q, lost) := roundAt rm neg m e t
  if 2047 * 2 ^ 52 ≤ (t + 1074).toNat * 2 ^ 52 + q then overflowRes rm neg
  else
    let free := roundAt rm neg m e (top - 52)
    let tiny := decide (top + (if free.1 = 2 ^ 53 then 1 else 0) < -1022)
    { val := fbits neg ((t + 1074).toNat * 2 ^ 52 + q)
      flags := (if lost then fNX else 0) ||| (if lost && tiny then fUF else 0) }

/-- A signed sum of exact terms; an exact zero takes the sign `zneg`. -/
def packInt (rm : BitVec 3) (zneg : Bool) (v e : Int) : FRes :=
  if v = 0 then { val := fzero zneg } else roundPack rm (decide (v < 0)) v.natAbs e

/-- Quotient or root with a remainder: one more bit stands for what is left over. -/
def packSticky (rm : BitVec 3) (neg : Bool) (q : Nat) (rest : Bool) (e : Int) : FRes :=
  roundPack rm neg (2 * q + flag rest) (e - 1)

/-! ## Arithmetic -/

def signedMag (neg : Bool) (m : Nat) : Int := if neg then -(m : Int) else m

/-- x + y for finite or infinite terms; the sign of an exact zero sum: that of both terms, else minus only toward −∞. -/
def faddVal (rm : BitVec 3) : FVal → FVal → FRes
  | .fin n1 m1 e1, .fin n2 m2 e2 =>
    let e := min e1 e2
    packInt rm (if n1 = n2 then n1 else rm == 2)
      (signedMag n1 (m1 * 2 ^ (e1 - e).toNat) + signedMag n2 (m2 * 2 ^ (e2 - e).toNat)) e
  | .inf n1, .inf n2 => if n1 = n2 then { val := finf n1 } else nanRes true
  | .inf n, .fin .. => { val := finf n }
  | .fin .., .inf n => { val := finf n }
  | a, b => nanRes (a.isSnan || b.isSnan)

def FVal.negate : FVal → FVal
  | .inf n => .inf (!n)
  | .fin n m e => .fin (!n) m e
  | v => v

def fadd (rm : BitVec 3) (x y : BitVec 64) : FRes := faddVal rm (fdecode x) (fdecode y)
def fsub (rm : BitVec 3) (x y : BitVec 64) : FRes := faddVal rm (fdecode x) (fdecode y).negate

/-- x * y exactly; none where a NaN results. -/
def fmulVal : FVal → FVal → Option FVal
  | .fin n1 m1 e1, .fin n2 m2 e2 => some (.fin (n1 != n2) (m1 * m2) (e1 + e2))
  | .inf n1, .inf n2 => some (.inf (n1 != n2))
  | .inf n1, .fin n2 m _ => if m = 0 then none else some (.inf (n1 != n2))
  | .fin n1 m _, .inf n2 => if m = 0 then none else some (.inf (n1 != n2))
  | _, _ => none

/-- A value rounded. -/
def packVal (rm : BitVec 3) : FVal → FRes
  | .fin n m e => packInt rm n (signedMag n m) e
  | .inf n => { val := finf n }
  | .nan s => nanRes s

def fmul (rm : BitVec 3) (x y : BitVec 64) : FRes :=
  let a := fdecode x
  let b := fdecode y
  match fmulVal a b with
  | some v => packVal rm v
  | none => nanRes (a.isSnan || b.isSnan || (!a.isNan && !b.isNan))

/-- x * y + z with one rounding. -/
def fma (rm : BitVec 3) (x y z : BitVec 64) : FRes :=
  let a := fdecode x
  let b := fdecode y
  let c := fdecode z
  match fmulVal a b with
  | some p => faddVal rm p c
  | none =>
    let zeroInf := !a.isNan && !b.isNan
    nanRes (a.isSnan || b.isSnan || c.isSnan || (zeroInf && (!c.isNan || Config.fmaQuietInvalid)))

def fdiv (rm : BitVec 3) (x y : BitVec 64) : FRes :=
  match fdecode x, fdecode y with
  | .fin n1 m1 e1, .fin n2 m2 e2 =>
    if m2 = 0 then (if m1 = 0 then nanRes true else { val := finf (n1 != n2), flags := fDZ })
    else if m1 = 0 then { val := fzero (n1 != n2) }
    else packSticky rm (n1 != n2) (m1 * 2 ^ 120 / m2) (m1 * 2 ^ 120 % m2 != 0) (e1 - e2 - 120)
  | .inf _, .inf _ => nanRes true
  | .inf n1, .fin n2 _ _ => { val := finf (n1 != n2) }
  | .fin n1 _ _, .inf n2 => { val := fzero (n1 != n2) }
  | a, b => nanRes (a.isSnan || b.isSnan)

/-- Integer square root, bit by bit from bit k-1 down. -/
def isqrtFrom (n : Nat) : Nat → Nat → Nat
  | 0, r => r
  | k + 1, r => isqrtFrom n k (if (r + 2 ^ k) * (r + 2 ^ k) ≤ n then r + 2 ^ k else r)

def fsqrt (rm : BitVec 3) (x : BitVec 64) : FRes :=
  match fdecode x with
  | .nan s => nanRes s
  | .inf n => if n then nanRes true else { val := finf false }
  | .fin n m e =>
    if m = 0 then { val := fzero n }
    else if n then nanRes true
    else
      let sh : Nat := if e % 2 = 0 then 120 else 121
      let v := m * 2 ^ sh
      let r := isqrtFrom v 88 0
      packSticky rm false r (r * r != v) ((e - (sh : Int)) / 2)

/-! ## Comparison and conversion -/

/-- Order of data that are no NaN; the zeros are equal. -/
def fkey (x : BitVec 64) : Int := signedMag (bit x 63) (fld x 0 63).toNat

/-- The smaller or the larger of two data; −0 is below +0 (R290). -/
def fminmax (larger : Bool) (x y : BitVec 64) : FRes :=
  let a := fdecode x
  let b := fdecode y
  let fl : BitVec 5 := if a.isSnan || b.isSnan then fNV else 0
  if a.isNan && b.isNan then { val := canonNan, flags := fl }
  else if a.isNan then { val := y, flags := fl }
  else if b.isNan then { val := x, flags := fl }
  else
    let less := decide (fkey x < fkey y) || (fkey x == fkey y && bit x 63)
    { val := if less != larger then x else y, flags := fl }

inductive FCmp where
  | eq | lt | le
deriving DecidableEq, Repr

/-- A comparison: 1 or 0, NV as R290 says. -/
def fcmp (c : FCmp) (x y : BitVec 64) : FRes :=
  let a := fdecode x
  let b := fdecode y
  let fl : BitVec 5 := if a.isSnan || b.isSnan || (c != .eq && (a.isNan || b.isNan)) then fNV else 0
  let holds := match c with
    | .eq => fkey x == fkey y
    | .lt => decide (fkey x < fkey y)
    | .le => decide (fkey x ≤ fkey y)
  { val := if !a.isNan && !b.isNan && holds then 1 else 0, flags := fl }

/-- FCVT.D.L: int64 to binary64. -/
def fcvtDL (rm : BitVec 3) (x : BitVec 64) : FRes := packInt rm false x.toInt 0

/-- FCVT.L.D: binary64 to int64, saturating (R290). -/
def fcvtLD (rm : BitVec 3) (x : BitVec 64) : FRes :=
  match fdecode x with
  | .nan _ => { val := 0x7FFFFFFFFFFFFFFF, flags := fNV }
  | .inf n => { val := if n then 0x8000000000000000 else 0x7FFFFFFFFFFFFFFF, flags := fNV }
  | .fin n m e =>
    let r := roundAt rm n m e 0
    let v := signedMag n r.1
    if v < -(2 ^ 63) then { val := 0x8000000000000000, flags := fNV }
    else if 2 ^ 63 ≤ v then { val := 0x7FFFFFFFFFFFFFFF, flags := fNV }
    else { val := BitVec.ofInt 64 v, flags := if r.2 then fNX else 0 }

end Sys2Proof.Machine
end

