-- ==== Sys2Proof/Machine/Crypto.lean ====
section
/-! DEFINITION. Named uses of the standards' functions, each with the length the manual gives its result. -/
namespace Sys2Proof.Machine

/-- `n` bytes of a standard's function. -/
def alg (a : Config.Alg) (n : Nat) (args : List Bytes) : Bytes := fit n (Config.crypto a args)

/-- A number as an argument of a standard's function. -/
def num (n : Nat) : Bytes := leBytes 8 n

/-- `n` bytes of an extendable output, whose shorter outputs are prefixes of the longer ones. -/
def xof (a : Config.Alg) (n : Nat) (args : List Bytes) : Bytes :=
  ((List.range (ceilDiv n 64)).map (fun i => alg a 64 (num i :: args))).flatten.take n

/-! ## Modes of operation (R265, R268): concrete over one block of the cipher -/

/-- A string in pieces of `k` bytes, at most `fuel`. -/
def chunks (k : Nat) : Nat → Bytes → List Bytes
  | 0, _ => []
  | fuel + 1, bs => if bs = [] then [] else bs.take k :: chunks k fuel (bs.drop k)

/-- The pieces of `k` bytes of a string, the last one perhaps shorter. -/
def blocksOf (k : Nat) (bs : Bytes) : List Bytes := chunks k (bs.length / max 1 k + 1) bs

/-- One AES block, encrypted or decrypted, by ALG (R265). -/
def aesBlock (enc : Bool) (a : Nat) (key blk : Bytes) : Bytes := alg .aes 16 [num (if enc then 1 else 0), num a, key, blk]

/-- CBC over blocks: encryption with `f` the cipher, decryption with `f` its inverse. -/
def cbcEnc (f : Bytes → Bytes) : Bytes → List Bytes → Bytes
  | _, [] => []
  | iv, b :: bs => let c := f (xorBytes b iv); c ++ cbcEnc f c bs
def cbcDec (f : Bytes → Bytes) : Bytes → List Bytes → Bytes
  | _, [] => []
  | iv, b :: bs => xorBytes (f b) iv ++ cbcDec f b bs

/-- A counter block `i` places on: the last `w` bytes count, big-endian, modulo their range. -/
def ctrBlock (w : Nat) (c : Bytes) (i : Nat) : Bytes := c.take (16 - w) ++ beBytes w ((ofBE (c.drop (16 - w)) + i) % 2 ^ (8 * w))

/-- Counter mode from a first counter block of which the last `w` bytes count. -/
def ctrCrypt (w a : Nat) (key c bs : Bytes) : Bytes :=
  xorBytes bs ((List.range (ceilDiv bs.length 16)).map (fun i => aesBlock true a key (ctrBlock w c i))).flatten

/-- Data under GCM with a 12-byte IV: counter mode from the block after IV ‖ 1; one function for both directions. -/
def gcmData (a : Nat) (key iv data : Bytes) : Bytes := ctrCrypt 4 a key (fit 12 iv ++ beBytes 4 2) data

/-- KMAC256 with `n` bytes of output and a customisation string. -/
def kmac256 (key x : Bytes) (n : Nat) (custom : Bytes) : Bytes := alg .kmac256 n [key, x, num (8 * n), custom]

/-- SHA-256, SHA-384 and SHA3-256, by the FUNC codes of R173. -/
def sha256 (m : Bytes) : Bytes := alg .digest 32 [num 0x02, m]
def sha384 (m : Bytes) : Bytes := alg .digest 48 [num 0x03, m]
def sha3x256 (m : Bytes) : Bytes := alg .digest 32 [num 0x12, m]

/-- The Device Serial Number, 8 bytes (R45). -/
def serialBytes : Bytes := leBytes 8 Config.serial.toNat

/-- The OTP device identity, 32 bytes, and the identity key derived from it (R310). -/
def identityKey : Bytes := (List.range 48).map Config.identity

/-- The vendor key hash in OTP, 48 bytes of SHA-384 (R465). -/
def vendorHash : Bytes := (List.range 48).map Config.vendorKeyHash

/-- The device identity key signs: ECDSA P-384, r followed by s, 96 bytes, with a nonce. -/
def identitySign (m nonce : Bytes) : Bytes := alg .ecdsaSign 96 [num 0x02, identityKey, sha384 m, nonce]

end Sys2Proof.Machine
end

