-- ==== Sys2Proof/Machine/Tbl.lean ====
section
/-! DEFINITION. Tables: sparse data by number, as a list of (key, value) pairs in one canonical form (keys strictly
rising, no pair whose value is the one an unlisted key reads as), so that equal tables are equal lists. -/
namespace Sys2Proof.Machine

/-- A table over natural-number keys. -/
abbrev Tbl (α : Type) := List (Nat × α)

/-- What key `k` reads as; `d` where nothing is listed. -/
def tget {α : Type} (t : Tbl α) (d : α) (k : Nat) : α :=
  match t with
  | [] => d
  | (j, v) :: r => if j = k then v else tget r d k

/-- Takes key `k` out. -/
def terase {α : Type} (t : Tbl α) (k : Nat) : Tbl α :=
  match t with
  | [] => []
  | (j, v) :: r => if j = k then terase r k else (j, v) :: terase r k

/-- Puts a pair at its place among rising keys. -/
def tinsert {α : Type} (t : Tbl α) (k : Nat) (v : α) : Tbl α :=
  match t with
  | [] => [(k, v)]
  | (j, w) :: r => if j < k then (j, w) :: tinsert r k v else (k, v) :: (j, w) :: r

/-- Writes key `k`; writing the unlisted value takes the entry out. -/
def tput {α : Type} [DecidableEq α] (t : Tbl α) (d : α) (k : Nat) (v : α) : Tbl α :=
  if v = d then terase t k else tinsert (terase t k) k v

/-- Changes the value at key `k`. -/
def tmod {α : Type} [DecidableEq α] (t : Tbl α) (d : α) (k : Nat) (f : α → α) : Tbl α :=
  tput t d k (f (tget t d k))

/-- Changes every listed value, dropping what becomes the unlisted value. -/
def tmap {α : Type} [DecidableEq α] (t : Tbl α) (d : α) (f : Nat → α → α) : Tbl α :=
  match t with
  | [] => []
  | (k, v) :: r => if f k v = d then tmap r d f else (k, f k v) :: tmap r d f

/-- The canonical form: keys strictly rising and no unlisted value listed. -/
def twf {α : Type} [DecidableEq α] (t : Tbl α) (d : α) : Bool :=
  match t with
  | [] => true
  | (k, v) :: r => decide (v ≠ d) && (match r with | [] => true | (j, _) :: _ => decide (k < j)) && twf r d

end Sys2Proof.Machine
end

