-- ==== Sys2Proof/Machine/StateHost.lean ====
section
/-! DEFINITION. State of the host link, the rings, the jobs, the slices, time and scheduling: plain data with the reset
values of 02_host_link.md, 03_rings.md, 04_jobs_and_status.md, 15_slices.md and 16_time_and_scheduling.md. -/
namespace Sys2Proof.Machine

/-! ## What the device sends out -/

/-- The kinds of memory write the device issues for a slice (R48). -/
inductive WriteKind where
  | output | done
deriving DecidableEq, Repr

/-- A completion entry before it is laid out in bytes (R88). -/
structure Entry where
  sq : Nat := 0
  tag : Nat := 0
  status : Nat := 0
  notag : Bool := false
  inl : Bool := false
  late : Bool := false
  outLen : Nat := 0
  sqIndex : Nat := 0
  gen : BitVec 8 := 0
  phase : Bool := false
  engine : Nat := 0x7F
  tick : BitVec 32 := 0
  data : Bytes := []
deriving DecidableEq, Repr

/-- Pins the device drives (R443, R446, R494, R520, R523). -/
inductive Pin where
  | alert | svcAttn | thermtrip | tamperOut | svcTxIdle | oc0Power | oc1Power | sdPower | boundary
deriving DecidableEq, Repr

/-- Everything that leaves the device, in the order of sending. -/
inductive Output where
  /-- A fetch of cells (R77): slice, queue, PASID, ring indices, Relaxed Ordering, ID-Based Ordering. -/
  | cellFetch (slice sq : Nat) (pasid : BitVec 20) (idx : List Nat) (ro ido : Bool)
  /-- A read for a job (R47): its tag, slice, PASID, address, length, Relaxed Ordering, ID-Based Ordering. -/
  | dmaRead (tag slice : Nat) (pasid : BitVec 20) (addr len : Nat) (ro ido : Bool)
  /-- An ATS translation request for one page (R52). -/
  | translate (slice : Nat) (pasid : BitVec 20) (page : Nat)
  /-- A posted write of output bytes or of a DONE byte (R48, R84). -/
  | write (kind : WriteKind) (slice : Nat) (pasid : BitVec 20) (addr : Nat) (data : Bytes) (ro : Bool)
  /-- A completion entry written at an index of a completion queue (R88): queue, index, address, entry, its 32 bytes. -/
  | completion (slice cq idx : Nat) (pasid : BitVec 20) (addr : Nat) (e : Entry)
  /-- An MSI-X message (R56). -/
  | msix (vector : Nat) (addr : BitVec 64) (data : BitVec 32)
  /-- The data a register or BAR read returns. -/
  | readData (value : BitVec 64)
  /-- Unsupported Request (R16). -/
  | unsupported
  /-- Configuration Request Retry Status (R62). -/
  | retryStatus
  /-- An Invalidation Completion (R53). -/
  | invalidationDone (tag : Nat)
  /-- An error message of Advanced Error Reporting for a bit of the Uncorrectable Error Status (R45, R50). -/
  | errMessage (bit : Nat)
  /-- A power-management event from D3hot (R45, R446). -/
  | pme
  /-- A link retrain request (R64). -/
  | retrain
  /-- A reply of the SPDM responder (R57). -/
  | spdm (reply : Bytes)
  /-- An SPDM error reply (R57). -/
  | spdmError (code : Nat)
  /-- An SMBus reply (R540). -/
  | smbus (data : Bytes)
  /-- A frame of the service link (R495, R497): type, payload. -/
  | rsl (kind : Nat) (payload : Bytes)
  /-- A command to an operator card (R490, R492): port, its bytes. -/
  | card (port : Nat) (msg : Bytes)
  /-- A command to the backup card (R476): write flag, block, data. -/
  | sd (write : Bool) (block : Nat) (data : Bytes)
  /-- A pin driven to a level. -/
  | pin (p : Pin) (level : Bool)
  /-- The test data register the TAP shifts out (R469). -/
  | tdo (reg : Nat) (value : Bytes)
deriving DecidableEq, Repr

/-! ## Host link (02_host_link.md) -/

/-- Binding of a slice to an IDE stream (R60, R64). -/
structure IdeBind where
  required : Bool := false
  stream : Nat := 0
deriving DecidableEq, Repr

/-- An IDE stream (R59): programmed, the link stream, Secure. -/
structure IdeStream where
  programmed : Bool := false
  link : Bool := false
  secure : Bool := false
deriving DecidableEq, Repr

/-- An MSI-X table entry (R31, R56). The mask bit is 1 until written (log 9). -/
structure MsixVector where
  addr : BitVec 64 := 0
  data : BitVec 32 := 0
  mask : Bool := true
deriving DecidableEq, Repr

/-- An entry of the Address Translation Cache (R52). -/
structure AtcEntry where
  slice : Nat
  page : Nat
  writeOk : Bool
deriving DecidableEq, Repr

/-- An invalidation in progress (R53): its tag, the reads it still waits for, and the cells still being fetched, by queue and index;
a release is one step, so none is ever under way. -/
structure Inval where
  tag : Nat
  reads : List Nat
  cells : List (Nat × Nat) := []
deriving DecidableEq, Repr

/-- What a read fetches: the scatter list of a job, bytes of one of its input arguments at an offset, or a node of a tree
store, by its number (R216). -/
inductive ReadFor where
  | list
  | store (n : Nat)
  | input (arg offset : Nat)
deriving DecidableEq, Repr

/-- A read issued for a job and not yet complete (R49): parts are (offset, bytes), rising. -/
structure PendingRead where
  tag : Nat
  job : Nat
  use : ReadFor
  slice : Nat
  addr : Nat
  len : Nat
  parts : List (Nat × Bytes) := []
deriving DecidableEq, Repr

/-- Stage of the SPDM connection (R57): nothing agreed, version, capabilities, algorithms. -/
inductive SpdmStage where
  | none | version | capabilities | algorithms
deriving DecidableEq, Repr

/-- Stage of the SPDM session. -/
inductive SpdmSession where
  | none | handshake | secured
deriving DecidableEq, Repr

/-- State of the host link. -/
structure HifState where
  speed : BitVec 3 := 0
  width : BitVec 5 := 0
  flit : Bool := false
  dlActive : Bool := false
  minSpeed : BitVec 3 := 6
  minWidth : BitVec 5 := 0x10
  readIdo : Bool := true
  readRo : Bool := true
  dataRo : Bool := true
  dmaStatus : BitVec 5 := 0
  dmaFaults : BitVec 32 := 0
  /-- Uncorrectable Error Status of Advanced Error Reporting (R45). -/
  aerUncorr : BitVec 32 := 0
  ideBind : Tbl IdeBind := []
  streams : Tbl IdeStream := []
  bme : Bool := false
  mse : Bool := false
  atsEn : Bool := false
  /-- The function is in D3hot, else in D0 (R45). -/
  d3hot : Bool := false
  msixEn : Bool := false
  fnMask : Bool := false
  vectors : Tbl MsixVector := []
  pba : Tbl Bool := []
  atc : List AtcEntry := []
  /-- Pages whose translation has been requested and not answered (R52): slice, page. -/
  translating : List (Nat × Nat) := []
  invals : List Inval := []
  reads : List PendingRead := []
  nextRead : Nat := 0
  doeBusy : Bool := false
  doeReq : Option (Nat × Bytes) := none
  spdm : SpdmStage := .none
  session : SpdmSession := .none
  spdmKeys : Bytes := []
  spdmUpdates : Nat := 0
  /-- Sequence number of the next response of the session (R57). -/
  spdmSeq : Nat := 0
  transcript : Bytes := []
deriving DecidableEq, Repr

/-! ## Rings (03_rings.md); a queue is numbered 16 * slice + queue -/

/-- A submission queue (R95, R96). -/
structure Sq where
  base : BitVec 64 := 0
  wdog : BitVec 8 := 0x10
  errCq : BitVec 4 := 0
  log2 : BitVec 5 := 6
  enable : Bool := false
  fault : Bool := false
  stalled : Bool := false
  head : Nat := 0
  phase : Bool := true
  tail : Nat := 0
  /-- Cells held with the expected phase (R77). -/
  held : Tbl Bytes := []
  /-- Indices whose fetch is on its way. -/
  outst : List Nat := []
  /-- Indices before the tail that showed a mismatching phase. -/
  missed : List Nat := []
  /-- The job at the head has passed check 5 and waits at check 6: the completion queue in which it holds a slot (R79, R90). -/
  slot : Option Nat := none
deriving DecidableEq, Repr

/-- A completion queue (R95, R97). -/
structure Cq where
  base : BitVec 64 := 0
  timer : BitVec 8 := 0
  thresh : BitVec 8 := 1
  ien : Bool := false
  vec : BitVec 3 := 0
  log2 : BitVec 5 := 6
  enable : Bool := false
  tail : Nat := 0
  phase : Bool := true
  head : Nat := 0
  /-- Reserved slots not yet written (R90). -/
  resv : Nat := 0
  /-- Written entries not yet released (R90). -/
  written : Nat := 0
  /-- Entries written since the last message (R93). -/
  unsig : Nat := 0
deriving DecidableEq, Repr

/-- The queue window and the round robin over the queues of each slice (R83, R95). -/
structure RingState where
  qselSlice : BitVec 8 := 0
  qselQueue : BitVec 4 := 0
  rr : Tbl Nat := []
deriving DecidableEq, Repr

/-! ## Jobs (04_jobs_and_status.md) -/

/-- A descriptor (R101). -/
structure Desc where
  addr : Nat
  len : Nat
  out : Bool
  arg : Nat
  clean : Bool
deriving DecidableEq, Repr

/-- What a job that holds no engine waits for. -/
inductive Wait where
  | drbg            -- DRBG output (R365)
  | cacheFill       -- an Expanded Key Cache or Darner cache fill (R128, R229)
  | indexCommit     -- a stateful record commit (R210)
  | useCommit       -- a reservation of uses (R313)
  | cards           -- operator cards (R336)
  | drain           -- the drain of a slice (R393)
  | refresh         -- the end of a wipe or of running tasks (R401)
deriving DecidableEq, Repr

/-- Where an accepted job stands on the path of R35 and R106. -/
inductive Phase where
  | list              -- its scatter list is being read (check 6)
  | ready             -- every check from 1 to 9 passed; step 4
  | preread           -- a job that holds no engine reads its inputs (R181, R188)
  | held (w : Wait)   -- waits for something and holds no engine
  | reading           -- placed; its input reads are on their way (check 11)
  | running           -- inputs read; computing (check 12)
  | decided           -- status and outputs staged; the result is committed
  | release           -- the release waits for translations, Bus Master Enable or a stream
  | wiping            -- ended without success; the engine is being wiped (R113)
  | post              -- the completion waits for Bus Master Enable or a stream
deriving DecidableEq, Repr

/-- A key as bound at step 5 (R36): the shares delivered and what the computation needs of the attributes.
The material is the key itself; its shares are two values that join to it (log 14). -/
structure Bound where
  kt : Bool
  index : Nat
  gen : Nat
  fam : Nat
  alg : Nat
  material : Bytes
  attr : Bytes
  handle : Nat
deriving DecidableEq, Repr

/-- A session context (R178 to R184, R270). -/
structure Ctx where
  isOpen : Bool := false
  sgen : BitVec 16 := 0
  slice : Nat := 0
  gcm : Bool := false
  func : Nat := 0
  order2 : Bool := false
  key : Bytes := []
  keyIndex : Nat := 0
  iv : Bytes := []
  aad : Bytes := []
  dlen : Nat := 0
  nlen : Nat := 0
  custom : Bytes := []
  absorbed : Bytes := []
  last : Bool := false
deriving DecidableEq, Repr

/-- An accepted job, or an engine task of one. -/
structure Job where
  id : Nat
  slice : Nat
  sq : Nat := 0
  sqIndex : Nat := 0
  tag : Nat := 0
  cq : Nat := 0
  opcode : Nat := 0
  uvs : Bool := false
  dlv : Bool := false
  key : BitVec 64 := 0
  deadline : BitVec 32 := 0
  descCtrl : BitVec 32 := 0
  body : Bytes := []
  gen : BitVec 8 := 0
  accept : BitVec 32 := 0
  phase : Phase := .ready
  descs : List Desc := []
  /-- Input arguments fully read, by number. -/
  inputs : Tbl Bytes := []
  /-- The keys bound, in the order the opcode names them. -/
  bound : List Bound := []
  /-- Check 10 of R106 has passed. -/
  resolved : Bool := false
  /-- Epoch Time at check 10 (R355). -/
  at10 : BitVec 64 := 0
  /-- Every input is read (check 11 of R106). -/
  read : Bool := false
  /-- DRBG output handed to the job (R365). -/
  seed : Bytes := []
  /-- Seeds drawn and discarded (R126, R233). -/
  drawn : Nat := 0
  /-- Outcome of the job's cache lookup (R128, R146, R227): 0 hit, 1 filled, 2 no room or no cache, 3 none made. -/
  cacheRes : Nat := 3
  /-- The stateful index assigned (R213). -/
  index : Option Nat := none
  /-- The session context that a session-opening job has allocated (R180). -/
  session : Option Nat := none
  /-- Output arguments staged (R107). -/
  outs : List (Nat × Bytes) := []
  status : Nat := 0
  /-- Engine code of R89 the job stands at. -/
  engine : Nat := 0x7F
  /-- Bytes already released under UVS (R112). -/
  streamed : Nat := 0
  /-- Staging space reserved at dispatch (R107). -/
  staged : Nat := 0
  /-- A stop request and the status it gives (R114). -/
  stop : Option Nat := none
  /-- Completion suppressed by a reset (R386). -/
  suppressed : Bool := false
  /-- Cost class (R410); 7 Key Vault, 8 Random Unit, 9 metrology mailbox. -/
  cls : Nat := 6
  charge : Nat := 0
  conforming : Bool := false
  long : Bool := false
  late : Bool := false
  /-- Of an engine task: the job it was issued for (R23, R35 step 7; R139, R137). -/
  parent : Option Nat := none
  /-- Of an engine task: it computes on shares (R374). -/
  masked : Bool := true
  /-- The first task issued for the job among those that failed, and its status (R115). -/
  failed : Option (Nat × Nat) := none
  /-- Step of an operation that the Scheduler chains over engines (R139); 1 in a SLICE_RELEASE that waits for keys to be zeroised (R401). -/
  stage : Nat := 0
  /-- Class, charge, conforming and long of a chained operation in the class it is not in now (R410, R139). -/
  other : Option (Nat × Nat × Bool × Bool) := none
  /-- The session context that a step has changed, as it stood before (R183). -/
  ctxOld : Option (Nat × Ctx) := none
  /-- The loaded curves as they stood at step 5 (R253). -/
  curves : Tbl (Option Bytes) := []
  /-- The key the job has created: its store and base slot (R143, R547). -/
  made : Option (Bool × Nat) := none
  /-- The Needle that finished an FN-DSA signature, which ENGINE names (R89). -/
  named : Option Nat := none
  /-- The Mangle that ran the last class-0 task of the job (R447). -/
  ran : Option Nat := none
deriving DecidableEq, Repr

/-! ## Slices (15_slices.md) -/

/-- States of a slice (R390). -/
inductive SliceSt where
  | disabled | active | freezing | frozen | saved | restoring
deriving DecidableEq, Repr

/-- One class of a service contract (R413). -/
structure Contract where
  rate : Nat := 0
  jobMax : Nat := 0
  deadline : Nat := 0
deriving DecidableEq, Repr

/-- Why a unit is fenced, which decides how it returns to service (R447). -/
inductive Fence where
  | none
  | own          -- by an event whose base response is FENCE
  | escalation (cls : Nat)   -- only by escalation or injection, in an event class
  | memTest      -- a memory test runs (R153, R245, R288)
  | patch        -- its patch RAM is being reloaded (R167)
  | check        -- a Pattern machine check: until PORST# or a different patch set (R167)
  | porst        -- until PORST#
deriving DecidableEq, Repr

/-- A FREEZE in progress or complete (R391 to R393). -/
structure Freeze where
  job : Nat := 0
  done : Nat := 0
  stopped : Nat := 0
  sqs : List Nat := []
  cqs : List Nat := []
  resub : List (Nat × Nat × Nat) := []
deriving DecidableEq, Repr

/-- A slice (R378 to R403, R413, R415). -/
structure Slice where
  enable : Bool := false
  pasid : BitVec 20 := 0
  state : SliceSt := .disabled
  resetPending : Bool := false
  gen : BitVec 8 := 0
  quotaKt : BitVec 21 := 0x100000
  quotaPs : BitVec 17 := 0x10000
  quotaJobs : BitVec 13 := 0x1000
  quotaSessions : BitVec 12 := 0xFA0
  contract : Tbl Contract := []
  credit : Tbl Nat := []
  nextContract : Option (Tbl Contract) := none
  freeze : Option Freeze := none
  fence : Fence := .none
deriving DecidableEq, Repr

/-- A migration context (R400): slice, saving, next part, last part produced, keys, image sequence, nonce. -/
structure MigContext where
  slice : Nat
  saving : Bool
  nextPart : Nat := 0
  lastPart : Bytes := []
  prevTag : Bytes := []
  secret : Bytes := []
  imageSeq : Nat := 0
  nonce : Bytes := []
  peer : Bytes := []
  rest : List Bytes := []
  /-- Of a RESTORE: runs placed and not yet valid (old handle, table, first slot), and the records of the last commit. -/
  placed : List (Nat × Bool × Nat) := []
  stateRec : Bytes := []
  gen : BitVec 8 := 0
deriving DecidableEq, Repr

/-- Migration state of the device (R394, R395, R400). -/
structure MigState where
  contexts : List MigContext := []
  nonces : List Bytes := []
  imageSeq : BitVec 32 := 0
deriving DecidableEq, Repr

/-! ## Time and scheduling (16_time_and_scheduling.md) -/

/-- States of the Time Base (R407). -/
inductive TimeSt where
  | free | acquiring | locked | holdover
deriving DecidableEq, Repr

/-- The Time Base (R404 to R408, R420). -/
structure TimeState where
  epoch : BitVec 64 := 0
  source : BitVec 2 := 0
  ptmMs : BitVec 8 := 0x0A
  set : Bool := false
  stepped : Bool := false
  lost : Bool := false
  state : TimeSt := .free
  ptmOffset : BitVec 64 := 0
  holdoverSecs : BitVec 32 := 0
  /-- Offset toward the reference still to be slewed (R408). -/
  slew : Int := 0
  taiPending : Option (BitVec 32) := none
  qualifying : Nat := 0
  /-- Fractions of a second run in HOLDOVER toward the next whole second. -/
  holdFrac : Nat := 0
deriving DecidableEq, Repr

/-- A class configuration (R420). -/
structure ClassCfg where
  longMax : BitVec 6 := 1
  block : BitVec 24 := 0
deriving DecidableEq, Repr

/-- The Scheduler's own registers (R411, R414, R420). -/
structure SchedState where
  cfg : Tbl ClassCfg :=
    [(0, ⟨1, 600000⟩), (1, ⟨1, 300000⟩), (2, ⟨1, 540000⟩), (3, ⟨1, 600000⟩), (4, ⟨1, 600000⟩), (5, ⟨1, 300000⟩), (6, ⟨1, 20000⟩)]
  admitLast : BitVec 16 := 0
  costSel : BitVec 32 := 0
  /-- Round robin of the best-effort tier (R417): the slice to look at first. -/
  rr : Tbl Nat := []
  misses : Tbl (BitVec 32) := []
deriving DecidableEq, Repr

end Sys2Proof.Machine
end

