-- ==== Sys2Proof/Machine/StateEng.lean ====
section
/-! DEFINITION. State of the engines: Mangles with their Pattern stores, Wringers, Tree Sequencers, Darners, Needles
with their Presses, Tumblers, the caches and the Session Context Store (05 to 11). -/
namespace Sys2Proof.Machine

/-- An address generator of a Mangle (R159). -/
structure Ag where
  addr : BitVec 11 := 0
  stride : BitVec 11 := 0
  skip : BitVec 11 := 0
  group : BitVec 11 := 0
  count : BitVec 11 := 0
deriving DecidableEq, Repr

/-- A row of operand memory: 16 coefficients of 32 bits, lane 0 first (R159); a missing coefficient is 0. -/
abbrev Row := List (BitVec 32)

/-- A butterfly result on its way (R161): the cycle at whose end it lands, the row, its value and its share tag. -/
structure PendWrite where
  due : Nat
  row : BitVec 11
  val : Row
  tagged : Bool
deriving DecidableEq, Repr

/-- A Mangle: sequencer, datapath and operand memory (R119, R154 to R164). -/
structure Mangle where
  inPatch : Bool := false
  addr : BitVec 13 := 0
  lc : Tbl (BitVec 8) := []
  ag : Tbl Ag := []
  tp : BitVec 10 := 0
  share : BitVec 2 := 0
  order2 : Bool := false
  /-- The job runs unmasked (R132). -/
  unmasked : Bool := false
  att : BitVec 10 := 0
  reject : Bool := false
  flags : BitVec 3 := 0
  accepted : Nat := 0
  target : Nat := 0
  kecLeft : Nat := 0
  kec : Bytes := []
  /-- The Keccak state has taken in a tagged row (R162; log 92). -/
  kecTag : Bool := false
  keyReady : Bool := false
  /-- A key-port operation on its way (R161): the row a delivery begins at and how many rows it writes, none for a cache fill. -/
  keyTo : Option (BitVec 11 × Nat) := none
  fabBusy : Bool := false
  /-- The row that an input row on its way over the job fabric goes to (R161). -/
  fabTo : Option (BitVec 11) := none
  rows : Tbl Row := []
  tags : Tbl Bool := []
  pend : List PendWrite := []
  cycle : Nat := 0
  sinceSafe : Nat := 0
  ending : Bool := false
  halted : Bool := false
  fabIn : Nat := 0
  staged : List Row := []
  filled : List Row := []
deriving DecidableEq, Repr

/-- A match register of a Pattern store (R154, R156). -/
structure MatchReg where
  en : Bool := false
  addr : BitVec 13 := 0
  index : BitVec 8 := 0
deriving DecidableEq, Repr

/-- A captured machine check (R171). -/
structure MCheck where
  valid : Bool := false
  cause : BitVec 2 := 0
  inPatch : Bool := false
  parFail : BitVec 5 := 0
  addr : BitVec 13 := 0
deriving DecidableEq, Repr

/-- State of a cache entry (R128, R131); `old` is an entry of the generation before a KEY_REPLACE swap, which jobs bound to that
generation still use. -/
inductive EntrySt where
  | filling | valid | invalid | old
deriving DecidableEq, Repr

/-- An entry of the Expanded Key Cache or of the Darner public-key cache (R127, R226). -/
structure CacheEntry where
  kt : Bool
  slice : Nat
  index : Nat
  gen : Nat
  blocks : Nat
  st : EntrySt
  lastUse : Nat
  fillJob : Nat
  /-- The Darner that holds the entry (R226); 0 for the Expanded Key Cache. -/
  home : Nat := 0
  /-- The public key that a Darner's entry holds (R226); empty for the Expanded Key Cache. -/
  content : Bytes := []
deriving DecidableEq, Repr

/-- A cache: entries and the RC counters. -/
structure Cache where
  entries : List CacheEntry := []
  quota : Tbl Nat := []
  hits : BitVec 32 := 0
  misses : BitVec 32 := 0
  other : BitVec 32 := 0
deriving DecidableEq, Repr

/-- Who asks a lane for work (R176, R195): a job, or a Tree Sequencer. -/
inductive Who where
  | job (id : Nat)
  | tree (t : Nat)
deriving DecidableEq, Repr

/-- A requester of a digest or symmetric lane (R176 to R178): who it is, whether it newly joined, and the turn context that holds
its state while it is suspended. -/
structure Requester where
  who : Who
  fresh : Bool := true
  turnCtx : Option Nat := none
deriving DecidableEq, Repr

/-- A Wringer or Tumbler lane: the running requester, the suspended ones in order, blocks into the turn. -/
structure LaneState where
  running : Option Requester := none
  waiting : List Requester := []
  turn : Nat := 0
deriving DecidableEq, Repr

/-- A Needle with its Press (R274 to R278, R291, R292). Register 0 reads zero and is never listed. -/
structure Needle where
  x : Tbl (BitVec 64) := []
  v : Tbl (BitVec 2048) := []
  pc : BitVec 64 := 0
  rm : BitVec 3 := 0
  fflags : BitVec 5 := 0
  vl : Nat := 0
  ew : Nat := 64
  pa : BitVec 512 := 0
  acc : BitVec 640 := 0
  /-- Local memory, 256 KiB (R278): listed bytes only; an unlisted byte reads zero, as the wipe leaves it. -/
  mem : List Host.Cell := []
  /-- The key window by its offset, share 0 from 0, share 1 from 0x800 (R278, R300). -/
  window : List Host.Cell := []
  /-- A task has been started and has not ended (R276, R301). -/
  running : Bool := false
  /-- Halted under NEEDLE_TRACE (R289). -/
  halted : Bool := false
  /-- Version of the image whose code segment the task runs (R277, R503). -/
  image : BitVec 32 := 0
  /-- Staging of the output arguments (R300). -/
  fxout : Tbl Bytes := []
  /-- The shares of the task's key, once delivered (R300). -/
  shares : Option (Bytes × Bytes) := none
  /-- The vector unit has its credits for this task (R524). -/
  bolt : Bool := false
deriving DecidableEq, Repr

/-- The engines. Engine codes are those of R89. -/
structure EngState where
  fence : Tbl Fence := []
  mangle : Tbl Mangle := []
  /-- Patch RAM, key 256 * Mangle + index. -/
  patch : Tbl (BitVec 160) := []
  /-- Match registers, key 32 * Mangle + number. -/
  matchRegs : Tbl MatchReg := []
  mchk : Tbl MCheck := []
  patSetId : BitVec 32 := 0
  ekcEnable : Bool := true
  ekc : Cache := {}
  useClock : Nat := 0
  wrgTurn : BitVec 13 := 0x40
  switches : BitVec 32 := 0
  lanes : Tbl LaneState := []
  tmbTurn : BitVec 13 := 0x100
  crtFaults : BitVec 32 := 0
  tsqLanes : BitVec 4 := 8
  hbsCommits : BitVec 32 := 0
  drnSpill : Bool := true
  drnKgMax : BitVec 3 := 1
  dpk : Cache := {}
  /-- Working memory of each Darner, 512 KiB (R222): empty once wiped (log 79). -/
  darnerMem : Tbl Bytes := []
  needle : Tbl Needle := []
  /-- Engines being wiped after a job that ended with SUCCESS, with that job (R249). -/
  wipes : List (Nat × Nat) := []
deriving DecidableEq, Repr

end Sys2Proof.Machine
end

