-- ==== Sys2Proof/Machine/StateSys.lean ====
section
/-! DEFINITION. State of power and reset, the Vent, the Tamper Unit, OTP, life-cycle, TAP, Random Unit, metrology, card
ports, service link, firmware banks, Event Recorder and Thimble (14, 17 to 22). -/
namespace Sys2Proof.Machine

/-- A match register's setting in a patch set (R154). -/
structure MatchEntry where
  en : Bool
  addr : BitVec 13
  index : BitVec 8
deriving DecidableEq, Repr

/-- OTP words and fuses (R28, R425, R439, R459). A fuse only ever goes from 0 to 1. -/
structure Otp where
  /-- Ordering suffix: true for EQX-6480-L (R1). -/
  variantL : Bool := true
  lcsA : BitVec 32 := 0
  lcsB : BitVec 32 := 0
  lcsC : BitVec 32 := 0
  msealA : BitVec 32 := 0
  msealB : BitVec 32 := 0
  msealC : BitVec 32 := 0
  tdis : BitVec 24 := 0
  /-- Subsystem Vendor ID and Subsystem ID, 0x0000 unwritten (R44). -/
  subVendor : BitVec 16 := 0
  subDevice : BitVec 16 := 0
deriving DecidableEq, Repr

/-- An efficiency class (R527, R530): floor, last and worst ratio, operations of the last window, and the running window. -/
structure Eff where
  floor : BitVec 32 := 0
  last : BitVec 16 := 0
  worst : BitVec 16 := 0
  ops : BitVec 32 := 0
  runOps : Nat := 0
  runNops : Nat := 0
deriving DecidableEq, Repr

/-- Power, clocks and reset (22_power_clock_reset.md). -/
structure PwrState where
  inReset : Bool := true
  perst : Bool := true
  hifReady : Bool := false
  intake : Bool := false
  mainPower : Bool := true
  cause : BitVec 2 := 0
  droop : Bool := false
  thermHeld : Bool := false
  credits : Nat := 16
  creditQueue : List Nat := []
  creditWaits : BitVec 32 := 0
  droopEvents : BitVec 32 := 0
  tj : BitVec 8 := 0
  thermtrip : Bool := false
  gated : Tbl Bool := []
  gateIdle : BitVec 8 := 0x0A
  thermHold : BitVec 8 := 0x69
  eclkSel : Bool := false
  eref : Nat := 0
  eff : Tbl Eff := []
deriving DecidableEq, Repr

/-- One event class of the Vent (R449). -/
structure VentClass where
  pending : Bool := false
  level : BitVec 3 := 0
  count : BitVec 4 := 0
  newRun : Bool := false
  events : BitVec 32 := 0
deriving DecidableEq, Repr

/-- An Event Recorder record waiting to be written: its code, SOURCE, level, slice, DATA and the marks FI and CHAIN_START. -/
structure EvRec where
  code : Nat
  source : Nat := 0xFF
  level : Nat := 0
  slice : Nat := 0
  data : Bytes := []
  fi : Bool := false
  chainStart : Bool := false
deriving DecidableEq, Repr

/-- The Vent (R446 to R455). -/
structure VentState where
  cls : Tbl VentClass := []
  halt : Bool := false
  haltSec : Bool := false
  batt : Bool := false
  fi : Bool := false
  lastCode : BitVec 8 := 0
  lastDetail : BitVec 8 := 0
  lastLevel : BitVec 3 := 0
  lastClass : BitVec 3 := 0
  recDropped : BitVec 32 := 0
  held : List EvRec := []
  autoAck : BitVec 5 := 0x07
  vec : BitVec 3 := 0
  alert : Bool := false
deriving DecidableEq, Repr

/-- Settings of one wire loop (R437, R456). -/
structure LoopCfg where
  delay : Bool := false
  prbs : Bool := false
  seed : BitVec 23 := 0
deriving DecidableEq, Repr

/-- A tamper configuration: the loops and the case-switch polarities. -/
structure TamperCfg where
  loops : Tbl LoopCfg := []
  casePol : BitVec 4 := 0
deriving DecidableEq, Repr

/-- A battery log entry (R445). -/
structure BattEntry where
  bsecs : BitVec 32
  source : BitVec 8
  detail : BitVec 8
  vbat : BitVec 16
  temp : BitVec 8
  main : Bool
  good : Bool := true
deriving DecidableEq, Repr

/-- The Tamper Unit and the BBRAM it keeps (R436 to R445, R456). -/
structure TmpState where
  stage : TamperCfg := {}
  active : TamperCfg := {}
  cfgReject : Bool := false
  alarm : BitVec 12 := 0
  mainRates : Bool := true
  vbat : BitVec 16 := 0
  mirror : TamperCfg := {}
  mirrorGood : Bool := true
  battLog : List BattEntry := []
  battOver : BitVec 8 := 0
  bsecs : BitVec 32 := 0
  rinse : Bool := false
  tamperOut : Bool := false
deriving DecidableEq, Repr

/-- States of the Random Unit (R362, R377). -/
inductive RngSt where
  | startup | ready | failed
deriving DecidableEq, Repr

/-- A masking generator (R372, R373). -/
structure MaskGen where
  draws : Nat := 0
  requested : Bool := false
  stalled : Bool := false
deriving DecidableEq, Repr

/-- Who waits for DRBG output (R365): a job, a masking generator, the re-encryption sweep. -/
inductive DrbgFor where
  | job (id n : Nat)
  | gen (g : Nat)
  | tmk
deriving DecidableEq, Repr

/-- The Random Unit (R359 to R377). -/
structure RngState where
  state : RngSt := .startup
  cause : BitVec 3 := 0
  aFailed : Bool := false
  sourceB : Bool := false
  autoLeft : BitVec 2 := 3
  prAll : Bool := false
  autoReset : Bool := true
  apt : BitVec 16 := 0
  rct : BitVec 16 := 0
  aptMax : BitVec 11 := 0
  rctMax : BitVec 6 := 0
  autoResets : BitVec 16 := 0
  hostResets : BitVec 16 := 0
  reseeds : BitVec 32 := 0
  requests : Nat := 0
  queue : List DrbgFor := []
  /-- The job whose larger request is being served, and how many of its internal requests have been (R364). -/
  part : Nat × Nat := (0, 0)
  gens : Tbl MaskGen := []
deriving DecidableEq, Repr

/-- Stages of the Event Recorder: a record as stored (64 bytes) with its SEQ. -/
structure EvStored where
  seq : Nat
  bytes : Bytes
deriving DecidableEq, Repr

/-- The Event Recorder (R506 to R511, R514). -/
structure EvrState where
  records : List EvStored := []
  queue : List EvRec := []
  nextSeq : Nat := 1
  lastMac : Bytes := []
  chainStart : Bool := false
  dropped : BitVec 32 := 0
  dropRun : Nat := 0
  /-- Operating time since manufacture, in ticks. -/
  opTicks : Nat := 0
deriving DecidableEq, Repr

/-- A custodian (R334): identifier and public key. -/
structure Custodian where
  id : Bytes
  key : Bytes
deriving DecidableEq, Repr

/-- A running QUORUM_OPEN (R336): its job, the challenge, the identifiers counted. -/
structure QuorumRun where
  job : Nat
  challenge : Bytes
  counted : List Bytes := []
  ttl : Nat
deriving DecidableEq, Repr

/-- A quorum in force (R337): the seconds it was given, and the Epoch Time of its start. -/
structure Quorum where
  ttl : Nat
  since : Nat
deriving DecidableEq, Repr

/-- A field of a credential template (R354). -/
structure TplField where
  kind : Nat
  offset : Nat
  len : Nat
deriving DecidableEq, Repr

/-- A credential template with its binding to the class and index of an issuer handle (R354). -/
structure Template where
  cls : Nat
  issuer : Nat
  text : Bytes
  fields : List TplField
  allowHoldover : Bool
  maxDuration : Nat
deriving DecidableEq, Repr

/-- What Thimble holds for payment and identity functions (R334 to R357) and for its own service (R453, R467). -/
structure ThimbleState where
  custodians : List Custodian := []
  m : Nat := 0
  quorum : Option Quorum := none
  run : Option QuorumRun := none
  payPolicy : BitVec 2 := 0
  templates : Tbl (Option Template) := []
  curves : Tbl (Option Bytes) := []
  fenced : Bool := false
  restarting : Bool := false
  halted : Bool := false
  restricted : Bool := false
deriving DecidableEq, Repr

/-- State of the Metrology Domain (R425). -/
inductive SealSt where
  | isSealed | isUnsealed | fuseInvalid
deriving DecidableEq, Repr

/-- An event source (R428): number, slice, public key, last counter. -/
structure MetSource where
  num : Nat
  slice : Nat
  key : Bytes
  counter : Nat := 0
deriving DecidableEq, Repr

/-- A stamp (R427, R429): Epoch Time, whether the Time Base then met the first condition of R429, the HOLDOVER episode in
which it fell, and how many disturbances of the second condition there had been before it. -/
structure Stamp where
  epoch : BitVec 64
  ok : Bool
  episode : Option Nat
  mark : Nat
deriving DecidableEq, Repr

/-- An open interval (R428, R429): its session, slice, source and START stamp. -/
structure MetOpen where
  session : Bytes
  slice : Nat
  source : Nat
  start : Stamp
deriving DecidableEq, Repr

/-- The body of a Tariff Record in the ring (R432). -/
structure MetRecord where
  seq : Nat
  slice : Nat
  body : Bytes
deriving DecidableEq, Repr

/-- The Metrology Domain and the mailbox settings of the main device (R421 to R435). -/
structure MetState where
  st : SealSt := .isUnsealed
  /-- What the partition records: SEALED. -/
  recorded : Bool := false
  keyEpoch : BitVec 8 := 0
  /-- Secret of the metrology key; empty where there is none (R424). -/
  key : Bytes := []
  pubKey : Bytes := []
  image : Bytes := []
  params : Bytes := []
  swId : BitVec 32 := 0
  swSum : Bytes := []
  recordSeq : Nat := 0
  maxQueue : BitVec 7 := 0x40
  stored : Option (BitVec 7) := none
  sources : List MetSource := []
  intervals : List MetOpen := []
  ring : List MetRecord := []
  /-- Requests in the mailbox: the job and the stamp latched with it (R427). -/
  mailbox : List (Nat × Stamp) := []
  /-- Number of the current or latest HOLDOVER episode (R429). -/
  episode : Nat := 0
  /-- Steps of Epoch Time, entries into FREE or ACQUIRING and start-ups so far (R429). -/
  marks : Nat := 0
deriving DecidableEq, Repr

/-- Life-cycle states (R457, R459). -/
inductive LcsSt where
  | maker | integrator | fielded | analysis | scrapped | locked
deriving DecidableEq, Repr

/-- An active debug authorisation certificate (R467): rights, the operating time in ticks at which it ends, start-ups it survives. -/
structure Dac where
  rights : BitVec 7
  ends : Nat
  cycles : Nat
deriving DecidableEq, Repr

/-- A fuse burn under way (R462): the codeword of its target, the SEQ of the request to answer, whether a repair began it. -/
structure Burn where
  target : BitVec 32
  seq : Option (BitVec 16)
  repair : Bool
deriving DecidableEq, Repr

/-- A life-cycle request that waits for its turn (R462). -/
inductive LcsReq where
  | cert (seq : BitVec 16) (cert : Bytes)
  | transition (seq : BitVec 16) (target : BitVec 32)
deriving DecidableEq, Repr

/-- The LCS Unit (R457 to R472). -/
structure LcsState where
  state : LcsSt := .maker
  ftm : Bool := false
  burning : Option Burn := none
  waiting : List LcsReq := []
  dac : Option Dac := none
  nonce : Option Bytes := none
  lastKind : BitVec 8 := 0
  lastResult : BitVec 4 := 0
  powerCycles : BitVec 32 := 0
deriving DecidableEq, Repr

/-- The boundary-scan TAP (R469 to R471). -/
structure TapState where
  ir : BitVec 8 := 0x02
  driving : Bool := false
  /-- Test-Logic-Reset has been entered since the pins were handed over (R471). -/
  left : Bool := false
  boundary : Bytes := []
deriving DecidableEq, Repr

/-- Steps of a backup operation (R485 to R488). -/
inductive BkpStep where
  | initCard | format | readHead | writeArea | verifyArea | writeDesc | verifyDesc | readShares | collect | readArea
deriving DecidableEq, Repr

/-- The running backup operation. -/
structure BkpRun where
  op : Nat
  step : BkpStep := .initCard
  /-- Blocks still to write, in order: card address and content; the first is on its way. -/
  plan : List (Nat × Bytes) := []
  /-- Card addresses still to read, in order; the first is on its way. -/
  toRead : List Nat := []
  /-- Blocks read in this step. -/
  got : List (Nat × Bytes) := []
  /-- Area blocks of the generation being written. -/
  area : List (Nat × Bytes) := []
  /-- The descriptor block written, or the one restored, and its card address. -/
  desc : Bytes := []
  descAt : Nat := 0
  volume : Bytes := []
  /-- Number and area of the generation being written, and M and N of its shares. -/
  gen : Nat := 0
  areaNo : Nat := 0
  m : Nat := 0
  n : Nat := 0
  /-- Handles of the snapshot whose records are not built yet (R486). -/
  keys : List Nat := []
  /-- Key records built. -/
  rseq : Nat := 0
  /-- The End record is built. -/
  ended : Bool := false
  /-- Bytes of the two streams that no area block holds yet. -/
  buf : Bytes := []
  shares : List (Nat × Bytes) := []
  /-- The Backup Volume Key of a generation being written or restored. -/
  bvk : Bytes := []
  /-- The share stream of a generation being restored. -/
  stream : Bytes := []
  abort : Bool := false
deriving DecidableEq, Repr

/-- Stages of an operator card (R490, R492). -/
inductive OcStage where
  | none | inserted | atr | pps | select | getId | sign | ecdh
deriving DecidableEq, Repr

/-- An operator card port (R489 to R493). -/
structure OcPort where
  present : Bool := false
  active : Bool := false
  cls : BitVec 2 := 0
  proto : Bool := false
  last : BitVec 16 := 0
  stage : OcStage := .none
  id : Bytes := []
  retried : Bool := false
deriving DecidableEq, Repr

/-- The card ports (R473 to R493). -/
structure CardState where
  hsEn : Bool := true
  wideEn : Bool := true
  wait : BitVec 8 := 0x78
  gen : BitVec 32 := 0
  classes0 : BitVec 3 := 7
  classes1 : BitVec 3 := 7
  present : Bool := false
  removed : Bool := false
  wp : Bool := false
  powered : Bool := false
  phase : BitVec 4 := 0
  hs : Bool := false
  wide : Bool := false
  busy : Bool := false
  op : BitVec 3 := 0
  detail : BitVec 4 := 0
  code : BitVec 16 := 0
  block : BitVec 32 := 0xFFFFFFFF
  done : BitVec 32 := 0
  keys : BitVec 32 := 0
  run : Option BkpRun := none
  oc : Tbl OcPort := []
deriving DecidableEq, Repr

/-- State of a firmware bank (R502, R513). -/
inductive BankSt where
  | invalid | staged | active | activating
deriving DecidableEq, Repr

/-- A firmware bank. -/
structure Bank where
  st : BankSt := .invalid
  image : Bytes := []
  version : BitVec 32 := 0
  svn : BitVec 32 := 0
  setId : BitVec 32 := 0
  pattern : List (BitVec 160) := []
  matchSet : List MatchEntry := []
deriving DecidableEq, Repr

/-- Stage of a service link session (R497). -/
inductive RslStage where
  | none | hello | kex | isOpen
deriving DecidableEq, Repr

/-- The service link and the firmware banks (R494 to R505, R513). -/
structure SvcState where
  linkUp : Bool := false
  stage : RslStage := .none
  /-- Session keys: tool to device, then device to tool (R497). -/
  keys : Bytes := []
  /-- Every frame of steps 1 to 4 so far, and the device's own secrets of step 4. -/
  transcript : Bytes := []
  kex : Bytes := []
  lastSeq : Option Nat := none
  lastReply : Bytes := []
  txSeq : Nat := 0
  frameErrors : BitVec 32 := 0
  attn : Bool := false
  /-- Neither bank passed the boot checks: Thimble did not start (R504). -/
  bootFailed : Bool := false
  bank0 : Bank := { st := .active }
  bank1 : Bank := {}
  actEn : Bool := false
  drain : BitVec 16 := 0x64
  svnFloor : BitVec 32 := 0
  /-- The SEQ of an ACTIVATE under way (R503). -/
  activating : Option (BitVec 16) := none
  paused : Bool := false
  /-- Mangles loaded in the activation pause so far (R169). -/
  loaded : List Nat := []
  /-- A PATTERN_READ that waits for the job of its Mangle to end (R170): the SEQ of the request and the Mangle. -/
  patRead : Option (BitVec 16 × Nat) := none
deriving DecidableEq, Repr

end Sys2Proof.Machine
end

