-- ==== Sys2Proof/Machine/StateVault.lean ====
section
/-! DEFINITION. State of the Key Vault: slots, journal, root and table keys, record pairs of stateful keys (12, 08). -/
namespace Sys2Proof.Machine

/-- KIND of a slot (R305). -/
inductive Kind where
  | free | base | ext | moved | run | shadow
deriving DecidableEq, Repr

/-- A slot of the Key Table or of the Persistent Store (R305, R306). `material` is the secret field and the further
slots of the run, held where the data run begins; the device stores it encrypted (R324, R325). -/
structure Slot where
  kind : Kind := .free
  count : Nat := 0
  gen : BitVec 16 := 0
  slice : Nat := 0
  layout : BitVec 8 := 0
  origin : BitVec 8 := 0
  data : Nat := 0
  used : Nat := 0
  /-- The key is session-ephemeral: the class its handle carries (R302). -/
  eph : Bool := false
  /-- Reserved high-water mark of uses of a persistent key with a limit (R313). -/
  reserved : Nat := 0
  attr : Bytes := []
  material : Bytes := []
deriving DecidableEq, Repr

/-- A journal record (R319). -/
structure Journal where
  index : Nat
  seq : Nat
  image : Slot
  good : Bool := true
deriving DecidableEq, Repr

/-- One copy of a stateful record pair (R209). `good` tells whether its CRC holds. -/
structure PairCopy where
  keyId : Nat := 0
  seq : Nat := 0
  high : Nat := 0
  upper : Nat := 0
  good : Bool := false
deriving DecidableEq, Repr

/-- A record pair (R209, R210): in use by a key, or marked unusable. -/
structure Pair where
  a : PairCopy := {}
  b : PairCopy := {}
  used : Bool := false
  unusable : Bool := false
deriving DecidableEq, Repr

/-- What has been built of one tree of a stateful key (R206): its segment roots, and its root once its top part is built. -/
structure HbsTree where
  level : Nat
  tree : Nat
  segs : List (Nat × Bytes) := []
  top : Option Bytes := none
deriving DecidableEq, Repr

/-- A commit that is being written (R210): the HIGH and UPPER it carries, and whether it is the repetition. -/
structure Commit where
  high : Nat
  upper : Nat
  again : Bool := false
deriving DecidableEq, Repr

/-- Index state of a stateful key (R204 to R211), by its base slot in the Persistent Store. -/
structure Hbs where
  pair : Nat := 0
  next : Nat := 0
  high : Nat := 0
  seq : Nat := 0
  upper : Nat := 0
  writing : Option Commit := none
  /-- No usable record is left: the key never signs again (R211). -/
  spent : Bool := false
  /-- A record could not be moved: jobs end with ENGINE_FAULT until the key is deleted (R210). -/
  noPair : Bool := false
  trees : List HbsTree := []
  /-- Upper signatures stored, by level-0 tree (R208). -/
  upSigs : List (Nat × Bytes) := []
  /-- Level-0 trees abandoned (R208). -/
  abandoned : List Nat := []
deriving DecidableEq, Repr

/-- A replacement in progress (R318): its job, the base slot, its store, the shadow run. -/
structure Replacing where
  job : Nat
  kt : Bool
  index : Nat
  shadow : Nat
deriving DecidableEq, Repr

/-- A data run that bound jobs still need (R315): where it lies, and the key generation it belonged to. -/
structure DyingRun where
  kt : Bool
  first : Nat
  count : Nat
  index : Nat
  gen : BitVec 16
deriving DecidableEq, Repr

/-- The Key Vault. -/
structure KvState where
  kt : Tbl Slot := []
  ps : Tbl Slot := []
  journal : List Journal := []
  journalSeq : Nat := 0
  vrk0 : BitVec 256 := 0
  vrk1 : BitVec 256 := 0
  tmk : BitVec 512 := 0
  tmkOld : BitVec 512 := 0
  sweep : Bool := false
  tmkWaiting : Bool := false
  exportDis : Bool := false
  rinsed : Bool := false
  journalReplayed : Bool := false
  rotations : BitVec 32 := 0
  /-- Operating time, in ticks, at the last completed retention refresh (R326, R333). -/
  refreshAt : Nat := 0
  replacing : List Replacing := []
  /-- Data runs of deleted or replaced keys, freed once the last bound job has received its shares (R315). -/
  dying : List DyingRun := []
  migKey : Bytes := []
  chainKey : Bytes := []
  pairs : Tbl Pair := []
  /-- Where the round robin of pairs goes on (R209). -/
  pairNext : Nat := 0
  hbs : Tbl Hbs := []
deriving DecidableEq, Repr

end Sys2Proof.Machine
end

