-- ==== Sys2Proof/Machine/State.lean ====
section
/-! DEFINITION. The whole state of the block, the reasons a step can stop, and the state right after reset. -/
namespace Sys2Proof.Machine

/-- Reasons for a fault: none. Every command has an effect in every state, so no definition raises one (log 1). -/
inductive Fault where
deriving DecidableEq, Repr

/-- Reasons for a refusal. -/
inductive Refusal where
  /-- Raised by an arm of `exec` whose meaning is not written; the string is the row's mnemonic. Safe: the machine stops. -/
  | notModelled (mnemonic : String)
deriving DecidableEq, Repr

/-- Everything the specification gives the machine, and the three fields of the model's own: `pending`, `outbox`, `freeCtr`. -/
structure State where
  otp : Otp := {}
  pwr : PwrState := {}
  /-- LOCK of each block (R34), bit n for the block at offset n * 0x1_0000. -/
  locks : BitVec 14 := 0
  /-- Captured high words by low-word offset (R10). -/
  hold : Tbl (Option (BitVec 32)) := []
  hif : HifState := {}
  ring : RingState := {}
  sqs : Tbl Sq := []
  cqs : Tbl Cq := []
  jobs : List Job := []
  nextJob : Nat := 0
  slices : Tbl Slice := [(0, { enable := true, state := .active })]
  freezeLimit : BitVec 16 := 0x1388
  mig : MigState := {}
  time : TimeState := {}
  sched : SchedState := {}
  eng : EngState := {}
  ctxs : Tbl Ctx := []
  kv : KvState := {}
  rng : RngState := {}
  thm : ThimbleState := {}
  met : MetState := {}
  vent : VentState := {}
  tmp : TmpState := {}
  lcs : LcsState := {}
  tap : TapState := {}
  crd : CardState := {}
  svc : SvcState := {}
  evr : EvrState := {}
  /-- Everything sent out, newest last. -/
  outbox : List Output := []
  /-- How many free values have been drawn. -/
  freeCtr : Nat := 0
  /-- The commands waiting, first in first out. -/
  pending : List Instr := []
deriving DecidableEq, Repr

/-- The machine right after PORST#: internal reset is asserted and a start-up has not yet run (log 7). -/
def State.reset : State := {}

end Sys2Proof.Machine
end

