-- ==== Sys2Proof/Machine/Status.lean ====
section
/-! DEFINITION. Status codes (R117), engine codes (R89) and event codes (R448). -/
namespace Sys2Proof.Machine

/-! ## Status codes (R117) -/
abbrev stSuccess : Nat := 0x0000
abbrev stNotEqual : Nat := 0x0001
abbrev stSignatureInvalid : Nat := 0x0002
abbrev stAuthFailed : Nat := 0x0003
abbrev stLengthMismatch : Nat := 0x0101
abbrev stBadOpcode : Nat := 0x0102
abbrev stBadChain : Nat := 0x0103
abbrev stBadCq : Nat := 0x0104
abbrev stBadDescriptor : Nat := 0x0105
abbrev stBadFlags : Nat := 0x0106
abbrev stBadParameter : Nat := 0x0107
abbrev stKeyNotFound : Nat := 0x0201
abbrev stKeyPolicyDenied : Nat := 0x0202
abbrev stKeyStaleGeneration : Nat := 0x0203
abbrev stKeyOutsideValidity : Nat := 0x0204
abbrev stKeyLimitReached : Nat := 0x0205
abbrev stKeyAlgorithmMismatch : Nat := 0x0206
abbrev stKeyStateExhausted : Nat := 0x0207
abbrev stQuorumRequired : Nat := 0x0208
abbrev stInvalidScalar : Nat := 0x0301
abbrev stNoncanonicalInput : Nat := 0x0302
abbrev stPointInvalid : Nat := 0x0303
abbrev stMsgOutOfRange : Nat := 0x0304
abbrev stInputKeyInvalid : Nat := 0x0305
abbrev stCurveInvalid : Nat := 0x0306
abbrev stInputMalformed : Nat := 0x0307
abbrev stOutputTooLarge : Nat := 0x0401
abbrev stSessionUnavailable : Nat := 0x0402
abbrev stKeyTableFull : Nat := 0x0403
abbrev stPersistentStoreFull : Nat := 0x0404
abbrev stSliceQuotaExceeded : Nat := 0x0405
abbrev stConfigInfeasible : Nat := 0x0406
abbrev stAborted : Nat := 0x0501
abbrev stEngineFault : Nat := 0x0502
abbrev stDmaFault : Nat := 0x0503
abbrev stTagReused : Nat := 0x0601
abbrev stMigratedResubmit : Nat := 0x0602
abbrev stSliceNotPermitted : Nat := 0x0603
abbrev stRngNotReady : Nat := 0x0701
abbrev stRngFailed : Nat := 0x0702
abbrev stRngUnavailable : Nat := 0x0703
abbrev stTimeUntraceable : Nat := 0x0801
abbrev stHoldover : Nat := 0x0802
abbrev stCardRemovedBusy : Nat := 0x0901
abbrev stCardWriteProtected : Nat := 0x0902
abbrev stCardAbsent : Nat := 0x0903
abbrev stCardTimeout : Nat := 0x0904

/-! ## Engine codes (R89) -/
abbrev engMangle (k : Nat) : Nat := k
abbrev engWringer (k : Nat) : Nat := 0x20 + k
abbrev engNeedle (k : Nat) : Nat := 0x40 + k
abbrev engDarner (k : Nat) : Nat := 0x60 + k
abbrev engTree (k : Nat) : Nat := 0x64 + k
abbrev engTumbler (k : Nat) : Nat := 0x68 + k
abbrev engThimble : Nat := 0x70
abbrev engVault : Nat := 0x71
abbrev engRandom : Nat := 0x72
abbrev engMailbox : Nat := 0x73
abbrev engRing : Nat := 0x7F

/-- Lowest engine code and number of instances of each cost class (R89, R410); classes 7 to 9 are the Key Vault, the
Random Unit and the metrology mailbox, which R410 does not list. -/
def classEngines : Nat → Nat × Nat
  | 0 => (0x00, 32) | 1 => (0x20, 32) | 2 => (0x64, 4) | 3 => (0x60, 4) | 4 => (0x40, 32) | 5 => (0x68, 8)
  | 6 => (0x70, 1) | 7 => (0x71, 1) | 8 => (0x72, 1) | _ => (0x73, 1)

/-! ## Event classes and base responses (R448) -/
/-- Class and base response of an event code, none for a code that R448 does not list. -/
def eventInfo (code : Nat) : Option (Nat × Nat) :=
  if code ∈ [0x01, 0x02, 0x04, 0x06, 0x07] then some (0, 0)
  else if code ∈ [0x03, 0x05] then some (0, 1)
  else if code ∈ [0x10, 0x11, 0x13] then some (1, 1)
  else if code = 0x12 then some (1, 0)
  else if code ∈ [0x20, 0x21] then some (2, 1)
  else if code = 0x22 then some (2, 2)
  else if code ∈ [0x30, 0x31, 0x32] then some (3, 2)
  else if code ∈ [0x33, 0x34] then some (3, 1)
  else if code = 0x40 then some (4, 2)
  else if code ∈ [0x41, 0x44] then some (4, 3)
  else if code ∈ [0x42, 0x43] then some (4, 1)
  else if code ∈ [0x50, 0x51] then some (5, 1)
  else if code ∈ [0x52, 0x53] then some (5, 2)
  else if code ∈ [0x54, 0x55, 0x56] then some (5, 3)
  else if 0x60 ≤ code ∧ code ≤ 0x6D then some (5, 4)
  else if 0x70 ≤ code ∧ code ≤ 0x74 then some (5, 4)
  else if code = 0x80 then some (5, 0)
  else if code = 0x81 then some (5, 4)
  else none

end Sys2Proof.Machine
end

