-- ==== Sys2Proof/Machine/Ops.lean ====
section
/-! DEFINITION. The shared operations: sending, free values, tables of the state, MSI-X, completion entries, the end of
a job, stop requests (02_host_link.md, 03_rings.md, 04_jobs_and_status.md). -/
namespace Sys2Proof.Machine

/-! ## Sending and free values -/

/-- Sends something out. -/
def emit (o : Output) (s : State) : State := { s with outbox := s.outbox ++ [o] }

/-- Takes the next free value number (log 4). -/
def fresh (s : State) : State := { s with freeCtr := s.freeCtr + 1 }

/-- The free bytes the next `fresh` uses up. -/
def freeBytes (s : State) (n : Nat) : Bytes := Config.freeBytes s.freeCtr n

/-! ## Tables of the state -/

def State.slice (s : State) (i : Nat) : Slice := tget s.slices {} i
def State.modSlice (s : State) (i : Nat) (f : Slice → Slice) : State := { s with slices := tmod s.slices {} i f }
def State.sq (s : State) (i q : Nat) : Sq := tget s.sqs {} (16 * i + q)
def State.cq (s : State) (i q : Nat) : Cq := tget s.cqs {} (16 * i + q)
def State.modSq (s : State) (i q : Nat) (f : Sq → Sq) : State := { s with sqs := tmod s.sqs {} (16 * i + q) f }
def State.modCq (s : State) (i q : Nat) (f : Cq → Cq) : State := { s with cqs := tmod s.cqs {} (16 * i + q) f }
def State.ventClass (s : State) (c : Nat) : VentClass := tget s.vent.cls {} c
def State.modVentClass (s : State) (c : Nat) (f : VentClass → VentClass) : State :=
  { s with vent.cls := tmod s.vent.cls {} c f }
def State.fence (s : State) (code : Nat) : Fence := tget s.eng.fence .none code
def State.setFence (s : State) (code : Nat) (f : Fence) : State := { s with eng.fence := tput s.eng.fence .none code f }
def State.mangle (s : State) (k : Nat) : Mangle := tget s.eng.mangle {} k
def State.modMangle (s : State) (k : Nat) (f : Mangle → Mangle) : State := { s with eng.mangle := tmod s.eng.mangle {} k f }
def State.needle (s : State) (k : Nat) : Needle := tget s.eng.needle {} k
def State.modNeedle (s : State) (k : Nat) (f : Needle → Needle) : State := { s with eng.needle := tmod s.eng.needle {} k f }
def State.lane (s : State) (code : Nat) : LaneState := tget s.eng.lanes {} code
def State.modLane (s : State) (code : Nat) (f : LaneState → LaneState) : State := { s with eng.lanes := tmod s.eng.lanes {} code f }
/-- The engine's own memories and registers are as the wipe leaves them (R113). -/
def clearEngine (c : Nat) (s : State) : State :=
  if c < 0x20 then s.modMangle c (fun _ => {})
  else if 0x40 ≤ c ∧ c < 0x60 then s.modNeedle (c - 0x40) (fun _ => {})
  else if 0x60 ≤ c ∧ c < 0x64 then { s with eng.darnerMem := tput s.eng.darnerMem [] (c - 0x60) [] }
  else s
/-- Word 0x0000 of the Pattern ROM, IDLE (R158): ALWAYS, NEXT 0x0000. The rule states no other field of it: SAFE is set, as in every
waiting loop (R164), the parity bits follow R165, the rest is zero (log 91). -/
def idleWord : BitVec 160 := 2 ^ 158 + 2 ^ 127 + 2 ^ 95 + 2 ^ 63 + 2 ^ 31
/-- The Pattern ROM (R154). -/
def romWord (a : Nat) : BitVec 160 := if a = 0 then idleWord else Config.patternRom a
/-- A match register of a Mangle (R154). -/
def State.matchReg (s : State) (k m : Nat) : MatchReg := tget s.eng.matchRegs {} (32 * k + m)
/-- Where a Mangle finds ROM address `a`: in the patch RAM where an enabled match register names it (R156). -/
def State.redirect (s : State) (k : Nat) (a : BitVec 13) : Bool × BitVec 13 :=
  match (List.range 32).find? (fun n => (s.matchReg k n).en && (s.matchReg k n).addr == a) with
  | some n => (true, (s.matchReg k n).index.zeroExtend 13)
  | none => (false, a)
def State.ctx (s : State) (c : Nat) : Ctx := tget s.ctxs {} c
def State.modCtx (s : State) (c : Nat) (f : Ctx → Ctx) : State := { s with ctxs := tmod s.ctxs {} c f }
def State.gen (s : State) (g : Nat) : MaskGen := tget s.rng.gens {} g
def State.modGen (s : State) (g : Nat) (f : MaskGen → MaskGen) : State := { s with rng.gens := tmod s.rng.gens {} g f }
def State.ocPort (s : State) (k : Nat) : OcPort := tget s.crd.oc {} k
def State.modOc (s : State) (k : Nat) (f : OcPort → OcPort) : State := { s with crd.oc := tmod s.crd.oc {} k f }

def State.slot (s : State) (kt : Bool) (i : Nat) : Slot := tget (if kt then s.kv.kt else s.kv.ps) {} i
def State.modSlot (s : State) (kt : Bool) (i : Nat) (f : Slot → Slot) : State :=
  if kt then { s with kv.kt := tmod s.kv.kt {} i f } else { s with kv.ps := tmod s.kv.ps {} i f }

/-- Zeroises `n` slots from `i` on and frees them; their generations stay (R317). -/
def freeSlots (kt : Bool) (i n : Nat) (s : State) : State :=
  (List.range n).foldl (fun s k => s.modSlot kt (i + k) (fun sl => { gen := sl.gen })) s

/-- The next slot generation, skipping 0x0000 (R317). -/
def nextGen (g : BitVec 16) : BitVec 16 := if g + 1 = 0 then 1 else g + 1

/-- Invalidates the cache entries of one key (R131, R230): an entry that is filling keeps its blocks until its fill ends. -/
def dropEntries (p : CacheEntry → Bool) (c : Cache) : Cache :=
  { c with entries := c.entries.filterMap (fun e =>
      if p e then (match e.st with | .valid | .old => none | _ => some { e with st := .invalid }) else some e) }

/-- Invalidates every cache entry of a slot at a generation. -/
def invalidateKey (kt : Bool) (i : Nat) (g : BitVec 16) (s : State) : State :=
  let p := fun (e : CacheEntry) => e.kt == kt && e.index == i && e.gen == g.toNat
  { s with eng.ekc := dropEntries p s.eng.ekc, eng.dpk := dropEntries p s.eng.dpk }

/-- The job has not received the shares of its keys yet (R315): no engine has started it. -/
def Job.unserved (j : Job) : Bool :=
  j.resolved && (match j.phase with | .ready | .preread | .held _ | .reading => true | _ => false)

/-- A job still needs the key data of this generation. -/
def State.needed (s : State) (kt : Bool) (i : Nat) (g : BitVec 16) : Bool :=
  s.jobs.any (fun j => j.unserved && j.bound.any (fun b => b.kt == kt && b.index == i && b.gen == g.toNat))

/-- Zeroises and frees a data run that a deletion or a swap leaves behind, at once or when the jobs bound to it have their shares
(R315, R318). -/
def releaseRun (kt : Bool) (first count i : Nat) (g : BitVec 16) (s : State) : State :=
  if s.needed kt i g then { s with kv.dying := s.kv.dying ++ [{ kt := kt, first := first, count := count, index := i, gen := g }] }
  else freeSlots kt first count s

/-- Frees the data runs that no job needs any more (R315). -/
def sweepRuns (s : State) : State :=
  (s.kv.dying.filter (fun d => !s.needed d.kt d.index d.gen)).foldl (fun s d => freeSlots d.kt d.first d.count s)
    { s with kv.dying := s.kv.dying.filter (fun d => s.needed d.kt d.index d.gen) }

/-- The slot holds a stateful hash-based key: bit 1 of FLAGS of its attribute block (R307). -/
def aStatefulSlot (b : Slot) : Bool := (byteAt b.attr 5).getLsbD 1

/-- Deletes the key at a base slot (R317): its data run and base slot are zeroised and freed, the generation advances. Where bound jobs
still need the run (R315), its head is no base slot any more and names no key. A stateful key gives its record pair back. -/
def deleteKey (kt : Bool) (i : Nat) (s : State) : State :=
  let b := s.slot kt i
  let s := invalidateKey kt i b.gen s
  let held := s.needed kt i b.gen
  let s := releaseRun kt (if b.kind = .moved then b.data else i) b.count i b.gen s
  let s := if kt ∨ !aStatefulSlot b then s else
    let h := tget s.kv.hbs {} i
    { s with
      kv.hbs := terase s.kv.hbs i
      kv.pairs := tmod s.kv.pairs {} h.pair (fun p => if p.unusable then { p with used := false } else {}) }
  s.modSlot kt i (fun _ => if held && b.kind != .moved then { b with kind := .run, gen := nextGen b.gen } else { gen := nextGen b.gen })

/-- The jobs accepted and not yet ended. -/
def State.job? (s : State) (id : Nat) : Option Job := s.jobs.find? (fun j => j.id == id)
def State.modJob (s : State) (id : Nat) (f : Job → Job) : State :=
  { s with jobs := mapIf (fun j => j.id == id) f s.jobs }
def State.dropJob (s : State) (id : Nat) : State := { s with jobs := s.jobs.filter (fun j => j.id != id) }

/-- The jobs that host software submitted; the others are engine tasks of them (R23). -/
def State.hostJobs (s : State) : List Job := s.jobs.filter (fun j => j.parent.isNone)
/-- Engine tasks of a job that have not ended, in the order of issue (R35 step 7, R115). -/
def State.tasksOf (s : State) (id : Nat) : List Job := s.jobs.filter (fun t => t.parent == some id)
/-- The job has engine tasks that have not ended. -/
def State.tasksLeft (s : State) (id : Nat) : Bool := s.jobs.any (fun t => t.parent == some id)

/-! ## Time -/

/-- The tick count, Epoch Time shifted right by 18, low 32 bits (R404). -/
def State.tick (s : State) : BitVec 32 := fld s.time.epoch 18 32

/-- Tick `a` is after tick `b` (R405). -/
def tickAfter (a b : BitVec 32) : Bool := decide (2 ^ 31 ≤ (b - a).toNat)

/-- The Time Base is LOCKED (R409). -/
def State.locked (s : State) : Bool := s.time.state == .locked

/-- A quorum is in force (R337): it has not ended, and its seconds have not passed; the instant of expiry is still in force. -/
def State.quorumInForce (s : State) : Bool := s.thm.quorum.isSome

/-- The active firmware bank (R502). -/
def State.activeBank (s : State) : Bank := if s.svc.bank0.st = .active then s.svc.bank0 else s.svc.bank1

/-! ## Host link -/

/-- The stream a slice is bound to lets its requests pass (R60). -/
def State.streamOk (s : State) (i : Nat) : Bool :=
  let b := tget s.hif.ideBind {} i
  !b.required || (tget s.hif.streams {} b.stream).secure

/-- The device may issue memory requests for slice `i` now (R54, R60). -/
def State.mayRequest (s : State) (i : Nat) : Bool := s.hif.bme && !s.hif.d3hot && s.streamOk i

/-- The link is degraded (R42): below 8 GT/s, or below the set rate or width. Only while in L0. -/
def State.degraded (s : State) : Bool :=
  s.hif.dlActive && (decide (s.hif.speed < 3) || decide (s.hif.speed < s.hif.minSpeed) || decide (s.hif.width < s.hif.minWidth))

/-- A vector may send now (R54, R56). -/
def State.vectorOpen (s : State) (v : Nat) : Bool :=
  s.hif.bme && !s.hif.d3hot && s.hif.msixEn && !s.hif.fnMask && !(tget s.hif.vectors {} v).mask

/-- A message is due on vector `v`: sent, or kept in the pending-bit array (R54, R56). -/
def msixDue (v : Nat) (s : State) : State :=
  if s.vectorOpen v then
    let m := tget s.hif.vectors {} v
    emit (.msix v m.addr m.data) s
  else { s with hif.pba := tput s.hif.pba false v true }

/-- Sends one message for each pending vector that may send, and clears its bit (R56). -/
def flushPba (s : State) : State :=
  (s.hif.pba.filter (fun p => p.2 && s.vectorOpen p.1)).foldl
    (fun s p =>
      let m := tget s.hif.vectors {} p.1
      emit (.msix p.1 m.addr m.data) { s with hif.pba := tput s.hif.pba false p.1 false }) s

/-- What the core domain does while it is powered and out of reset (R30, R519): nothing otherwise. -/
def powered (f : State → State) (s : State) : State := if s.pwr.inReset then s else f s

/-- The function answers memory requests (R45, R54): Memory Space Enable is 1 and it is in D0. -/
def State.barOn (s : State) : Bool := s.hif.mse && !s.hif.d3hot

/-- An access to BAR0 (R16, R54, R504): its effect while the function answers memory requests, Unsupported Request otherwise and where Thimble
did not start; nothing answers in reset. -/
def atBar (f : State → State) (s : State) : State :=
  if s.barOn && !s.svc.bootFailed then f s else if s.pwr.inReset then s else emit .unsupported s

/-! ## Completion entries (R88 to R93) -/

/-- The 32 bytes of a completion entry (R88). -/
def Entry.bytes (e : Entry) : Bytes :=
  leBytes 2 (e.sq * 0x1000 + e.tag % 0x1000) ++ leBytes 2 e.status ++
  leBytes 4 (flag e.notag * 2 ^ 30 + flag e.inl * 2 ^ 29 + flag e.late * 2 ^ 28 + e.outLen % 2 ^ 28) ++
  leBytes 2 e.sqIndex ++ [e.gen] ++ leBytes 1 (flag e.phase * 128 + e.engine % 128) ++
  leBytes 4 e.tick.toNat ++ fit 16 (if e.inl then e.data else [])

/-- Number of entries of a queue of size code `n`. -/
def qsize (n : BitVec 5) : Nat := 2 ^ n.toNat

/-- A moderation message of a completion queue (R93): sent, and the count since the last message starts again. -/
def cqMessage (i q : Nat) (s : State) : State :=
  msixDue (8 * i + (s.cq i q).vec.toNat) (s.modCq i q (fun c => { c with unsig := 0 }))

/-- The entry-count rule of moderation (R93): a message where enough entries have been written since the last one. -/
def moderate (i q : Nat) (s : State) : State :=
  let c := s.cq i q
  if c.ien && decide (max 1 c.thresh.toNat ≤ c.unsig) then cqMessage i q s else s

/-- Writes an entry into a reserved slot at the device's tail index (R88, R90, R92), then applies the moderation rule
(R93). The caller has reserved the slot. -/
def postEntry (i q : Nat) (e : Entry) (s : State) : State :=
  let c := s.cq i q
  let e := { e with phase := c.phase, tick := s.tick }
  let idx := c.tail
  let next := (idx + 1) % qsize c.log2
  let s := emit (.completion i q idx (s.slice i).pasid (c.base.toNat + 32 * idx) e) s
  moderate i q (s.modCq i q (fun c => { c with
    tail := next, phase := if next = 0 then !c.phase else c.phase,
    resv := c.resv - 1, written := c.written + 1, unsig := if c.ien then c.unsig + 1 else 0 }))

/-! ## Job body (R99, R100) -/

def Job.mode (j : Job) : Nat := (fld j.descCtrl 30 2).toNat
def Job.count (j : Job) : Nat := (fld j.descCtrl 16 12).toNat

/-- Size of the descriptor area (R99). -/
def Job.descArea (j : Job) : Nat := if j.mode = 1 then 16 * j.count else if j.mode = 2 then 16 else 0

/-- The parameter block (R99). -/
def Job.params (j : Job) : Bytes := j.body.drop j.descArea

/-- A byte of the parameter block. -/
def Job.pb (j : Job) (i : Nat) : Nat := (byteAt j.params i).toNat

/-- Opcodes of session steps that name a session. -/
def isStep (op : Nat) : Bool := op ∈ [0x0611, 0x0612, 0x0613, 0x0519, 0x051A, 0x051B]

/-- The context a session step names. -/
def Job.ctxOf (j : Job) : Nat := fieldLE j.params 0 4 % 4096

/-! ## Masking generators (R372, R373) -/

/-- Generator of an engine (R372): Mangles, Wringers, Darners, Needles, Tumblers, then the Key Vault; a Tree Sequencer
uses those of its lanes and has none of its own. -/
def genOf (code : Nat) : Option Nat :=
  if code < 0x20 then some code
  else if code < 0x40 then some (32 + (code - 0x20))
  else if code < 0x60 then some (68 + (code - 0x40))
  else if code < 0x64 then some (64 + (code - 0x60))
  else if 0x68 ≤ code ∧ code < 0x70 then some (100 + (code - 0x68))
  else if code = 0x71 then some 108
  else none

/-- The engine is stalled on its masking generator (R373). -/
def State.stalled (s : State) (code : Nat) : Bool := (genOf code).elim false (fun g => (s.gen g).stalled)

/-! ## The end of a job -/

/-- Bytes an output argument list holds (R109). -/
def outLen (outs : List (Nat × Bytes)) : Nat := (outs.map (fun o => o.2.length)).foldl (· + ·) 0

/-- DESC_CTRL.INL of a job (R100). -/
def Job.inl (j : Job) : Bool := bit j.descCtrl 29

/-- The job holds its engine: it reads inputs, computes, has decided, waits to release, or is being wiped (R113, R120). -/
def Job.onEngine (j : Job) : Bool :=
  j.phase == .reading || j.phase == .running || j.phase == .decided || j.phase == .release || j.phase == .wiping

/-- The job has an engine: it is on one, and its release does not merely wait for translations, Bus Master Enable or a stream. -/
def Job.holds (j : Job) : Bool := j.onEngine && j.phase != .release

/-- The job stands between steps 5 and 8 of R35 and can be stopped at a safe point. -/
def Job.stoppable (j : Job) : Bool := j.phase == .reading || j.phase == .running

/-- A fault of its engine ends the job: its status is not decided, or it is SUCCESS and its outputs are still held (R24, R110, R166). -/
def Job.faulted (j : Job) : Bool := j.stoppable || (j.phase == .decided && j.status == stSuccess)

/-- The completion entry of a job (R88, R109, R112). -/
def Job.entry (j : Job) : Entry :=
  { sq := j.sq, tag := j.tag, status := j.status, late := j.late, sqIndex := j.sqIndex, gen := j.gen, engine := j.named.getD j.engine,
    inl := j.inl && decide (j.status = stSuccess),
    outLen := if j.status = stSuccess then outLen j.outs else j.streamed,
    data := (j.outs.find? (fun o => o.1 == 0)).elim [] (fun o => o.2.take 16) }

/-- The effective deadline of a job (R417). -/
def State.effDeadline (s : State) (j : Job) : Option (BitVec 32) :=
  let d := (tget (s.slice j.slice).contract {} j.cls).deadline
  let own := if j.dlv then some j.deadline else none
  let con := if j.conforming && decide (d ≠ 0) then some (j.accept + BitVec.ofNat 32 d) else none
  match own, con with
  | some a, some b => if tickAfter a b then some b else some a
  | some a, none => some a
  | none, b => b

/-- The status of a job is decided now (R418): LATE and the miss counter follow; a job counts as one miss at most, an engine task as
none. -/
def decideLate (id : Nat) (s : State) : State :=
  match s.job? id with
  | none => s
  | some j =>
    let late := j.parent.isNone && (s.effDeadline j).elim false (fun d => tickAfter s.tick d)
    let s := s.modJob id (fun j => { j with late := late })
    if late && j.conforming && !j.late then { s with sched.misses := tmod s.sched.misses 0 j.slice satInc } else s

/-- Counts an ended job in the FREEZE of its slice (R392, R393). -/
def countFreeze (j : Job) (s : State) : State :=
  s.modSlice j.slice (fun sl => { sl with freeze := sl.freeze.map (fun f =>
    if sl.state = .freezing then
      if j.status = stMigratedResubmit then
        { f with stopped := f.stopped + 1, resub := f.resub ++ [(j.sq, j.sqIndex, j.tag)] }
      else { f with done := f.done + 1 }
    else f) })

/-- The engine is a lane with requesters: a Wringer (R176) or a Tumbler (R266). -/
def isLane (code : Nat) : Bool := (0x20 ≤ code && code < 0x40) || (0x68 ≤ code && code < 0x70)

/-- A lane loads the state of a requester: counted for Wringers (R177). -/
def countLoad (code : Nat) (s : State) : State :=
  if code < 0x40 then { s with eng.switches := satInc s.eng.switches } else s

/-- A requester leaves a lane; when it was the running one, the next suspended one resumes (R177). -/
def leaveWho (code : Nat) (w : Who) (s : State) : State :=
  let l := s.lane code
  let rest := l.waiting.filter (fun r => r.who != w)
  if l.running.any (fun r => r.who == w) then
    match rest with
    | [] => s.modLane code (fun _ => {})
    | r :: rest => countLoad code (s.modLane code (fun _ => { running := some { r with fresh := false, turnCtx := none }, waiting := rest }))
  else s.modLane code (fun l => { l with waiting := rest })

/-- A job leaves its lane. -/
def leaveLane (j : Job) (s : State) : State := if isLane j.engine then leaveWho j.engine (.job j.id) s else s

/-- A Tree Sequencer that holds no job leaves its lanes (R195). -/
def leaveTree (code : Nat) (s : State) : State :=
  if 0x64 ≤ code ∧ code < 0x68 ∧ !(s.jobs.any (fun j => j.engine == code && j.holds)) then
    (List.range 32).foldl (fun s k => leaveWho (engWringer k) (.tree (code - 0x64)) s) s
  else s

/-- The job is suspended on its lane (R176). -/
def State.suspended (s : State) (j : Job) : Bool :=
  isLane j.engine && (s.lane j.engine).waiting.any (fun r => r.who == .job j.id)

/-- A session-opening job that ends without success frees the context it allocated (R180, R184). -/
def dropSession (j : Job) (s : State) : State :=
  match j.session with
  | some c => (s.modCtx c (fun x => { sgen := x.sgen + 1 })).modJob j.id (fun j => { j with session := none })
  | none => s

/-- A session step that ends without success after its result was committed leaves its context as it was (R106, R183). -/
def restoreCtx (j : Job) (s : State) : State :=
  match j.ctxOld with
  | some (c, x) => (s.modCtx c (fun _ => x)).modJob j.id (fun j => { j with ctxOld := none })
  | none => s

/-- A composite job is one whose engine is Thimble (R21, R89). -/
def Job.composite (j : Job) : Bool := j.cls == 6

/-- The job is bound to the key of a cache entry and has not received its shares yet (R131). -/
def Job.awaits (j : Job) (e : CacheEntry) : Bool :=
  j.resolved && j.cacheRes == 3 && (match j.phase with | .ready | .preread | .held _ | .reading => true | _ => j.composite && j.phase == .running) &&
  j.bound.any (fun b => b.kt == e.kt && b.index == e.index && b.gen == e.gen) && j.slice == e.slice

/-- Frees the entries of an older generation that no job awaits any more (R131), and the data runs that none needs (R315). -/
def sweepOld (s : State) : State :=
  sweepRuns <| if s.eng.ekc.entries.any (·.st == .old) || s.eng.dpk.entries.any (·.st == .old) then
    let live (e : CacheEntry) : Bool := e.st != .old || s.jobs.any (fun j => j.awaits e)
    { s with eng.ekc.entries := s.eng.ekc.entries.filter live, eng.dpk.entries := s.eng.dpk.entries.filter live }
  else s

/-- Jobs held for the fill of an entry look again (R130, R153). -/
def wakeFill (e : CacheEntry) (s : State) : State :=
  { s with jobs := mapIf (fun j => j.phase == .held .cacheFill && j.slice == e.slice &&
      j.bound.any (fun b => b.kt == e.kt && b.index == e.index && b.gen == e.gen)) (fun j => { j with phase := .ready }) s.jobs }

/-- Jobs held for the fill of any of some entries look again. -/
def wakeFills (es : List CacheEntry) (s : State) : State := es.foldl (fun s e => wakeFill e s) s

/-- A fill whose job stops is discarded, and the jobs that waited for it look again (R130, R153, R229, R230). -/
def dropFills (id : Nat) (s : State) : State :=
  let mine (e : CacheEntry) : Bool := e.fillJob == id && (e.st == .filling || e.st == .invalid)
  let es := (s.eng.ekc.entries ++ s.eng.dpk.entries).filter mine
  if es = [] then s
  else wakeFills es { s with
    eng.ekc.entries := s.eng.ekc.entries.filter (fun e => !mine e), eng.dpk.entries := s.eng.dpk.entries.filter (fun e => !mine e) }

/-- A replacement that stops before its swap frees its shadow run and clears its journal record (R318, R320). -/
def dropReplacing (id : Nat) (s : State) : State :=
  match s.kv.replacing.find? (fun r => r.job == id) with
  | none => s
  | some r =>
    let s := freeSlots r.kt r.shadow (s.slot r.kt r.shadow).count s
    { s with
      kv.replacing := s.kv.replacing.filter (fun r => r.job != id)
      kv.journal := if r.kt then s.kv.journal else s.kv.journal.filter (fun e => e.index != r.index) }

/-- A key that a job has created does not outlive the failure of the job: no handle of it was returned (R143, R547). -/
def dropMade (j : Job) (s : State) : State :=
  match j.made with
  | some (kt, i) => (deleteKey kt i s).modJob j.id (fun j => { j with made := none })
  | none => s

/-- What every end of a job without success undoes. A suspended requester is gone from its lane at once (R179); the one that runs
leaves with the wipe (R113). -/
def undo (id : Nat) (s : State) : State :=
  match s.job? id with
  | some j => dropReplacing id (dropFills id (dropMade j (restoreCtx j (dropSession j (if s.suspended j then leaveLane j s else s)))))
  | none => s

/-- The job is over: it leaves the device, its tag and its staging space become free (R85, R108). Reads still on their way for
it are dropped as they come back. -/
def retire (j : Job) (s : State) : State :=
  let s := sweepOld (leaveTree j.engine (leaveLane j (s.dropJob j.id)))
  { s with
    rng.queue := s.rng.queue.filter (fun d => match d with | .job id _ => id != j.id | _ => true)
    thm.run := s.thm.run.filter (fun r => r.job != j.id)
    met.mailbox := s.met.mailbox.filter (fun m => m.1 != j.id) }

/-- The computation commits its result: status and staged outputs (step 12 of R106). -/
def decideJob (id status : Nat) (outs : List (Nat × Bytes)) (s : State) : State :=
  let s := match s.job? id with
    | some j => if status = stSuccess then s else dropSession j s
    | none => s
  let s := s.modJob id (fun j => { j with status := status, outs := if status = stSuccess then outs else [], phase := .decided })
  decideLate id s

/-! ## Engine tasks (R23, R35 step 7, R113 to R115) -/

/-- The wipe of an engine begins and the job's outputs are gone (R113). -/
def beginWipe (id status : Nat) (s : State) : State :=
  (undo id s).modJob id (fun j => { j with status := status, outs := [], phase := .wiping, stop := none })

/-- The engine tasks of a job go no further (R115): those that no engine has started are dropped, those that run stop at their
next safe point and report nothing, one suspended on a lane is stopped at once (R179). -/
def stopTasks (id status : Nat) (s : State) : State :=
  (s.tasksOf id).foldl (fun s t =>
    match t.phase with
    | .running =>
      let s := s.modJob t.id (fun t => { t with suppressed := true, stop := some (t.stop.getD status) })
      if s.suspended t then beginWipe t.id status s else s
    | .decided | .wiping => s.modJob t.id (fun t => { t with suppressed := true })
    | _ => retire t (undo t.id s)) s

/-- A task of job `id` has failed (R115): the first in the order of issue gives the job its status, and no further task starts. -/
def taskFailed (id task status : Nat) (s : State) : State :=
  stopTasks id stAborted (s.modJob id (fun j => { j with
    failed := match j.failed with
      | some (k, st) => if k < task then some (k, st) else some (task, status)
      | none => some (task, status) }))

/-- Ends a job without success after an engine has started it: the wipe of R113 begins and the completion waits for it, and for
the wipe of every engine that runs a task of it. The failure of a task is the failure of its job, unless the task was being
stopped because the job had already failed. -/
def endWiping (id status : Nat) (s : State) : State :=
  match s.job? id with
  | none => s
  | some j =>
    let s := beginWipe id status s
    match j.parent with
    | some p => if j.suppressed ∧ j.stop = some status then s else taskFailed p id status s
    | none => stopTasks id stAborted (decideLate id s)

/-- A job whose tasks have all ended, one of them without success, ends with that task's status (R115). -/
def settleTasks (id : Nat) (s : State) : State :=
  match s.job? id with
  | some j =>
    match j.failed with
    | some (_, st) => if j.stoppable ∧ !s.tasksLeft id then endWiping id st s else s
    | none => s
  | none => s

/-- A task is over: it leaves the device; which Mangle ran it is kept. -/
def endTaskOf (t : Job) (p : Nat) (s : State) : State :=
  settleTasks p (retire t (if t.engine < 0x20 then s.modJob p (fun j => { j with ran := some t.engine }) else s))

/-- A freezing slice is FROZEN once no job of it is outstanding (R393), and SLICE_FREEZE ends with its counts. -/
def settleFreeze (i : Nat) (s : State) : State :=
  match (s.slice i).freeze with
  | some f =>
    if (s.slice i).state = .freezing ∧ !(s.jobs.any (fun j => j.slice == i)) then
      let s := s.modSlice i (fun sl => { sl with state := .frozen })
      match s.job? f.job with
      | some j => if j.phase = .held .drain then decideJob f.job stSuccess [(0, leBytes 4 f.done ++ leBytes 4 f.stopped)] s else s
      | none => s
    else s
  | none => s

/-- Posts the completion of a job and lets it go (step 9 of R35), or only lets it go when it is suppressed (R386). While
the device may not write for the slice, the completion waits (R54, R60). -/
def complete (id : Nat) (s : State) : State :=
  match s.job? id with
  | none => s
  | some j =>
    match j.parent with
    | some p => endTaskOf j p s
    | none =>
    if j.suppressed then retire j s
    else if s.mayRequest j.slice then
      let s := if j.status = stDmaFault then { s with hif.dmaFaults := satInc s.hif.dmaFaults } else s
      settleFreeze j.slice (countFreeze j (retire j (postEntry j.slice j.cq j.entry s)))
    else s.modJob id (fun j => { j with phase := .post })

/-- Ends a job that no engine has started: its status, no output, the engine it stood at. -/
def endNow (id status engine : Nat) (s : State) : State :=
  match s.job? id with
  | none => s
  | some j =>
    let s := (undo id s).modJob id (fun j => { j with status := status, outs := [], engine := engine })
    match j.parent with
    | some p => settleTasks p (retire j (taskFailed p id status s))
    | none => complete id (decideLate id (stopTasks id stAborted s))

/-- A stop request for one job (R114): one that no engine has started ends at once, one that runs is stopped at its next
safe point, or at once while it is suspended on a lane (R179); one whose result is committed, but whose release has not begun, ends
with the status as well (R61, R110), the engine being wiped where the job still has it. -/
def stopJob (status : Nat) (j : Job) (s : State) : State :=
  match j.phase with
  | .list | .ready | .preread | .held _ => endNow j.id status j.engine s
  | .reading | .running =>
    if s.suspended j then endWiping j.id status s else s.modJob j.id (fun j => { j with stop := some (j.stop.getD status) })
  | .decided => if j.status = stSuccess then endWiping j.id status s else s
  | .release => endNow j.id status j.engine s
  | _ => s

/-- A stop request for every job that `p` names. -/
def stopJobs (p : Job → Bool) (status : Nat) (s : State) : State :=
  (s.jobs.filter p).foldl (fun s j => stopJob status j s) s

/-- A stop by an alarm: a lane clears its state at once and does not wait for a block boundary (R188). -/
def alarmJobs (p : Job → Bool) (status : Nat) (s : State) : State :=
  (s.jobs.filter p).foldl (fun s j => if isLane j.engine && j.faulted then endWiping j.id status s else stopJob status j s) s

/-- The completions of the jobs that `p` names are suppressed (R386): jobs on no engine are gone, the others are stopped
at their next safe point and only wiped. -/
def suppressJobs (p : Job → Bool) (s : State) : State :=
  let s := { s with jobs := mapIf p (fun j => { j with suppressed := true }) s.jobs }
  (s.jobs.filter p).foldl (fun s j =>
    match j.phase with
    | .reading | .running =>
      if s.suspended j then endWiping j.id stAborted s
      else s.modJob j.id (fun j => { j with stop := some (j.stop.getD stAborted) })
    | .decided | .wiping => s
    | _ => retire j (undo j.id s)) s

/-- A running job has reached a safe point with a stop request pending (R114): it halts and is wiped. -/
def safePoint (id : Nat) (s : State) : State :=
  match s.job? id with
  | some j =>
    match j.stop with
    | some st => if j.stoppable then endWiping id st s else s
    | none => s
  | none => s

/-! ## Releases (R107 to R110) -/

/-- Buffers of an output argument, in order (R102). -/
def Job.outBufs (j : Job) (arg : Nat) : List Desc := j.descs.filter (fun d => d.out && d.arg == arg)

/-- Lays an output over its buffers: (address, bytes) pieces. -/
def layOut : List Desc → Bytes → List (Nat × Bytes)
  | [], _ => []
  | d :: ds, bs => if bs = [] then [] else (d.addr, bs.take d.len) :: layOut ds (bs.drop d.len)

/-- The posted writes of a job's staged outputs (step 8 of R35); what a stream has written is not written again (R112). -/
def Job.writes (j : Job) : List (Nat × Bytes) := if j.streamed ≠ 0 then [] else (j.outs.map (fun o => layOut (j.outBufs o.1) o.2)).flatten

/-- The 4 KiB pages that a list of writes touches. -/
def pagesOf (ws : List (Nat × Bytes)) : List Nat :=
  (ws.map (fun w => (List.range (w.2.length / 4096 + 2)).filterMap (fun k =>
    let p := w.1 / 4096 + k
    if p * 4096 < w.1 + w.2.length then some p else none))).flatten.eraseDups

/-- Pages that writes of a slice touch and no usable translation with write permission covers (R52). -/
def State.pagesMissing (s : State) (i : Nat) (ws : List (Nat × Bytes)) : List Nat :=
  if s.hif.atsEn then (pagesOf ws).filter (fun p => !(s.hif.atc.any (fun a => a.slice == i && a.page == p && a.writeOk))) else []

/-- Such pages of a job's outputs. -/
def State.missingPages (s : State) (j : Job) : List Nat := s.pagesMissing j.slice j.writes

/-- Writes every staged output byte of a job (R108). -/
def writeOutputs (j : Job) (s : State) : State :=
  j.writes.foldl (fun s w => emit (.write .output j.slice (s.slice j.slice).pasid w.1 w.2 s.hif.dataRo) s) s

/-- Requests the translations of pages for which no request is on its way (R52). -/
def translatePages (i : Nat) (pages : List Nat) (s : State) : State :=
  (pages.filter (fun p => !s.hif.translating.contains (i, p))).foldl
    (fun s p => emit (.translate i (s.slice i).pasid p) { s with hif.translating := s.hif.translating ++ [(i, p)] }) s

/-- Releases the outputs of a job that succeeded and completes it; waits for translations (R52), for Bus Master Enable
(R54) and for the stream (R60). -/
def release (id : Nat) (s : State) : State :=
  match s.job? id with
  | none => s
  | some j =>
    if j.suppressed then retire j s
    else if !s.mayRequest j.slice then s.modJob id (fun j => { j with phase := .release })
    else
      let pages := s.missingPages j
      if pages = [] then complete id (writeOutputs j s)
      else translatePages j.slice pages (s.modJob id (fun j => { j with phase := .release }))

/-! ## Reads (R47 to R50) -/

/-- Issues a read for a job and waits for it. -/
def issueRead (job sl : Nat) (use : ReadFor) (addr len : Nat) (s : State) : State :=
  let tag := s.hif.nextRead
  let s := { s with hif.nextRead := tag + 1, hif.reads := s.hif.reads ++ [{ tag := tag, job := job, use := use, slice := sl, addr := addr, len := len }] }
  emit (.dmaRead tag sl (s.slice sl).pasid addr len s.hif.readRo s.hif.readIdo) s

/-- The reads of a job's input arguments, buffer by buffer (R102). -/
def inputReads (j : Job) : List (Nat × Nat × Nat × Nat) :=
  let go := (j.descs.filter (fun d => !d.out)).foldl
    (fun (acc : List (Nat × Nat × Nat × Nat) × Tbl Nat) d =>
      let off := tget acc.2 0 d.arg
      (acc.1 ++ [(d.arg, off, d.addr, d.len)], tput acc.2 0 d.arg (off + d.len))) ([], [])
  go.1

/-- Starts the input reads of a placed job; a job without inputs computes at once. -/
def startReads (id : Nat) (s : State) : State :=
  match s.job? id with
  | none => s
  | some j =>
    match inputReads j with
    | [] => s.modJob id (fun j => { j with phase := .running })
    | rs => rs.foldl (fun s r => issueRead id j.slice (.input r.1 r.2.1) r.2.2.1 r.2.2.2 s)
        (s.modJob id (fun j => { j with phase := .reading }))

/-- Issues the read of a job's scatter list (R103), once the device may request for the slice. -/
def startListRead (id : Nat) (s : State) : State :=
  match s.job? id with
  | none => s
  | some j =>
    if s.mayRequest j.slice && s.hif.reads.all (fun r => r.job != id) then
      issueRead id j.slice .list (fieldLE j.body 0 8) (16 * (fld j.descCtrl 16 12).toNat) s
    else s

/-- Resumes what waited for permission to issue requests (R54, R60), in order of acceptance: completions, releases, and
list reads not yet issued. -/
def resumeHeld (s : State) : State :=
  s.jobs.foldl (fun s j =>
    if s.mayRequest j.slice then
      match j.phase with
      | .post => complete j.id s
      | .release => release j.id s
      | .list => startListRead j.id s
      | _ => s
    else s) s

/-- Bit of HIF_DMA_STATUS for a failed read (R64). -/
def ReadError.bitNo : ReadError → Nat
  | .ur => 0 | .ca => 1 | .poisoned => 2 | .timeout => 3 | .denied => 4

/-- Bit of the Uncorrectable Error Status that the base specification gives the requester of a failed read: Poisoned TLP Received or
Completion Timeout; for the other completions it requires no report of the requester (log 81). -/
def ReadError.aerBit : ReadError → Option Nat
  | .poisoned => some 12 | .timeout => some 14 | _ => none

/-- Reports a failed read through Advanced Error Reporting where the base specification requires it (R50, R82). -/
def reportAer (e : ReadError) (s : State) : State :=
  match ReadError.aerBit e with
  | some b => emit (.errMessage b) { s with hif.aerUncorr := s.hif.aerUncorr ||| (1 <<< b) }
  | none => s

/-- Sets the bit of a failed read or translation (R50, R82). -/
def setDmaStatus (e : ReadError) (s : State) : State :=
  { s with hif.dmaStatus := s.hif.dmaStatus ||| (1 <<< ReadError.bitNo e) }

end Sys2Proof.Machine
end

