-- ==== Sys2Proof/Machine/Slots.lean ====
section
/-! DEFINITION. Slots of the Key Table and the Persistent Store, cache entries, session contexts: what frees them and
what a slice holds of them (12_key_vault.md, 05_lattice_engines.md, 07_digest_engines.md). -/
namespace Sys2Proof.Machine

/-! ## Slots (R305, R306, R316, R317); `kt` names the Key Table, its negation the Persistent Store -/

/-- Number of slots of a store (R26, R27). -/
def storeSize (kt : Bool) : Nat := if kt then 1048576 else 65536

/-- Slots of a store that are not free (R333). -/
def State.slotsUsed (s : State) (kt : Bool) : Nat :=
  ((if kt then s.kv.kt else s.kv.ps).filter (fun e => e.2.kind != .free)).length

/-- Slots of a store that a slice holds (R382). -/
def State.slotsHeld (s : State) (kt : Bool) (sl : Nat) : Nat :=
  ((if kt then s.kv.kt else s.kv.ps).filter (fun e => e.2.kind != .free && e.2.slice == sl)).length

/-- The slots `i` to `i + n - 1` are free and exist. -/
def State.runFree (s : State) (kt : Bool) (i n : Nat) : Bool :=
  decide (i + n ≤ storeSize kt) && (List.range n).all (fun k => (s.slot kt (i + k)).kind == .free)

/-- Searches a free run upward from `i` (R316): after a taken slot the search goes on behind it, so a store with `m`
slots listed is searched in at most `m + 1` steps. -/
def State.searchRun (s : State) (kt : Bool) (n : Nat) : Nat → Nat → Option Nat
  | 0, _ => none
  | fuel + 1, i =>
    if i + n > storeSize kt then none
    else match (List.range n).reverse.find? (fun k => (s.slot kt (i + k)).kind != .free) with
      | none => some i
      | some k => s.searchRun kt n fuel (i + k + 1)

/-- The lowest-indexed run of `n` free slots (R316). -/
def State.freeRun (s : State) (kt : Bool) (n : Nat) : Option Nat :=
  s.searchRun kt n ((if kt then s.kv.kt else s.kv.ps).length + 1) 0

/-- Lays a run of `n` slots down at `i`: the first slot as given, the others as extension slots of the slice (R306). -/
def layRun (kt : Bool) (i : Nat) (head : Slot) (s : State) : State :=
  let s := (List.range (head.count - 1)).foldl
    (fun s k => s.modSlot kt (i + 1 + k) (fun sl => { sl with kind := .ext, slice := head.slice })) s
  s.modSlot kt i (fun _ => head)

/-- The slot begins a key (R312, check 1). -/
def Slot.isKey (b : Slot) : Bool := b.kind == .base || b.kind == .moved

/-- Base slots of a slice's keys in a store. -/
def State.keysOf (s : State) (kt : Bool) (sl : Nat) : List Nat :=
  ((if kt then s.kv.kt else s.kv.ps).filter (fun e => e.2.isKey && e.2.slice == sl)).map (fun e => e.1)

/-- Deletes every session-ephemeral key of a slice (R303). -/
def dropEphemeral (sl : Nat) (s : State) : State :=
  (s.keysOf true sl).foldl (fun s i => if (s.slot true i).eph then deleteKey true i s else s) s

/-- The 64 bytes and further slots of a key: where its data run begins (R306). -/
def State.keyData (s : State) (kt : Bool) (i : Nat) : Slot :=
  let b := s.slot kt i
  if b.kind = .moved then s.slot kt b.data else b

/-! ## Session contexts (R178 to R184) -/

/-- Frees a session context: its generation advances and nothing of it stays (R180, R184). No job refers to it any more. -/
def freeCtx (c : Nat) (s : State) : State :=
  { s.modCtx c (fun x => { sgen := x.sgen + 1 }) with
    jobs := s.jobs.map (fun j => { j with
      session := if j.session = some c then none else j.session
      ctxOld := if j.ctxOld.any (fun x => x.1 == c) then none else j.ctxOld }) }

/-- A session step that ends with SUCCESS changes its context, and keeps the old one until it has ended (R183). -/
def changeCtx (j : Job) (c : Nat) (f : Ctx → Ctx) (s : State) : State :=
  (s.modCtx c f).modJob j.id (fun j => { j with ctxOld := some (c, s.ctx c) })

/-- Open contexts of a slice. -/
def State.ctxsOf (s : State) (sl : Nat) : List Nat :=
  (s.ctxs.filter (fun e => e.2.isOpen && e.2.slice == sl)).map (fun e => e.1)

/-- Frees every context of a slice (R184). -/
def freeSessions (sl : Nat) (s : State) : State := (s.ctxsOf sl).foldl (fun s c => freeCtx c s) s

end Sys2Proof.Machine
end

