-- ==== Sys2Proof/Machine/Lanes.lean ====
section
/-! DEFINITION. Requesters of the digest and symmetric lanes: placement, joining, block boundaries (R176 to R178, R195,
R266). -/
namespace Sys2Proof.Machine

/-- Requesters a lane holds. -/
def State.held (s : State) (code : Nat) : Nat :=
  let l := s.lane code
  l.running.elim 0 (fun _ => 1) + l.waiting.length

/-- The lane a new requester takes among `n` lanes from `lo` on (R176): the lowest-numbered idle one, else the one with the
fewest requesters below four, the lowest-numbered first. A lane that is fenced, or that `ok` leaves out, takes none. -/
def State.pickLane (s : State) (lo n : Nat) (ok : Nat → Bool) : Option Nat :=
  let l := ((List.range n).map (· + lo)).filter (fun c => s.fence c == .none && ok c)
  ([0, 1, 2, 3].filterMap (fun k => l.find? (fun c => s.held c == k))).head?

/-- The lane has this requester. -/
def State.laneHas (s : State) (code : Nat) (w : Who) : Bool :=
  (s.lane code).running.any (fun r => r.who == w) || (s.lane code).waiting.any (fun r => r.who == w)

/-- A job's blocks on a lane run masked (R186, R196, R266): a task of a keyed digest, a step of a keyed session, and whatever a
Tumbler computes. -/
def State.jobMasked (s : State) (j : Job) : Bool :=
  if 0x68 ≤ j.engine then true
  else if j.parent.isSome then j.masked
  else isStep j.opcode && (s.ctx j.ctxOf).key != []

/-- A job whose Tree Sequencer computes a masked step: SLH-DSA PRF_msg, or the r of XMSS (R196). -/
def treeMasked (j : Job) : Bool := j.opcode == 0x0202 || (j.opcode == 0x0213 && (0x61 ≤ j.pb 0 && j.pb 0 ≤ 0x64))

/-- The running requester of a lane computes on shares. -/
def State.laneMasked (s : State) (code : Nat) : Bool :=
  (s.lane code).running.any (fun r => match r.who with
    | .job id => (s.job? id).elim false s.jobMasked
    | .tree t => s.jobs.any (fun j => j.engine == engTree t && j.holds && treeMasked j))

/-- The running requester waits on the masking generator of its lane (R177, R373). -/
def State.laneWaits (s : State) (code : Nat) : Bool := s.stalled code && s.laneMasked code

/-- The turn context of a Wringer into which it saves a requester (R178): the lowest free one of its three; a session step is
saved into its own context, and a Tumbler has no turn contexts. -/
def State.turnCtxFor (s : State) (code : Nat) (w : Who) : Option Nat :=
  let step := match w with
    | .job id => (s.job? id).elim false (fun j => isStep j.opcode)
    | .tree _ => false
  if decide (0x40 ≤ code) || step then none
  else ((List.range 3).map (· + 3 * (code - 0x20))).find? (fun c => (s.lane code).waiting.all (fun r => r.turnCtx != some c))

/-- The running requester is suspended and the next one runs (R177, R178). -/
def switchLane (code : Nat) (r n : Requester) (rest : List Requester) (s : State) : State :=
  let saved := s.turnCtxFor code r.who
  countLoad code (s.modLane code (fun _ => {
    running := some { n with fresh := false, turnCtx := none }, waiting := rest ++ [{ r with fresh := false, turnCtx := saved }] }))

/-- A requester joins a lane (R177): on an idle lane it runs; where the running requester waits on its masking generator, that one's
block is abandoned and the new one starts; otherwise it is next in turn behind those that joined before it. -/
def joinLane (code : Nat) (w : Who) (s : State) : State :=
  match (s.lane code).running with
  | none => s.modLane code (fun l => { running := some { who := w, fresh := false }, waiting := l.waiting, turn := 0 })
  | some r =>
    if s.laneWaits code then switchLane code r { who := w } (s.lane code).waiting s
    else s.modLane code (fun l => { l with waiting := l.waiting.filter (·.fresh) ++ [{ who := w }] ++ l.waiting.filter (fun r => !r.fresh) })

/-- Turn length of a lane in blocks (R193, R271). -/
def State.turn (s : State) (code : Nat) : Nat :=
  let v := if code < 0x40 then s.eng.wrgTurn.toNat else s.eng.tmbTurn.toNat
  if v = 0 then 1 else min v 4096

/-- A block boundary (R177): a newly joined requester starts, and the running one is suspended; otherwise the turn goes on, and
at its end the next in turn starts. -/
def boundary (code : Nat) (s : State) : State :=
  let l := s.lane code
  match l.running, l.waiting with
  | some r, n :: rest =>
    if n.fresh ∨ s.turn code ≤ l.turn + 1 then switchLane code r n rest s
    else s.modLane code (fun l => { l with turn := l.turn + 1 })
  | some _, [] => s.modLane code (fun l => { l with turn := min (l.turn + 1) 4096 })
  | none, _ => s

/-- Lanes a Tree Sequencer joins (R195, R221). -/
def State.treeLanes (s : State) : Nat :=
  let n := s.eng.tsqLanes.toNat
  if 1 ≤ n ∧ n ≤ 8 then n else 8

/-- The home lanes of a Tree Sequencer (R195). -/
def State.homeLanes (s : State) (t : Nat) : List Nat := (List.range s.treeLanes).map (fun k => engWringer (8 * t + k))

/-- A Tree Sequencer takes one more lane in place of a fenced one: the lane that R176 would choose (R195). -/
def joinSpare (t : Nat) (not : Nat) (s : State) : State :=
  (s.pickLane 0x20 32 (fun c => c != not && !s.laneHas c (.tree t) && !(s.homeLanes t).contains c)).elim s (fun c => joinLane c (.tree t) s)

/-- A Tree Sequencer that holds a job is one requester on each of its lanes, and on one other lane for each of them that is
fenced (R195). A lane that holds four requesters is left out until the next job starts (log 78). -/
def joinTree (t : Nat) (s : State) : State :=
  let home := s.homeLanes t
  let up := home.filter (fun c => s.fence c == .none)
  let spare := ((List.range 32).map engWringer).filter (fun c => !home.contains c && s.laneHas c (.tree t))
  let s := up.foldl (fun s c => if s.laneHas c (.tree t) ∨ 4 ≤ s.held c then s else joinLane c (.tree t) s) s
  (List.range (home.length - up.length - spare.length)).foldl (fun s _ => joinSpare t 0 s) s

end Sys2Proof.Machine
end

