-- ==== Sys2Proof/Machine/Events.lean ====
section
/-! DEFINITION. Event records, the Vent's response levels, HALT, RINSE, slice reset, the restart of Thimble
(15_slices.md, 18_tamper_and_faults.md, 21_service_firmware_events.md). -/
namespace Sys2Proof.Machine

/-! ## Event Recorder (R506 to R508) -/

/-- Bytes 51:0 of a record (R506). -/
def recordHead (r : EvRec) (s : State) : Bytes :=
  leBytes 8 s.evr.nextSeq ++ leBytes 6 (s.evr.opTicks / 16384) ++ leBytes 4 s.lcs.powerCycles.toNat ++ leBytes 8 s.time.epoch.toNat ++
  leBytes 2 r.code ++ leBytes 1 r.source ++
  leBytes 1 (flag s.locked + 2 * flag r.fi + 4 * flag (r.chainStart || s.evr.chainStart) + 16 * (r.level % 8)) ++
  leBytes 1 r.slice ++ [0x01] ++ fit 20 r.data

/-- The 64 bytes of a record: head, CRC-32C, and the MAC over the preceding MAC and bytes 55:0 (R506, R509). -/
def recordBytes (r : EvRec) (s : State) : Bytes :=
  let h := recordHead r s
  let b := h ++ leBytes 4 (crc32c h).toNat
  let prev := if r.chainStart || s.evr.chainStart then zeros 8 else fit 8 s.evr.lastMac
  b ++ kmac256 s.kv.chainKey (prev ++ b) 8 (ascii "EQX-EVR")

/-- Writes one record; the oldest is overwritten when the region of 65,536 is full (R508). -/
def writeRecord (r : EvRec) (s : State) : State :=
  let bs := recordBytes r s
  { s with evr.records := lastN 65536 (s.evr.records ++ [{ seq := s.evr.nextSeq, bytes := bs }]),
           evr.nextSeq := s.evr.nextSeq + 1, evr.lastMac := bs.drop 56, evr.chainStart := false }

/-- Thimble can write records now (R450). -/
def State.canRecord (s : State) : Bool := !s.thm.restarting && !s.thm.halted

/-- Writes every queued record, and then the count of records dropped, if any (R508). -/
def drainRecords (s : State) : State :=
  if s.canRecord then
    let s := s.evr.queue.foldl (fun s r => writeRecord r s) { s with evr.queue := [] , vent.held := s.vent.held }
    if s.evr.dropRun = 0 then s
    else writeRecord { code := 0x0603, data := leBytes 4 s.evr.dropRun } { s with evr.dropRun := 0 }
  else s

/-- Queues a record, at most 256; a further one is dropped and counted (R508). -/
def queueRecord (r : EvRec) (s : State) : State :=
  let s := if s.evr.queue.length < 256 then { s with evr.queue := s.evr.queue ++ [r] }
    else { s with evr.dropped := satInc s.evr.dropped, evr.dropRun := s.evr.dropRun + 1 }
  drainRecords s

/-- A record of the Vent: while the Event Recorder cannot take it, the Vent holds up to 64 and counts the rest (R450). -/
def ventRecord (r : EvRec) (s : State) : State :=
  if s.thm.restarting || s.thm.halted then
    if s.vent.held.length < 64 then { s with vent.held := s.vent.held ++ [r] }
    else { s with vent.recDropped := satInc s.vent.recDropped }
  else queueRecord r s

/-- Thimble takes records again: what the Vent held is written first. -/
def takeHeldRecords (s : State) : State :=
  s.vent.held.foldl (fun s r => queueRecord r s) { s with vent.held := [] }

/-- A record of Thimble's own (R507). -/
def logRecord (code : Nat) (data : Bytes) (s : State) : State := queueRecord { code := code, data := data } s

/-! ## The service link session, quorum and Thimble -/

/-- Ends the session of the link (R498): keys zeroised, requests not yet answered discarded; a record tells the cause: 1 tag or counter, 2 no frame for 60 s,
3 CLOSE, 4 link, 5 a new KEX, 6 PORST#, 7 RINSE, 8 activation. -/
def endRsl (cause : Nat) (s : State) : State :=
  let was := s.svc.stage
  let s := { s with svc.stage := .none, svc.keys := [], svc.kex := [], svc.transcript := [], svc.lastSeq := none, svc.lastReply := [], svc.txSeq := 0, svc.patRead := none,
                    lcs.waiting := [], lcs.burning := s.lcs.burning.map (fun b => { b with seq := none }) }
  if was = .isOpen then logRecord 0x0104 (leBytes 1 cause) s else s


/-- Ends the operator quorum (R337). -/
def endQuorum (s : State) : State := { s with thm.quorum := none }

/-- Pin that powers an operator card. -/
def ocPin (k : Nat) : Pin := if k = 0 then .oc0Power else .oc1Power

/-- Deactivates an operator port with the outcome of its transaction (R491). -/
def ocOff (k last : Nat) (s : State) : State :=
  let p := s.ocPort k
  if p.active then
    emit (.pin (ocPin k) false) (s.modOc k (fun p => { p with
      active := false, cls := 0, stage := .none, id := [], last := BitVec.ofNat 16 last, retried := false }))
  else s

/-- A backup operation ends (R474, R485): status, detail, failing block, the card off, secrets gone, a record with OP and CODE. -/
def bkpEnd (code detail : Nat) (block : Option Nat) (s : State) : State :=
  match s.crd.run with
  | none => s
  | some r =>
    let s := if r.step = .collect then ocOff 1 0 (ocOff 0 0 s) else s
    let s := { s with
      crd.run := none, crd.busy := false, crd.code := BitVec.ofNat 16 code, crd.detail := BitVec.ofNat 4 detail
      crd.block := block.elim 0xFFFFFFFF (BitVec.ofNat 32), crd.phase := 0, crd.powered := false, crd.hs := false, crd.wide := false }
    logRecord 0x0403 (leBytes 1 r.op ++ leBytes 2 code) (emit (.pin .sdPower false) s)

/-- Thimble has started the composite job, and its result is not committed: it runs, or waits for cards or for a drain. -/
def Job.started (j : Job) : Bool :=
  j.composite && (j.stoppable || (match j.phase with | .held .cards | .held .drain => true | _ => false))

/-- The composite jobs that Thimble has started end with ABORTED (R453, R467). -/
def abortStarted (s : State) : State :=
  (s.jobs.filter (·.started)).foldl
    (fun s j => if j.stoppable then endWiping j.id stAborted s else endNow j.id stAborted engThimble s) s

/-- Thimble restarts (R453): running composite jobs and a backup operation end with ABORTED, the quorum ends, new composite jobs
wait. -/
def restartThimble (s : State) : State :=
  let s := bkpEnd stAborted 0 none (endQuorum { s with thm.restarting := true, thm.run := none })
  abortStarted s

/-! ## HALT (R446) -/

/-- SVC_ATTN# is low in LOCKED and in HALT (R494). -/
def updateAttn (s : State) : State :=
  let a := s.vent.halt || s.lcs.state == .locked || s.svc.bootFailed
  if a = s.svc.attn then s else emit (.pin .svcAttn (!a)) { s with svc.attn := a }

/-- The device enters HALT: intake stops, running jobs stop at their next safe point, jobs not yet dispatched end. -/
def haltNow (sec : Bool) (s : State) : State :=
  updateAttn (alarmJobs (fun _ => true) stAborted { s with vent.halt := true, vent.haltSec := s.vent.haltSec || sec })

/-! ## RINSE (R327, R375, R442) -/

/-- Zeroes the key-encrypting keys, cache tags and masking seeds (R327, step 2), and clears what SRAM holds (step 4). -/
def eraseKeys (s : State) : State :=
  { s with kv.vrk0 := 0, kv.vrk1 := 0, kv.tmk := 0, kv.tmkOld := 0, kv.sweep := false, kv.tmkWaiting := false, kv.rinsed := true,
           eng.ekc.entries := [], eng.dpk.entries := [], rng.gens := [], kv.kt := [], ctxs := [],
           eng.mangle := [], eng.needle := [], eng.lanes := [], eng.darnerMem := [] }

/-- Adds an entry to the battery log; a full log overwrites its oldest entry (R445). -/
def battLog (source detail : Nat) (s : State) : State :=
  let e : BattEntry := {
    bsecs := s.tmp.bsecs, source := BitVec.ofNat 8 source, detail := BitVec.ofNat 8 detail, vbat := s.tmp.vbat,
    temp := s.pwr.tj, main := s.pwr.mainPower }
  { s with tmp.battLog := lastN 16 (s.tmp.battLog ++ [e]),
           tmp.battOver := if s.tmp.battLog.length < 16 then s.tmp.battOver else satInc s.tmp.battOver }

/-- Every accepted job is to end with ABORTED and no output; what it held of the device is given up (R442). -/
def abortAll (s : State) : State :=
  let undecided (j : Job) : Bool := match j.phase with | .decided | .release | .wiping | .post => false | _ => true
  let s := (s.jobs.filter undecided).foldl (fun s j => decideLate j.id s) s
  { s with
    thm.run := none, mig.contexts := [], hif.reads := []
    jobs := s.jobs.map (fun j => { j with status := stAborted, outs := [], phase := .wiping, stop := none, streamed := 0 }) }

/-- RINSE (R442): keys gone, engines stopped at once, accepted jobs to end with ABORTED after the SRAM clear, intake shut
until PORST#, HALT, Thimble restarting in a restricted state, the Random Unit FAILED with CAUSE RINSE, TAMPER_OUT# low. In reset and without main power only
the battery domain runs: the VRK shares go and the log entry is written (R444). A further alarm only writes an entry. -/
def rinse (source detail : Nat) (s : State) : State :=
  if s.pwr.inReset then
    emit (.pin .tamperOut false) { battLog source detail s with kv.vrk0 := 0, kv.vrk1 := 0, tmp.tamperOut := true }
  else if s.tmp.rinse then battLog source detail s
  else
  let s := battLog source detail (eraseKeys s)
  let s := abortAll (bkpEnd stAborted 0 none (endRsl 7 { s with thm.restarting := true }))
  let s := { s with
    tmp.rinse := true, tmp.tamperOut := true, vent.halt := true, vent.haltSec := true, pwr.intake := false,
    rng.state := .failed, rng.cause := 5, rng.queue := [], thm.quorum := none,
    thm.restricted := true, lcs.nonce := none, lcs.dac := none, mig.nonces := [] }
  updateAttn (emit (.pin .tamperOut false) s)

/-! ## The Vent (R446 to R451) -/

/-- The unit a FENCE stops (R447). -/
inductive FenceUnit where
  | none
  | engine (code : Nat)
  | slice (i : Nat)
  | thimble
deriving DecidableEq, Repr

/-- The requesters of a lane that is fenced (R188, R195): suspended jobs wait to be placed again and what they have read stays
read; a Tree Sequencer joins the lane that R176 would choose. -/
def moveSuspended (c : Nat) (s : State) : State :=
  let l := s.lane c
  let w := l.waiting.map (·.who)
  let all := (l.running.elim [] (fun r => [r.who])) ++ w
  let s := s.modLane c (fun l => { l with waiting := [], running := l.running.filter (fun r => match r.who with | .job _ => true | _ => false) })
  let s := { s with jobs := mapIf (fun j => w.contains (.job j.id)) (fun j => { j with
      engine := engRing, phase := if j.phase = .reading then .preread else if j.phase = .running then .ready else j.phase,
      read := j.read || decide (j.phase = .running) }) s.jobs }
  if isLane c then
    all.foldl (fun s w => match w with
      | .tree t => joinSpare t c s
      | .job _ => s) s
  else s

/-- A FENCE takes a lane whose running requester is a Tree Sequencer: the job whose task runs there ends (R188); which of its jobs
that is, is a free value (log 84). -/
def endTreeTask (c status : Nat) (s : State) : State :=
  match (s.lane c).running with
  | some { who := .tree t, .. } =>
    let l := s.jobs.filter (fun j => j.engine == engTree t && j.stoppable)
    match l[Config.freeNat s.freeCtr % max 1 l.length]? with
    | some j => endWiping j.id status (fresh s)
    | none => s
  | _ => s

/-- A fenced Darner loses its public keys, and the jobs that wait for a fill look again (R230). -/
def dropDarner (c : Nat) (s : State) : State :=
  if 0x60 ≤ c ∧ c < 0x64 then
    wakeFills (s.eng.dpk.entries.filter (fun e => e.home == c - 0x60))
      { s with eng.dpk.entries := s.eng.dpk.entries.filter (fun e => e.home != c - 0x60) }
  else s

/-- Applies a FENCE to a unit: engines and slices stop their jobs with ABORTED, Thimble restarts (R447, R453). -/
def fenceUnit (u : FenceUnit) (kind : Fence) (s : State) : State :=
  match u with
  | .none => s
  | .engine c =>
    let s := if s.fence c = .porst ∨ s.fence c = .check then s else s.setFence c kind
    alarmJobs (fun j => j.engine == c && j.onEngine) stAborted (dropDarner c (moveSuspended c (if isLane c then endTreeTask c stAborted s else s)))
  | .slice i =>
    stopJobs (fun j => j.slice == i) stAborted (s.modSlice i (fun sl => { sl with fence := kind }))
  | .thimble => restartThimble { s with thm.fenced := true }

/-- ALERT# is low while PENDING is set in class DEVICE or SECURITY (R446). -/
def updateAlert (s : State) : State :=
  let a := (s.ventClass 4).pending || (s.ventClass 5).pending
  if a = s.vent.alert then s else emit (.pin .alert (!a)) { s with vent.alert := a }

/-- The response level to one event (R449). -/
def ventLevel (v : VentClass) (cls base : Nat) : Nat :=
  let cap := if cls = 5 then 4 else 3
  let applied := if v.newRun then 0 else v.level.toNat
  if 1 ≤ base ∧ v.pending then min cap (max base applied + 1) else base

/-- The class after one event (R449). -/
def ventArrive (lv : Nat) (v : VentClass) : VentClass :=
  let applied := if v.newRun then 0 else v.level.toNat
  let count := if v.newRun then 0 else v.count.toNat
  { v with newRun := false, events := satInc v.events, count := BitVec.ofNat 4 (min 15 (count + 1)),
           pending := v.pending || decide (1 ≤ lv),
           level := BitVec.ofNat 3 (if 1 ≤ lv then max applied lv else applied) }

/-- A power-management event leaves from D3hot for an event of class SECURITY (R45, R446). -/
def signalPme (cls : Nat) (s : State) : State := if cls = 5 && s.hif.d3hot then emit .pme s else s

/-- The effects of a response level; each level includes every level beneath it (R446). RINSE stops the jobs first: their
completions follow the SRAM clear (R442). -/
def applyLevel (code detail cls base lv : Nat) (u : FenceUnit) (kind : Fence) (s : State) : State :=
  let s := if 1 ≤ lv then signalPme cls (updateAlert (msixDue s.vent.vec.toNat s)) else s
  let s := if 4 ≤ lv then rinse code detail s else s
  let s := if 2 ≤ lv then fenceUnit u (if 2 ≤ base then kind else .escalation cls) s else s
  if 3 ≤ lv then haltNow (decide (cls = 5) || decide (code = 0x44)) s else s

/-- Raises an event (R448, R449): the class, the latest event, the record, the response. `u` is the unit a FENCE stops,
`kind` how that unit is fenced by an event whose base response is FENCE. -/
def raiseEvent (code detail : Nat) (u : FenceUnit) (kind : Fence) (s : State) : State :=
  match eventInfo code with
  | none => s
  | some (cls, base) =>
    let lv := ventLevel (s.ventClass cls) cls base
    let s := s.modVentClass cls (ventArrive lv)
    let s := { s with vent.lastCode := BitVec.ofNat 8 code, vent.lastDetail := BitVec.ofNat 8 detail,
                      vent.lastLevel := BitVec.ofNat 3 lv, vent.lastClass := BitVec.ofNat 3 cls }
    let s := if 4 ≤ lv && !s.tmp.rinse then { s with thm.restarting := true } else s
    let src := match u with | .engine c => c | .thimble => engThimble | _ => 0xFF
    let sl := match u with | .slice i => i | _ => 0
    let s := ventRecord { code := code, source := src, level := lv, slice := sl, data := leBytes 1 detail ++ leBytes 1 lv, fi := s.vent.fi } s
    applyLevel code detail cls base lv u kind s

/-- An event that stops no unit. -/
def raiseNote (code detail : Nat) (s : State) : State := raiseEvent code detail .none .own s

/-- An event for which the specification names no instance, slice or bit: its DETAIL is a free value (log 20). -/
def raiseOpenAt (code : Nat) (u : FenceUnit) (s : State) : State :=
  fresh (raiseEvent code (Config.freeByte s.freeCtr 0).toNat u .own s)

/-- Such an event of a block that has no ENGINE value. -/
def raiseOpen (code : Nat) (s : State) : State := raiseOpenAt code .none s

/-- A write to RWL fields of block `b` (R11, R14): `f` before LOCK; after it nothing changes, and a write that carries a
value other than the current one is recorded as event 0x01. -/
def writeRwl (b : Nat) (differs : Bool) (f : State → State) (s : State) : State :=
  if s.locks.getLsbD b then (if differs then raiseOpen 0x01 s else s) else f s

/-- The units fenced only by an escalation of class `c` return to service (R447), an engine after a memory test. -/
def unfence (c : Nat) (s : State) : State :=
  { s with
    eng.fence := tmap s.eng.fence .none (fun _ f => if f = .escalation c then .memTest else f)
    slices := tmap s.slices {} (fun _ sl => if sl.fence = .escalation c then { sl with fence := .none } else sl) }

/-- A class is acknowledged (R449): PENDING clears and its run ends; units fenced only by its escalations are released. -/
def acknowledge (c : Nat) (s : State) : State :=
  updateAlert (unfence c (s.modVentClass c (fun v => { v with pending := false, newRun := true })))

/-! ## Slice reset (R98, R385, R386) -/

/-- Clears an SQ as R98 states: ENABLE 0, held cells dropped, the configuration kept. -/
def Sq.resetQueue (q : Sq) : Sq := { q with enable := false, held := [], outst := [], missed := [], slot := none }
/-- Clears a CQ as R98 states: ENABLE 0, reservations released. -/
def Cq.resetQueue (c : Cq) : Cq := { c with enable := false, resv := 0, unsig := 0 }

/-- R98 for every queue of a slice. -/
def resetQueues (i : Nat) (s : State) : State :=
  { s with sqs := tmap s.sqs {} (fun k q => if k / 16 = i then q.resetQueue else q),
           cqs := tmap s.cqs {} (fun k c => if k / 16 = i then c.resetQueue else c) }

/-- The jobs of a slice: every accepted one (R384). -/
def State.jobsOf (s : State) (i : Nat) : List Job := s.jobs.filter (fun j => j.slice == i)

/-- The job is a SLICE_FREEZE that names slice `i` (R385, R402). -/
def Job.freezes (j : Job) (i : Nat) : Bool := j.opcode == 0x0C01 && i != 0 && j.pb 0 == i

/-- The SLICE_FREEZE jobs that named the slice and have not completed end with ABORTED (R385, step 2). -/
def abortFreeze (i : Nat) (s : State) : State :=
  (s.jobs.filter (fun j => j.freezes i && !j.suppressed)).foldl (fun s j => endNow j.id stAborted j.engine s) s

/-- Ends the migration contexts of a slice (R400); a restore's shadow runs are freed (R399). -/
def dropMigration (i : Nat) (s : State) : State :=
  let s := ((s.mig.contexts.filter (fun m => m.slice == i)).map (·.placed)).flatten.foldl
    (fun s p => freeSlots p.2.1 p.2.2 (s.slot p.2.1 p.2.2).count s) s
  { s with mig.contexts := s.mig.contexts.filter (fun m => m.slice != i) }

/-- A slice reset at its reset point (R385, step 2), and the start of step 3. A slice reset of slice 0 ends the quorum (R388). -/
def sliceReset (i : Nat) (s : State) : State :=
  let s := abortFreeze i s
  let s := suppressJobs (fun j => j.slice == i) s
  let s := dropEphemeral i (freeSessions i (resetQueues i s))
  let s := dropMigration i s
  let s := s.modSlice i (fun sl => { sl with
    gen := sl.gen + 1, resetPending := false, freeze := none, fence := .none,
    state := if sl.state = .disabled then .disabled else .active })
  if i = 0 then endQuorum { s with thm.run := none } else s

/-- A slice has jobs of an earlier generation (R385, step 4; OLD_JOBS of R403). -/
def State.oldJobs (s : State) (i : Nat) : Bool := s.jobs.any (fun j => j.slice == i && j.gen != (s.slice i).gen)

/-- STATE of a slice as it reads (R380, R390): a slice switched off is DISABLED once no old job is outstanding. -/
def State.sliceState (s : State) (i : Nat) : SliceSt :=
  let sl := s.slice i
  if sl.enable then sl.state else if s.oldJobs i || sl.resetPending then .active else .disabled

/-- No job of the generation the slice would enter is outstanding (R387). -/
def State.resetClear (s : State) (i : Nat) : Bool :=
  !(s.jobs.any (fun j => j.slice == i && j.gen == (s.slice i).gen + 1)) &&
  !(s.jobs.any (fun j => (j.opcode == 0x0C02 || j.opcode == 0x0C11) && j.stoppable && (byteAt j.body 0).toNat == i))

/-- Intake of a slice is open (R76, R390, R446, R457, R505): the states and units that shut it. -/
def State.intakeOpen (s : State) (i : Nat) : Bool :=
  s.pwr.intake && !s.vent.halt && !s.tmp.rinse && !s.svc.paused && !s.lcs.ftm && !s.tap.driving &&
  (s.slice i).enable && (s.slice i).state == .active && (s.slice i).fence == .none &&
  (match s.lcs.state with | .scrapped | .locked => false | .analysis => i == 0 | _ => true)

end Sys2Proof.Machine
end

