-- ==== Sys2Proof/Machine/Random.lean ====
section
/-! DEFINITION. The Random Unit: health tests, DRBG, domain resets and masking generators (14_random.md). -/
namespace Sys2Proof.Machine

/-- The Random Unit enters FAILED with a cause (R366, R368). -/
def rngFail (cause : BitVec 3) (s : State) : State :=
  { s with rng.state := .failed, rng.cause := cause, rng.part := (0, 0) }

/-- Ends a job whose DRBG request fails (R367): before dispatch with ENGINE 0x72, on an engine after the wipe. -/
def drbgFail (id status : Nat) (s : State) : State :=
  match s.job? id with
  | some j => if j.stoppable then endWiping id status s else endNow id status engRandom s
  | none => s

/-- Ends every waiting request (R368): its job ends with RNG_FAILED, pending generator seeds are discarded; a TMK rotation waits
on (R324). -/
def failRequests (s : State) : State :=
  let q := s.rng.queue
  q.foldl (fun s d => match d with | .job id _ => drbgFail id stRngFailed s | _ => s) { s with rng.queue := q.filter (· == .tmk) }

/-- The unit reaches READY (R366): every generator is seeded afresh, which ends every stall. -/
def rngReady (sourceB : Bool) (s : State) : State :=
  { s with
    rng.state := .ready, rng.cause := 0, rng.sourceB := sourceB, rng.requests := 0, rng.gens := []
    rng.queue := s.rng.queue.filter (fun d => match d with | .gen _ => false | _ => true) }

/-- A domain reset begins (R369): back to STARTUP; requests not fully served wait again. -/
def rngRestart (s : State) : State :=
  { s with rng.state := .startup, rng.cause := 0, rng.aptMax := 0, rng.rctMax := 0, rng.part := (0, 0) }

/-- Asks for DRBG output for a job (R365, R366, R367): at once RNG_FAILED in FAILED; otherwise the job waits its turn. -/
def requestDrbg (id n : Nat) (s : State) : State :=
  match s.rng.state with
  | .failed => drbgFail id stRngFailed s
  | _ => { s with rng.queue := s.rng.queue ++ [.job id n] }

/-- The start-up tests end (R363, R367, R369): Source A, else Source B, else FAILED; a known-answer failure gives FAILED. -/
def noiseStartupTestCompleteDo (aOk bOk kat : Bool) (rct apt : BitVec 16) (aptMax : BitVec 11) (rctMax : BitVec 6) (s : State) : State :=
  if s.rng.state ≠ .startup then s
  else
    let s := { s with
      rng.rct := satAdd s.rng.rct rct.toNat, rng.apt := satAdd s.rng.apt apt.toNat, rng.aptMax := aptMax, rng.rctMax := rctMax
      rng.aFailed := !aOk }
    if !aOk && !bOk then logRecord 0x0404 [0x03] (raiseOpenAt 0x42 (.engine engRandom) (failRequests (rngFail 3 s)))
    else if !kat then logRecord 0x0404 [0x04] (raiseOpenAt 0x42 (.engine engRandom) (failRequests (rngFail 4 s)))
    else if aOk then rngReady false s
    else raiseOpenAt 0x03 (.engine engRandom) (rngReady true s)

/-- A continuous failure (R368): FAILED with the cause, output discarded, waiting requests end. -/
def healthTestFailureDo (apt : Bool) (s : State) : State :=
  if s.rng.state ≠ .ready then s
  else
    let s := if apt then { s with rng.apt := satInc s.rng.apt } else { s with rng.rct := satInc s.rng.rct }
    let cause : BitVec 3 := if apt then 2 else 1
    logRecord 0x0404 [cause.zeroExtend 8] (raiseOpenAt 0x42 (.engine engRandom) (failRequests (rngFail cause s)))

/-- The DRBG reseeds (R364). -/
def drbgReseedDo (s : State) : State :=
  if s.rng.state = .ready then { s with rng.reseeds := satInc s.rng.reseeds, rng.requests := 0 } else s

/-- Internal requests that `n` bytes take (R364: at most 65,536 bytes each). -/
def requestsFor (n : Nat) : Nat := max 1 (ceilDiv n 65536)

/-- Hands the next output to its consumer (R365): a job returns to step 4 with it, a generator switches to its new seed,
the re-masking sequencer takes a new TMK and its sweep starts (R324). -/
def serveDrbg (d : DrbgFor) (s : State) : State :=
  match d with
  | .job id n =>
    fresh (s.modJob id (fun j => { j with
      seed := freeBytes s n, phase := if j.phase = .held .drbg then .ready else j.phase }))
  | .gen g => fresh (s.modGen g (fun _ => {}))
  | .tmk => fresh { s with
      kv.tmkOld := s.kv.tmk, kv.tmk := BitVec.ofNat 512 (ofLE (freeBytes s 64)), kv.sweep := true, kv.tmkWaiting := false }

/-- Internal requests that the front of the queue still takes after the next one (R364). -/
def State.drbgLeft (s : State) (d : DrbgFor) : Nat :=
  match d with
  | .job id n => requestsFor n - 1 - (if s.rng.part.1 = id then s.rng.part.2 else 0)
  | _ => 0

/-- The internal request at the front is served (R365); under prediction resistance, of the job or of the device, it reseeds first (R376).
A consumer has its output once the last of its internal requests is served; a fenced Random Unit serves none (R447). -/
def drbgRequestServedDo (s : State) : State :=
  if s.rng.state ≠ .ready ∨ s.fence engRandom ≠ .none then s
  else match s.rng.queue with
    | [] => s
    | d :: q =>
      let pr := s.rng.prAll || (match d with
        | .job id _ => (s.job? id).elim false (fun j => j.opcode == 0x0801 && j.pb 0 % 2 == 1)
        | _ => false)
      let t := { s with
        rng.requests := if pr then 0 else s.rng.requests + 1
        rng.reseeds := if pr then satInc s.rng.reseeds else s.rng.reseeds }
      match d, s.drbgLeft d with
      | .job id _, _ + 1 => { t with rng.part := (id, (if s.rng.part.1 = id then s.rng.part.2 else 0) + 1) }
      | _, _ => serveDrbg d { t with rng.queue := q, rng.part := (0, 0) }

/-- A request has waited 50 ms in STARTUP (R367). -/
def rngRequestTimeoutDo (job : Nat) (s : State) : State :=
  if s.rng.state = .startup ∧ s.rng.queue.any (fun d => match d with | .job id _ => id == job | _ => false) then
    drbgFail job stRngNotReady { s with rng.queue := s.rng.queue.filter (fun d => match d with | .job id _ => id != job | _ => true) }
  else s

/-- A write to RNG_CTRL (R369, R371): ignored in STARTUP and after RINSE. -/
def rngDomainResetDo (value : BitVec 32) (s : State) : State :=
  if bit value 0 ∧ s.rng.state ≠ .startup ∧ s.rng.cause ≠ 5 then
    rngRestart { s with rng.hostResets := satInc s.rng.hostResets }
  else s

/-- Thimble's automatic reset (R370). -/
def rngAutoResetDo (s : State) : State :=
  if s.rng.state = .failed ∧ s.rng.autoReset ∧ (s.rng.cause = 1 ∨ s.rng.cause = 2 ∨ s.rng.cause = 4) ∧ s.rng.autoLeft ≠ 0 ∧
      !s.thm.restarting ∧ !s.thm.halted ∧ !s.thm.fenced then
    rngRestart { s with rng.autoResets := satInc s.rng.autoResets, rng.autoLeft := s.rng.autoLeft - 1 }
  else s

/-- A generator reaches 2^19 draws (R372). -/
def mgReseedRequestDo (gen : BitVec 7) (s : State) : State :=
  if gen < 109 ∧ !(s.gen gen.toNat).requested then
    let s := s.modGen gen.toNat (fun g => { g with draws := max g.draws (2 ^ 19), requested := true })
    if s.rng.state = .ready then { s with rng.queue := s.rng.queue ++ [.gen gen.toNat] } else s
  else s

/-- A new seed arrives (R373): the generator switches to it and any stall ends. -/
def mgSeedArrivalDo (gen : BitVec 7) (s : State) : State :=
  if s.rng.state = .ready ∧ s.fence engRandom = .none ∧ (s.gen gen.toNat).requested then
    fresh ({ s with rng.queue := s.rng.queue.filter (fun d => d != DrbgFor.gen gen.toNat) }.modGen gen.toNat (fun _ => {}))
  else s

/-- A generator reaches 2^20 draws without a new seed (R373). -/
def mgStallDo (gen : BitVec 7) (s : State) : State :=
  if (s.gen gen.toNat).requested then s.modGen gen.toNat (fun g => { g with draws := 2 ^ 20, stalled := true }) else s

/-- A job has been stalled for 10 ms (R373): on its engine, or at check 10 behind the Key Vault's generator. -/
def mgStallTimeoutDo (job : Nat) (s : State) : State :=
  match s.job? job with
  | some j =>
    if j.stoppable && s.stalled j.engine then endWiping job stRngUnavailable s
    else if j.phase == .ready && s.stalled engVault then endNow job stRngUnavailable engVault s
    else s
  | none => s

/-- An automatic reset leaves the 3,600 s window (R370). -/
def autoResetWindowExpiryDo (s : State) : State :=
  if s.rng.autoLeft = 3 then s else { s with rng.autoLeft := s.rng.autoLeft + 1 }

/-! ## The meanings of the commands -/

/-- NOISE_STARTUP_TEST_COMPLETE (R363). -/
def execNoiseStartupTestComplete (aOk : Bool) (bOk : Bool) (kat : Bool) (rct : BitVec 16) (apt : BitVec 16) (aptMax : BitVec 11) (rctMax : BitVec 6) (s : State) : Host.Outcome State Fault Refusal := .next (powered (noiseStartupTestCompleteDo aOk bOk kat rct apt aptMax rctMax) s)
/-- HEALTH_TEST_FAILURE (R368). -/
def execHealthTestFailure (apt : Bool) (s : State) : Host.Outcome State Fault Refusal := .next (powered (healthTestFailureDo apt) s)
/-- DRBG_RESEED (R364). -/
def execDrbgReseed (s : State) : Host.Outcome State Fault Refusal := .next (powered drbgReseedDo s)
/-- DRBG_REQUEST_SERVED (R365). -/
def execDrbgRequestServed (s : State) : Host.Outcome State Fault Refusal := .next (powered drbgRequestServedDo s)
/-- RNG_REQUEST_TIMEOUT (R367). -/
def execRngRequestTimeout (job : Nat) (s : State) : Host.Outcome State Fault Refusal := .next (powered (rngRequestTimeoutDo job) s)
/-- RNG_DOMAIN_RESET (R369). -/
def execRngDomainReset (value : BitVec 32) (s : State) : Host.Outcome State Fault Refusal := .next (atBar (rngDomainResetDo value) s)
/-- RNG_AUTO_RESET (R370). -/
def execRngAutoReset (s : State) : Host.Outcome State Fault Refusal := .next (powered rngAutoResetDo s)
/-- MG_RESEED_REQUEST (R372). -/
def execMgReseedRequest (gen : BitVec 7) (s : State) : Host.Outcome State Fault Refusal := .next (powered (mgReseedRequestDo gen) s)
/-- MG_SEED_ARRIVAL (R373). -/
def execMgSeedArrival (gen : BitVec 7) (s : State) : Host.Outcome State Fault Refusal := .next (powered (mgSeedArrivalDo gen) s)
/-- MG_STALL (R373). -/
def execMgStall (gen : BitVec 7) (s : State) : Host.Outcome State Fault Refusal := .next (powered (mgStallDo gen) s)
/-- MG_STALL_TIMEOUT (R373). -/
def execMgStallTimeout (job : Nat) (s : State) : Host.Outcome State Fault Refusal := .next (powered (mgStallTimeoutDo job) s)
/-- AUTO_RESET_WINDOW_EXPIRY (R370). -/
def execAutoResetWindowExpiry (s : State) : Host.Outcome State Fault Refusal := .next (powered autoResetWindowExpiryDo s)

end Sys2Proof.Machine
end

