-- ==== Sys2Proof/Machine/Operands.lean ====
section
/-! DEFINITION. Operands of a job: DESC_CTRL, descriptors, the parameter block, key handles and attribute blocks, and
the checks of R106 that depend on them (04_jobs_and_status.md, R304, R307). -/
namespace Sys2Proof.Machine

/-! ## Job header and body (R69, R99 to R103) -/

/-- A descriptor from its 16 bytes (R101); `clean` when reserved bits are 0 and LEN is in range. -/
def parseDesc (b : Bytes) : Desc :=
  let w := fieldLE b 12 4
  let len := fieldLE b 8 4
  { addr := fieldLE b 0 8, len := len, out := decide (w / 2 ^ 31 = 1), arg := w / 2 ^ 24 % 16
    clean := decide (w % 2 ^ 24 = 0) && decide (w / 2 ^ 28 % 8 = 0) && decide (1 ≤ len) && decide (len ≤ 0x0FFFFFFF) }

/-- `n` descriptors from a byte string. -/
def parseDescs (n : Nat) (b : Bytes) : List Desc := (List.range n).map (fun k => parseDesc (cut b (16 * k) 16))

/-- Sum of LEN over the descriptors of an argument (R102). -/
def sumLen (ds : List Desc) (out : Bool) (arg : Nat) : Nat :=
  ((ds.filter (fun d => d.out == out && d.arg == arg)).map (·.len)).foldl (· + ·) 0

/-- Sum of LEN over all descriptors of a direction. -/
def sumDir (ds : List Desc) (out : Bool) : Nat := ((ds.filter (fun d => d.out == out)).map (·.len)).foldl (· + ·) 0

/-! ## What an opcode asks of a job -/

/-- A key that a job names, with what R312 checks of it. -/
structure KeyUse where
  handle : Nat
  /-- FAMILY and ALG codes accepted at check 6; no code listed accepts every algorithm. -/
  fam : Nat := 0
  algs : List Nat := []
  anyAlg : Bool := false
  /-- PARAM of the attribute block, where the opcode fixes it. -/
  param : Option Nat := none
  /-- Usage bits required (R307). -/
  usage : Nat := 0
  /-- The key goes to a Needle key port (R312, check 3). -/
  needle : Bool := false
  /-- The device draws the IV: a usage limit of at most 2^32 is required (R270). -/
  ivgen : Bool := false
  /-- Only checks 1 and 2 apply, and no use is counted (R323, R340). -/
  light : Bool := false

/-- What the owning chapter states about one job: arguments, parameter block, key, engine class, cost. -/
structure OpReq where
  slice0 : Bool := false
  /-- AEAD decryption opcode: UVS permitted (check 3). -/
  uvs : Bool := false
  /-- Input arguments carried by descriptors, with declared lengths. -/
  ins : List (Nat × Nat) := []
  /-- Input arguments whose length would follow from a parameter set that is not defined: check 9 refuses the job (R122, R224, R250). -/
  unsized : List Nat := []
  /-- Output arguments with the maximum length each produces. -/
  outs : List (Nat × Nat) := []
  /-- Output arguments whose maximum length follows from the key that the job names: their capacity is compared once the keys have
  resolved, since checks 1 to 9 depend on no key (R102, R106; log 88). -/
  late : List (Nat × Nat) := []
  /-- The parameter block has a permitted length. -/
  plen : Bool := true
  /-- Outcome of check 9. -/
  check9 : Nat := 0
  /-- The handle must be zero (R548). -/
  noKey : Bool := false
  /-- An operator quorum must be in force at check 10 (R251, R338, R512). -/
  quorum : Bool := false
  /-- Keys resolved at check 10, in order. -/
  keys : List KeyUse := []
  /-- A refusal at check 10 that the owning chapter states, once the keys have resolved; 0 for none. -/
  deny : Nat := 0
  /-- The job creates or imports a key (R458). -/
  creates : Bool := false
  /-- DRBG output the job needs before dispatch, in bytes (R367). -/
  drbg : Nat := 0
  /-- Cost class; 7 Key Vault, 8 Random Unit, 9 mailbox. -/
  cls : Nat := 6
  charge : Nat := 640
  /-- Deadline bound; none: always long (R411). -/
  bound : Option Nat := some 1280
  /-- Computation touches secrets: masked, not placed on a stalled engine (R374). -/
  masked : Bool := true
  /-- Class, charge and bound of the other engine class over which the Scheduler chains the job (R139, R410). -/
  other : Option (Nat × Nat × Option Nat) := none

/-- First non-zero status of a list. -/
def firstBad : List Nat → Nat
  | [] => 0
  | 0 :: r => firstBad r
  | n :: _ => n

/-- A parameter fault as a status. -/
def bad (b : Bool) : Nat := if b then stBadParameter else 0

/-- All bytes from `i` on, `n` of them, are zero. -/
def isZero (p : Bytes) (i n : Nat) : Bool := (cut p i n).all (· == 0)

/-! ## Checks 4, 5, 7 and 8 (R106) -/

/-- Check 4. -/
def check4 (j : Job) : Bool :=
  decide (fld j.descCtrl 0 16 = 0) && !bit j.descCtrl 28 && decide (j.mode ≠ 3) &&
  (match j.mode with
    | 0 => j.count == 0
    | 1 => decide (1 ≤ j.count) && decide (j.count ≤ 61)
    | _ => decide (1 ≤ j.count) && (decide (j.body.length < 16) ||
        (decide (fieldLE j.body 0 8 % 16 = 0) && decide (fieldLE j.body 8 4 ≤ 0x0FFFFFFF) && decide (fieldLE j.body 12 4 ≤ 0x0FFFFFFF))))

/-- Check 7. -/
def check7 (r : OpReq) (ds : List Desc) : Bool :=
  ds.all (fun d => d.clean && (if d.out then r.outs.any (fun a => a.1 == d.arg) else r.ins.any (fun a => a.1 == d.arg)))

/-- Output 0 may be returned inline alone: every other opcode carries its arguments by descriptors (R102, R189, R331; log 80). -/
def inlineAlone (op : Nat) : Bool := op == 0x0610 || op == 0x070A || op == 0x0801

/-- Check 8. -/
def check8 (j : Job) (r : OpReq) (ds : List Desc) : Bool :=
  (j.mode != 2 || (sumDir ds false == fieldLE j.body 8 4 && sumDir ds true == fieldLE j.body 12 4)) &&
  r.ins.all (fun a => (r.unsized.contains a.1 || sumLen ds false a.1 == a.2) && decide (a.2 ≤ 0x0FFFFFFF)) && r.plen &&
  r.outs.all (fun a =>
    let own := sumLen ds true a.1
    let cap := if a.1 = 0 ∧ j.inl ∧ own = 0 ∧ inlineAlone j.opcode then 16 else own
    decide (own ≤ 0x0FFFFFFF) && decide (a.2 ≤ cap))

/-- The capacities of the outputs whose length follows from the key hold them (R102, R106). -/
def lateFits (j : Job) (r : OpReq) : Bool := r.late.all (fun a => decide (a.2 ≤ sumLen j.descs true a.1))

/-- Check 9: parameter values, the key handle, and the staged output of at most 1 MiB, which a long unverified stream does
not stage (R107, R111, R112). -/
def check9 (j : Job) (r : OpReq) : Nat :=
  let total := (r.outs.map (·.2)).sum
  if r.check9 ≠ 0 then r.check9
  else if r.noKey ∧ j.key ≠ 0 then stBadParameter
  else if 1048576 < total ∧ !(j.uvs && r.uvs) then stOutputTooLarge
  else 0

/-! ## Handles and attribute blocks (R304, R307) -/

def hClass (h : Nat) : Nat := h / 2 ^ 44 % 4
def hSlice (h : Nat) : Nat := h / 2 ^ 36 % 256
def hGen (h : Nat) : Nat := h / 2 ^ 20 % 65536
def hIndex (h : Nat) : Nat := h % 2 ^ 20
def hHigh (h : Nat) : Nat := h / 2 ^ 46

/-- A handle put together. -/
def mkHandle (cls sl gen idx : Nat) : Nat := cls * 2 ^ 44 + sl * 2 ^ 36 + gen * 2 ^ 20 + idx

def aFam (a : Bytes) : Nat := (byteAt a 0).toNat
def aAlg (a : Bytes) : Nat := (byteAt a 1).toNat
def aMasters (a : Bytes) : Nat := (byteAt a 2).toNat
def aWorlds (a : Bytes) : Nat := (byteAt a 3).toNat
def aLcs (a : Bytes) : Nat := (byteAt a 4).toNat
def aFlags (a : Bytes) : Nat := (byteAt a 5).toNat
def aUsage (a : Bytes) : Nat := fieldLE a 6 2
def aParam (a : Bytes) : Nat := fieldLE a 8 4
def aNotBefore (a : Bytes) : Nat := fieldLE a 12 8
def aNotAfter (a : Bytes) : Nat := fieldLE a 20 8
def aLimit (a : Bytes) : Nat := fieldLE a 28 6
def aOrder2 (a : Bytes) : Bool := (aFlags a).testBit 0
def aStateful (a : Bytes) : Bool := (aFlags a).testBit 1
def aQuorum (a : Bytes) : Bool := (aWorlds a).testBit 3

/-- Usage bits (R307). -/
abbrev uSign : Nat := 0x001
abbrev uVerify : Nat := 0x002
abbrev uEncaps : Nat := 0x004
abbrev uDecaps : Nat := 0x008
abbrev uDerive : Nat := 0x010
abbrev uWrap : Nat := 0x020
abbrev uUnwrap : Nat := 0x040
abbrev uPin : Nat := 0x080
abbrev uMac : Nat := 0x100
abbrev uExport : Nat := 0x200
abbrev uMigrate : Nat := 0x400

/-- An attribute block put together (R307) from family, algorithm, masters, worlds, LCS mask, flags, usage and PARAM. -/
def mkAttr (fam alg_ masters worlds lcs flags usage param : Nat) : Bytes :=
  leBytes 1 fam ++ leBytes 1 alg_ ++ leBytes 1 masters ++ leBytes 1 worlds ++ leBytes 1 lcs ++ leBytes 1 flags ++
  leBytes 2 usage ++ leBytes 4 param ++ zeros 36

end Sys2Proof.Machine
end

