-- ==== Sys2Proof/Machine/Curves.lean ====
section
/-! DEFINITION. Domain parameters of the curves of R250 and R251, and the arithmetic that R252, R256, R257 and R258 state on them. The
numbers of the named curves are those of the standards that R250 names (log 89). -/
namespace Sys2Proof.Machine

/-- A curve: the prime of its field, the order of its group, and a and b of a short-Weierstrass equation. -/
structure CurveDom where
  p : Nat := 0
  n : Nat := 0
  a : Nat := 0
  b : Nat := 0
deriving DecidableEq, Repr

/-- The named curves, by PSET (R250); log 89. -/
def namedCurve : Nat → CurveDom
  | 0x01 => {  -- P-256
      p := 2 ^ 256 - 2 ^ 224 + 2 ^ 192 + 2 ^ 96 - 1
      n := 0xFFFFFFFF00000000FFFFFFFFFFFFFFFFBCE6FAADA7179E84F3B9CAC2FC632551
      a := 2 ^ 256 - 2 ^ 224 + 2 ^ 192 + 2 ^ 96 - 4
      b := 0x5AC635D8AA3A93E7B3EBBD55769886BC651D06B0CC53B0F63BCE3C3E27D2604B }
  | 0x02 => {  -- P-384
      p := 2 ^ 384 - 2 ^ 128 - 2 ^ 96 + 2 ^ 32 - 1
      n := 0xFFFFFFFFFFFFFFFFFFFFFFFFFFFFFFFFFFFFFFFFFFFFFFFFC7634D81F4372DDF581A0DB248B0A77AECEC196ACCC52973
      a := 2 ^ 384 - 2 ^ 128 - 2 ^ 96 + 2 ^ 32 - 4
      b := 0xB3312FA7E23EE7E4988E056BE3F82D19181D9C6EFE8141120314088F5013875AC656398D8A2ED19D2A85C8EDD3EC2AEF }
  | 0x03 => {  -- P-521
      p := 2 ^ 521 - 1
      n := 0x1FFFFFFFFFFFFFFFFFFFFFFFFFFFFFFFFFFFFFFFFFFFFFFFFFFFFFFFFFFFFFFFFFA51868783BF2F966B7FCC0148F709A5D03BB5C9B8899C47AEBB6FB71E91386409
      a := 2 ^ 521 - 4
      b := 0x51953EB9618E1C9A1F929A21A0B68540EEA2DA725B99B315F3B8B489918EF109E156193951EC7E937B1652C0BD3BB1BF073573DF883D2C34F1EF451FD46B503F00 }
  | 0x04 => {  -- secp256k1
      p := 2 ^ 256 - 2 ^ 32 - 977
      n := 0xFFFFFFFFFFFFFFFFFFFFFFFFFFFFFFFEBAAEDCE6AF48A03BBFD25E8CD0364141
      a := 0x0
      b := 0x7 }
  | 0x05 => {  -- brainpoolP256r1
      p := 0xA9FB57DBA1EEA9BC3E660A909D838D726E3BF623D52620282013481D1F6E5377
      n := 0xA9FB57DBA1EEA9BC3E660A909D838D718C397AA3B561A6F7901E0E82974856A7
      a := 0x7D5A0975FC2C3057EEF67530417AFFE7FB8055C126DC5C6CE94A4B44F330B5D9
      b := 0x26DC5C6CE94A4B44F330B5D9BBD77CBF958416295CF7E1CE6BCCDC18FF8C07B6 }
  | 0x06 => {  -- brainpoolP384r1
      p := 0x8CB91E82A3386D280F5D6F7E50E641DF152F7109ED5456B412B1DA197FB71123ACD3A729901D1A71874700133107EC53
      n := 0x8CB91E82A3386D280F5D6F7E50E641DF152F7109ED5456B31F166E6CAC0425A7CF3AB6AF6B7FC3103B883202E9046565
      a := 0x7BC382C63D8C150C3C72080ACE05AFA0C2BEA28E4FB22787139165EFBA91F90F8AA5814A503AD4EB04A8C7DD22CE2826
      b := 0x4A8C7DD22CE28268B39B55416F0447C2FB77DE107DCD2A62E880EA53EEB62D57CB4390295DBC9943AB78696FA504C11 }
  | 0x07 => {  -- brainpoolP512r1
      p := 0xAADD9DB8DBE9C48B3FD4E6AE33C9FC07CB308DB3B3C9D20ED6639CCA703308717D4D9B009BC66842AECDA12AE6A380E62881FF2F2D82C68528AA6056583A48F3
      n := 0xAADD9DB8DBE9C48B3FD4E6AE33C9FC07CB308DB3B3C9D20ED6639CCA70330870553E5C414CA92619418661197FAC10471DB1D381085DDADDB58796829CA90069
      a := 0x7830A3318B603B89E2327145AC234CC594CBDD8D3DF91610A83441CAEA9863BC2DED5D5AA8253AA10A2EF1C98B9AC8B57F1117A72BF2C7B9E7C1AC4D77FC94CA
      b := 0x3DF91610A83441CAEA9863BC2DED5D5AA8253AA10A2EF1C98B9AC8B57F1117A72BF2C7B9E7C1AC4D77FC94CADC083E67984050B75EBAE5DD2809BD638016F723 }
  | 0x10 | 0x12 => { p := 2 ^ 255 - 19, n := 2 ^ 252 + 27742317777372353535851937790883648493 }  -- Ed25519, X25519
  | 0x11 | 0x13 => {  -- Ed448, X448
      p := 2 ^ 448 - 2 ^ 224 - 1
      n := 2 ^ 446 - 13818066809895115352007386748515426880336692474882178609894547503885 }
  | _ => {}

/-- Number `k` of a curve description (R262): p, a, b, Gx, Gy, n, each of ⌈FBITS/8⌉ big-endian bytes after FBITS. -/
def curveNum (c : Bytes) (k : Nat) : Nat :=
  let l := ceilDiv (fieldLE c 0 2) 8
  ofBE (cut c (2 + k * l) l)

/-- The curve of a PSET, from the description in its slot where it names one (R251). -/
def curveDom (set : Nat) (c : Option Bytes) : CurveDom :=
  if 0x80 ≤ set then c.elim {} (fun c => { p := curveNum c 0, n := curveNum c 5, a := curveNum c 1, b := curveNum c 2 }) else namedCurve set

/-- b to the power e modulo p, by repeated squaring over `k` bits of e. -/
def powMod (p : Nat) : Nat → Nat → Nat → Nat
  | 0, _, _ => 1 % p
  | k + 1, b, e =>
    let r := powMod p k (b * b % p) (e / 2)
    if e % 2 = 1 then b * r % p else r

/-- A number has a square root modulo an odd prime (Euler's criterion). -/
def isSquare (p v : Nat) : Bool := v % p == 0 || powMod p 528 (v % p) ((p - 1) / 2) == 1

/-- x³ + ax + b modulo p. -/
def CurveDom.rhs (d : CurveDom) (x : Nat) : Nat := (x ^ 3 + d.a * x + d.b) % d.p

/-- An Edwards y decodes (R256, order 4): x² = (y² − 1) / (dy² + 1) for Ed25519 and (y² − 1) / (dy² − 1) for Ed448 has a root, and
x = 0 comes with sign 0. -/
def edDecodes (set y : Nat) (sign : Bool) : Bool :=
  let p := (namedCurve set).p
  let u := (y ^ 2 + p - 1) % p
  let v := if set = 0x10 then 37095705934669439343138083508754565189542113879843219016388785533085940283555 * y ^ 2 + 1
    else (p - 39081) * y ^ 2 + (p - 1)
  isSquare p (u * v) && !(sign && u == 0)

/-- Orders 3 and 4 of R256 on a public point of the right length and first byte: 0 when they pass. What the rule states of a Montgomery
u beyond its range is left to the standard's test (log 5). -/
def pointStatus (set l : Nat) (d : CurveDom) (pk : Bytes) : Nat :=
  if 0x12 = set ∨ 0x13 = set then (if (if set = 0x12 then ofLE pk % 2 ^ 255 else ofLE pk) < d.p then 0 else stNoncanonicalInput)
  else if 0x10 = set ∨ 0x11 = set then
    let y := ofLE pk % 2 ^ (8 * l - 1)
    if d.p ≤ y then stNoncanonicalInput else if edDecodes set y (bit (byteAt pk (l - 1)) 7) then 0 else stPointInvalid
  else
    let x := ofBE (cut pk 1 l)
    let y := ofBE (pk.drop (1 + l))
    if d.p ≤ x ∨ d.p ≤ y then stNoncanonicalInput
    else if (if byteAt pk 0 = 4 then (y ^ 2) % d.p == d.rhs x else isSquare d.p (d.rhs x)) then 0 else stPointInvalid

/-- Bits of a number. -/
def bitLen (n : Nat) : Nat := if n = 0 then 0 else Nat.log2 n + 1

/-- Set bits among the low `k` bits of a number. -/
def weight (k n : Nat) : Nat := ((List.range k).filter (fun i => n.testBit i)).length

/-- A scalar from DRBG output (R257): the leading bits of it, 64 more than n has, reduced modulo n − 1, plus 1 (log 104). -/
def drawScalar (n : Nat) (seed : Bytes) : Nat := ofBE seed / 2 ^ (8 * seed.length - (bitLen n + 64)) % (n - 1) + 1

/-- A private scalar is one that an import takes (R257): from 1 to n − 1, or not zero before clamping. -/
def scalarOk (set : Nat) (d : CurveDom) (m : Bytes) : Bool :=
  if 0x12 = set ∨ 0x13 = set then !m.all (· == 0) else decide (0 < ofBE m) && decide (ofBE m < d.n)

/-- n and e of an RSA public key meet R257: n has its top bit and is odd; e is odd and lies in 2^16 to 2^256. -/
def rsaPubOk (k : Nat) (pk : Bytes) : Bool :=
  let e := ofBE (cut pk k 32)
  bit (byteAt pk 0) 7 && decide (ofBE (cut pk 0 k) % 2 = 1) && decide (e % 2 = 1) && decide (2 ^ 16 ≤ e)

/-- The parts of an RSA private key of modulus length `k` agree (R254, R257): n = pq, the CRT exponents invert e, and qInv inverts q. -/
def rsaPartsOk (k : Nat) (m : Bytes) : Bool :=
  let v (i : Nat) : Nat := ofBE (cut m (k + 32 + i * (k / 2)) (k / 2))
  let e := ofBE (cut m k 32)
  decide (ofBE (cut m 0 k) = v 0 * v 1) && decide (e * v 2 % (v 0 - 1) = 1) && decide (e * v 3 % (v 1 - 1) = 1) &&
  decide (v 1 * v 4 % v 0 = 1)

end Sys2Proof.Machine
end

