-- ==== Sys2Proof/Machine/Keys.lean ====
section
/-! DEFINITION. Keys: what each algorithm stores, attribute checks, creation, resolution with its checks and use counting,
the journal (12_key_vault.md; the stored forms of R122, R199, R204, R225, R250, R265, R308, R339, R348). -/
namespace Sys2Proof.Machine

/-! ## Algorithms by family and ALG code -/

/-- Public key, ciphertext and signature lengths of a lattice set (R123); 0 where it has none. -/
def latSizes : Nat → Nat × Nat × Nat
  | 0x01 => (800, 768, 0) | 0x02 => (1184, 1088, 0) | 0x03 => (1568, 1568, 0)
  | 0x11 => (1312, 0, 2420) | 0x12 => (1952, 0, 3309) | 0x13 => (2592, 0, 4627)
  | 0x21 => (897, 0, 666) | 0x22 => (1793, 0, 1280) | _ => (0, 0, 0)

def isKem (p : Nat) : Bool := p ∈ [0x01, 0x02, 0x03]
def isMlDsa (p : Nat) : Bool := p ∈ [0x11, 0x12, 0x13]
def isFnDsa (p : Nat) : Bool := p ∈ [0x21, 0x22]

/-- n, public key, signature and slots of an SLH-DSA set (R198); the SHAKE sets follow the table's order (log 93). -/
def slhSizes (p : Nat) : Nat × Nat × Nat × Nat :=
  match (if 0x49 ≤ p then p - 8 else p) with
  | 0x41 => (16, 32, 7856, 66) | 0x42 => (16, 32, 17088, 3) | 0x43 => (24, 48, 16224, 98)
  | 0x44 => (24, 48, 35664, 3) | 0x45 => (32, 64, 29792, 66) | 0x46 => (32, 64, 49856, 6) | _ => (0, 0, 0, 0)

/-- Leaves of the top hypertree layer that an SLH-DSA key holds (R198). -/
def slhLeafCount (p : Nat) : Nat :=
  match (if 0x49 ≤ p then p - 8 else p) with
  | 0x41 | 0x43 => 512 | 0x42 | 0x44 => 8 | 0x45 => 256 | 0x46 => 16 | _ => 0

def isSlh (p : Nat) : Bool := (0x41 ≤ p ∧ p ≤ 0x46) ∨ (0x49 ≤ p ∧ p ≤ 0x4E)
def isLms (p : Nat) : Bool := 0x51 ≤ p ∧ p ≤ 0x54
def isXmss (p : Nat) : Bool := 0x61 ≤ p ∧ p ≤ 0x64
/-- Hash length n of a stateful set (R203). -/
def hbsN (p : Nat) : Nat := if p % 2 = 1 then 32 else 24

/-- Public key, ciphertext, shared secret, slots and cache pages of a code-based set (R224). -/
def cbSizes (p : Nat) : Nat × Nat × Nat × Nat × Nat :=
  match p with
  | 0x01 | 0x02 => (261120, 96, 32, 52, 64) | 0x03 | 0x04 => (524160, 156, 32, 108, 128)
  | 0x05 | 0x06 => (1044992, 208, 32, 110, 256) | 0x07 | 0x08 => (1047319, 194, 32, 110, 256)
  | 0x09 | 0x0A => (1357824, 208, 32, 112, 332)
  | 0x11 => (2249, 4433, 64, 1, 1) | 0x12 => (4522, 8978, 64, 1, 2) | 0x13 => (7245, 14421, 64, 1, 2)
  | _ => (0, 0, 0, 0, 0)

def isCme (p : Nat) : Bool := 0x01 ≤ p ∧ p ≤ 0x0A
def isHqc (p : Nat) : Bool := 0x11 ≤ p ∧ p ≤ 0x13

/-- The curve description in a loaded slot (R251), none where the slot is empty. -/
def State.curve (s : State) (p : Nat) : Option Bytes := tget s.thm.curves none (p - 0x80)

def hbsHeight (a : Bytes) : Nat := (byteAt a 8).toNat
def hbsW (a : Bytes) : Nat := (byteAt a 9).toNat
def hbsLevels (a : Bytes) : Nat := (byteAt a 10).toNat

/-- Chains of a one-time signature (RFC 8554, RFC 8391), by n and W. -/
def hbsChains (alg_ w : Nat) : Nat :=
  if isXmss alg_ then (if hbsN alg_ = 32 then 67 else 51)
  else if hbsN alg_ = 32 then (if w = 1 then 265 else if w = 2 then 133 else if w = 4 then 67 else 34)
  else (if w = 1 then 200 else if w = 2 then 101 else if w = 4 then 51 else 26)

/-- Public key length of a stateful set with `lv` levels (R215: sizes are those of the standard). -/
def hbsPkLen (alg_ lv : Nat) : Nat :=
  if isLms alg_ then (if lv = 2 then 28 else 24) + hbsN alg_ else 4 + 2 * hbsN alg_

/-- Signature length of a stateful set. -/
def hbsSigLen (alg_ h w lv : Nat) : Nat :=
  let n := hbsN alg_
  let c := hbsChains alg_ w
  if isLms alg_ then
    let one := 12 + n * (c + 1) + h * n
    if lv = 2 then 4 + one + (24 + n) + one else one
  else if lv = 2 then ceilDiv (2 * h) 8 + n + 2 * (c * n) + 2 * h * n
  else 4 + n + c * n + h * n

/-- Type codes with which a stateful public key begins (RFC 8554, RFC 8391, SP 800-208; log 94). -/
def hbsPkHead (alg_ h w lv : Nat) : Bytes :=
  let v := (alg_ - 1) % 16
  if isLms alg_ then
    (if lv = 2 then beBytes 4 2 else []) ++ beBytes 4 (5 * (v + 1) + (h / 5 - 1)) ++
      beBytes 4 (4 * v + (if w = 1 then 1 else if w = 2 then 2 else if w = 4 then 3 else 4))
  else if lv = 2 then beBytes 4 ([0x01, 0x21, 0x29, 0x31].getD v 0 + (if h = 20 then 2 else 0))
  else beBytes 4 ([0x01, 0x0D, 0x10, 0x13].getD v 0 + (if h = 20 then 2 else if h = 16 then 1 else 0))

/-- Segments per tree and the length of one stored segment (R205). -/
def hbsSegs (h : Nat) : Nat := 2 ^ (max h 14 - 14)
def hbsZ (alg_ h : Nat) : Nat := (2 ^ (min h 14 + 1) - 1) * hbsN alg_

/-- Byte length of a field element of a curve set (R250). -/
def State.curveLen (s : State) (p : Nat) : Nat :=
  match p with
  | 0x01 | 0x04 | 0x05 | 0x10 | 0x12 => 32 | 0x02 | 0x06 => 48 | 0x03 => 66 | 0x07 => 64 | 0x11 => 57 | 0x13 => 56
  | _ => if 0x80 ≤ p ∧ p ≤ 0x8F then (s.curve p).elim 0 (fun c => ceilDiv (fieldLE c 0 2) 8) else 0

def isRsa (p : Nat) : Bool := 0x40 ≤ p ∧ p ≤ 0x42
/-- Modulus length of an RSA set in bytes (R250). -/
def rsaLen (p : Nat) : Nat := if p = 0x40 then 256 else if p = 0x41 then 384 else if p = 0x42 then 512 else 0
def isWeier (p : Nat) : Bool := (0x01 ≤ p ∧ p ≤ 0x07) ∨ (0x80 ≤ p ∧ p ≤ 0x8F)
def isEdwards (p : Nat) : Bool := p = 0x10 ∨ p = 0x11
def isMont (p : Nat) : Bool := p = 0x12 ∨ p = 0x13

/-- Key bytes of a symmetric algorithm (R265); 0 for a code that names none. -/
def symLen : Nat → Nat
  | 0x01 => 16 | 0x02 => 24 | 0x03 => 32 | 0x04 => 32 | 0x05 => 64 | 0x11 => 16 | 0x12 => 24 | _ => 0

/-- The keyed digest functions (R172). -/
def isKeyed (f : Nat) : Bool := (0x41 ≤ f ∧ f ≤ 0x45) ∨ (0x51 ≤ f ∧ f ≤ 0x54) ∨ (0x61 ≤ f ∧ f ≤ 0x64)

/-- Slots of a key (R199, R204, R225, R250); every other key occupies one. What an upper level of XMSS^MT signs is the n bytes of a root
(log 94). -/
def State.slotCount (s : State) (a : Bytes) : Nat :=
  match aFam a with
  | 0x02 =>
    if aStateful a then
      let upper := if isLms (aAlg a) then hbsSigLen (aAlg a) (hbsHeight a) (hbsW a) 1 + hbsPkLen (aAlg a) 1 else (hbsChains (aAlg a) 16 + hbsHeight a + 1) * hbsN (aAlg a)
      2 + ceilDiv (hbsSegs (hbsHeight a) * hbsN (aAlg a)) 128 + (if hbsLevels a = 2 then ceilDiv (2 * upper) 128 else 0)
    else (slhSizes (aAlg a)).2.2.2
  | 0x03 => (cbSizes (aAlg a)).2.2.2.1
  | 0x04 => if aAlg a = 0x40 then 8 else if aAlg a = 0x41 then 12 else if aAlg a = 0x42 then 15
            else if 64 < s.curveLen (aAlg a) then 2 else 1
  | _ => 1

/-- Secret bytes of a key whose secret is drawn or derived as such (R122, R225, R250, R265, R307, R308, R348). -/
def State.secretLen (s : State) (a : Bytes) : Nat :=
  match aFam a with
  | 0x01 => if isKem (aAlg a) then 64 else 32
  | 0x02 => if aStateful a && isLms (aAlg a) then hbsN (aAlg a) + 16 else if aStateful a then 2 * hbsN (aAlg a) else 2 * (slhSizes (aAlg a)).1
  | 0x03 => if isCme (aAlg a) then 32 else 56
  | 0x04 => s.curveLen (aAlg a)
  | 0x05 => symLen (aAlg a)
  | 0x06 => (byteAt a 8).toNat
  | 0x07 => if aAlg a = 1 then 32 else if aAlg a = 2 then 64 else (byteAt a 8).toNat
  | 0x09 => symLen (aAlg a)
  | _ => 16

/-- FAMILY and ALG name a key algorithm (R309). -/
def State.algKnown (s : State) (fam a : Nat) : Bool :=
  match fam with
  | 0x01 => isKem a || isMlDsa a || isFnDsa a
  | 0x02 => isSlh a || isLms a || isXmss a
  | 0x03 => isCme a || isHqc a
  | 0x04 => isRsa a || decide (0 < s.curveLen a)
  | 0x05 => decide (0 < symLen a)
  | 0x06 => isKeyed a
  | 0x07 => a ∈ [0x01, 0x02, 0x03, 0x08]
  | 0x09 => a ∈ [0x01, 0x02, 0x03]
  | 0x0A => a ∈ [0x01, 0x02, 0x03, 0x04, 0x05, 0x11, 0x12, 0x13]
  | _ => false

/-- HEIGHT, W and LEVELS of a stateful key are ones R203 offers. -/
def hbsParamOk (alg_ h w lv : Nat) : Bool :=
  if isLms alg_ then
    (lv == 1 || lv == 2) && decide (h ∈ [5, 10, 15, 20]) && decide (w ∈ (if lv = 2 then [4, 8] else [1, 2, 4, 8]))
  else decide (w = 16) && ((lv == 1 && decide (h ∈ [10, 16, 20])) || (lv == 2 && decide (h ∈ [10, 20])))

/-- PARAM agrees with R203, R307 and R308. -/
def paramOk (a : Bytes) : Bool :=
  let p0 := (byteAt a 8).toNat
  match aFam a with
  | 0x02 => if aStateful a then hbsParamOk (aAlg a) p0 (byteAt a 9).toNat (byteAt a 10).toNat && byteAt a 11 == 0
            else aParam a == 0
  | 0x06 => decide (1 ≤ p0) && decide (p0 ≤ 64) && isZero a 9 3
  | 0x07 => if aAlg a = 3 then decide (1 ≤ p0) && decide (p0 ≤ 66) && isZero a 9 3
            else if aAlg a = 8 then decide (16 ≤ p0) && decide (p0 ≤ 64) && isZero a 9 3 else aParam a == 0
  | _ => aParam a == 0

/-- Usage bits that R308 permits a family-0x07 key. -/
def usage07 (alg_ : Nat) : Nat := uDerive + uExport + uMigrate + (if alg_ = 8 then uMac else 0)

/-- An attribute block that host software supplies passes R309. -/
def State.attrOk (s : State) (slice : Nat) (a : Bytes) : Bool :=
  isZero a 42 6 && decide (aMasters a < 16) && decide (aWorlds a < 16) &&
  decide (aLcs a < 8) && decide (aFlags a < 4) && decide (aUsage a < 2048) &&
  s.algKnown (aFam a) (aAlg a) &&
  (aFam a != 7 || (aUsage a &&& usage07 (aAlg a)) == aUsage a) &&
  !(aMasters a).testBit 2 && !(aWorlds a).testBit 2 &&
  (!(aWorlds a).testBit 1 || (slice == 0 && s.quorumInForce)) &&
  (aMasters a).testBit 0 && (aFam a != 4 || (aMasters a).testBit 3) &&
  (!aOrder2 a || !(aFam a == 2 || aFam a == 4 || (aFam a == 1 && isFnDsa (aAlg a)))) &&
  (aStateful a == (aFam a == 2 && (isLms (aAlg a) || isXmss (aAlg a)))) && paramOk a &&
  (aNotAfter a == 0 || decide (aNotBefore a ≤ aNotAfter a))

/-! ## Creating a key (R306, R316, R317) -/

/-- Checks room and quota for a new key of `n` slots: where its run begins, or the status (R316). -/
def State.placeRun (s : State) (kt : Bool) (slice n : Nat) : Nat ⊕ Nat :=
  let quota := if kt then (s.slice slice).quotaKt.toNat else (s.slice slice).quotaPs.toNat
  match s.freeRun kt n with
  | none => .inr (if kt then stKeyTableFull else stPersistentStoreFull)
  | some i => if quota < s.slotsHeld kt slice + n then .inr stSliceQuotaExceeded else .inl i

/-- Lays a new key down at base slot `i` (R306, R317): a slot of generation 0x0000 gives GEN 0x0001. -/
def putKey (kt eph : Bool) (slice i : Nat) (attr : Bytes) (origin : BitVec 8) (n : Nat) (material : Bytes) (s : State) : State :=
  let g := (s.slot kt i).gen
  layRun kt i {
    kind := .base, count := n, gen := if g = 0 then 1 else g, slice := slice, layout := 1, origin := origin, data := i,
    eph := eph, attr := fit 48 attr, material := fit (64 + 128 * (n - 1)) material } s

/-- The handle of the key at a base slot (R304). -/
def State.handleOf (s : State) (kt : Bool) (i : Nat) : Nat :=
  let b := s.slot kt i
  mkHandle (if kt then (if b.eph then 2 else 0) else 1) b.slice b.gen.toNat i

/-- Creates a key for a slice: class 0 resident, 1 persistent, 2 session-ephemeral (R302). Answers the new state and the
base slot, or the status that refuses it. -/
def createKey (cls slice : Nat) (attr : Bytes) (origin : BitVec 8) (material : Bytes) (s : State) : (State × Nat) ⊕ Nat :=
  let kt := cls != 1
  let n := s.slotCount attr
  if s.kv.rinsed then .inr stKeyNotFound
  else match s.placeRun kt slice n with
    | .inr st => .inr st
    | .inl i => .inl (putKey kt (cls == 2) slice i attr origin n material s, i)

/-! ## Resolution (R311 to R313) -/

/-- World of a job of a slice: TENANT, or OPERATOR for slice 0 under a quorum (R311); a bit of WORLDS. -/
def State.world (s : State) (slice : Nat) : Nat := if slice = 0 ∧ s.quorumInForce then 1 else 0

/-- The life-cycle state is set in a mask (R312, check 4; R457). -/
def State.lcsIn (s : State) (mask : Nat) : Bool :=
  match s.lcs.state with
  | .maker => mask.testBit 0 | .integrator => mask.testBit 1 | .fielded => mask.testBit 2 | _ => false

/-- Checks 1 and 2 of R312: where the key stands, or the status. Device-fixed handles follow R310; after RINSE every lookup
gives KEY_NOT_FOUND (R327). -/
def State.locate (s : State) (slice h : Nat) : (Bool × Nat) ⊕ Nat :=
  let kt := hClass h != 1
  let b := s.slot kt (hIndex h)
  if hClass h = 3 then .inr (if hHigh h = 0 ∧ hIndex h ≤ 2 then stKeyPolicyDenied else stKeyNotFound)
  else if s.kv.rinsed ∨ hHigh h ≠ 0 ∨ hSlice h ≠ slice ∨ storeSize kt ≤ hIndex h ∨ !b.isKey ∨ b.slice ≠ slice ∨ b.eph ≠ (hClass h == 2) then
    .inr stKeyNotFound
  else if b.gen.toNat ≠ hGen h then .inr stKeyStaleGeneration
  else .inl (kt, hIndex h)

/-- Checks 3 to 9 of R312 on a located key, in order: 0 when all pass. -/
def State.policy (s : State) (slice : Nat) (u : KeyUse) (kt : Bool) (i : Nat) : Nat :=
  let a := (s.keyData kt i).attr
  let b := s.slot kt i
  let e := s.time.epoch.toNat
  firstBad [
    if !(aMasters a).testBit 0 || (u.needle && !(aMasters a).testBit 3) then stKeyPolicyDenied else 0,
    if !(aWorlds a).testBit (s.world slice) || !s.lcsIn (aLcs a) then stKeyPolicyDenied else 0,
    if aQuorum a && !s.quorumInForce then stQuorumRequired else 0,
    if u.anyAlg || (aFam a == u.fam && u.algs.contains (aAlg a) && u.param.elim true (fun p => aParam a == p)) then 0
      else stKeyAlgorithmMismatch,
    if (aUsage a &&& u.usage) == u.usage && (!u.ivgen || (decide (aLimit a ≠ 0) && decide (aLimit a ≤ 2 ^ 32))) then 0
      else stKeyPolicyDenied,
    if aNotBefore a == 0 && aNotAfter a == 0 then 0
      else if !s.time.set then stHoldover
      else if aNotBefore a ≤ e ∧ (aNotAfter a = 0 ∨ e ≤ aNotAfter a) then 0 else stKeyOutsideValidity,
    if aLimit a = 0 ∨ b.used < aLimit a then 0 else stKeyLimitReached]

/-- What a key delivers (R36, R315). -/
def State.bind (s : State) (kt : Bool) (i : Nat) : Bound :=
  let d := s.keyData kt i
  { kt := kt, index := i, gen := (s.slot kt i).gen.toNat, fam := aFam d.attr, alg := aAlg d.attr, material := d.material, attr := d.attr
    handle := s.handleOf kt i }

/-- Handles of the parts of a composite key, in the order of the secret field (R308, R339). -/
def partHandles (m : Bytes) : List Nat := [fieldLE m 0 8, fieldLE m 8 8]

/-- Algorithms of the parts of a composite ALG (R339): family and code of part 0 and of part 1. -/
def compositeParts : Nat → Option ((Nat × Nat) × (Nat × Nat))
  | 0x01 => some ((1, 0x11), (4, 0x10)) | 0x02 => some ((1, 0x12), (4, 0x01)) | 0x03 => some ((1, 0x13), (4, 0x02))
  | 0x04 => some ((1, 0x12), (4, 0x10)) | 0x05 => some ((1, 0x13), (4, 0x11))
  | 0x11 => some ((1, 0x02), (4, 0x12)) | 0x12 => some ((1, 0x03), (4, 0x12)) | 0x13 => some ((1, 0x03), (4, 0x02))
  | _ => none

/-- Counts one use of a key (R313). -/
def countUse (kt : Bool) (i : Nat) (s : State) : State := s.modSlot kt i (fun b => { b with used := b.used + 1 })

/-- A persistent key with a limit whose uses have passed its reserved mark (R313). -/
def State.overMark (s : State) (kt : Bool) (i : Nat) : Bool :=
  !kt && decide (aLimit (s.keyData kt i).attr ≠ 0) && decide ((s.slot kt i).reserved < (s.slot kt i).used)

/-- Resolves one use: the state after counting and the keys bound, or the status. A use is counted with check 9 and stays
counted when a later check of the same job fails (R312, R313). -/
def resolveUse (slice : Nat) (u : KeyUse) (s : State) : State × (List Bound ⊕ Nat) :=
  match s.locate slice u.handle with
  | .inr st => (s, .inr st)
  | .inl (kt, i) =>
    if u.light then (s, .inl [s.bind kt i])
    else match s.policy slice u kt i with
      | 0 =>
        let b := s.bind kt i
        let s := countUse kt i s
        if b.fam ≠ 0x0A then (s, .inl [b])
        else
          match compositeParts b.alg, partHandles b.material with
          | some (p0, p1), [h0, h1] =>
            match s.locate slice h0 with
            | .inr st => (s, .inr st)
            | .inl (k0, i0) =>
              match s.policy slice { handle := h0, fam := p0.1, algs := [p0.2], usage := u.usage } k0 i0 with
              | 0 =>
                let b0 := s.bind k0 i0
                let s := countUse k0 i0 s
                match s.locate slice h1 with
                | .inr st => (s, .inr st)
                | .inl (k1, i1) =>
                  match s.policy slice { handle := h1, fam := p1.1, algs := [p1.2], usage := u.usage, needle := !u.anyAlg } k1 i1 with
                  | 0 => (countUse k1 i1 s, .inl [b, b0, s.bind k1 i1])
                  | st => (s, .inr st)
              | st => (s, .inr st)
          | _, _ => (s, .inl [b])
      | st => (s, .inr st)

/-- Resolves every key of a job in order (check 10 of R106). -/
def resolveAll (slice : Nat) : List KeyUse → State → State × (List Bound ⊕ Nat)
  | [], s => (s, .inl [])
  | u :: us, s =>
    match resolveUse slice u s with
    | (s, .inr st) => (s, .inr st)
    | (s, .inl b) =>
      match resolveAll slice us s with
      | (s, .inr st) => (s, .inr st)
      | (s, .inl bs) => (s, .inl (b ++ bs))

/-! ## The journal (R319) -/

/-- Writes the base slot of a persistent key through the journal: the record, then the slot, then the record is cleared. In
one command the three cannot be told apart; `keep` leaves the record, as a power failure between them would. -/
def journalWrite (i : Nat) (image : Slot) (s : State) : State :=
  { s with
    kv.journalSeq := s.kv.journalSeq + 1
    kv.journal := lastN 32 (s.kv.journal ++ [{ index := i, seq := s.kv.journalSeq, image := image }]) }

/-- Clears the record of a slot once its base slot is written. -/
def journalClear (i : Nat) (s : State) : State := { s with kv.journal := s.kv.journal.filter (fun r => r.index != i) }

/-- Writes a base slot: through the journal for a persistent key (R319). -/
def commitSlot (kt : Bool) (i : Nat) (image : Slot) (s : State) : State :=
  if kt then s.modSlot true i (fun _ => image)
  else journalClear i ((journalWrite i image s).modSlot false i (fun _ => image))

/-- Journal replay (R319): every good record into its base slot in SEQ order, shadow runs freed, journal cleared. -/
def replayJournal (s : State) : State :=
  let good := s.kv.journal.filter (·.good)
  let s := good.foldl (fun s r =>
    let s := s.modSlot false r.index (fun _ => r.image)
    if r.image.kind = .moved then s.modSlot false r.image.data (fun d => { d with kind := .run }) else s) s
  let sh := (s.kv.ps.filter (fun e => e.2.kind == .shadow)).map (fun e => (e.1, e.2.count))
  let s := sweepRuns (sh.foldl (fun s e => freeSlots false e.1 e.2 s) s)
  let s := { s with kv.journal := [], kv.replacing := [], kv.journalReplayed := s.kv.journalReplayed || !good.isEmpty }
  if good = [] then s else logRecord 0x0301 (leBytes 1 good.length) s

/-! ## Public keys (R124, R125, R215, R250, R262) -/

/-- Root of a whole tree of a stateful key, or of one of its segments (R205). -/
def hbsNode (b : Bound) (level tree : Nat) (seg : Option Nat) : Bytes :=
  alg .hbsNode (hbsN b.alg) [b.attr, b.material, num level, num tree, num (seg.getD 0xFFFF)]

/-- The public key of a stateful key (RFC 8554, RFC 8391): type codes, I and the top root; or OID, top root and PUB_SEED. -/
def hbsPublic (b : Bound) : Bytes :=
  let root := hbsNode b (hbsLevels b.attr - 1) 0 none
  hbsPkHead b.alg (hbsHeight b.attr) (hbsW b.attr) (hbsLevels b.attr) ++
    (if isLms b.alg then cut b.material (hbsN b.alg) 16 ++ root else root ++ cut b.material 64 (hbsN b.alg))

/-- The public key of an asymmetric key from its material; that of RSA is n followed by e, with which the material begins (R254); that
of SLH-DSA is PK.seed and PK.root, with which its extension slots begin (R199). -/
def publicKey (s : State) (b : Bound) : Bytes :=
  match b.fam with
  | 0x01 =>
    let n := (latSizes b.alg).1
    if isKem b.alg then alg .mlKemEk n [num b.alg, b.material] else if isMlDsa b.alg then alg .mlDsaPk n [num b.alg, b.material]
    else alg .fnDsaPk n [num b.alg, b.material]
  | 0x02 =>
    if isSlh b.alg then cut b.material 64 (slhSizes b.alg).2.1 else hbsPublic b
  | 0x03 => if isCme b.alg then alg .cmePk (cbSizes b.alg).1 [num b.alg, b.material.take 64] else alg .hqcPk (cbSizes b.alg).1 [num b.alg, b.material]
  | 0x04 =>
    if isRsa b.alg then cut b.material 0 (rsaLen b.alg + 32)
    else
      let l := s.curveLen b.alg
      alg .ecPk (if isWeier b.alg then 1 + 2 * l else l) [num b.alg, (s.curve b.alg).getD [], b.material]
  | _ => []

/-- Refuses the job when the life-cycle state is ANALYSIS and it creates or imports a key (R458). -/
def State.analysisDenies (s : State) (r : OpReq) : Bool := r.creates && s.lcs.state == .analysis

end Sys2Proof.Machine
end

