-- ==== Sys2Proof/Machine/JobOps.lean ====
section
/-! DEFINITION. What the opcodes of every family share: running a computation, its inputs and result, storing a key it
creates, and the Expanded Key Cache (R106, R127 to R131, R547). -/
namespace Sys2Proof.Machine

/-- Digest lengths of the pre-hash codes (R145); 0 for a code that names none. -/
def phLen : Nat → Nat
  | 1 => 32 | 2 => 48 | 3 => 64 | 4 => 32 | 5 => 64 | 6 => 32 | 7 => 64 | _ => 0

/-- An input argument of a job, empty where it has none. -/
def Job.input (j : Job) (arg : Nat) : Bytes := tget j.inputs [] arg

/-- The header key as a number. -/
def Job.handle (j : Job) : Nat := j.key.toNat

/-- The key bound first. -/
def Job.keyB (j : Job) : Bound := j.bound.headD { kt := true, index := 0, gen := 0, fam := 0, alg := 0, material := [], attr := [], handle := 0 }

/-- The key bound at place `n`. -/
def Job.keyN (j : Job) (n : Nat) : Bound := j.bound.getD n j.keyB

/-- The device as a job sees it that was bound to the curves at step 5 (R253). -/
def State.curvesOf (s : State) (j : Job) : State := { s with thm.curves := j.curves }

/-- The job can commit its result now: it runs, no other requester has its lane (R177), and none of its engine tasks is left (R35). -/
def State.canCommit (s : State) (j : Job) : Bool :=
  j.phase == .running && !s.suspended j && j.parent.isNone && !s.tasksLeft j.id

/-- The computation of a running job of one opcode (step 12 of R106); nothing where no such job can commit. -/
def runOp (opcode : Nat) (f : Job → State → State) (job : Nat) (s : State) : State :=
  match s.job? job with
  | some j => if j.opcode = opcode ∧ s.canCommit j = true then f j s else s
  | none => s

/-- The computation succeeds with its outputs. -/
def done (j : Job) (outs : List (Nat × Bytes)) (s : State) : State := decideJob j.id stSuccess outs s

/-- The computation ends with another status. -/
def fail (j : Job) (status : Nat) (s : State) : State := decideJob j.id status [] s

/-- A verification's outcome (R149). -/
def verdict (j : Job) (ok : Bool) (s : State) : State := if ok then done j [] s else fail j stSignatureInvalid s

/-- Creates a key for the job's slice and goes on with its handle, or ends with the status that refuses it (R316, R547). -/
def withKey (j : Job) (cls : Nat) (attr : Bytes) (origin : BitVec 8) (material : Bytes) (k : Nat → State → State) (s : State) : State :=
  match createKey cls j.slice attr origin material s with
  | .inr st => fail j st s
  | .inl (s, i) => k i (s.modJob j.id (fun j => { j with made := some (cls != 1, i) }))

/-- A seed is one that key generation keeps: an FN-DSA seed expands within its bound (R126), an attempt at a Classic McEliece key
succeeds (R233). -/
def seedFits (fam a : Nat) (seed : Bytes) : Bool :=
  if fam = 0x01 ∧ isFnDsa a then Config.check .fnDsaSeedFits [num a, fit 32 seed]
  else if fam = 0x03 ∧ isCme a then Config.check .cmeAttempt [num a, fit 32 seed]
  else true

/-- A job on an engine asks the DRBG for another `n` bytes in place of a seed it discards, and computes on once they arrive (R126, R233,
R365). -/
def redraw (j : Job) (n : Nat) (s : State) : State := requestDrbg j.id n (s.modJob j.id (fun j => { j with seed := [], drawn := j.drawn + 1 }))

/-- A Classic McEliece attempt has failed (R233): another seed is drawn, and after the last attempt the job ends with ENGINE_FAULT. -/
def cmeRetry (j : Job) (s : State) : State :=
  if 300 ≤ j.drawn + 1 then fail j stEngineFault (raiseEvent 0x11 j.engine (.engine j.engine) .own s) else redraw j 32 s

/-- The handle bytes of a created key. -/
def handleBytes (s : State) (kt : Bool) (i : Nat) : Bytes := leBytes 8 (s.handleOf kt i)

/-! ## What an engine starts with (R158, R276) -/

/-- A key generation on a Mangle: its masking order stands in the attribute block, which is read first (R143). -/
def latGen (op : Nat) : Bool := op == 0x0101 || op == 0x0111 || op == 0x0121

/-- A lattice operation that runs unmasked (R132). -/
def latOpen (op : Nat) : Bool := op == 0x0113 || op == 0x0123 || op == 0x01F0

/-- A Mangle's sequencer at the entry word of the job, with what it latches (R157, R158; log 18). -/
def mangleStart (j : Job) (s : State) : Mangle :=
  let f := (byteAt j.params 1).toNat
  let kem := j.opcode == 0x0102 || j.opcode == 0x0103
  let o2 := if latGen j.opcode then aOrder2 (j.input 0)
    else if latOpen j.opcode then false
    else if kem && f.testBit 0 then f.testBit 2 else aOrder2 j.keyB.attr
  let pksrc := if kem then f.testBit 0 else j.opcode % 16 == 3 && f.testBit 4
  let at0 := s.redirect j.engine (BitVec.ofNat 13 ((Config.entryWord j.opcode (j.pb 0) o2).val + 1))
  { inPatch := at0.1, addr := at0.2, order2 := o2, unmasked := latOpen j.opcode, target := Config.sampleTarget j.opcode (j.pb 0)
    flags := BitVec.ofNat 3 (flag pksrc + 2 * flag (kem && f.testBit 1) + 4 * flag (j.opcode == 0x0112 && f.testBit 2)) }

/-- Bytes as listed memory from address `a` on. -/
def cellsOf : Nat → Bytes → List Host.Cell
  | _, [] => []
  | a, b :: bs => if b = 0 then cellsOf (a + 1) bs else (a, b) :: cellsOf (a + 1) bs

/-- A Needle at the first instruction of a task (R276). -/
def needleStart (j : Job) (s : State) : Needle :=
  { x := tput (tput (tput [] 0 1 (BitVec.ofNat 64 j.params.length)) 0 2 (BitVec.ofNat 64 j.opcode)) 0 31 0x40000#64
    mem := cellsOf 0 (j.params.take 0x40000), running := true, image := s.activeBank.version
    pc := (Config.needleEntry s.activeBank.version.toNat j.opcode).zeroExtend 64 <<< 2 }

/-- A Mangle's sequencer starts on dispatch (R158). -/
def startSequencer (id : Nat) (s : State) : State :=
  match s.job? id with
  | some j => if j.engine < 0x20 ∧ !latGen j.opcode then s.modMangle j.engine (fun _ => mangleStart j s) else s
  | none => s

/-- A job whose computation begins finds its Needle started, and the Mangle of a key generation, whose order is known now. -/
def startTask (id : Nat) (s : State) : State :=
  match s.job? id with
  | some j =>
    if j.phase ≠ .running then s
    else if j.engine < 0x20 then (if latGen j.opcode then s.modMangle j.engine (fun _ => mangleStart j s) else s)
    else if 0x40 ≤ j.engine ∧ j.engine < 0x60 then s.modNeedle (j.engine - 0x40) (fun _ => needleStart j s)
    else if 0x60 ≤ j.engine ∧ j.engine < 0x64 then
      { s with eng.darnerMem := tput s.eng.darnerMem [] (j.engine - 0x60) ((j.inputs.map (·.2)).flatten ++ (j.bound.map (·.material)).flatten) }
    else s
  | none => s

/-- A job that has not failed leaves its engine: lane and tree go on with their other requesters, the engine's job memory is gone, and
a Needle takes no other work until its wipe is complete (R249). -/
def leaveEngine (j : Job) (s : State) : State :=
  let s := leaveTree j.engine (clearEngine j.engine (leaveLane j s))
  if 0x40 ≤ j.engine ∧ j.engine < 0x60 then { s with eng.wipes := s.eng.wipes ++ [(j.engine, j.id)] } else s

/-! ## Expanded Key Cache (R127 to R131) -/

/-- Blocks of an entry (R127). -/
def ekcBlocks : Nat → Nat
  | 0x01 => 4 | 0x02 => 6 | 0x03 => 10 | 0x11 => 21 | 0x12 => 34 | 0x13 => 57 | 0x21 => 56 | 0x22 => 120 | _ => 0

/-- Blocks that entries occupy, of one slice or of all (R129, R151). -/
def Cache.used (c : Cache) : Nat := (c.entries.map (·.blocks)).foldl (· + ·) 0
def Cache.usedBy (c : Cache) (sl : Nat) : Nat := ((c.entries.filter (·.slice == sl)).map (·.blocks)).foldl (· + ·) 0

/-- The entry of least last use among those `p` names. -/
def oldestOf (p : CacheEntry → Bool) : List CacheEntry → Option CacheEntry
  | [] => none
  | e :: r => match oldestOf p r with
    | none => if p e then some e else none
    | some o => if p e && decide (e.lastUse ≤ o.lastUse) then some e else some o

/-- Makes room for `b` blocks for slice `sl` in a cache of `size` blocks by evicting least recently used entries that the
rule allows (R129): the cache after the evictions, and whether there is room; `fuel` bounds the evictions by the number of
entries. What has been evicted stays evicted. -/
def makeRoom (size sl b : Nat) : Nat → Cache → Cache × Bool
  | 0, c => (c, decide (c.used + b ≤ size))
  | fuel + 1, c =>
    if c.used + b ≤ size then (c, true)
    else match oldestOf (fun e => e.st == .valid && (e.slice == sl || decide (tget c.quota 0 e.slice < c.usedBy e.slice))) c.entries with
      | none => (c, false)
      | some v => makeRoom size sl b fuel { c with entries := c.entries.filter (· != v) }

/-- The entry of a key in a cache (R128). -/
def Cache.find (c : Cache) (b : Bound) (sl : Nat) : Option CacheEntry :=
  c.entries.find? (fun e => e.kt == b.kt && e.slice == sl && e.index == b.index && e.gen == b.gen && e.st != .invalid)

/-- Starts a fill of the Expanded Key Cache for a job, if room can be made (R128, R129). Answers whether it runs. -/
def ekcFill (job sl : Nat) (b : Bound) (s : State) : State × Bool :=
  if !s.eng.ekcEnable then (s, false)
  else
    let (c, ok) := makeRoom 16384 sl (ekcBlocks b.alg) s.eng.ekc.entries.length s.eng.ekc
    if !ok then ({ s with eng.ekc := c }, false)
    else
      ({ s with
        eng.ekc := { c with entries := c.entries ++ [{ kt := b.kt, slice := sl, index := b.index, gen := b.gen, blocks := ekcBlocks b.alg,
                                                       st := .filling, lastUse := s.eng.useClock, fillJob := job }] }
        eng.useClock := s.eng.useClock + 1 }, true)

/-- Looks a lattice key up for a job (R128, R130): 0 hit, 1 miss with a fill, 2 miss without one; none while another job
fills the entry, and then the job waits. A miss that finds no room counts as a bypass; while ENABLE is 0 it does not (R151). -/
def ekcLookup (job sl : Nat) (b : Bound) (s : State) : State × Option Nat :=
  match s.eng.ekc.find b sl with
  | some e =>
    if e.st = .filling then ({ s with eng.ekc.misses := satInc s.eng.ekc.misses }, none)
    else
      ({ s with
        eng.ekc.hits := satInc s.eng.ekc.hits, eng.useClock := s.eng.useClock + 1
        eng.ekc.entries := mapIf (· == e) (fun e => { e with lastUse := s.eng.useClock }) s.eng.ekc.entries }, some 0)
  | none =>
    let s := { s with eng.ekc.misses := satInc s.eng.ekc.misses }
    let (s, ok) := ekcFill job sl b s
    let s := if !ok && s.eng.ekcEnable then { s with eng.ekc.other := satInc s.eng.ekc.other } else s
    (s, some (if ok then 1 else 2))

/-- The masking order of the key a handle names is 2 (R135); false where it names none. -/
def State.order2Of (s : State) (sl h : Nat) : Bool :=
  match s.locate sl h with
  | .inl (kt, i) => aOrder2 (s.keyData kt i).attr
  | .inr _ => false

/-- Deadline bound: computation, credit wait, expansion, wipe (R412). -/
def boundOf (cycles expansion wipe : Nat) : Option Nat := some (cycles + 3248 + expansion + wipe)

end Sys2Proof.Machine
end

