-- ==== Sys2Proof/Machine/Sessions.lean ====
section
/-! DEFINITION. Digest functions, session references, allocation and the session checks (07_digest_engines.md, R270). -/
namespace Sys2Proof.Machine

/-! ## Functions (R172) -/

/-- Block and output length of a FUNC, output 0 where DLEN gives it; block 0 for a code that names no function. -/
def funcInfo (f : Nat) : Nat × Nat :=
  let plain (f : Nat) : Nat × Nat :=
    match f with
    | 0x01 => (64, 28) | 0x02 => (64, 32) | 0x03 => (128, 48) | 0x04 => (128, 64) | 0x05 => (128, 32)
    | 0x11 => (144, 28) | 0x12 => (136, 32) | 0x13 => (104, 48) | 0x14 => (72, 64) | _ => (0, 0)
  match f with
  | 0x21 | 0x23 | 0x61 | 0x63 => (168, 0)
  | 0x22 | 0x24 | 0x62 | 0x64 => (136, 0)
  | _ => if 0x40 ≤ f then plain (f - 0x40) else plain f

def funcKnown (f : Nat) : Bool := decide ((funcInfo f).1 ≠ 0)
def isCshake (f : Nat) : Bool := f == 0x23 || f == 0x24
def isKmac (f : Nat) : Bool := 0x61 ≤ f && f ≤ 0x64

/-- DLEN is one that R192 allows for a function. -/
def dlenOk (f dlen : Nat) : Bool := if (funcInfo f).2 = 0 then decide (1 ≤ dlen) else dlen == (funcInfo f).2

/-- CMP and CMP_LEN agree with R187 and R190. -/
def cmpOk (cmp : Bool) (cmpLen dlen : Nat) : Bool := if cmp then decide (4 ≤ cmpLen) && decide (cmpLen ≤ dlen) else cmpLen == 0

/-- The digest or keyed digest of a message (R172, R192): shorter outputs of an extendable function are prefixes of longer ones, and
cSHAKE without name and customisation is SHAKE. -/
def digestOf (f dlen : Nat) (key n custom msg : Bytes) : Bytes :=
  if f = 0x62 then alg .kmac256 dlen [key, msg, num (8 * dlen), custom]
  else if f = 0x64 then xof .kmac256 dlen [key, msg, num 0, custom]
  else if f = 0x61 then alg .kmac128 dlen [key, msg, num (8 * dlen), custom]
  else if f = 0x63 then xof .kmac128 dlen [key, msg, num 0, custom]
  else if isKeyed f then alg .hmac dlen [num f, key, msg]
  else if (funcInfo f).2 = 0 then
    if isCshake f && !(n.isEmpty && custom.isEmpty) then xof .digest dlen [num f, n, custom, msg]
    else xof .digest dlen [num (if isCshake f then f - 2 else f), msg]
  else alg .digest dlen [num f, msg]

/-- ECLK cycles of one block by function and masking order (R173). -/
def blockCycles (f order : Nat) : Nat :=
  let base := if (funcInfo f).1 = 64 then 16 else if (funcInfo f).1 = 128 then 20 else 24
  if order = 0 then base else if order = 1 then 3 * base else 5 * base

/-- Blocks that padding to the end and the output take for `m` message bytes (R172, R192). -/
def blocksFor (f m dlen nlen slen : Nat) : Nat :=
  let b := max 1 (funcInfo f).1
  let enc (l : Nat) : Nat := l + (if 32 ≤ l then 3 else 2)
  if b = 64 then ceilDiv (m + 9) 64
  else if b = 128 then ceilDiv (m + 17) 128
  else
    (if isCshake f && decide (nlen + slen ≠ 0) then ceilDiv (2 + enc nlen + enc slen) b else 0) +
    (m / b + 1) + (ceilDiv (max 1 dlen) b - 1)

/-! ## Session references and order (R180, R181) -/

/-- An earlier accepted job names the same session and has not ended (R181). -/
def State.stepWaits (s : State) (j : Job) : Bool :=
  isStep j.opcode && s.jobs.any (fun k => isStep k.opcode && k.slice == j.slice && decide (k.id < j.id) && k.ctxOf == j.ctxOf &&
    k.phase != .post)

/-- A reference put together. -/
def sessRef (s : State) (c : Nat) : Bytes := leBytes 4 ((s.ctx c).sgen.toNat * 65536 + c)

/-- The step that ends a session frees its context, and keeps the old one until it has ended itself (R183, R184). -/
def endCtx (j : Job) (s : State) : State :=
  (freeCtx j.ctxOf s).modJob j.id (fun j' => { j' with ctxOld := some (j.ctxOf, s.ctx j.ctxOf) })

/-- Session contexts that are free (R178). -/
def State.freeCtxs (s : State) : List Nat := ((List.range 4000).map (· + 96)).filter (fun c => !(s.ctx c).isOpen)

/-- Allocates a context at dispatch (R180): quota first, then a free context; which of the free ones the device takes is
a free value. -/
def allocCtx (j : Job) (s : State) : State ⊕ Nat :=
  if min 4000 (s.slice j.slice).quotaSessions.toNat ≤ (s.ctxsOf j.slice).length then .inr stSliceQuotaExceeded
  else
    let l := s.freeCtxs
    match l[Config.freeNat s.freeCtr % max 1 l.length]? with
    | none => .inr stSessionUnavailable
    | some c =>
      let s := (fresh s).modCtx c (fun x => { sgen := x.sgen, isOpen := true, slice := j.slice, gcm := j.opcode == 0x0518 })
      .inl (s.modJob j.id (fun j => { j with session := some c }))

/-- The session checks of R182, in order; 0 when all pass. A step of one kind that names a session of the other fails
check 1 (log 23). -/
def State.sessionCheck (s : State) (j : Job) : Nat :=
  let p := j.params
  let sess := fieldLE p 0 4
  let c := sess % 4096
  let x := s.ctx c
  let gcm := decide (j.opcode < 0x0600)
  let off := fieldLE p 8 8
  let msg := fieldLE p 16 4
  let dlen := fieldLE p 20 4
  let cmp := bit (byteAt p 4) 0
  let close := j.opcode == 0x0613 || j.opcode == 0x051B
  let final := j.opcode == 0x0612 || j.opcode == 0x051A
  firstBad [
    bad (!x.isOpen || c < 96 || x.slice != j.slice || x.sgen.toNat != sess / 65536 || x.gcm != gcm),
    if !close && off != x.absorbed.length then stLengthMismatch else 0,
    bad (!close && (decide (2 ^ 48 - 1 < off + msg) || (gcm && decide (2 ^ 36 - 32 < off + msg)))),
    bad (final && (if gcm then dlen != x.dlen else !dlenOk x.func dlen || !cmpOk cmp (fieldLE p 6 2) dlen))]

/-- What the step block allows by itself (R191, R192, check 9). -/
def stepBlock9 (op : Nat) (inl : Bool) (p : Bytes) : Nat :=
  let final := op == 0x0612 || op == 0x051A
  let close := op == 0x0613 || op == 0x051B
  let cmp := bit (byteAt p 4) 0
  bad (fieldLE p 0 4 / 4096 % 16 != 0 || decide (2 ≤ (byteAt p 4).toNat) || byteAt p 5 != 0 ||
    (!(op == 0x0612) && (cmp || !isZero p 6 2)) || (!final && !isZero p 20 4) || (close && !isZero p 8 12) || (cmp && inl))

end Sys2Proof.Machine
end

