-- ==== Sys2Proof/Machine/KeyGen.lean ====
section
/-! DEFINITION. The material of a new key, import checks and wrapped blobs (R122, R199, R225, R250, R257, R265, R307, R328,
R329). -/
namespace Sys2Proof.Machine

/-- PK_DIGEST: SHAKE256 over a public key, 32 bytes (R225). -/
def pkDigest (pk : Bytes) : Bytes := digestOf 0x22 32 [] [] [] pk

/-- Bytes of g, α and s of a Classic McEliece key: t coefficients of two bytes, the control bits of the Beneš network over 2^m wires, one
bit of s for each column. -/
def cmeParts (set : Nat) : Nat × Nat × Nat :=
  match (set + 1) / 2 with
  | 1 => (128, 5888, 436) | 2 => (192, 12800, 576) | 3 => (256, 12800, 836) | 4 => (238, 12800, 870) | 5 => (256, 12800, 1024) | _ => (0, 0, 0)

/-- The data run of a Classic McEliece key from the seed of the attempt that succeeded (R225, R233): δ‖c; PK_DIGEST‖g‖α‖s,
zero-padded. -/
def cmeMaterial (set : Nat) (seed : Bytes) : Bytes :=
  let delta := fit 32 seed
  let (g, al, sl) := cmeParts set
  let sec := fit 64 (delta ++ alg .cmeSecret 8 [num set, delta])
  fit (64 + 128 * ((cbSizes set).2.2.2.1 - 1))
    (sec ++ pkDigest (alg .cmePk (cbSizes set).1 [num set, sec]) ++ alg .cmeGoppa (g + al + sl) [num set, delta])

/-- The data run of an SLH-DSA key (R199): SK.seed‖SK.prf, zero-padded; PK.seed, PK.root and the leaves of the top layer. -/
def slhMaterial (set : Nat) (sk pkSeed : Bytes) : Bytes :=
  let n := (slhSizes set).1
  let leaves := alg .slhLeaves (slhLeafCount set * n) [num set, fit n sk, fit n pkSeed]
  fit (64 + 128 * ((slhSizes set).2.2.2 - 1))
    (fit 64 (fit (2 * n) sk) ++ fit n pkSeed ++ alg .slhRoot n [num set, fit n pkSeed, leaves] ++ leaves)

/-- The data run of an SLH-DSA key with its top layer computed again (R199). -/
def slhAgain (set : Nat) (m : Bytes) : Bytes := slhMaterial set (m.take 64) (cut m 64 (slhSizes set).1)

/-- The drawn part of a stateful key (R204): SEED‖I, or SK_SEED‖SK_PRF with PUB_SEED in the first extension slot. What is built of its
trees stands in `Hbs` (log 94). -/
def hbsMaterial (set : Nat) (seed : Bytes) : Bytes :=
  let n := hbsN set
  if isLms set then fit 64 (fit (n + 16) seed) else fit 64 (fit (2 * n) seed) ++ fit n (seed.drop (2 * n))

/-- DRBG bytes that a new key of an algorithm takes. -/
def State.drawLen (s : State) (a : Bytes) : Nat :=
  match aFam a with
  | 0x02 => if aStateful a then (if isLms (aAlg a) then hbsN (aAlg a) + 16 else 3 * hbsN (aAlg a)) else 3 * (slhSizes (aAlg a)).1
  | 0x03 => if isCme (aAlg a) then 32 else 56
  | 0x04 => if isRsa (aAlg a) then 64 else s.curveLen (aAlg a) + (if isEdwards (aAlg a) then 0 else 8)
  | _ => s.secretLen a

/-- A new private key of a curve: the seed of an EdDSA key, or a scalar (R250, R257), as the public operation takes it. -/
def genScalar (s : State) (set : Nat) (seed : Bytes) : Bytes :=
  let l := s.curveLen set
  let d := drawScalar (curveDom set (s.curve set)).n seed
  if isEdwards set then fit l seed else if isMont set then leBytes l d else beBytes l d

/-- A new RSA key (R254): n, e = 65537, p, q, dP, dQ, qInv. -/
def genRsa (set : Nat) (seed : Bytes) : Bytes :=
  let k := rsaLen set
  let r := alg .rsaKey (7 * k / 2) [num set, seed]
  r.take k ++ beBytes 32 65537 ++ r.drop k

/-- The material of a new key from DRBG output (R125, R143, R199, R225, R254, R257, R332). -/
def genMaterial (s : State) (a seed : Bytes) : Bytes :=
  match aFam a with
  | 0x02 => if aStateful a then hbsMaterial (aAlg a) seed else slhMaterial (aAlg a) seed (seed.drop (2 * (slhSizes (aAlg a)).1))
  | 0x03 => if isCme (aAlg a) then cmeMaterial (aAlg a) seed else fit 56 seed
  | 0x04 =>
    if isRsa (aAlg a) then genRsa (aAlg a) seed else genScalar s (aAlg a) seed
  | _ => fit (s.drawLen a) seed

/-- Checks on imported key material (R199, R257, R265); 0 when it passes. An FN-DSA seed that does not expand within the bound of R126 is
refused as well (log 90). -/
def importStatus (s : State) (a m : Bytes) : Nat :=
  match aFam a with
  | 0x01 => if seedFits 0x01 (aAlg a) m then 0 else stInputKeyInvalid
  | 0x02 =>
    let n := (slhSizes (aAlg a)).1
    if aStateful a || cut m (64 + n) n == cut (slhAgain (aAlg a) m) (64 + n) n then 0 else stInputKeyInvalid
  | 0x04 =>
    if isRsa (aAlg a) then
      if rsaPubOk (rsaLen (aAlg a)) m && rsaPartsOk (rsaLen (aAlg a)) m && Config.check .importOk [a, m] then 0 else stInputKeyInvalid
    else if isEdwards (aAlg a) then 0
    else if scalarOk (aAlg a) (curveDom (aAlg a) (s.curve (aAlg a))) (m.take (s.curveLen (aAlg a))) then 0 else stInvalidScalar
  | 0x05 =>
    let k (i n : Nat) : Bytes := cut m (i * n) n
    match aAlg a with
    | 0x04 => if k 0 16 = k 1 16 then stInputKeyInvalid else 0
    | 0x05 => if k 0 32 = k 1 32 then stInputKeyInvalid else 0
    | 0x11 => if k 0 8 = k 1 8 then stInputKeyInvalid else 0
    | 0x12 => if k 0 8 = k 1 8 ∨ k 1 8 = k 2 8 then stInputKeyInvalid else 0
    | _ => 0
  | _ => 0

/-- What an import stores: of an SLH-DSA key the top layer that the device has computed (R199). -/
def imported (a m : Bytes) : Bytes := if aFam a = 0x02 ∧ aStateful a = false then slhAgain (aAlg a) m else m

/-- Length of a key's public key; 0 for a symmetric key or a secret. -/
def State.pubLen (s : State) (a : Bytes) : Nat :=
  match aFam a with
  | 0x01 => (latSizes (aAlg a)).1
  | 0x02 => if aStateful a then hbsPkLen (aAlg a) (hbsLevels a) else (slhSizes (aAlg a)).2.1
  | 0x03 => (cbSizes (aAlg a)).1
  | 0x04 => if isRsa (aAlg a) then rsaLen (aAlg a) + 32 else if isWeier (aAlg a) then 1 + 2 * s.curveLen (aAlg a) else s.curveLen (aAlg a)
  | _ => 0

/-- M_LEN of a key of `n` slots (R328), and the length of its blob. -/
def mLen (n : Nat) : Nat := 64 + 128 * (n - 1)
def blobLen (n : Nat) : Nat := 56 + 48 + mLen n + 8

/-- A wrapped blob (R328) of a FORMAT, under a wrapping key. -/
def wrapBlob (format : Nat) (kek a m : Bytes) : Bytes :=
  leBytes 2 format ++ leBytes 2 m.length ++ zeros 4 ++ fit 48 a ++ alg .kwp (48 + m.length + 8) [kek, fit 48 a ++ m]

/-- Opens a blob (R329, checks 1 to 4): attribute block and material, or the status. -/
def openBlob (s : State) (slice format : Nat) (kek b : Bytes) : (Bytes × Bytes) ⊕ Nat :=
  let ct := b.drop 56
  let pt := fit (ct.length - 8) (Config.crypto .kwpUnwrap [kek, ct])
  let a := pt.take 48
  let m := pt.drop 48
  if !Config.check .kwpOk [kek, ct] then .inr stAuthFailed
  else if fieldLE b 0 2 ≠ format ∨ fieldLE b 2 2 ≠ m.length ∨ fieldLE b 2 2 ≠ mLen (s.slotCount a) ∨ !isZero b 4 4 ∨ cut b 8 48 ≠ a then
    .inr stInputMalformed
  else if !s.attrOk slice a then .inr stBadParameter
  else match importStatus s a m with
    | 0 => .inl (a, imported a m)
    | st => .inr st

end Sys2Proof.Machine
end

