-- ==== Sys2Proof/Machine/OpsLattice.lean ====
section
/-! DEFINITION. Lattice opcodes, family 0x01: parameter blocks, cost and computation (05_lattice_engines.md). -/
namespace Sys2Proof.Machine

/-- Picks by ML-KEM set, ML-DSA set or FN-DSA set in the order listed. -/
def bySet (p : Nat) (a b c : Nat) : Nat := if p % 16 = 1 then a else if p % 16 = 2 then b else c

/-- Expansion cycles (R137). -/
def latExpand (p : Nat) : Nat :=
  if isKem p then bySet p 4800 6900 9700 else if isMlDsa p then bySet p 19200 28800 41600 else bySet p 5600000 16800000 0

/-- Cycle factor of masking order 2, over 4 (R135). -/
def latFactor (p : Nat) (o2 : Bool) (n : Nat) : Nat := if !o2 then n else if isKem p then n * 9 / 4 else n * 5 / 2

/-- Length of M′ of a signature block: a prefix of two bytes, the context and the message, with the 11-byte object identifier of the
hash function in MODE 1 (R145; FIPS 204, FIPS 206). In MODE 2 no M′ is formatted. -/
def mLength (p : Bytes) : Nat :=
  let mode := (byteAt p 1).toNat % 4
  if mode = 2 then 0 else 2 + (byteAt p 2).toNat + fieldLE p 4 4 + (if mode = 1 then 11 else 0)

/-- Cycles that a formatted message M′ above 71 bytes adds (R136). -/
def mPrime (p : Bytes) : Nat := 
  let len := mLength p
  if len ≤ 71 then 0 else 24 * ceilDiv (len - 71) 136

/-- Check 9 of a signature block (R145, log 25). -/
def sigBlock9 (p : Bytes) (setOk fn sign : Bool) (key : Nat) : Nat :=
  let f := (byteAt p 1).toNat
  let mode := f % 4
  let ctx := (byteAt p 2).toNat
  let ph := (byteAt p 3).toNat
  let msg := fieldLE p 4 4
  bad (!setOk || f.testBit 3 || decide (32 ≤ f) || mode == 3 || !isZero p 10 2 ||
    (f.testBit 4 && (sign || decide (key ≠ 0))) || (f.testBit 2 && (fn || !sign)) || (mode == 2 && fn) ||
    (mode == 1 && (phLen ph == 0 || msg != phLen ph)) || (mode != 1 && ph != 0) ||
    (mode == 2 && (msg != 64 || ctx != 0)) || (sign && decide (fieldLE p 8 2 ≠ 0)))

/-- What the lattice opcodes ask (R142 to R146), with their cost (R136 to R139, R412). -/
def reqLattice (s : State) (sl op : Nat) (p : Bytes) (key : Nat) : Option OpReq :=
  let set := (byteAt p 0).toNat
  let f := (byteAt p 1).toNat
  let (pk, ct, sg) := latSizes set
  let o2 := s.order2Of sl key
  let exp := latFactor set o2 (latExpand set)
  let keygen (ok : Bool) (cyc : Nat) : OpReq := {
    ins := [(0, 48)], outs := [(0, pk), (1, 8)], plen := p.length == 8, noKey := true, creates := true
    check9 := bad (!ok || !(f == 0 || f == 2) || !isZero p 2 6), drbg := if isKem set then 64 else 32
    cls := 0, charge := cyc, bound := boundOf cyc 0 2100 }
  let header (usage : Nat) : KeyUse := { handle := key, fam := 1, algs := [set], usage := usage }
  let mDsa : OpReq :=
    let ext := mPrime p
    let cyc := latFactor set o2 (bySet set 25867 37780 56241) + ext
    let bnd := latFactor set o2 (bySet set 253067 403180 550161) + ext
    { check9 := sigBlock9 p (isMlDsa set) false true key, drbg := if f.testBit 2 then 0 else 32, charge := cyc, bound := boundOf bnd exp 2100 }
  let fnDsa : OpReq :=
    let bnd := boundOf (bySet set 2033800 4352600 0 + mPrime p) exp 6300
    { check9 := sigBlock9 p (isFnDsa set) true true key, drbg := 32, charge := bySet set 12800 25600 0 + mPrime p, bound := bnd
      other := some (4, bySet set 669400 1433800 0, bnd) }
  let sign (r : OpReq) : OpReq :=
    { r with ins := [(0, fieldLE p 4 4)], outs := [(0, sg)], plen := p.length == 12 + (byteAt p 2).toNat, keys := [header uSign], cls := 0 }
  let verify (ok fn : Bool) : OpReq :=
    let src := f.testBit 4
    let cyc := (if fn then bySet set 12800 25600 0 else bySet set 7314 10240 14629) + mPrime p
    { ins := [(0, fieldLE p 4 4), (1, if src then pk else 0), (2, fieldLE p 8 2)], unsized := if ok then [] else [1]
      plen := p.length == 12 + (byteAt p 2).toNat, check9 := sigBlock9 p ok fn false key, keys := if src then [] else [header uVerify], masked := false
      cls := 0, charge := cyc, bound := boundOf cyc (if src then 0 else exp) 2100 }
  match op with
  | 0x01 => some (keygen (isKem set) (latFactor set o2 (bySet set 5120 7314 10240)))
  | 0x02 =>
    let src := f.testBit 0
    let o := if src then f.testBit 2 else o2
    let cyc := latFactor set o (bySet set 4655 6400 9309 + if src then bySet set 800 1400 2200 else 0)
    some { ins := [(0, if src then pk else 0)], unsized := if isKem set then [] else [0], outs := [(0, ct), (1, if f.testBit 1 then 8 else 32)], plen := p.length == 8
           check9 := bad (!isKem set || decide (8 ≤ f) || !isZero p 2 6 || (src && decide (key ≠ 0)) || (f.testBit 2 && !src))
           keys := if src then [] else [header uEncaps], drbg := 32, cls := 0, charge := cyc
           bound := boundOf cyc (if src then 0 else exp) 2100 }
  | 0x03 =>
    let cyc := latFactor set o2 (bySet set 5689 7877 11378)
    some { ins := [(0, ct)], unsized := if isKem set then [] else [0], outs := [(0, if f.testBit 1 then 8 else 32)], plen := p.length == 8
           check9 := bad (!isKem set || decide (8 ≤ f) || !isZero p 2 6 || f.testBit 0 || f.testBit 2)
           keys := [header uDecaps], cls := 0, charge := cyc, bound := boundOf cyc exp 2100 }
  | 0x11 => some (keygen (isMlDsa set) (latFactor set o2 (bySet set 20480 30118 42667)))
  | 0x12 => some (sign mDsa)
  | 0x13 => some (verify (isMlDsa set) false)
  | 0x21 => some (keygen (isFnDsa set) (latExpand set))
  | 0x22 => some (sign fnDsa)
  | 0x23 => some (verify (isFnDsa set) true)
  | 0xF0 | 0xF1 =>
    let cyc := 8 * ekcBlocks set + 64
    some { ins := [], outs := [(0, if op = 0xF0 then pk else 4)], plen := p.length == 8
           check9 := bad (!(isKem set || isMlDsa set || isFnDsa set) || !isZero p 1 7), keys := [header 0]
           cls := 0, charge := cyc, bound := boundOf cyc exp 2100, masked := op == 0xF1 }
  | _ => none

/-! ## Computation -/

/-- Key generation (R143): the attribute block is checked once it has been read (R547); the seed is stored, the cache filled
as R129 allows, public key and handle returned. -/
def latKeygen (j : Job) (s : State) : State :=
  let a := j.input 0
  let seed := fit (if isKem (j.pb 0) then 64 else 32) j.seed
  if !s.attrOk j.slice a || aFam a != 1 || aAlg a != j.pb 0 || aStateful a then fail j stBadParameter s
  else withKey j (j.pb 1) a 0 seed (fun i s =>
    let b := s.bind true i
    let s := (ekcFill j.id j.slice b s).1
    done j [(0, publicKey s b), (1, handleBytes s true i)] s) s

/-- ML_KEM_KEYGEN. -/
def mlKemKeygenDo (job : Nat) (s : State) : State := runOp 0x0101 latKeygen job s

/-- Attributes of a shared secret kept as a session-ephemeral key (R144): algorithm "32-byte KEM shared secret", usage
DERIVE only, masters and world of the KEM key, or HOST and TENANT where the public key was supplied. -/
def koutAttr (src : Option Bytes) (o2 : Bool) (alg_ : Nat) (param : Nat) : Bytes :=
  match src with
  | some a => mkAttr 7 alg_ (aMasters a) (aWorlds a) (aLcs a) (flag o2) uDerive param
  | none => mkAttr 7 alg_ 1 1 7 (flag o2) uDerive param

/-- ML_KEM_ENCAPS (R144, R147). -/
def mlKemEncapsDo (job : Nat) (s : State) : State :=
  runOp 0x0102 (fun j s =>
    let set := j.pb 0
    let f := j.pb 1
    let src := f.testBit 0
    let ek := if src then j.input 0 else publicKey s j.keyB
    let (_, ctl, _) := latSizes set
    let m := fit 32 j.seed
    let ct := alg .mlKemCt ctl [num set, ek, m]
    let k := alg .mlKemSs 32 [num set, ek, m]
    if src && !Config.check .mlKemEkOk [num set, ek] then fail j stInputKeyInvalid s
    else if f.testBit 1 then
      withKey j 2 (koutAttr (if src then none else some j.keyB.attr) (if src then f.testBit 2 else aOrder2 j.keyB.attr) 1 0) 0 k
        (fun i s => done j [(0, ct), (1, handleBytes s true i)] s) s
    else done j [(0, ct), (1, k)] s) job s

/-- ML_KEM_DECAPS (R148): implicit rejection is inside the standard's function; it never fails on the ciphertext. -/
def mlKemDecapsDo (job : Nat) (s : State) : State :=
  runOp 0x0103 (fun j s =>
    let k := alg .mlKemDecaps 32 [num (j.pb 0), j.keyB.material, j.input 0]
    if (j.pb 1).testBit 1 then
      withKey j 2 (koutAttr (some j.keyB.attr) (aOrder2 j.keyB.attr) 1 0) 0 k (fun i s => done j [(0, handleBytes s true i)] s) s
    else done j [(0, k)] s) job s

/-- ML_DSA_KEYGEN. -/
def mlDsaKeygenDo (job : Nat) (s : State) : State := runOp 0x0111 latKeygen job s

/-- The message representative a signature block selects: MODE, PH and context with the input (R145). -/
def sigMessage (j : Job) : List Bytes :=
  let p := j.params
  [num (j.pb 1 % 4), num (j.pb 3), cut p 12 (j.pb 2), j.input 0]

/-- ML_DSA_SIGN (R138): hedged with rnd from the DRBG or deterministic with zero; the attempt cap ends it with ENGINE_FAULT
and a JOB-class event. -/
def mlDsaSignDo (job : Nat) (s : State) : State :=
  runOp 0x0112 (fun j s =>
    let set := j.pb 0
    let rnd := if (j.pb 1).testBit 2 then zeros 32 else fit 32 j.seed
    let args := num set :: j.keyB.material :: rnd :: sigMessage j
    if 814 < Config.measure .mlDsaAttempts args then fail j stEngineFault (raiseEvent 0x11 j.engine (.engine j.engine) .own s)
    else done j [(0, alg .mlDsaSign (latSizes set).2.2 args)] s) job s

/-- ML_DSA_VERIFY (R147). -/
def mlDsaVerifyDo (job : Nat) (s : State) : State :=
  runOp 0x0113 (fun j s =>
    let set := j.pb 0
    let pk := if (j.pb 1).testBit 4 then j.input 1 else publicKey s j.keyB
    verdict j ((j.input 2).length == (latSizes set).2.2 && Config.check .mlDsaVerify (num set :: pk :: j.input 2 :: sigMessage j)) s) job s

/-- FN_DSA_KEYGEN (R126): a seed whose derivation does not fit the bound is discarded and another drawn; while the draw is under
way, nothing happens. -/
def fnDsaKeygenDo (job : Nat) (s : State) : State :=
  runOp 0x0121 (fun j s =>
    if j.seed = [] then s
    else if seedFits 0x01 (j.pb 0) j.seed then latKeygen j s
    else redraw j 32 s) job s

/-- Arguments of an FN-DSA signature. -/
def fnDsaArgs (j : Job) : List Bytes := num (j.pb 0) :: j.keyB.material :: j.seed :: sigMessage j

/-- Attempts that an FN-DSA signature takes, at least one and not capped (R139). -/
def fnDsaAttempts (j : Job) : Nat := max 1 (Config.measure .fnDsaAttempts (fnDsaArgs j))

/-- Stage of an FN-DSA signature (R139): 0 the Mangle prologue; 2k - 1 the sampling of attempt k on a Needle; 2k its check on a
Mangle. This stage is the last: the check of the attempt that is accepted. -/
def fnDsaLast (j : Job) : Bool := j.stage == 2 * fnDsaAttempts j

/-- The Scheduler chains the job on (R21, R139): it leaves its engine and is ready for an engine of the other class. The Needle part
runs unmasked (R134). -/
def nextStage (j : Job) (s : State) : State :=
  let (cls, charge, con, long) := j.other.getD (j.cls, j.charge, j.conforming, j.long)
  leaveEngine j (s.modJob j.id (fun j => { j with
    phase := .ready, stage := j.stage + 1, masked := j.stage % 2 == 1
    cls := cls, charge := charge, conforming := con, long := long, other := some (j.cls, j.charge, j.conforming, j.long)
    named := if j.stage % 2 = 1 then some j.engine else j.named }))

/-- FN_DSA_SIGN (R139): prologue, then attempts, each a sampling on a Needle and a check on a Mangle; the completion names the
Needle that finished the job (R89). -/
def fnDsaSignDo (job : Nat) (s : State) : State :=
  runOp 0x0122 (fun j s =>
    if fnDsaLast j then done j [(0, alg .fnDsaSign (latSizes (j.pb 0)).2.2 (fnDsaArgs j))] s else nextStage j s) job s

/-- Coefficient `k` of an encoded FN-DSA public key: 14 bits, most significant first, behind the header byte (FIPS 206). -/
def fnCoeff (pk : Bytes) (k : Nat) : Nat :=
  let b := 14 * k
  ofBE (cut pk (1 + b / 8) 3) / 2 ^ (10 - b % 8) % 2 ^ 14

/-- The header byte of a supplied FN-DSA public key matches the set, and every coefficient is below 12289 (R147). -/
def fnDsaPkOk (set : Nat) (pk : Bytes) : Bool :=
  byteAt pk 0 == (if set = 0x21 then 0x09 else 0x0A) && (List.range (if set = 0x21 then 512 else 1024)).all (fun k => decide (fnCoeff pk k < 12289))

/-- FN_DSA_VERIFY (R147): the supplied key's header and coefficients first, then length 41 up to the padded length. -/
def fnDsaVerifyDo (job : Nat) (s : State) : State :=
  runOp 0x0123 (fun j s =>
    let set := j.pb 0
    let src := (j.pb 1).testBit 4
    let pk := if src then j.input 1 else publicKey s j.keyB
    let sg := j.input 2
    if src && !fnDsaPkOk set pk then fail j stInputKeyInvalid s
    else verdict j (decide (41 ≤ sg.length) && decide (sg.length ≤ (latSizes set).2.2) &&
      byteAt sg 0 == (if set = 0x21 then 0x39 else 0x3A) && Config.check .fnDsaVerify (num set :: pk :: sg :: sigMessage j)) s) job s

/-- LAT_PUBLIC_KEY (R146). -/
def latPublicKeyDo (job : Nat) (s : State) : State := runOp 0x01F0 (fun j s => done j [(0, publicKey s j.keyB)] s) job s

/-- LAT_PRELOAD (R146): 0 present, 1 filled, 2 no room, or no cache (log 101). -/
def latPreloadDo (job : Nat) (s : State) : State := runOp 0x01F1 (fun j s => done j [(0, leBytes 4 (min j.cacheRes 2))] s) job s

/-! ## The meanings of the commands -/

/-- ML_KEM_KEYGEN (R143). -/
def execMlKemKeygen (job : Nat) (s : State) : Host.Outcome State Fault Refusal := .next (mlKemKeygenDo job s)
/-- ML_KEM_ENCAPS (R144). -/
def execMlKemEncaps (job : Nat) (s : State) : Host.Outcome State Fault Refusal := .next (mlKemEncapsDo job s)
/-- ML_KEM_DECAPS (R148). -/
def execMlKemDecaps (job : Nat) (s : State) : Host.Outcome State Fault Refusal := .next (mlKemDecapsDo job s)
/-- ML_DSA_KEYGEN (R143). -/
def execMlDsaKeygen (job : Nat) (s : State) : Host.Outcome State Fault Refusal := .next (mlDsaKeygenDo job s)
/-- ML_DSA_SIGN (R138). -/
def execMlDsaSign (job : Nat) (s : State) : Host.Outcome State Fault Refusal := .next (mlDsaSignDo job s)
/-- ML_DSA_VERIFY (R147). -/
def execMlDsaVerify (job : Nat) (s : State) : Host.Outcome State Fault Refusal := .next (mlDsaVerifyDo job s)
/-- FN_DSA_KEYGEN (R126). -/
def execFnDsaKeygen (job : Nat) (s : State) : Host.Outcome State Fault Refusal := .next (fnDsaKeygenDo job s)
/-- FN_DSA_SIGN (R139). -/
def execFnDsaSign (job : Nat) (s : State) : Host.Outcome State Fault Refusal := .next (fnDsaSignDo job s)
/-- FN_DSA_VERIFY (R147). -/
def execFnDsaVerify (job : Nat) (s : State) : Host.Outcome State Fault Refusal := .next (fnDsaVerifyDo job s)
/-- LAT_PUBLIC_KEY (R146). -/
def execLatPublicKey (job : Nat) (s : State) : Host.Outcome State Fault Refusal := .next (latPublicKeyDo job s)
/-- LAT_PRELOAD (R146). -/
def execLatPreload (job : Nat) (s : State) : Host.Outcome State Fault Refusal := .next (latPreloadDo job s)

end Sys2Proof.Machine
end

