-- ==== Sys2Proof/Machine/OpsCode.lean ====
section
/-! DEFINITION. Code-based KEM opcodes, family 0x03, and the Darner public-key cache (09_code_based.md). -/
namespace Sys2Proof.Machine

/-! ## Cycles (R231, R233, R236) -/

/-- Number of the Classic McEliece set without regard to the f variant. -/
def cmeRow (p : Nat) : Nat := (p + 1) / 2

/-- Encapsulation, decapsulation, HQC key generation. -/
def cbCycles (p : Nat) : Nat × Nat × Nat :=
  match p with
  | 0x11 => (7100, 12800, 12800) | 0x12 => (16000, 29000, 25600) | 0x13 => (29000, 53300, 42600)
  | _ => match cmeRow p with
    | 1 => (21300, 32000, 0) | 2 => (40000, 42600, 0) | 3 => (71100, 58100, 0) | 4 => (71100, 53300, 0) | 5 => (91400, 64000, 0)
    | _ => (0, 0, 0)

/-- F and A of Classic McEliece key generation. -/
def cmeKeygen (p : Nat) : Nat × Nat :=
  let (f, a) := match cmeRow p with
    | 1 => (155000, 880000) | 2 => (380000, 2200000) | 3 => (1050000, 5850000) | 4 => (900000, 5900000) | 5 => (1300000, 7000000) | _ => (0, 0)
  (f, if p % 2 = 0 then a + 20000 else a)

/-- Cycle factor at masking order 2, in tenths. -/
def cbFactor (p : Nat) (o2 : Bool) (t n : Nat) : Nat := if o2 then n * (if isHqc p then 20 else t) / 10 else n

/-- Cycles of the digest over a public key (R232). -/
def pkDigestCycles (p : Nat) : Nat := 12 * ceilDiv ((cbSizes p).1 + 1) 136

/-- Cycles in which a Darner regenerates a public key from the secret (R231, R240). -/
def regenCycles (p : Nat) (o2 : Bool) : Nat :=
  if isHqc p then cbFactor p o2 20 (cbCycles p).2.2 else cbFactor p o2 22 (cmeKeygen p).2 + pkDigestCycles p

/-- What the code-based opcodes ask (R237 to R240), with their cost (R231, R233, R412). -/
def reqCode (s : State) (j : Job) : Option OpReq :=
  let p := j.params
  let set := (byteAt p 0).toNat
  let f := (byteAt p 1).toNat
  let (pk, ct, ss, _, _) := cbSizes set
  let (ce, cd, ck) := cbCycles set
  let o2 := s.order2Of j.slice j.handle
  let key (usage : Nat) : KeyUse := { handle := j.handle, fam := 3, algs := [set], usage := usage }
  let keygen (ok : Bool) (outs : List (Nat × Nat)) (seed cyc bnd : Nat) : OpReq := {
    ins := [(0, 48)], outs := outs, plen := p.length == 8, noKey := true, creates := true
    check9 := bad (!ok || !(f == 0 || f == 2) || !isZero p 2 6), drbg := seed, cls := 3, charge := cyc, bound := boundOf bnd 0 8260 }
  let src := f.testBit 0
  let encaps (ok : Bool) (input : Bool) : OpReq :=
    let cyc := cbFactor set (if src then f.testBit 2 else o2) 16 ce
    { ins := [(0, if input then pk else 0)], unsized := if ok then [] else [0], outs := [(0, ct), (1, if f.testBit 1 then 8 else ss)], plen := p.length == 8
      check9 := bad (!ok || decide (16 ≤ f) || !isZero p 2 6 || (src && decide (j.key ≠ 0)) || (f.testBit 2 && !src) || (f.testBit 3 && src))
      keys := if src then [] else [key uEncaps], drbg := 64, cls := 3, charge := cyc, bound := boundOf cyc 0 8260 }
  let decaps (ok : Bool) : OpReq :=
    let cyc := cbFactor set o2 24 cd
    { ins := [(0, ct)], unsized := if ok then [] else [0], outs := [(0, if f.testBit 1 then 8 else ss)], plen := p.length == 8
      check9 := bad (!ok || !isZero p 2 6 || !(f == 0 || f == 2)), keys := [key uDecaps]
      cls := 3, charge := cyc, bound := boundOf cyc (if isHqc set then regenCycles set o2 else 0) 8260 }
  let (kf, ka) := cmeKeygen set
  let fv := set % 2 == 0
  match j.opcode % 256 with
  | 0x01 => some (keygen (isCme set) [(0, 8), (1, 32)] 32 (kf + (if fv then 2 else 6) * ka) (kf + (if fv then 9 else 61) * ka))
  | 0x02 => some (encaps (isCme set) true)
  | 0x03 => some (decaps (isCme set))
  | 0x11 => some (keygen (isHqc set) [(0, pk), (1, 8)] 56 ck ck)
  | 0x12 => some (encaps (isHqc set) src)
  | 0x13 => some (decaps (isHqc set))
  | 0xF0 =>
    let off := fieldLE p 4 4
    let len := fieldLE p 8 4
    some { outs := [(0, len)], plen := p.length == 16, keys := [key 0]
           check9 := bad (!(isCme set || isHqc set) || !isZero p 1 3 || !isZero p 12 4 || len == 0 || decide (1048576 < len) ||
             decide (pk < off + len) || (isHqc set && (off != 0 || len != pk)))
           cls := 3, charge := Config.costCharge j.opcode set 0, bound := boundOf (Config.costBound j.opcode set 0) (regenCycles set o2) 8260 }
  | 0xF1 => some {
      ins := [(0, if isCme set then pk else 0)], outs := [(0, 4)], plen := p.length == 8, keys := [key 0]
      check9 := bad (!(isCme set || isHqc set) || !isZero p 1 7)
      cls := 3, charge := Config.costCharge j.opcode set 0
      bound := boundOf (Config.costBound j.opcode set 0) (if isHqc set then regenCycles set o2 else pkDigestCycles set) 8260 }
  | _ => none

/-! ## The public-key cache (R226 to R230) -/

/-- The job needs the public key of the key its handle names (R227). -/
def Job.needsPk (j : Job) : Bool :=
  (j.opcode == 0x0302 && j.pb 1 % 2 == 0) || (j.opcode == 0x0312 && j.pb 1 % 2 == 0) || j.opcode == 0x0313 || j.opcode == 0x03F0 || j.opcode == 0x03F1

/-- On a miss this job streams the public key of a Classic McEliece key from its input 0 (R228, R240). -/
def Job.streamsPk (j : Job) : Bool := isCme (j.pb 0) && (j.opcode == 0x0302 || j.opcode == 0x03F1)

/-- A miss of this job fills the cache (R229). -/
def Job.wantsFill (j : Job) : Bool := j.opcode == 0x03F0 || j.opcode == 0x03F1 || ((j.opcode == 0x0302 || j.opcode == 0x0312) && j.pb 1 / 8 % 2 == 1)

/-- Pages of a Darner that entries occupy. -/
def Cache.usedOn (c : Cache) (d : Nat) : Nat := ((c.entries.filter (·.home == d)).map (·.blocks)).foldl (· + ·) 0

/-- Makes room for `b` pages on Darner `d` for slice `sl` (R129, R229): the cache after the evictions, and whether there is room. -/
def dpkRoom (d sl b : Nat) : Nat → Cache → Cache × Bool
  | 0, c => (c, decide (c.usedOn d + b ≤ 384))
  | fuel + 1, c =>
    if c.usedOn d + b ≤ 384 then (c, true)
    else match oldestOf (fun e => e.home == d && e.st == .valid && (e.slice == sl || decide (tget c.quota 0 e.slice < c.usedBy e.slice))) c.entries with
      | none => (c, false)
      | some v => dpkRoom d sl b fuel { c with entries := c.entries.filter (· != v) }

/-- Starts a fill on Darner `d` if room can be made, with the public key where it is regenerated from the secret. -/
def dpkFill (job sl d : Nat) (b : Bound) (pk : Bytes) (s : State) : State × Bool :=
  let (c, ok) := dpkRoom d sl (cbSizes b.alg).2.2.2.2 s.eng.dpk.entries.length s.eng.dpk
  if !ok then ({ s with eng.dpk := c }, false)
  else
    ({ s with
      eng.dpk := { c with entries := c.entries ++ [{ kt := b.kt, slice := sl, index := b.index, gen := b.gen, blocks := (cbSizes b.alg).2.2.2.2,
                                                     st := .filling, lastUse := s.eng.useClock, fillJob := job, home := d, content := pk }] }
      eng.useClock := s.eng.useClock + 1 }, true)

/-- Where a job that needs a public key goes (R227): the Darner and the outcome of its lookup, that it is held for a fill, or
that it waits for a Darner. `idle` lists the idle Darners that may take it. -/
inductive DrnPlace where
  | on (d res : Nat) (pk : Bytes)
  | held
  | waits

def placeDarner (j : Job) (b : Bound) (idle : List Nat) (s : State) : State × DrnPlace :=
  match s.eng.dpk.find b j.slice with
  | some e =>
    if e.st = .filling then (s, .held)
    else if idle.contains e.home then
      ({ s with
        eng.dpk.hits := satInc s.eng.dpk.hits, eng.useClock := s.eng.useClock + 1
        eng.dpk.entries := mapIf (· == e) (fun e => { e with lastUse := s.eng.useClock }) s.eng.dpk.entries }, .on e.home 0 e.content)
    else match idle with
      | d :: _ => if s.eng.drnSpill then ({ s with eng.dpk.misses := satInc s.eng.dpk.misses }, .on d 2 []) else (s, .waits)
      | [] => (s, .waits)
  | none =>
    match idle with
    | [] => (s, .waits)
    | d :: _ =>
      let s := { s with eng.dpk.misses := satInc s.eng.dpk.misses }
      if j.wantsFill then
        let (s, ok) := dpkFill j.id j.slice d b (if j.streamsPk then [] else publicKey s b) s
        (s, .on d (if ok then 1 else 2) [])
      else (s, .on d 2 [])

/-- Darners that may still take Classic McEliece key generation (R233, R244). -/
def State.kgRoom (s : State) : Bool :=
  let n := s.eng.drnKgMax.toNat
  let m := if n = 0 then 1 else min n 4
  decide ((s.jobs.filter (fun j => j.opcode == 0x0301 && j.holds)).length < m)

/-! ## Computation -/

/-- The PK_DIGEST a Classic McEliece key holds. -/
def Bound.digest (b : Bound) : Bytes := cut b.material 64 32

/-- CME_KEYGEN (R233, R238): one seed for each attempt, up to the cap; the key with its PK_DIGEST, a fill of the cache. While a draw is
under way, nothing happens. -/
def cmeKeygenDo (job : Nat) (s : State) : State :=
  runOp 0x0301 (fun j s =>
    let a := j.input 0
    let set := j.pb 0
    if !s.attrOk j.slice a || aFam a != 3 || aAlg a != set || aStateful a then fail j stBadParameter s
    else if j.seed = [] then s
    else if !seedFits 0x03 set j.seed then cmeRetry j s
    else withKey j (j.pb 1) a 0 (genMaterial s a j.seed) (fun i s =>
      let b := s.bind true i
      done j [(0, handleBytes s true i), (1, b.digest)] (dpkFill j.id j.slice (j.engine - 0x60) b (publicKey s b) s).1) s) job s

/-- The end of an encapsulation (R144, R239): the secret, or a session-ephemeral key that holds it. -/
def kemOut (j : Job) (src : Bool) (alg_ : Nat) (ct k : Bytes) (s : State) : State :=
  let f := j.pb 1
  if f.testBit 1 then
    withKey j 2 (koutAttr (if src then none else some j.keyB.attr) (if src then f.testBit 2 else aOrder2 j.keyB.attr) alg_ 0) 0 k
      (fun i s => done j [(0, ct), (1, handleBytes s true i)] s) s
  else done j [(0, ct), (1, k)] s

/-- A streamed key whose digest differs: the partial fill is discarded and the event counted (R228). -/
def digestFails (j : Job) (s : State) : State :=
  fail j stInputKeyInvalid (dropFills j.id { s with eng.dpk.other := satInc s.eng.dpk.other })

/-- Padding bits of a supplied key are zero: 3 bits at the end of each row for 6960119, the top bits of s for HQC (R241). -/
def cbPkOk (set : Nat) (pk : Bytes) : Bool :=
  if set = 0x07 ∨ set = 0x08 then (List.range 1547).all (fun r => decide (byteAt pk (677 * (r + 1) - 1) < 32#8))
  else if isHqc set then
    let n := if set = 0x11 then 17669 else if set = 0x12 then 35851 else 57637
    n % 8 = 0 || decide ((byteAt pk (pk.length - 1)).toNat < 2 ^ (n % 8))
  else true

/-- The entry that a streaming job fills holds the key it streamed (R226, R228). -/
def keepStreamed (j : Job) (s : State) : State :=
  { s with eng.dpk.entries := mapIf (fun e => e.fillJob == j.id && e.st == .filling) (fun e => { e with content := j.input 0 }) s.eng.dpk.entries }

/-- The public key of an encapsulation: supplied, streamed, or taken from the cache as the job was placed, all of them input 0; that
of an HQC key that was in no cache is regenerated (R226, R228, R241). -/
def encapsPk (j : Job) (s : State) : Bytes :=
  if isCme (j.pb 0) || (j.pb 1).testBit 0 || j.cacheRes == 0 then j.input 0 else publicKey s j.keyB

/-- CME_ENCAPS (R228, R241): supplied, cached or streamed public key. -/
def cmeEncapsDo (job : Nat) (s : State) : State :=
  runOp 0x0302 (fun j s =>
    let set := j.pb 0
    let (_, ctl, ssl, _, _) := cbSizes set
    let src := (j.pb 1).testBit 0
    let pk := encapsPk j s
    if src && !cbPkOk set pk then fail j stInputKeyInvalid s
    else if !src && decide (j.cacheRes ≠ 0) && pkDigest pk != j.keyB.digest then digestFails j s
    else kemOut j src 1 (alg .cmeEncaps ctl [num set, pk, j.seed]) (alg .cmeEncaps ssl [num set, pk, j.seed, num 1]) (keepStreamed j s)) job s

/-- The end of a decapsulation. -/
def decapsOut (j : Job) (alg_ : Nat) (k : Bytes) (s : State) : State :=
  if (j.pb 1).testBit 1 then
    withKey j 2 (koutAttr (some j.keyB.attr) (aOrder2 j.keyB.attr) alg_ 0) 0 k (fun i s => done j [(0, handleBytes s true i)] s) s
  else done j [(0, k)] s

/-- CME_DECAPS (R242): implicit rejection is inside the standard's function. -/
def cmeDecapsDo (job : Nat) (s : State) : State :=
  runOp 0x0303 (fun j s => decapsOut j 1 (alg .cmeDecaps 32 [num (j.pb 0), j.keyB.material, j.input 0]) s) job s

/-- HQC_KEYGEN. -/
def hqcKeygenDo (job : Nat) (s : State) : State :=
  runOp 0x0311 (fun j s =>
    let a := j.input 0
    if !s.attrOk j.slice a || aFam a != 3 || aAlg a != j.pb 0 || aStateful a then fail j stBadParameter s
    else withKey j (j.pb 1) a 0 (genMaterial s a j.seed) (fun i s => done j [(0, publicKey s (s.bind true i)), (1, handleBytes s true i)] s) s) job s

/-- HQC_ENCAPS. -/
def hqcEncapsDo (job : Nat) (s : State) : State :=
  runOp 0x0312 (fun j s =>
    let set := j.pb 0
    let src := (j.pb 1).testBit 0
    let pk := encapsPk j s
    if src && !cbPkOk set pk then fail j stInputKeyInvalid s
    else kemOut j src 2 (alg .hqcCt (cbSizes set).2.1 [num set, pk, j.seed]) (alg .hqcSs 64 [num set, pk, j.seed]) s) job s

/-- HQC_DECAPS (R242). -/
def hqcDecapsDo (job : Nat) (s : State) : State :=
  runOp 0x0313 (fun j s => decapsOut j 2 (alg .hqcDecaps 64 [num (j.pb 0), j.keyB.material, j.input 0]) s) job s

/-- CB_PUBLIC_KEY (R240): a window of the cached or regenerated key; a regenerated key whose digest differs is an engine fault. -/
def cbPublicKeyDo (job : Nat) (s : State) : State :=
  runOp 0x03F0 (fun j s =>
    let pk := if j.cacheRes = 0 then j.input 0 else publicKey s j.keyB
    if isCme (j.pb 0) && decide (j.cacheRes ≠ 0) && pkDigest pk != j.keyB.digest then
      fail j stEngineFault (raiseEvent 0x34 j.engine (.engine j.engine) .own (dropFills j.id s))
    else done j [(0, cut pk (fieldLE j.params 4 4) (fieldLE j.params 8 4))] s) job s

/-- CB_PRELOAD (R240): a Classic McEliece key is streamed and checked. -/
def cbPreloadDo (job : Nat) (s : State) : State :=
  runOp 0x03F1 (fun j s =>
    if isCme (j.pb 0) && decide (j.cacheRes ≠ 0) && pkDigest (j.input 0) != j.keyB.digest then digestFails j s
    else done j [(0, leBytes 4 (min j.cacheRes 2))] (keepStreamed j s)) job s

/-! ## The meanings of the commands -/

/-- CME_KEYGEN (R233). -/
def execCmeKeygen (job : Nat) (s : State) : Host.Outcome State Fault Refusal := .next (cmeKeygenDo job s)
/-- CME_ENCAPS (R228). -/
def execCmeEncaps (job : Nat) (s : State) : Host.Outcome State Fault Refusal := .next (cmeEncapsDo job s)
/-- CME_DECAPS (R242). -/
def execCmeDecaps (job : Nat) (s : State) : Host.Outcome State Fault Refusal := .next (cmeDecapsDo job s)
/-- HQC_KEYGEN (R238). -/
def execHqcKeygen (job : Nat) (s : State) : Host.Outcome State Fault Refusal := .next (hqcKeygenDo job s)
/-- HQC_ENCAPS (R241). -/
def execHqcEncaps (job : Nat) (s : State) : Host.Outcome State Fault Refusal := .next (hqcEncapsDo job s)
/-- HQC_DECAPS (R242). -/
def execHqcDecaps (job : Nat) (s : State) : Host.Outcome State Fault Refusal := .next (hqcDecapsDo job s)
/-- CB_PUBLIC_KEY (R240). -/
def execCbPublicKey (job : Nat) (s : State) : Host.Outcome State Fault Refusal := .next (cbPublicKeyDo job s)
/-- CB_PRELOAD (R240). -/
def execCbPreload (job : Nat) (s : State) : Host.Outcome State Fault Refusal := .next (cbPreloadDo job s)

end Sys2Proof.Machine
end

