-- ==== Sys2Proof/Machine/OpsDigest.lean ====
section
/-! DEFINITION. Digest and session opcodes, family 0x06 (07_digest_engines.md). -/
namespace Sys2Proof.Machine

/-- Check 9 of a digest block (R189, R190, R192). -/
def digest9 (sess inl : Bool) (p : Bytes) (key : Nat) : Nat :=
  let f := (byteAt p 0).toNat
  let cmp := bit (byteAt p 1) 0
  bad (!funcKnown f || decide (2 ≤ (byteAt p 1).toNat) || !isZero p 14 2 || (!isKeyed f && decide (key ≠ 0)) ||
    (decide (byteAt p 12 ≠ 0) && !isCshake f) || (decide (byteAt p 13 ≠ 0) && !(isCshake f || isKmac f)) ||
    (if sess then !isZero p 1 11
     else !dlenOk f (fieldLE p 8 4) || !cmpOk cmp (fieldLE p 2 2) (fieldLE p 8 4) || (cmp && inl)))

/-- What the digest opcodes ask (R189 to R192), with their cost (R173, R412). -/
def reqDigest (s : State) (j : Job) : Option OpReq :=
  let p := j.params
  let f := (byteAt p 0).toNat
  let len := 16 + (byteAt p 12).toNat + (byteAt p 13).toNat
  let keys : List KeyUse := if isKeyed f then [{ handle := j.handle, fam := 6, algs := [f], usage := uMac }] else []
  let x := s.ctx j.ctxOf
  let msg := fieldLE p 16 4
  let step (blocks : Nat) (ins outs : List (Nat × Nat)) : OpReq :=
    let cyc := blocks * blockCycles x.func (if isKeyed x.func then (if x.order2 then 2 else 1) else 0) + 40
    { ins := ins, outs := outs, plen := p.length == 24, check9 := stepBlock9 j.opcode j.inl p, noKey := true
      cls := 1, charge := cyc, bound := boundOf cyc 0 42, masked := isKeyed x.func }
  match j.opcode % 256 with
  | 0x01 =>
    let cmp := bit (byteAt p 1) 0
    let m := fieldLE p 4 4
    let dlen := fieldLE p 8 4
    let cyc := blocksFor f m dlen (byteAt p 12).toNat (byteAt p 13).toNat * blockCycles f 0 + 40
    some { ins := (0, m) :: (if cmp then [(1, fieldLE p 2 2)] else []), outs := if cmp then [] else [(0, dlen)], plen := p.length == len
           check9 := digest9 false j.inl p j.handle, keys := keys
           cls := if isKeyed f then 6 else 1, charge := if isKeyed f then 640 else cyc
           bound := if isKeyed f then some 1280 else boundOf cyc 0 42, masked := isKeyed f }
  | 0x10 =>
    some { outs := [(0, 4)], plen := p.length == len, check9 := digest9 true j.inl p j.handle, keys := keys
           cls := if isKeyed f then 6 else 1, charge := if isKeyed f then 640 else 40
           bound := if isKeyed f then some 1280 else boundOf 40 0 42, masked := isKeyed f }
  | 0x11 =>
    let b := max 1 (funcInfo x.func).1
    some (step ((msg + b - 1) / b) [(0, msg)] [])
  | 0x12 =>
    let cmp := bit (byteAt p 4) 0
    let dlen := fieldLE p 20 4
    some (step (blocksFor x.func (msg + max 1 (funcInfo x.func).1 - 1) dlen 0 0)
      ((0, msg) :: (if cmp then [(1, fieldLE p 6 2)] else [])) (if cmp then [] else [(0, dlen)]))
  | 0x13 => some (step 0 [] [])
  | _ => none

/-- Key bytes of a family-0x06 key: its secret has the length of PARAM (R307). -/
def macKey (b : Bound) : Bytes := b.material.take (byteAt b.attr 8).toNat

/-- A digest goes to the output, or to the comparator (R187). -/
def deliver (j : Job) (cmp : Bool) (cmpLen : Nat) (d : Bytes) (s : State) : State :=
  if cmp then (if d.take cmpLen = j.input 1 then done j [] s else fail j stNotEqual s) else done j [(0, d)] s

/-- DIGEST. -/
def digestDo (job : Nat) (s : State) : State :=
  runOp 0x0601 (fun j s =>
    let p := j.params
    let f := j.pb 0
    let dlen := fieldLE p 8 4
    let n := cut p 16 (j.pb 12)
    let custom := cut p (16 + j.pb 12) (j.pb 13)
    deliver j ((j.pb 1).testBit 0) (fieldLE p 2 2) (digestOf f dlen (if isKeyed f then macKey j.keyB else []) n custom (j.input 0)) s) job s

/-- SESSION_OPEN: the context allocated at dispatch takes the function, its strings and, for a keyed function, the key as
it stands now (R180, R185, R186). -/
def sessionOpenDo (job : Nat) (s : State) : State :=
  runOp 0x0610 (fun j s =>
    match j.session with
    | none => s
    | some c =>
      let p := j.params
      let f := j.pb 0
      done j [(0, sessRef s c)] (s.modCtx c (fun x => { x with
        func := f, order2 := isKeyed f && aOrder2 j.keyB.attr, key := if isKeyed f then macKey j.keyB else []
        nlen := j.pb 12, custom := cut p 16 (j.pb 12 + j.pb 13) }))) job s

/-- SESSION_UPDATE (R182, R183). -/
def sessionUpdateDo (job : Nat) (s : State) : State :=
  runOp 0x0611 (fun j s => done j [] (changeCtx j j.ctxOf (fun x => { x with absorbed := x.absorbed ++ j.input 0 }) s)) job s

/-- SESSION_FINAL: with SUCCESS the context is freed as the completion is decided; NOT_EQUAL leaves it (R183). -/
def sessionFinalDo (job : Nat) (s : State) : State :=
  runOp 0x0612 (fun j s =>
    let p := j.params
    let x := s.ctx j.ctxOf
    let d := digestOf x.func (fieldLE p 20 4) x.key (x.custom.take x.nlen) (x.custom.drop x.nlen) (x.absorbed ++ j.input 0)
    let cmp := (j.pb 4).testBit 0
    if cmp && decide (d.take (fieldLE p 6 2) ≠ j.input 1) then fail j stNotEqual s
    else done j (if cmp then [] else [(0, d)]) (endCtx j s)) job s

/-- SESSION_CLOSE (R184). -/
def sessionCloseDo (job : Nat) (s : State) : State := runOp 0x0613 (fun j s => done j [] (endCtx j s)) job s

/-! ## The meanings of the commands -/

/-- DIGEST (R187). -/
def execDigest (job : Nat) (s : State) : Host.Outcome State Fault Refusal := .next (digestDo job s)
/-- SESSION_OPEN (R180). -/
def execSessionOpen (job : Nat) (s : State) : Host.Outcome State Fault Refusal := .next (sessionOpenDo job s)
/-- SESSION_UPDATE (R182). -/
def execSessionUpdate (job : Nat) (s : State) : Host.Outcome State Fault Refusal := .next (sessionUpdateDo job s)
/-- SESSION_FINAL (R183). -/
def execSessionFinal (job : Nat) (s : State) : Host.Outcome State Fault Refusal := .next (sessionFinalDo job s)
/-- SESSION_CLOSE (R184). -/
def execSessionClose (job : Nat) (s : State) : Host.Outcome State Fault Refusal := .next (sessionCloseDo job s)

end Sys2Proof.Machine
end

