-- ==== Sys2Proof/Machine/Stateful.lean ====
section
/-! DEFINITION. Stateful hash-based keys: trees, index reservation, record pairs (08_hash_signatures.md, R203 to R214). -/
namespace Sys2Proof.Machine

def State.hbs (s : State) (i : Nat) : Hbs := tget s.kv.hbs {} i
def State.modHbs (s : State) (i : Nat) (f : Hbs → Hbs) : State := { s with kv.hbs := tmod s.kv.hbs {} i f }
def State.pair (s : State) (i : Nat) : Pair := tget s.kv.pairs {} i

/-! ## Trees (R206, R208) -/

def Hbs.tree? (k : Hbs) (level tree : Nat) : Option HbsTree := k.trees.find? (fun t => t.level == level && t.tree == tree)

/-- The root of a tree, once its top part is built. -/
def Hbs.root? (k : Hbs) (level tree : Nat) : Option Bytes := (k.tree? level tree).bind (·.top)

/-- A level-0 tree is installed: its top part is built and, with two levels, its upper signature stored. -/
def Hbs.installed (k : Hbs) (levels t : Nat) : Bool :=
  (k.root? 0 t).isSome && (levels == 1 || ((k.root? 1 0).isSome && k.upSigs.any (fun u => u.1 == t)))

/-- The installed level-0 trees, rising. -/
def Hbs.installedTrees (k : Hbs) (levels : Nat) : List Nat :=
  ((k.trees.filter (fun t => t.level == 0 && k.installed levels t.tree)).map (·.tree))

/-- The highest number of a list. -/
def maxOf (l : List Nat) : Option Nat := l.foldl (fun m t => some (m.elim t (fun x => max x t))) none
/-- The lowest number of a list. -/
def minOf (l : List Nat) : Option Nat := l.foldl (fun m t => some (m.elim t (fun x => min x t))) none

/-- LIMIT: the end of the last installed level-0 tree (R210). -/
def Hbs.limit (k : Hbs) (a : Bytes) : Nat := (maxOf (k.installedTrees (hbsLevels a))).elim 0 (fun t => (t + 1) * 2 ^ hbsHeight a)

/-- The current level-0 tree. -/
def Hbs.current (k : Hbs) (a : Bytes) : Nat := k.next / 2 ^ hbsHeight a

/-- The index after `q`: at a level-0 tree boundary the first index of the next installed tree (R210). -/
def Hbs.after (k : Hbs) (a : Bytes) (q : Nat) : Nat :=
  let h := 2 ^ hbsHeight a
  if (q + 1) % h ≠ 0 then q + 1
  else match minOf ((k.installedTrees (hbsLevels a)).filter (fun t => q < t * h)) with
    | some t => t * h
    | none => q + 1

/-- NEXT stands on an index of an installed tree, moving past abandoned ones. -/
def Hbs.settle (k : Hbs) (a : Bytes) : Hbs :=
  let l := k.installedTrees (hbsLevels a)
  if l.contains (k.current a) then k
  else match minOf (l.filter (fun t => k.current a < t)) with
    | some t => if k.abandoned.contains (k.current a) || k.next % 2 ^ hbsHeight a = 0 then { k with next := t * 2 ^ hbsHeight a } else k
    | none => k

/-- The level-0 tree built next: behind the last installed or abandoned one (R206). -/
def Hbs.building (k : Hbs) (a : Bytes) : Nat := (maxOf (k.installedTrees (hbsLevels a) ++ k.abandoned)).elim 0 (· + 1)

/-- A build of a tree stands in the order of R206: the level-1 tree first, then tree 0, then each next tree once the one before it is in
use or used up; an abandoned tree is passed over, and its build returns nodes until a later one is installed (R208). The current trees
may be built again. -/
def Hbs.mayBuild (k : Hbs) (a : Bytes) (level t : Nat) : Bool :=
  let last := maxOf (k.installedTrees (hbsLevels a))
  let open_ := last.elim true (fun l => decide (l * 2 ^ hbsHeight a ≤ k.next))
  if level = 1 then hbsLevels a == 2 && t == 0
  else if hbsLevels a = 2 ∧ (k.root? 1 0).isNone then false
  else (k.installed (hbsLevels a) t && t == k.current a) ||
    (open_ && (if k.abandoned.contains t then last.elim true (fun l => decide (l < t))
      else t == k.building a && decide (t < (if hbsLevels a = 2 then 2 ^ hbsHeight a else 1))))

/-! ## Index reservation (R209, R210) -/

/-- The copy a commit writes is copy A: it is invalid or has the lower SEQ. -/
def Pair.writesA (p : Pair) : Bool := !p.a.good || (p.b.good && decide (p.a.seq ≤ p.b.seq))

/-- Writes a copy of a pair. -/
def Pair.write (p : Pair) (c : PairCopy) : Pair := if p.writesA then { p with a := c } else { p with b := c }

/-- Starts a commit: the record is being written (R210). -/
def startCommit (i high upper : Nat) (s : State) : State := s.modHbs i (fun k => { k with writing := some { high := high, upper := upper } })

/-- The next free pair, round robin (R209). -/
def State.freePair (s : State) : Option Nat :=
  (((List.range 16384).map (fun k => (s.kv.pairNext + k) % 16384)).find? (fun k => !(s.pair k).used && !(s.pair k).unusable))

/-- Takes a pair for a key and writes both copies. -/
def takePair (n : Nat) (c : PairCopy) (s : State) : State :=
  { s with kv.pairs := tput s.kv.pairs {} n { a := c, b := c, used := true }, kv.pairNext := (n + 1) % 16384 }

/-- KEY_ID of a persistent key (R209). -/
def State.keyId (s : State) (i : Nat) : Nat := i + 65536 * (s.slot false i).gen.toNat

/-- Jobs that wait for a commit look again. -/
def wakeCommit (s : State) : State :=
  { s with jobs := mapIf (fun j => j.phase == .held .indexCommit) (fun j => { j with phase := .ready }) s.jobs }

/-- A commit's read-back arrives (R210): it matches; or it differs and the write is repeated once, and after that the record
moves to a free pair. -/
def commitEnds (i : Nat) (good : Bool) (s : State) : State :=
  let k := s.hbs i
  match k.writing with
  | none => s
  | some w =>
    let rec_ : PairCopy := { keyId := s.keyId i, seq := k.seq + 1, high := w.high, upper := w.upper, good := true }
    let commit (s : State) : State :=
      let s := s.modHbs i (fun k => { k with seq := k.seq + 1, high := w.high, upper := w.upper, writing := none })
      wakeCommit { s with eng.hbsCommits := satInc s.eng.hbsCommits }
    if good then commit { s with kv.pairs := tmod s.kv.pairs {} k.pair (fun p => p.write rec_) }
    else if !w.again then
      { s.modHbs i (fun k => { k with writing := some { w with again := true } }) with
        kv.pairs := tmod s.kv.pairs {} k.pair (fun p => p.write { rec_ with good := false }) }
    else
      match s.freePair with
      | some n =>
        let s := takePair n rec_ { s with kv.pairs := tmod s.kv.pairs {} k.pair (fun p => { p with used := false, unusable := true }) }
        raiseOpenAt 0x33 (.engine engVault) (commit (s.modHbs i (fun k => { k with pair := n })))
      | none => wakeCommit (s.modHbs i (fun k => { k with writing := none, noPair := true }))

/-- What the assignment of an index gives (R210). -/
inductive Assign where
  | index (q : Nat)
  | exhausted
  | waits
  | fault

/-- `assign_index` of R210 for the key at base slot `i`: a job's index, or that it waits for a commit, or why there is none. -/
def assignIndex (i : Nat) (s : State) : State × Assign :=
  let a := (s.keyData false i).attr
  let s := s.modHbs i (fun k => k.settle a)
  let k := s.hbs i
  let limit := k.limit a
  if k.noPair then (s, .fault)
  else if k.spent then (s, .exhausted)
  else if k.high ≤ k.next then
    if limit ≤ k.next then (s, .exhausted)
    else if k.writing.isSome then (s, .waits)
    else (startCommit i (min (k.high + 1024) limit) k.upper s, .waits)
  else
    let q := k.next
    let s := s.modHbs i (fun k => { k with next := k.after a q })
    let k := s.hbs i
    let s := if decide (k.high ≤ k.next + 256) && k.writing.isNone && decide (k.high < limit)
      then startCommit i (min (k.high + 1024) limit) k.upper s else s
    (s, .index q)

/-- Upper signatures of trees behind the current one are dropped (R208). -/
def dropPast (i : Nat) (s : State) : State :=
  let a := (s.keyData false i).attr
  s.modHbs i (fun k => { k with upSigs := k.upSigs.filter (fun u => k.current a ≤ u.1) })

/-! ## Start-up scan (R211) -/

/-- The valid copy with the higher SEQ. -/
def Pair.best (p : Pair) : Option PairCopy :=
  if p.a.good && (!p.b.good || decide (p.b.seq ≤ p.a.seq)) then some p.a else if p.b.good then some p.b else none

/-- A reset during a commit leaves the copy under write whole, torn or untouched: a free value chooses (log 47). -/
def tornCommit (i : Nat) (s : State) : State :=
  let k := s.hbs i
  match k.writing with
  | none => s
  | some w =>
    let n := Config.freeNat s.freeCtr % 3
    let c : PairCopy := { keyId := s.keyId i, seq := k.seq + 1, high := w.high, upper := w.upper, good := n == 0 }
    fresh { s.modHbs i (fun k => { k with writing := none }) with
      kv.pairs := if n = 2 then s.kv.pairs else tmod s.kv.pairs {} k.pair (fun p => p.write c) }

/-- Every commit under way meets a reset. -/
def tornCommits (s : State) : State := (s.kv.hbs.map (·.1)).foldl (fun s i => tornCommit i s) s

/-- Reads one key's pair (R211): NEXT, HIGH and UPPER from the best copy; a key with none is spent; a record for each pair with
an invalid copy. A tree whose UPPER is committed without its signature is abandoned (R208). -/
def scanPair (i : Nat) (s : State) : State :=
  let k := s.hbs i
  let p := s.pair k.pair
  let a := (s.keyData false i).attr
  let s := match p.best with
    | some c => s.modHbs i (fun k => { k with
        next := c.high, high := c.high, seq := c.seq, upper := c.upper, writing := none
        abandoned := if c.upper ≠ 0 ∧ !(k.upSigs.any (fun u => u.1 + 1 == c.upper)) ∧ !(k.abandoned.contains (c.upper - 1)) ∧
            c.high < c.upper * 2 ^ hbsHeight a then k.abandoned ++ [c.upper - 1] else k.abandoned })
    | none => s.modHbs i (fun k => { k with spent := true, writing := none })
  if p.a.good && p.b.good then s else logRecord 0x0302 (leBytes 4 (s.keyId i)) s

/-- The stateful pair scan: every allocated pair. -/
def pairScan (s : State) : State := (s.kv.hbs.map (·.1)).foldl (fun s i => scanPair i s) s

/-! ## Tree stores (R205) -/

/-- Offset of heap node `i` of segment `k`, and of heap node `i` of the top part. -/
def segNode (alg_ h k i : Nat) : Nat := k * hbsZ alg_ h + (i - 1) * hbsN alg_
def topNode (alg_ h i : Nat) : Nat := hbsSegs h * hbsZ alg_ h + (i - 1) * hbsN alg_

/-- Offsets of leaf `q` of a tree and of the `h` siblings on its path to the root, leaf first (R217). -/
def pathNodes (alg_ h q : Nat) : List Nat :=
  let hs := min h 14
  let k := q / 2 ^ hs
  let leaf := 2 ^ hs + q % 2 ^ hs
  let sib (n : Nat) : Nat := if n % 2 = 0 then n + 1 else n - 1
  segNode alg_ h k leaf :: (List.range hs).map (fun l => segNode alg_ h k (sib (leaf / 2 ^ l))) ++
    (List.range (h - hs)).map (fun l => topNode alg_ h (sib ((hbsSegs h + k) / 2 ^ l)))

/-- Place of store node `n` among a job's inputs. -/
def storeArg (n : Nat) : Nat := 16 + n

/-- Reads the path of leaf `q` from a store for a running job (R216, R217). -/
def readPath (j : Job) (base alg_ h q : Nat) (s : State) : State :=
  if !s.mayRequest j.slice then s else (((pathNodes alg_ h q).zip (List.range (h + 1))).foldl
    (fun s o => issueRead j.id j.slice (.store o.2) (base + o.1) (hbsN alg_) s) s)

/-- The nodes read, leaf first, once every read has come back. -/
def State.pathRead (s : State) (j : Job) (h : Nat) : Option (List Bytes) :=
  if s.hif.reads.any (fun r => r.job == j.id) then none
  else if (List.range (h + 1)).all (fun n => j.inputs.any (fun e => e.1 == storeArg n)) then
    some ((List.range (h + 1)).map (fun n => j.input (storeArg n)))
  else none

end Sys2Proof.Machine
end

