-- ==== Sys2Proof/Machine/OpsHash.lean ====
section
/-! DEFINITION. Hash-based signature opcodes, family 0x02 (08_hash_signatures.md). -/
namespace Sys2Proof.Machine

/-- ECLK cycles of SLH-DSA: key generation, signing, verification bound (R200). -/
def slhCycles (p : Nat) : Nat × Nat × Nat :=
  match p with
  | 0x41 => (640000, 4266000, 9000) | 0x42 => (12000, 320000, 26000) | 0x43 => (930000, 8000000, 13000)
  | 0x44 => (16000, 533000, 38000) | 0x45 => (630000, 7111000, 19000) | 0x46 => (40000, 1422000, 39000)
  | 0x49 => (914000, 6094000, 12900) | 0x4A => (17000, 457000, 37200) | 0x4B => (1329000, 11428000, 18600)
  | 0x4C => (23000, 761000, 54300) | 0x4D => (900000, 10158000, 27200) | 0x4E => (57000, 2031000, 55800)
  | _ => (0, 0, 0)

/-- Cycles that an M′ above 256 bytes adds to signing and to verification (R200). -/
def slhExtra (p len : Nat) : Nat × Nat :=
  let (blk, sg, vf) := if 0x49 ≤ p then (136, 96, 24) else if p ≤ 0x42 then (64, 64, 16) else (128, 80, 20)
  let n := ceilDiv (len - 256) blk
  (n * sg, n * vf)

/-- Length of M′ of a signature block (FIPS 205: a prefix of two bytes, the context, for HashSLH-DSA an 11-byte OID). -/
def slhM (p : Bytes) : Nat := 2 + (byteAt p 2).toNat + fieldLE p 4 4 + (if (byteAt p 1).toNat % 4 = 1 then 11 else 0)

/-- Deadline bound of stateful signing and verification (R220), with W where the set has several. -/
def hbsBound (p w : Nat) : Nat :=
  let b := if w = 1 then 1600 else if w = 2 then 1500 else if w = 4 then 3000 else 18400
  match p with
  | 0x51 | 0x52 => b | 0x53 | 0x54 => b * 3 / 2 | 0x61 => 15000 | 0x62 => 8000 | _ => 12000

/-- Attribute block of the key a handle names, empty where it names none: sizes of the key's set (R215). -/
def State.attrOf (s : State) (sl h : Nat) : Bytes :=
  match s.locate sl h with
  | .inl (kt, i) => (s.keyData kt i).attr
  | .inr _ => []

/-- Every ALG code of family 0x02. -/
def hashAlgs : List Nat := [0x41, 0x42, 0x43, 0x44, 0x45, 0x46, 0x49, 0x4A, 0x4B, 0x4C, 0x4D, 0x4E, 0x51, 0x52, 0x53, 0x54, 0x61, 0x62, 0x63, 0x64]
def statefulAlgs : List Nat := [0x51, 0x52, 0x53, 0x54, 0x61, 0x62, 0x63, 0x64]

/-! ## Blocks of a tree build (R207) -/

/-- Compressions or permutations of a hash call over `l` bytes. -/
def hashBlocks (shake : Bool) (l : Nat) : Nat := if shake then ceilDiv (l + 1) 136 else ceilDiv (l + 9) 64

/-- Blocks per leaf and per internal node of a set: an LMS leaf is its chains, their seeds, the hash over them and the leaf-node hash; an
XMSS leaf its chains of three calls a step, their seeds and its L-tree. The SHA-2 sets have the figures of the table. -/
def treeBlocks (alg_ w : Nat) : Nat × Nat :=
  let n := hbsN alg_
  let c := hbsChains alg_ w
  if isLms alg_ then
    let k := decide (0x53 ≤ alg_)
    (c * 2 ^ w + hashBlocks k (22 + c * n) + hashBlocks k (22 + n), hashBlocks k (22 + 2 * n))
  else if alg_ = 0x61 then (6825, 9)
  else if alg_ = 0x62 then (2647, 5)
  else (c * (15 * 3 + 1) + (c - 1) * 4, 4)

/-- Cycles of one block of a set at masking order 0 (R173). -/
def treeBlockCycles (alg_ : Nat) : Nat := if alg_ = 0x53 ∨ alg_ = 0x54 ∨ alg_ = 0x63 ∨ alg_ = 0x64 then 24 else 16

/-- Blocks of a build: one segment, or the top part of a tree of several. -/
def buildBlocks (a : Bytes) (seg : Nat) : Nat :=
  let (leaf, node) := treeBlocks (aAlg a) (hbsW a)
  let h := hbsHeight a
  if seg = 0xFFFF ∧ 14 < h then (hbsSegs h - 1) * node else 2 ^ min h 14 * leaf + (2 ^ min h 14 - 1) * node

/-- The most cycles that a build takes on `lanes` lanes. -/
def buildCycles (a : Bytes) (seg lanes : Nat) : Nat := ceilDiv (102 * buildBlocks a seg * treeBlockCycles (aAlg a)) (100 * lanes) + 10000

/-- What the hash-based opcodes ask (R215, R216), with their cost (R200, R220, R412); blocks that R216 does not give: log 100. -/
def reqHash (s : State) (j : Job) : Option OpReq :=
  let p := j.params
  let set := (byteAt p 0).toNat
  let f := (byteAt p 1).toNat
  let src := f.testBit 4
  let (n, pk, sg, _) := slhSizes set
  let (ck, cs, cv) := slhCycles set
  let (xs, xv) := slhExtra set (slhM p)
  let a := s.attrOf j.slice j.handle
  let st := aFam a == 2 && aStateful a
  let hp : OpReq → OpReq := fun r => { r with cls := 2 }
  let free (v : Nat) (r : OpReq) : OpReq :=
    { r with cls := 2, charge := Config.costCharge j.opcode v 0, bound := boundOf (Config.costBound j.opcode v 0) 0 280 }
  let key (algs : List Nat) (param : Option Nat) (usage : Nat) : KeyUse :=
    { handle := j.handle, fam := 2, algs := algs, param := param, usage := usage }
  match j.opcode % 256 with
  | 0x01 => some (hp {
      ins := [(0, 48)], outs := [(0, pk), (1, 8)], plen := p.length == 8, noKey := true, creates := true
      check9 := bad (!isSlh set || !(f == 0 || f == 2) || !isZero p 2 6), drbg := 3 * n, charge := ck, bound := boundOf ck 0 280 })
  | 0x02 => some (hp {
      ins := [(0, fieldLE p 4 4)], outs := [(0, sg)], plen := p.length == 12 + (byteAt p 2).toNat
      check9 := firstBad [bad (f % 4 == 2), sigBlock9 p (isSlh set) false true j.handle], keys := [key [set] none uSign]
      drbg := if f.testBit 2 then 0 else n, charge := cs + xs, bound := boundOf (cs + xs) 0 280 })
  | 0x03 => some (hp {
      ins := [(0, fieldLE p 4 4), (1, if src then pk else 0), (2, fieldLE p 8 2)], unsized := if isSlh set then [] else [1], plen := p.length == 12 + (byteAt p 2).toNat
      check9 := firstBad [bad (f % 4 == 2), sigBlock9 p (isSlh set) false false j.handle], keys := if src then [] else [key [set] none uVerify]
      charge := cv + xv, bound := boundOf (cv + xv) 0 280, masked := false })
  | 0x11 =>
    let h := (byteAt p 2).toNat
    let w := (byteAt p 3).toNat
    let lv := (byteAt p 4).toNat
    some (free 0 {
      ins := [(0, 48)], outs := [(0, 8)], plen := p.length == 8, noKey := true, creates := true
      drbg := if isLms set then hbsN set + 16 else 3 * hbsN set
      check9 := bad (f != 1 || !(isLms set || isXmss set) || !hbsParamOk set h w lv || !isZero p 5 3) })
  | 0x12 =>
    let seg := fieldLE p 2 2
    let h := hbsHeight a
    let len := if !st then 0 else if seg = 0xFFFF ∧ 14 < h then (2 * hbsSegs h - 1) * hbsN (aAlg a) else hbsZ (aAlg a) h
    let cyc := if st then buildCycles a seg s.treeLanes else 0
    some (hp {
      charge := Config.costCharge j.opcode (flag (seg == 0xFFFF)) 0, bound := boundOf cyc 0 280
      outs := [(0, 0)], late := [(0, len)], plen := p.length == 24
      check9 := bad (decide (2 ≤ (byteAt p 0).toNat) || byteAt p 1 != 0 || !isZero p 16 8), keys := [key statefulAlgs none uSign] })
  | 0x13 =>
    let w := hbsW a
    some {
      ins := [(0, fieldLE p 4 4)], outs := [(0, 0)], late := [(0, if st then hbsSigLen (aAlg a) (hbsHeight a) w (hbsLevels a) else 0)], plen := p.length == 24
      check9 := bad (!(isLms set || isXmss set) || !isZero p 1 3 || !isZero p 16 8), keys := [key [set] none uSign]
      drbg := if isLms set then hbsN set else 0
      cls := 2, charge := if set = 0x51 ∧ w = 8 then 16000 else Config.costCharge j.opcode set w, bound := boundOf (hbsBound set w) 0 280 }
  | 0x14 =>
    let ps := f.testBit 0
    let h := (byteAt p 2).toNat
    let w := (byteAt p 3).toNat
    let lv := (byteAt p 4).toNat
    some {
      ins := [(0, fieldLE p 8 4), (1, if ps then hbsPkLen set lv else 0), (2, fieldLE p 12 4)]
      unsized := if isLms set || isXmss set then [] else [1], plen := p.length == 16
      check9 := bad (!(isLms set || isXmss set) || decide (2 ≤ f) || (ps && (decide (j.key ≠ 0) || !hbsParamOk set h w lv)) || !isZero p 5 3)
      keys := if ps then [] else [key [set] (some (h + 256 * w + 65536 * lv)) uVerify]
      cls := 2, charge := Config.costCharge j.opcode set w, bound := boundOf (hbsBound set w) 0 280, masked := false }
  | 0x15 => some (free 0 {
      outs := [(0, 32)], plen := p.length == 0 || p.length == 8, check9 := bad (!isZero p 1 7 || !(p.length == 0 || statefulAlgs.contains set))
      keys := [key (if p.length = 0 then statefulAlgs else [set]) none 0] })
  | 0xF0 => some (free 0 {
      outs := [(0, 0)], late := [(0, if st then hbsPkLen (aAlg a) (hbsLevels a) else (slhSizes (aAlg a)).2.1)], plen := p.length == 0 || p.length == 8
      check9 := bad (!isZero p 1 7 || !(p.length == 0 || hashAlgs.contains set)), keys := [key (if p.length = 0 then hashAlgs else [set]) none 0] })
  | _ => none

/-! ## SLH-DSA -/

/-- SLH_DSA_KEYGEN (R199): SK.seed, SK.prf and PK.seed drawn, the top layer computed and held with the key. -/
def slhDsaKeygenDo (job : Nat) (s : State) : State :=
  runOp 0x0201 (fun j s =>
    let a := j.input 0
    if !s.attrOk j.slice a || aFam a != 2 || aAlg a != j.pb 0 || aStateful a then fail j stBadParameter s
    else withKey j (j.pb 1) a 0 (genMaterial s a j.seed)
      (fun i s => done j [(0, publicKey s (s.bind true i)), (1, handleBytes s true i)] s) s) job s

/-- SLH_DSA_SIGN (R216): opt_rand is drawn, or PK.seed in the deterministic variant. -/
def slhDsaSignDo (job : Nat) (s : State) : State :=
  runOp 0x0202 (fun j s =>
    let set := j.pb 0
    let n := (slhSizes set).1
    let rnd := if (j.pb 1).testBit 2 then cut j.keyB.material 64 n else fit n j.seed
    done j [(0, alg .slhSign (slhSizes set).2.2.1 (num set :: j.keyB.material :: rnd :: sigMessage j))] s) job s

/-- SLH_DSA_VERIFY (R218): any public key of the right length is accepted. -/
def slhDsaVerifyDo (job : Nat) (s : State) : State :=
  runOp 0x0203 (fun j s =>
    let set := j.pb 0
    let pk := if (j.pb 1).testBit 4 then j.input 1 else publicKey s j.keyB
    verdict j ((j.input 2).length == (slhSizes set).2.2.1 && Config.check .slhVerify (num set :: pk :: j.input 2 :: sigMessage j)) s) job s

/-! ## Stateful schemes -/

/-- HBS_KEYGEN (R209, R216): the attribute block names the block's set, HEIGHT, W and LEVELS; a free record pair is taken and
written with index 0 (log 26). -/
def hbsKeygenDo (job : Nat) (s : State) : State :=
  runOp 0x0211 (fun j s =>
    let a := j.input 0
    let set := j.pb 0
    if !s.attrOk j.slice a || aFam a != 2 || aAlg a != set || !aStateful a ||
        hbsHeight a != j.pb 2 || hbsW a != j.pb 3 || hbsLevels a != j.pb 4 then fail j stBadParameter s
    else match s.freePair with
      | none => fail j stPersistentStoreFull s
      | some n => withKey j 1 a 0 (genMaterial s a j.seed) (fun i s =>
          let s := takePair n { keyId := s.keyId i, good := true } s
          done j [(0, handleBytes s false i)] (s.modHbs i (fun _ => { pair := n }))) s) job s

/-- Nodes of a build, a segment or the top part, from its root on (R205); of a tree of one segment the two are the same. -/
def buildNodes (b : Bound) (level tree seg : Nat) : Bytes :=
  let h := hbsHeight b.attr
  let g := if h ≤ 14 ∨ seg = 0xFFFF then none else some seg
  let len := if seg = 0xFFFF ∧ 14 < h then (2 * hbsSegs h - 1) * hbsN b.alg else hbsZ b.alg h
  hbsNode b level tree g ++ alg .hbsSeg (len - hbsN b.alg) [b.material, b.attr, num level, num tree, num (g.getD 0xFFFF)]

/-- A job of a stateful key of which no record can be kept ends with ENGINE_FAULT (R210). -/
def withRecord (j : Job) (f : State → State) (s : State) : State :=
  if aStateful j.keyB.attr && (s.hbs j.keyB.index).noPair then fail j stEngineFault s else f s

/-- Stores what a build computed: a segment root, and the tree's root with its top part (R206). -/
def Hbs.built (k : Hbs) (level tree : Nat) (seg : Option Nat) (root : Bytes) (isTop : Bool) : Hbs :=
  let t := (k.tree? level tree).getD { level := level, tree := tree }
  let t := match seg with
    | some g => { t with segs := t.segs.filter (fun x => x.1 != g) ++ [(g, root)] }
    | none => t
  let t := if isTop then { t with top := some root } else t
  { k with trees := k.trees.filter (fun x => !(x.level == level && x.tree == tree)) ++ [t] }

/-- The end of a top-part build of level-0 tree `t`, after the upper level has signed where there is one. -/
def finishTop (j : Job) (i t : Nat) (seg : Option Nat) (nodes root : Bytes) (sig : Option Bytes) (s : State) : State :=
  done j [(0, nodes)] (dropPast i (s.modHbs i (fun k =>
    let k := k.built 0 t seg root true
    { k with upSigs := sig.elim k.upSigs (fun x => k.upSigs.filter (fun u => u.1 != t) ++ [(t, x)]) })))

/-- The upper level signs the root of level-0 tree `t` (R208): the path of level-1 leaf `t` is read and checked, UPPER is
committed, and the signature stored. While reads or the commit are under way, the build waits. A path that fails its check ends the
job with INPUT_MALFORMED (log 103). -/
def upperBuild (j : Job) (i t : Nat) (seg : Option Nat) (nodes root : Bytes) (s : State) : State :=
  let b := j.keyB
  let k := s.hbs i
  let h := hbsHeight b.attr
  if t < k.upper ∧ j.index.isNone then
    let s := if k.upSigs.any (fun u => u.1 == t) ∨ k.abandoned.contains t then s
      else s.modHbs i (fun k => { k with abandoned := k.abandoned ++ [t] })
    done j [(0, nodes)] s
  else match s.pathRead j h with
    | none => if s.hif.reads.any (fun r => r.job == j.id) then s else readPath j (fieldLE j.params 8 8) b.alg h t s
    | some path =>
      if !Config.check .hbsPath ([b.attr, num t] ++ path ++ [(k.root? 1 0).getD []]) then fail j stInputMalformed s
      else if k.upper ≤ t then
        let s := s.modJob j.id (fun j => { j with index := some t })
        if k.writing.isSome then s else startCommit i k.high (t + 1) s
      else
        finishTop j i t seg nodes root (some (alg .hbsSign (hbsSigLen b.alg h (hbsW b.attr) 1) ([num b.alg, b.material, b.attr, num 1, num t, root] ++ path))) s

/-- HBS_TREE_BUILD (R206, R208). -/
def hbsTreeBuildDo (job : Nat) (s : State) : State :=
  runOp 0x0212 (fun j => withRecord j (fun s =>
    let b := j.keyB
    let i := b.index
    let p := j.params
    let h := hbsHeight b.attr
    let level := j.pb 0
    let seg := fieldLE p 2 2
    let t := fieldLE p 4 4
    let k := s.hbs i
    let nodes := buildNodes b level t seg
    let root := nodes.take (hbsN b.alg)
    let one := decide (h ≤ 14)
    let tree := (k.tree? level t).getD { level := level, tree := t }
    if hbsLevels b.attr ≤ level || !(seg == 0xFFFF || decide (seg < hbsSegs h)) || !k.mayBuild b.attr level t ||
        (seg == 0xFFFF && !one && tree.segs.length != hbsSegs h) then fail j stBadParameter s
    else
      let sg := if seg = 0xFFFF then (if one then some 0 else none) else some seg
      if !(one || seg == 0xFFFF) then done j [(0, nodes)] (s.modHbs i (fun k => k.built level t sg root false))
      else if level = 1 then done j [(0, nodes)] (s.modHbs i (fun k => k.built 1 t sg root true))
      else if hbsLevels b.attr = 2 ∧ !(k.installed 2 t) then upperBuild j i t sg nodes root s
      else finishTop j i t sg nodes root none s)) job s

/-- HBS_SIGN (R217): the index was assigned at step 5; the path is read from the store, hashed to the root held, and the
signature made. -/
def hbsSignDo (job : Nat) (s : State) : State :=
  runOp 0x0213 (fun j => withRecord j (fun s =>
    match j.index with
    | none => s
    | some q =>
      let b := j.keyB
      let k := s.hbs b.index
      let h := hbsHeight b.attr
      let lv := hbsLevels b.attr
      let tree := q / 2 ^ h
      let leaf := q % 2 ^ h
      match s.pathRead j h with
      | none => if s.hif.reads.any (fun r => r.job == j.id) then s else readPath j (fieldLE j.params 8 8) b.alg h leaf s
      | some path =>
        if !Config.check .hbsPath ([b.attr, num leaf] ++ path ++ [(k.root? 0 tree).getD []]) then fail j stInputMalformed s
        else
          let up := if lv = 2 then ((k.upSigs.find? (fun u => u.1 == tree)).map (·.2)).getD [] else []
          done j [(0, alg .hbsSign (hbsSigLen b.alg h (hbsW b.attr) lv) ([num b.alg, b.material, b.attr, num 0, num q, j.input 0, j.seed, up] ++ path))] s)) job s

/-- HBS_VERIFY (R218): the supplied key's type codes first, then length and root. -/
def hbsVerifyDo (job : Nat) (s : State) : State :=
  runOp 0x0214 (fun j => withRecord j (fun s =>
    let set := j.pb 0
    let src := (j.pb 1).testBit 0
    let pk := if src then j.input 1 else publicKey s j.keyB
    let dims := [num set, num (j.pb 2), num (j.pb 3), num (j.pb 4)]
    let head := hbsPkHead set (j.pb 2) (j.pb 3) (j.pb 4)
    if src && pk.take head.length != head then fail j stInputKeyInvalid s
    else verdict j ((j.input 2).length == hbsSigLen set (j.pb 2) (j.pb 3) (j.pb 4) && Config.check .hbsVerify (dims ++ [pk, j.input 2, j.input 0])) s)) job s

/-- HBS_STATE (R219): NEXT is the index that the next assignment gives. -/
def hbsStateDo (job : Nat) (s : State) : State :=
  runOp 0x0215 (fun j => withRecord j (fun s =>
    let b := j.keyB
    let k := (s.hbs b.index).settle b.attr
    let lv := hbsLevels b.attr
    let cur := k.current b.attr
    let under := (k.tree? 0 (k.building b.attr)).getD { level := 0, tree := 0 }
    let under := if lv = 2 ∧ (k.root? 1 0).isNone then (k.tree? 1 0).getD under else under
    done j [(0, leBytes 8 k.next ++ leBytes 8 k.high ++ leBytes 8 (2 ^ (lv * hbsHeight b.attr)) ++ leBytes 4 cur ++
      leBytes 1 (flag (k.next < k.limit b.attr && !k.spent && !k.noPair) + 2 * flag ((k.installedTrees lv).any (fun t => decide (cur < t))) +
        4 * flag (!k.abandoned.isEmpty)) ++ leBytes 3 under.segs.length)] s)) job s

/-- HBS_PUBLIC_KEY (R215). -/
def hbsPublicKeyDo (job : Nat) (s : State) : State := runOp 0x02F0 (fun j => withRecord j (fun s => done j [(0, publicKey s j.keyB)] s)) job s

/-! ## The meanings of the commands -/

/-- SLH_DSA_KEYGEN (R199). -/
def execSlhDsaKeygen (job : Nat) (s : State) : Host.Outcome State Fault Refusal := .next (slhDsaKeygenDo job s)
/-- SLH_DSA_SIGN (R200). -/
def execSlhDsaSign (job : Nat) (s : State) : Host.Outcome State Fault Refusal := .next (slhDsaSignDo job s)
/-- SLH_DSA_VERIFY (R218). -/
def execSlhDsaVerify (job : Nat) (s : State) : Host.Outcome State Fault Refusal := .next (slhDsaVerifyDo job s)
/-- HBS_KEYGEN (R216). -/
def execHbsKeygen (job : Nat) (s : State) : Host.Outcome State Fault Refusal := .next (hbsKeygenDo job s)
/-- HBS_TREE_BUILD (R206). -/
def execHbsTreeBuild (job : Nat) (s : State) : Host.Outcome State Fault Refusal := .next (hbsTreeBuildDo job s)
/-- HBS_SIGN (R217). -/
def execHbsSign (job : Nat) (s : State) : Host.Outcome State Fault Refusal := .next (hbsSignDo job s)
/-- HBS_VERIFY (R218). -/
def execHbsVerify (job : Nat) (s : State) : Host.Outcome State Fault Refusal := .next (hbsVerifyDo job s)
/-- HBS_STATE (R219). -/
def execHbsState (job : Nat) (s : State) : Host.Outcome State Fault Refusal := .next (hbsStateDo job s)
/-- HBS_PUBLIC_KEY (R215). -/
def execHbsPublicKey (job : Nat) (s : State) : Host.Outcome State Fault Refusal := .next (hbsPublicKeyDo job s)

end Sys2Proof.Machine
end

