-- ==== Sys2Proof/Machine/OpsClassical.lean ====
section
/-! DEFINITION. Classical public-key opcodes, family 0x04 (10_classical.md, R246 to R264). -/
namespace Sys2Proof.Machine

/-! ## Sets and cycles (R250, R264) -/

/-- Bits of the field of a loaded curve. -/
def State.curveBits (s : State) (p : Nat) : Nat := (s.curve p).elim 0 (fun c => fieldLE c 0 2)

/-- Cycles of signing (or private operation), verification (or public operation), agreement, key generation. -/
def State.pkCycles (s : State) (p : Nat) : Nat × Nat × Nat × Nat :=
  match p with
  | 0x01 | 0x04 => (102400, 256000, 160000, 96000)
  | 0x02 => (256000, 640000, 384000, 240000)
  | 0x03 => (640000, 1600000, 960000, 600000)
  | 0x05 => (128000, 320000, 200000, 120000)
  | 0x06 => (320000, 800000, 480000, 300000)
  | 0x07 => (704000, 1760000, 1056000, 660000)
  | 0x10 => (73140, 182850, 0, 70000)
  | 0x11 => (256000, 640000, 0, 240000)
  | 0x12 => (0, 0, 85330, 85330)
  | 0x13 => (0, 0, 320000, 320000)
  | 0x40 => (568880, 20480, 0, 3 * 42700000)
  | 0x41 => (1920000, 40960, 0, 3 * 140000000)
  | 0x42 => (4266660, 81920, 0, 3 * 330000000)
  | _ =>
    if s.curveBits p ≤ 256 then (128000, 320000, 200000, 120000)
    else if s.curveBits p ≤ 384 then (320000, 800000, 480000, 300000)
    else (800000, 2000000, 1200000, 750000)

/-- Length of a public key of a set (R262). -/
def State.pkLen (s : State) (p : Nat) : Nat :=
  if isRsa p then rsaLen p + 32 else if isWeier p then 1 + 2 * s.curveLen p else s.curveLen p

/-- A supplied public key has a length R256 and R262 allow. -/
def State.pkLenOk (s : State) (p n : Nat) : Bool :=
  n == s.pkLen p || (isWeier p && n == 1 + s.curveLen p)

/-- Signature length of a set (R258). -/
def State.sigLen (s : State) (p : Nat) : Nat :=
  if isRsa p then rsaLen p else if p = 0x10 then 64 else if p = 0x11 then 114 else 2 * s.curveLen p

/-! ## Parameter checks -/

/-- Check 9 of the block of R263: `flags` is the set of flag bits the opcode takes, `okSet` its sets. -/
def pk9 (op : Nat) (okSet : Bool) (flags : Nat) (p : Bytes) (key : Nat) : Nat :=
  let set := (byteAt p 0).toNat
  let f := (byteAt p 1).toNat
  let h := (byteAt p 2).toNat
  let ctx := (byteAt p 3).toNat
  let msg := fieldLE p 4 4
  let ed := f / 16 % 4
  let hashed := op ∈ [0x02, 0x03, 0x21, 0x22]
  let oaep := op = 0x23 ∨ op = 0x24
  let eddsa := op = 0x11 ∨ op = 0x12
  bad (!okSet || (f &&& flags) != f || !isZero p 12 4 || ed == 3 || (f.testBit 0 && decide (key ≠ 0)) ||
    (if hashed ∨ oaep then phLen h == 0 || (isRsa set && (h == 4 || h == 5)) else h != 0) ||
    (decide hashed && msg != phLen h) ||
    (op == 0x23 && decide (rsaLen set < msg + 2 * phLen h + 2)) ||
    (decide eddsa && ((ed == 2 && (set != 0x10 || ctx == 0)) || (ed == 1 && msg != 64) || (ed != 1 && decide (16384 < msg)))))

/-- Cycles that an RSA public operation adds for an e above 65537 (R264): a set's figure for each further bit and each further set bit. -/
def rsaExtra (set e : Nat) : Nat :=
  let unit := if set = 0x40 then 1200 else if set = 0x41 then 2400 else 4800
  if e ≤ 65537 then 0 else unit * ((bitLen e - 17) + (weight 256 e - 2))

/-- EdDSA cycles that a message adds (R264). -/
def edExtra (set msg sign : Nat) : Nat :=
  if msg ≤ 64 then 0
  else if set = 0x10 then ceilDiv (msg - 64) 128 * (if sign = 1 then 1400 else 700)
  else ceilDiv (msg - 64) 136 * (if sign = 1 then 1800 else 900)

/-- What the classical opcodes ask (R262, R263), with their cost (R264, R412). -/
def reqClassical (s : State) (j : Job) : Option OpReq :=
  let p := j.params
  let set := (byteAt p 0).toNat
  let f := (byteAt p 1).toNat
  let l := s.curveLen set
  let (cs, cv, ca, ck) := s.pkCycles set
  let live := decide (0 < l)
  let known := live || isRsa set
  let src := f.testBit 0
  let msg := fieldLE p 4 4
  let plen16 := p.length == 16 + (byteAt p 3).toNat
  let key (usage : Nat) : KeyUse := { handle := j.handle, fam := 4, algs := [set], usage := usage, needle := true }
  let small := p.length == 8
  let verify (op : Nat) (ok : Bool) (flags cyc : Nat) : OpReq := {
    ins := [(0, msg), (1, if src then fieldLE p 10 2 else 0), (2, fieldLE p 8 2)], plen := plen16 && (!src || !known || s.pkLenOk set (fieldLE p 10 2))
    check9 := pk9 op ok flags p j.handle, keys := if src then [] else [key uVerify], masked := false
    cls := 4, charge := cyc, bound := boundOf cyc 0 4200 }
  let sign (op : Nat) (ok : Bool) (flags cyc extra : Nat) : OpReq := {
    ins := [(0, msg)], outs := [(0, s.sigLen set)], plen := plen16, check9 := pk9 op ok flags p j.handle, keys := [key uSign]
    drbg := 64, cls := 4, charge := cyc, bound := boundOf (cyc + extra) 0 4200 }
  match j.opcode % 256 with
  | 0x01 => some {
      ins := [(0, 48)], outs := [(0, s.pkLen set), (1, 8)], plen := small, noKey := true, creates := true
      check9 := bad (!(isRsa set || live) || !(f == 0 || f == 2) || !isZero p 2 6), drbg := if isRsa set then 64 else l + 8
      cls := 4, charge := ck, bound := if isRsa set then none else boundOf ck 0 4200 }
  | 0x02 => some (sign 0x02 (isWeier set && live) 0x04 cs 4000)
  | 0x03 => some (verify 0x03 (isWeier set && live) 0x01 cv)
  | 0x04 => some {
      ins := [(0, fieldLE p 10 2)], outs := [(0, if f.testBit 1 then 8 else l)], plen := plen16 && (!known || s.pkLenOk set (fieldLE p 10 2))
      check9 := pk9 0x04 ((isWeier set || isMont set) && live) 0x02 p j.handle, keys := [key uDerive]
      drbg := 64, cls := 4, charge := ca, bound := boundOf ca 0 4200 }
  | 0x11 => some (sign 0x11 (isEdwards set) 0x30 (cs + edExtra set msg 1) 0)
  | 0x12 => some (verify 0x12 (isEdwards set) 0x31 (cv + edExtra set msg 0))
  | 0x21 => some (sign 0x21 (isRsa set) 0x08 cs 0)
  | 0x22 => some (verify 0x22 (isRsa set) 0x09 cv)
  | 0x23 => some {
      ins := [(0, msg), (1, if src then fieldLE p 10 2 else 0)], outs := [(0, rsaLen set)]
      plen := plen16 && (!src || !known || s.pkLenOk set (fieldLE p 10 2)), check9 := pk9 0x23 (isRsa set) 0x01 p j.handle
      keys := if src then [] else [key uWrap], drbg := 64, cls := 4, charge := cv, bound := boundOf cv 0 4200, masked := false }
  | 0x24 => some {
      ins := [(0, msg)], outs := [(0, rsaLen set - 2 * phLen (byteAt p 2).toNat - 2)], plen := plen16
      check9 := pk9 0x24 (isRsa set) 0x00 p j.handle, keys := [key uUnwrap], drbg := 64, cls := 4, charge := cs, bound := boundOf cs 0 4200 }
  | 0xE0 =>
    let n := sumLen j.descs false 0
    some { slice0 := true, ins := [(0, if 3 ≤ n ∧ (n - 3) % 6 = 0 then n else 171)], plen := small, noKey := true
           check9 := bad (!(0x80 ≤ set && set ≤ 0x8F) || !isZero p 1 7), quorum := true, drbg := 64
           cls := 4, charge := Config.costCharge 0x04E0 0 0, bound := boundOf 56000000 0 4200, masked := false }
  | 0xE1 => some { slice0 := true, plen := small, noKey := true, quorum := true
                   check9 := bad (!(0x80 ≤ set && set ≤ 0x8F) || !live || !isZero p 1 7), cls := 4
                   charge := Config.costCharge 0x04E1 0 0, bound := boundOf (Config.costBound 0x04E1 0 0) 0 4200, masked := false }
  | 0xF0 => some { outs := [(0, s.pkLen set)], plen := small, check9 := bad (!(isRsa set || live) || !isZero p 1 7), keys := [key 0]
                   cls := 4, charge := if isRsa set then cv else ck, bound := boundOf (if isRsa set then cv else ck) 0 4200 }
  | _ => none

/-! ## Computation -/

/-- Arguments that name a set: its code and, for a loaded slot, the curve. -/
def setArgs (s : State) (set : Nat) : List Bytes := [num set, (s.curve set).getD []]

/-- Checks of R256 and R257 on a public key a job supplies, in order; 0 when it passes. Order 1 is check 8 of R106. -/
def pkStatus (s : State) (set : Nat) (pk : Bytes) : Nat :=
  if isRsa set then
    if rsaPubOk (rsaLen set) pk then 0 else stInputKeyInvalid
  else
    let l := s.curveLen set
    let b := byteAt pk 0
    if isWeier set && !((b == 4 && pk.length == 1 + 2 * l) || ((b == 2 || b == 3) && pk.length == 1 + l)) then stInputMalformed
    else match pointStatus set l (curveDom set (s.curve set)) pk with
      | 0 => if Config.measure .pointStatus (setArgs s set ++ [pk]) = 0 then 0 else stPointInvalid
      | st => st

/-- PK_KEYGEN (R262): the attribute block first (R547), then the key. -/
def pkKeygenDo (job : Nat) (s : State) : State :=
  runOp 0x0401 (fun j s =>
    let set := j.pb 0
    let a := j.input 0
    if !(s.curvesOf j).attrOk j.slice a || aFam a != 4 || aAlg a != set || aStateful a then fail j stBadParameter s
    else withKey j (j.pb 1) a 0 (genMaterial (s.curvesOf j) a j.seed)
      (fun i s => done j [(0, publicKey (s.curvesOf j) (s.bind true i)), (1, handleBytes s true i)] s) s) job s

/-- ECDSA_SIGN (R261, R263): deterministic, or hedged with DRBG output. -/
def ecdsaSignDo (job : Nat) (s : State) : State :=
  runOp 0x0402 (fun j s =>
    let set := j.pb 0
    let v := s.curvesOf j
    done j [(0, alg .ecdsaSign (v.sigLen set)
      (setArgs v set ++ [j.keyB.material, num (j.pb 2), j.input 0, if (j.pb 1).testBit 2 then [] else j.seed]))] s) job s

/-- The public key a verification uses: supplied or derived (R262). -/
def Job.pubKey (j : Job) (s : State) : Bytes := if (j.pb 1).testBit 0 then j.input 1 else publicKey (s.curvesOf j) j.keyB

/-- The parts of a signature lie in the ranges of R258: r and s of ECDSA from 1 to n − 1, S of EdDSA below the group order, an RSA
representative below n. -/
def sigRange (s : State) (set : Nat) (pk sig : Bytes) : Bool :=
  let l := s.curveLen set
  let n := (curveDom set (s.curve set)).n
  if isRsa set then decide (ofBE sig < ofBE (cut pk 0 (rsaLen set)))
  else if isEdwards set then decide (ofLE (sig.drop l) < n)
  else scalarOk set (curveDom set (s.curve set)) (sig.take l) && scalarOk set (curveDom set (s.curve set)) (sig.drop l)

/-- The check of a standard's verification on a signature of the right length and ranges (R258). -/
def sigCheck (a : Config.Alg) (more : List Bytes) (s : State) (set : Nat) (pk sig msg : Bytes) : Bool :=
  sig.length == s.sigLen set && sigRange s set pk sig && Config.check a (setArgs s set ++ [pk, sig, msg] ++ more)

/-- A verification of family 0x04: the supplied key first, then length and signature (R255, R256, R258). -/
def pkVerify (a : Config.Alg) (more : List Bytes) (j : Job) (s : State) : State :=
  let set := j.pb 0
  let pk := j.pubKey s
  match if (j.pb 1).testBit 0 then pkStatus (s.curvesOf j) set pk else 0 with
  | 0 => verdict j (sigCheck a more (s.curvesOf j) set pk (j.input 2) (j.input 0)) s
  | st => fail j st s

/-- ECDSA_VERIFY. -/
def ecdsaVerifyDo (job : Nat) (s : State) : State := runOp 0x0403 (fun j s => pkVerify .ecdsaVerify [num (j.pb 2)] j s) job s

/-- KEY_AGREE (R256): the peer key's checks in order, the shared secret or its handle. -/
def keyAgreeDo (job : Nat) (s : State) : State :=
  runOp 0x0404 (fun j s =>
    let set := j.pb 0
    let v := s.curvesOf j
    let l := v.curveLen set
    let z := alg .ecdh l (setArgs v set ++ [j.keyB.material, j.input 0])
    match pkStatus v set (j.input 0) with
    | 0 =>
      if (isMont set && z.all (· == 0)) || Config.measure .pointStatus (setArgs v set ++ [j.input 0, j.keyB.material]) ≠ 0 then
        fail j stPointInvalid s
      else if (j.pb 1).testBit 1 then
        let a := j.keyB.attr
        withKey j 2 (mkAttr 7 3 (aMasters a) (aWorlds a) (aLcs a) 0 uDerive l) 0 z (fun i s => done j [(0, handleBytes s true i)] s) s
      else done j [(0, z)] s
    | st => fail j st s) job s

/-- Context and mode arguments of EdDSA. -/
def edArgs (j : Job) : List Bytes := [num (j.pb 1 / 16 % 4), cut j.params 16 (j.pb 3)]

/-- EDDSA_SIGN. -/
def eddsaSignDo (job : Nat) (s : State) : State :=
  runOp 0x0411 (fun j s =>
    done j [(0, alg .eddsaSign (s.sigLen (j.pb 0)) (num (j.pb 0) :: j.keyB.material :: j.input 0 :: edArgs j))] s) job s

/-- EDDSA_VERIFY. -/
def eddsaVerifyDo (job : Nat) (s : State) : State := runOp 0x0412 (fun j s => pkVerify .eddsaVerify (edArgs j) j s) job s

/-- An RSA private-key result is checked before its release (R260): a mismatch is counted, reported and ends the job. -/
def rsaChecked (j : Job) (args : List Bytes) (k : State → State) (s : State) : State :=
  if Config.check .rsaCheck args then k s
  else fail j stEngineFault
    (raiseEvent 0x50 j.engine (.engine j.engine) .own { s with eng.crtFaults := satInc s.eng.crtFaults })

/-- RSA_SIGN (R254): PSS with a salt of hash length from the DRBG, or PKCS#1 v1.5. -/
def rsaSignDo (job : Nat) (s : State) : State :=
  runOp 0x0421 (fun j s =>
    let set := j.pb 0
    let args := [num set, j.keyB.material, num (j.pb 2), num (j.pb 1 / 8 % 2), j.input 0,
      if (j.pb 1).testBit 3 then fit (phLen (j.pb 2)) j.seed else []]
    rsaChecked j args (fun s => done j [(0, alg .rsaSign (rsaLen set) args)] s) s) job s

/-- RSA_VERIFY. -/
def rsaVerifyDo (job : Nat) (s : State) : State :=
  runOp 0x0422 (fun j s => pkVerify .rsaVerify [num (j.pb 2), num (j.pb 1 / 8 % 2)] j s) job s

/-- RSA_OAEP_ENCRYPT. -/
def rsaOaepEncryptDo (job : Nat) (s : State) : State :=
  runOp 0x0423 (fun j s =>
    let set := j.pb 0
    let pk := j.pubKey s
    match if (j.pb 1).testBit 0 then pkStatus (s.curvesOf j) set pk else 0 with
    | 0 => done j [(0, alg .rsaEncrypt (rsaLen set) [num set, pk, num (j.pb 2), cut j.params 16 (j.pb 3), j.input 0, fit (phLen (j.pb 2)) j.seed])] s
    | st => fail j st s) job s

/-- RSA_OAEP_DECRYPT (R259): a representative of at least n, then every decoding failure alike. -/
def rsaOaepDecryptDo (job : Nat) (s : State) : State :=
  runOp 0x0424 (fun j s =>
    let set := j.pb 0
    let args := [num set, j.keyB.material, num (j.pb 2), cut j.params 16 (j.pb 3), j.input 0]
    let n := ofBE (j.keyB.material.take (rsaLen set))
    if n ≤ ofBE (j.input 0) then fail j stMsgOutOfRange s
    else rsaChecked j args (fun s =>
      if Config.measure .rsaDecryptStatus args ≠ 0 then fail j stInputMalformed s
      else done j [(0, (Config.crypto .rsaDecrypt args).take (rsaLen set - 2 * phLen (j.pb 2) - 2))] s) s) job s

/-- A key of any class names the curve slot (R253). -/
def State.curveNamed (s : State) (set : Nat) : Bool :=
  let named (kt : Bool) (e : Nat × Slot) : Bool :=
    e.2.isKey && (let a := (s.keyData kt e.1).attr; aFam a == 4 && aAlg a == set)
  s.kv.kt.any (named true) || s.kv.ps.any (named false)

/-- The powers of `x` modulo n from one on, `k` of them, differ from 1 (R252, order 8). -/
def noUnitPower (n x : Nat) : Nat → Nat → Bool
  | 0, _ => true
  | k + 1, y => y % n != 1 && noUnitPower n x k (y * x % n)

/-- The sanity checks of R252 on a curve description; the primality of p and n, with bases from the DRBG, and that n × G is the point at
infinity are the standard tests (log 5). -/
def curveGood (c seed : Bytes) : Bool :=
  let fb := fieldLE c 0 2
  let l := ceilDiv fb 8
  let v (k : Nat) : Nat := curveNum c k
  let p := v 0
  let h := (byteAt c (2 + 6 * l)).toNat
  let t : Int := (h * v 5 : Nat) - (p + 1 : Nat)
  decide (c.length = 3 + 6 * l) && decide (224 ≤ fb) && decide (fb ≤ 521) && decide (2 ^ (fb - 1) ≤ p) && decide (p < 2 ^ fb) &&
  decide (v 1 < p) && decide (v 2 < p) && decide (v 3 < p) && decide (v 4 < p) &&
  decide ((4 * v 1 ^ 3 + 27 * v 2 ^ 2) % p ≠ 0) && decide (2 ^ 223 ≤ v 5) &&
  decide (1 ≤ h) && decide (h ≤ 4) && decide (t * t ≤ 4 * p) && decide (v 5 ≠ p) && noUnitPower (v 5) p 100 p &&
  decide ((v 4 ^ 2) % p = (v 3 ^ 3 + v 1 * v 3 + v 2) % p) && Config.check .curveOk [c, seed]

/-- EC_CURVE_LOAD (R252, R253). -/
def ecCurveLoadDo (job : Nat) (s : State) : State :=
  runOp 0x04E0 (fun j s =>
    let c := j.input 0
    if s.curveNamed (j.pb 0) then fail j stBadParameter s
    else if !curveGood c j.seed then fail j stCurveInvalid s
    else done j [] { s with thm.curves := tput s.thm.curves none (j.pb 0 - 0x80) (some c) }) job s

/-- EC_CURVE_CLEAR (R253). -/
def ecCurveClearDo (job : Nat) (s : State) : State :=
  runOp 0x04E1 (fun j s =>
    if s.curveNamed (j.pb 0) then fail j stBadParameter s
    else done j [] { s with thm.curves := tput s.thm.curves none (j.pb 0 - 0x80) none }) job s

/-- PK_PUBLIC_KEY (R262). -/
def pkPublicKeyDo (job : Nat) (s : State) : State := runOp 0x04F0 (fun j s => done j [(0, publicKey (s.curvesOf j) j.keyB)] s) job s

/-! ## The meanings of the commands -/

/-- PK_KEYGEN (R262). -/
def execPkKeygen (job : Nat) (s : State) : Host.Outcome State Fault Refusal := .next (pkKeygenDo job s)
/-- ECDSA_SIGN (R261). -/
def execEcdsaSign (job : Nat) (s : State) : Host.Outcome State Fault Refusal := .next (ecdsaSignDo job s)
/-- ECDSA_VERIFY (R258). -/
def execEcdsaVerify (job : Nat) (s : State) : Host.Outcome State Fault Refusal := .next (ecdsaVerifyDo job s)
/-- KEY_AGREE (R256). -/
def execKeyAgree (job : Nat) (s : State) : Host.Outcome State Fault Refusal := .next (keyAgreeDo job s)
/-- EDDSA_SIGN (R263). -/
def execEddsaSign (job : Nat) (s : State) : Host.Outcome State Fault Refusal := .next (eddsaSignDo job s)
/-- EDDSA_VERIFY (R258). -/
def execEddsaVerify (job : Nat) (s : State) : Host.Outcome State Fault Refusal := .next (eddsaVerifyDo job s)
/-- RSA_SIGN (R260). -/
def execRsaSign (job : Nat) (s : State) : Host.Outcome State Fault Refusal := .next (rsaSignDo job s)
/-- RSA_VERIFY (R258). -/
def execRsaVerify (job : Nat) (s : State) : Host.Outcome State Fault Refusal := .next (rsaVerifyDo job s)
/-- RSA_OAEP_ENCRYPT (R263). -/
def execRsaOaepEncrypt (job : Nat) (s : State) : Host.Outcome State Fault Refusal := .next (rsaOaepEncryptDo job s)
/-- RSA_OAEP_DECRYPT (R259). -/
def execRsaOaepDecrypt (job : Nat) (s : State) : Host.Outcome State Fault Refusal := .next (rsaOaepDecryptDo job s)
/-- EC_CURVE_LOAD (R252). -/
def execEcCurveLoad (job : Nat) (s : State) : Host.Outcome State Fault Refusal := .next (ecCurveLoadDo job s)
/-- EC_CURVE_CLEAR (R253). -/
def execEcCurveClear (job : Nat) (s : State) : Host.Outcome State Fault Refusal := .next (ecCurveClearDo job s)
/-- PK_PUBLIC_KEY (R262). -/
def execPkPublicKey (job : Nat) (s : State) : Host.Outcome State Fault Refusal := .next (pkPublicKeyDo job s)

end Sys2Proof.Machine
end

