-- ==== Sys2Proof/Machine/OpsVault.lean ====
section
/-! DEFINITION. Key vault opcodes, family 0x07, and RNG_GENERATE, family 0x08 (12_key_vault.md, R316 to R332; R376). -/
namespace Sys2Proof.Machine

/-- Number of slots of the key a handle names; 0 where it names none. -/
def State.countOf (s : State) (sl h : Nat) : Nat :=
  match s.locate sl h with
  | .inl (kt, i) => (s.slot kt i).count
  | .inr _ => 0

/-- The key a handle names is never exported, replaced or moved: stateful, session-ephemeral, composite (R303, R204, R328). -/
def State.fixedKey (s : State) (sl h : Nat) : Bool :=
  let a := s.attrOf sl h
  hClass h == 2 || aStateful a || aFam a == 0x0A

/-- A composite key has a part that is not persistent (R322). -/
def State.partsNotPersistent (s : State) (sl h : Nat) : Bool :=
  match s.locate sl h with
  | .inl (kt, i) => aFam (s.keyData kt i).attr == 0x0A && (partHandles (s.keyData kt i).material).any (fun p => hClass p != 1)
  | .inr _ => false

/-- A deny status. -/
def denied (b : Bool) : Nat := if b then stKeyPolicyDenied else 0

/-- What the key vault opcodes and RNG_GENERATE ask (R331, R332, R376). -/
def reqVault (s : State) (j : Job) : Option OpReq :=
  let p := j.params
  let sl := j.slice
  let h := j.handle
  let kc := (byteAt p 0).toNat
  let own (usage : Nat) : KeyUse := { handle := h, anyAlg := true, usage := usage }
  let kek (h usage : Nat) : KeyUse := { handle := h, fam := 5, algs := [3], usage := usage }
  let vault (r : OpReq) : OpReq := { r with cls := 7, charge := 0, bound := some 0, masked := false }
  let small := p.length == 8
  /- A blob carries its own length: the descriptor sum, where a blob can be that long. -/
  let sum := sumLen j.descs false 0
  let blob := if 176 ≤ sum ∧ (sum - 176) % 128 = 0 ∧ sum ≤ blobLen 128 then sum else blobLen 1
  match j.opcode with
  | 0x0701 => some (vault {
      ins := [(0, 48)], outs := [(0, 8)], plen := small, noKey := true, creates := true, drbg := 66
      check9 := bad (decide (2 ≤ kc) || !isZero p 1 7) })
  | 0x0702 => some (vault { plen := small, check9 := bad (!isZero p 0 8), keys := [own 0] })
  | 0x0703 => some (vault { outs := [(0, 64)], plen := small, check9 := bad (!isZero p 0 8), keys := [own 0] })
  | 0x0704 => some (vault { ins := [(0, 48)], plen := small, check9 := bad (!isZero p 0 8), keys := [own 0] })
  | 0x0705 => some (vault {
      outs := [(0, 8)], plen := small, check9 := bad (!isZero p 0 8), keys := [own 0]
      deny := denied (hClass h != 0 || s.partsNotPersistent sl h) })
  | 0x0706 =>
    let a := s.attrOf sl h
    let u := fieldLE p 8 8
    some {
      ins := if kc = 1 then [(0, blob)] else [], outs := [(0, 0), (1, 8)], late := [(0, s.pubLen a)], plen := p.length == 16
      check9 := bad (decide (2 ≤ kc) || !isZero p 1 7 || (kc == 0 && u != 0))
      keys := own 0 :: (if kc = 1 then [kek u uUnwrap] else []), deny := denied (s.fixedKey sl h)
      drbg := if kc = 0 then max 1 (s.drawLen a) else 0 }
  | 0x0707 => some {
      outs := [(0, 0)], late := [(0, if s.countOf sl h = 0 then 0 else blobLen (s.countOf sl h))], plen := p.length == 16, check9 := bad (!isZero p 8 8)
      keys := [own uExport, kek (fieldLE p 0 8) uWrap], deny := denied (s.kv.exportDis || s.fixedKey sl h) }
  | 0x0708 => some {
      ins := [(0, blob)], outs := [(0, 8)], plen := small, check9 := bad (decide (2 ≤ kc) || !isZero p 1 7)
      keys := [kek h uUnwrap], creates := true }
  | 0x0709 =>
    let n := fieldLE p 4 4
    some {
      ins := [(0, 48), (1, n)], outs := [(0, 8)], plen := small, keys := [own uDerive], creates := true
      check9 := bad (decide (3 ≤ kc) || byteAt p 1 == 0 || decide (4 ≤ (byteAt p 1).toNat) || !isZero p 2 2 || decide (n < 2) || decide (4098 < n)) }
  | 0x070A =>
    let n := (byteAt p 8).toNat
    some {
      outs := [(0, 16)], plen := p.length == 16 + n, check9 := bad (decide (n < 16) || decide (64 < n) || !isZero p 9 7)
      keys := [{ handle := h, fam := 6, algs := [0x62], usage := uMac }, { handle := fieldLE p 0 8, light := true }] }
  | 0x0801 =>
    let len := fieldLE p 4 4
    let add := (byteAt p 1).toNat
    some {
      ins := [(0, add)], outs := [(0, len)], plen := small, noKey := true, drbg := len
      check9 := bad (decide (2 ≤ kc) || decide (48 < add) || !isZero p 2 2 || len == 0)
      cls := 8, charge := 0, bound := some 0, masked := false }
  | _ => none

/-! ## Creating and deleting -/

/-- KEY_GENERATE (R332): families 0x05, 0x06 and 0x07. -/
def keyGenerateDo (job : Nat) (s : State) : State :=
  runOp 0x0701 (fun j s =>
    let a := j.input 0
    if !s.attrOk j.slice a || !(aFam a == 5 || aFam a == 6 || aFam a == 7) then fail j stBadParameter s
    else withKey j (j.pb 0) a 0 (genMaterial s a j.seed) (fun i s => done j [(0, handleBytes s (j.pb 0 != 1) i)] s) s) job s

/-- A commit looks at its key again (R318): 0 while the handle still names it, else the status. -/
def Job.still (j : Job) (s : State) : Nat :=
  match s.locate j.slice j.handle with
  | .inl _ => 0
  | .inr st => st

/-- KEY_DELETE (R317, R318): the generation is checked again at the commit. -/
def keyDeleteDo (job : Nat) (s : State) : State :=
  runOp 0x0702 (fun j s =>
    match j.still s with
    | 0 => done j [] (deleteKey j.keyB.kt j.keyB.index s)
    | st => fail j st s) job s

/-- KEY_GET_ATTR (R332). -/
def keyGetAttrDo (job : Nat) (s : State) : State :=
  runOp 0x0703 (fun j s =>
    let b := s.slot j.keyB.kt j.keyB.index
    done j [(0, fit 48 j.keyB.attr ++ leBytes 8 b.used ++ leBytes 1 b.count ++ leBytes 1 (hClass j.keyB.handle) ++ [b.origin] ++ zeros 5)] s) job s

/-- A new attribute block only narrows the old one (R321). -/
def narrows (used : Nat) (o n : Bytes) : Bool :=
  let sub (i : Nat) : Bool := (byteAt n i &&& byteAt o i) == byteAt n i
  let lim := aLimit n
  cut n 0 2 == cut o 0 2 && sub 2 && ((byteAt n 3 &&& 0xF7 &&& byteAt o 3) == (byteAt n 3 &&& 0xF7)) && (!aQuorum o || aQuorum n) &&
  sub 4 && byteAt n 5 == byteAt o 5 && ((aUsage n &&& aUsage o) == aUsage n) && cut n 8 4 == cut o 8 4 &&
  decide (aNotBefore o ≤ aNotBefore n) &&
  (aNotAfter o == 0 || (aNotAfter n != 0 && decide (aNotAfter n ≤ aNotAfter o))) &&
  (aLimit o == 0 || lim == aLimit o || (lim != 0 && decide (lim ≤ aLimit o) && decide (used ≤ lim))) &&
  cut n 42 6 == cut o 42 6

/-- Writes a key's attribute block where its data run begins (R306). -/
def setAttr (kt : Bool) (i : Nat) (a : Bytes) (s : State) : State :=
  let b := s.slot kt i
  let d := if b.kind = .moved then b.data else i
  commitSlot kt d { s.slot kt d with attr := a } s

/-- KEY_SET_ATTR (R321). -/
def keySetAttrDo (job : Nat) (s : State) : State :=
  runOp 0x0704 (fun j s =>
    let k := j.keyB
    match j.still s with
    | 0 =>
      if narrows (s.slot k.kt k.index).used (s.keyData k.kt k.index).attr (j.input 0) then done j [] (setAttr k.kt k.index (j.input 0) s)
      else fail j stKeyPolicyDenied s
    | st => fail j st s) job s

/-- KEY_PERSIST (R322): a new persistent run with the same attributes, ORIGIN unchanged, USED 0. -/
def keyPersistDo (job : Nat) (s : State) : State :=
  runOp 0x0705 (fun j s =>
    let k := j.keyB
    withKey j 1 k.attr (s.slot k.kt k.index).origin k.material (fun i s => done j [(0, handleBytes s false i)] s) s) job s

/-! ## Replacement (R318) -/

/-- The new material of a replacement: generated from DRBG output with the old attributes, or taken from a blob with
attributes that narrow them. Answers attributes, material and ORIGIN, or the status. -/
def newKeyOf (j : Job) (s : State) : (Bytes × Bytes × BitVec 8) ⊕ Nat :=
  let k := j.keyB
  let old := (s.keyData k.kt k.index).attr
  if j.pb 0 = 0 then .inl (old, genMaterial s old j.seed, 0)
  else match openBlob s j.slice 1 ((j.keyN 1).material.take 32) (j.input 0) with
    | .inr st => .inr st
    | .inl (a, m) =>
      if aFam a ≠ aFam old ∨ aAlg a ≠ aAlg old then .inr stKeyAlgorithmMismatch
      else if !narrows (s.slot k.kt k.index).used old a then .inr stKeyPolicyDenied
      else .inl (a, m, 1)

/-- Steps 1 to 4 of R318: the shadow run under R316, the new key in it, the consistency test, and for a persistent key the
journal record that holds the new base-slot image. -/
def replaceShadow (j : Job) (s : State) : State :=
  let k := j.keyB
  let b := s.slot k.kt k.index
  match newKeyOf j s with
  | .inr st => fail j st s
  | .inl (a, m, origin) =>
    match s.placeRun k.kt j.slice b.count with
    | .inr st => fail j st s
    | .inl i =>
      if !Config.check .checkValue [a, m] then fail j stEngineFault s
      else
        let s := layRun k.kt i {
          kind := .shadow, count := b.count, gen := (s.slot k.kt i).gen, slice := j.slice, origin := origin
          attr := fit 48 a, material := fit (mLen b.count) m } s
        let s := { s with kv.replacing := s.kv.replacing ++ [{ job := j.id, kt := k.kt, index := k.index, shadow := i }] }
        if k.kt then s
        else journalWrite k.index {
          kind := .moved, count := b.count, gen := nextGen b.gen, slice := b.slice, layout := b.layout, origin := origin, data := i } s

/-- A swap leaves the cache entries of the old generation to the jobs bound to it (R131). -/
def supersede (kt : Bool) (i : Nat) (g : BitVec 16) (s : State) : State :=
  let f := mapIf (fun e : CacheEntry => e.kt == kt && e.index == i && e.gen == g.toNat && e.st == .valid) (fun e => { e with st := .old })
  { s with eng.ekc.entries := f s.eng.ekc.entries, eng.dpk.entries := f s.eng.dpk.entries }

/-- Steps 5 and 6 of R318: the base header names the shadow run, GEN advances, USED is 0; the old data run is freed. -/
def replaceSwap (j : Job) (i : Nat) (s : State) : State :=
  let k := j.keyB
  let b := s.slot k.kt k.index
  let origin := (s.slot k.kt i).origin
  let s := supersede k.kt k.index b.gen s
  let s := if b.kind = .moved then releaseRun k.kt b.data b.count k.index b.gen s
    else releaseRun k.kt (k.index + 1) (b.count - 1) k.index b.gen s
  let s := s.modSlot k.kt k.index (fun _ => {
    kind := .moved, count := b.count, gen := nextGen b.gen, slice := b.slice, layout := b.layout, origin := origin, data := i })
  let s := s.modSlot k.kt i (fun d => { d with kind := .run })
  let s := sweepOld (if k.kt then s else journalClear k.index s)
  { s with kv.replacing := s.kv.replacing.filter (fun r => r.job != j.id) }

/-- KEY_REPLACE (R318): the row stands for the two moments the rule tells apart, the shadow run and the swap. One replacement
per key at a time; a second one waits, and then finds another generation. A seed that key generation does not keep is drawn again (R126,
R233). -/
def keyReplaceDo (job : Nat) (s : State) : State :=
  runOp 0x0706 (fun j s =>
    let k := j.keyB
    match s.kv.replacing.find? (fun r => r.job == j.id) with
    | some r =>
      match j.still s with
      | 0 =>
        let s := replaceSwap j r.shadow s
        done j [(0, publicKey s (s.bind k.kt k.index)), (1, handleBytes s k.kt k.index)] s
      | _ => fail j stKeyNotFound (dropReplacing j.id s)
    | none =>
      if s.kv.replacing.any (fun r => r.kt == k.kt && r.index == k.index) then s
      else match j.still s with
        | 0 =>
          if j.pb 0 = 0 ∧ j.seed = [] then s
          else if j.pb 0 = 0 ∧ !seedFits k.fam k.alg j.seed then
            (if k.fam = 0x03 then cmeRetry j s else redraw j 32 s)
          else replaceShadow j s
        | st => fail j st s) job s

/-! ## Wrapped keys (R328, R329) -/

/-- KEY_EXPORT_WRAPPED. -/
def keyExportWrappedDo (job : Nat) (s : State) : State :=
  runOp 0x0707 (fun j s => done j [(0, wrapBlob 1 ((j.keyN 1).material.take 32) j.keyB.attr j.keyB.material)] s) job s

/-- Gives a new stateful key its record pair (R209). -/
def withPair (j : Job) (a : Bytes) (k : (Nat → State → State) → State) (s : State) (fin : Nat → State → State) : State :=
  if !aStateful a then k fin
  else match s.freePair with
    | none => fail j stPersistentStoreFull s
    | some n => k (fun i s => fin i ((takePair n { keyId := s.keyId i, good := true } s).modHbs i (fun _ => { pair := n })))

/-- Stores a key made outside a key generation: a stateful key is always persistent (R204). -/
def storeKey (j : Job) (cls : Nat) (a : Bytes) (origin : BitVec 8) (m : Bytes) (s : State) : State :=
  if aStateful a && cls != 1 then fail j stBadParameter s
  else withPair j a (fun fin => withKey j cls a origin m fin s) s (fun i s => done j [(0, handleBytes s (cls != 1) i)] s)

/-- KEY_IMPORT_WRAPPED (R329). -/
def keyImportWrappedDo (job : Nat) (s : State) : State :=
  runOp 0x0708 (fun j s =>
    match openBlob s j.slice 1 (j.keyB.material.take 32) (j.input 0) with
    | .inr st => fail j st s
    | .inl (a, m) => storeKey j (j.pb 0) a 1 m s) job s

/-- The secret of a key, without the padding of its slots. -/
def secretOf (s : State) (b : Bound) : Bytes := b.material.take (s.secretLen b.attr)

/-- KEY_DERIVE (R332): a derived FN-DSA or Classic McEliece seed that gives no key (R126, R233) is refused (log 90);
PK.seed or PUB_SEED of a derived key is a free value (log 94). -/
def keyDeriveDo (job : Nat) (s : State) : State :=
  runOp 0x0709 (fun j s =>
    let a := j.input 0
    let c := j.input 1
    let p := fieldLE c 0 2
    let l := s.secretLen a
    let first := cut c 2 p
    let second := c.drop (2 + p)
    let kin := secretOf s j.keyB
    let hash := if j.pb 1 = 2 then 32 else 48
    let out := if j.pb 1 = 1 then kmac256 kin second l first
      else alg .hkdf l [num hash, if p = 0 then zeros hash else first, kin, second]
    if !s.attrOk j.slice a then fail j stBadParameter s
    else if 256 < p ∨ c.length < p + 2 then fail j stInputMalformed s
    else
      if !seedFits (aFam a) (aAlg a) out then fail j stInputKeyInvalid s else
      let m := if aFam a = 2 then genMaterial s a (out ++ Config.freeBytes s.freeCtr 32)
        else if aFam a = 3 ∨ isRsa (aAlg a) && aFam a == 4 then genMaterial s a out else out
      storeKey j (j.pb 0) a 2 m (fresh s)) job s

/-! ## KEY_PROVE (R323) -/

/-- The public key of an asymmetric key; of a composite key both parts in the layout of R341. -/
def provenPublic (s : State) (sl : Nat) (b : Bound) : Bytes ⊕ Nat :=
  if b.fam ≠ 0x0A then .inl (publicKey s b)
  else
    match partHandles b.material with
    | [h0, h1] =>
      match s.locate sl h0, s.locate sl h1 with
      | .inl (k0, i0), .inl (k1, i1) =>
        let p0 := publicKey s (s.bind k0 i0)
        .inl (leBytes 1 b.alg ++ [0] ++ leBytes 2 p0.length ++ p0 ++ publicKey s (s.bind k1 i1))
      | .inr st, _ => .inr st
      | _, .inr st => .inr st
    | _ => .inr stKeyNotFound

/-- D of R323. -/
def provenDigest (s : State) (sl : Nat) (b : Bound) (ch : Bytes) : Bytes ⊕ Nat :=
  if b.fam = 5 ∨ b.fam = 6 ∨ b.fam = 7 ∨ b.fam = 9 then .inl (kmac256 (secretOf s b) ch 32 (ascii "EQX-KCV"))
  else match provenPublic s sl b with
    | .inl pk => .inl (sha3x256 pk)
    | .inr st => .inr st

/-- KEY_PROVE: R is the only output. -/
def keyProveDo (job : Nat) (s : State) : State :=
  runOp 0x070A (fun j s =>
    let b := j.keyN 1
    let ch := cut j.params 16 (j.pb 8)
    match provenDigest s j.slice b ch with
    | .inr st => fail j st s
    | .inl d =>
      let x := ch ++ leBytes 8 b.handle ++ fit 48 b.attr ++ leBytes 8 (s.slot b.kt b.index).used ++ d
      done j [(0, kmac256 (secretOf s j.keyB) x 16 (ascii "EQX-KEY-PROVE"))] s) job s

/-- RNG_GENERATE (R376): the DRBG output the job received; the additional input went into every internal request. -/
def rngGenerateDo (job : Nat) (s : State) : State :=
  runOp 0x0801 (fun j s => done j [(0, fit (fieldLE j.params 4 4) j.seed)] s) job s

/-! ## The meanings of the commands -/

/-- KEY_GENERATE (R332). -/
def execKeyGenerate (job : Nat) (s : State) : Host.Outcome State Fault Refusal := .next (keyGenerateDo job s)
/-- KEY_DELETE (R317). -/
def execKeyDelete (job : Nat) (s : State) : Host.Outcome State Fault Refusal := .next (keyDeleteDo job s)
/-- KEY_GET_ATTR (R332). -/
def execKeyGetAttr (job : Nat) (s : State) : Host.Outcome State Fault Refusal := .next (keyGetAttrDo job s)
/-- KEY_SET_ATTR (R321). -/
def execKeySetAttr (job : Nat) (s : State) : Host.Outcome State Fault Refusal := .next (keySetAttrDo job s)
/-- KEY_PERSIST (R322). -/
def execKeyPersist (job : Nat) (s : State) : Host.Outcome State Fault Refusal := .next (keyPersistDo job s)
/-- KEY_REPLACE (R318). -/
def execKeyReplace (job : Nat) (s : State) : Host.Outcome State Fault Refusal := .next (keyReplaceDo job s)
/-- KEY_EXPORT_WRAPPED (R328). -/
def execKeyExportWrapped (job : Nat) (s : State) : Host.Outcome State Fault Refusal := .next (keyExportWrappedDo job s)
/-- KEY_IMPORT_WRAPPED (R329). -/
def execKeyImportWrapped (job : Nat) (s : State) : Host.Outcome State Fault Refusal := .next (keyImportWrappedDo job s)
/-- KEY_DERIVE (R332). -/
def execKeyDerive (job : Nat) (s : State) : Host.Outcome State Fault Refusal := .next (keyDeriveDo job s)
/-- KEY_PROVE (R323). -/
def execKeyProve (job : Nat) (s : State) : Host.Outcome State Fault Refusal := .next (keyProveDo job s)
/-- RNG_GENERATE (R376). -/
def execRngGenerate (job : Nat) (s : State) : Host.Outcome State Fault Refusal := .next (rngGenerateDo job s)

end Sys2Proof.Machine
end

