-- ==== Sys2Proof/Machine/OpsIdentity.lean ====
section
/-! DEFINITION. Composite keys, certificates, credentials and the operator quorum, family 0x0A (13_payment_identity.md,
R334 to R343, R352 to R357). -/
namespace Sys2Proof.Machine

/-! ## Signatures of an issuer key (R341, R352) -/

/-- The digest a pre-hash code names (R145). -/
def phDigest (ph : Nat) (m : Bytes) : Bytes :=
  match ph with
  | 1 => digestOf 0x02 32 [] [] [] m | 2 => digestOf 0x03 48 [] [] [] m | 3 => digestOf 0x04 64 [] [] [] m
  | 4 => digestOf 0x21 32 [] [] [] m | 5 => digestOf 0x22 64 [] [] [] m | 6 => digestOf 0x12 32 [] [] [] m
  | _ => digestOf 0x14 64 [] [] [] m

/-- Randomness of a signature whose opcode draws no DRBG output of its own: a free value of a free length, so that the
deterministic variant is one of its values. -/
def openRnd (s : State) : Bytes := Config.freeBytes s.freeCtr (Config.freeNat s.freeCtr % 97)

/-- Arguments of an ML-DSA signature in pure mode with an empty context. -/
def mlDsaArgs (b : Bound) (rnd m : Bytes) : List Bytes := [num b.alg, b.material, fit 32 rnd, num 0, num 0, [], m]

/-- ECDSA over a digest: r‖s. -/
def ecdsaOf (s : State) (b : Bound) (ph : Nat) (m rnd : Bytes) : Bytes :=
  alg .ecdsaSign (s.sigLen b.alg) (setArgs s b.alg ++ [b.material, num ph, phDigest ph m, rnd])

/-- EdDSA in pure mode with an empty context. -/
def eddsaOf (s : State) (b : Bound) (m : Bytes) : Bytes := alg .eddsaSign (s.sigLen b.alg) [num b.alg, b.material, m, num 0, []]

/-- Hash of the classical part of a composite ALG (R339). -/
def compositeHash (a : Nat) : Nat := if a = 2 then 1 else if a = 3 then 2 else 0

/-- M_c of R341. -/
def compositeMsg (a : Nat) (ctx m : Bytes) : Bytes := ascii "EQX-COMPOSITE-v1" ++ leBytes 1 a ++ leBytes 1 ctx.length ++ ctx ++ m

/-- The layout of R341 over a post-quantum and a classical part. -/
def compositeJoin (a : Nat) (pq cl : Bytes) : Bytes := leBytes 1 a ++ [0] ++ leBytes 2 pq.length ++ pq ++ cl

/-- A composite signature over a message (R341). -/
def compositeSig (s : State) (a : Nat) (b0 b1 : Bound) (ctx m rnd : Bytes) : Bytes :=
  let mc := compositeMsg a ctx m
  compositeJoin a (alg .mlDsaSign (latSizes b0.alg).2.2 (mlDsaArgs b0 rnd mc))
    (if isWeier b1.alg then ecdsaOf s b1 (compositeHash a) mc rnd else eddsaOf s b1 mc)

/-- An unsigned DER INTEGER. -/
def derInt (bs : Bytes) : Bytes :=
  let v := bs.dropWhile (· == 0)
  let v := if v = [] then [0] else if bit (byteAt v 0) 7 then 0 :: v else v
  [0x02] ++ leBytes 1 v.length ++ v

/-- A DER Ecdsa-Sig-Value of r‖s. -/
def derSig (sig : Bytes) : Bytes :=
  let l := sig.length / 2
  let body := derInt (sig.take l) ++ derInt (sig.drop l)
  if body.length < 128 then [0x30] ++ leBytes 1 body.length ++ body else [0x30, 0x81] ++ leBytes 1 body.length ++ body

/-- Arguments of an RSA signature of a message: a PSS salt has the length of the hash (R254). -/
def rsaArgs (b : Bound) (ph pss : Nat) (m salt : Bytes) : List Bytes :=
  [num b.alg, b.material, num ph, num pss, phDigest ph m, if pss = 1 then fit (phLen ph) salt else []]

/-- A signature under an issuer key as R352 states; `ph` and `pss` for RSA and ECDSA, `salt` for RSA. -/
def issuerSig (s : State) (bs : List Bound) (ph pss : Nat) (m rnd salt : Bytes) : Bytes :=
  match bs with
  | [] => []
  | b :: rest =>
    match b.fam with
    | 0x01 => alg .mlDsaSign (latSizes b.alg).2.2 (mlDsaArgs b rnd m)
    | 0x02 => alg .slhSign (slhSizes b.alg).2.2.1 [num b.alg, b.material, fit (slhSizes b.alg).1 rnd, num 0, num 0, [], m]
    | 0x04 =>
      if isRsa b.alg then alg .rsaSign (rsaLen b.alg) (rsaArgs b ph pss m salt)
      else if isWeier b.alg then derSig (ecdsaOf s b ph m rnd) else eddsaOf s b m
    | _ => match rest with
      | b0 :: b1 :: _ => compositeSig s b.alg b0 b1 [] m rnd
      | _ => []

/-- A signature whose ML-DSA attempts exceed the cap ends with ENGINE_FAULT (R138). -/
def issuerCapped (bs : List Bound) (m rnd : Bytes) : Bool :=
  bs.any (fun b => b.fam == 1 && decide (814 < Config.measure .mlDsaAttempts (mlDsaArgs b rnd m)))

/-- An issuer key named in the header: families 0x01 (ML-DSA), 0x02 (SLH-DSA), 0x04 and 0x0A (R352). -/
def State.issuerUse (s : State) (sl h : Nat) : KeyUse :=
  let f := aFam (s.attrOf sl h)
  let mk (fam : Nat) (algs : List Nat) : KeyUse := { handle := h, fam := fam, algs := algs, usage := uSign, needle := fam == 4 }
  if f = 2 then mk 2 (hashAlgs.filter isSlh)
  else if f = 4 then mk 4 ([1, 2, 3, 4, 5, 6, 7, 0x10, 0x11, 0x40, 0x41, 0x42] ++ (List.range 16).map (· + 0x80))
  else if f = 0x0A then mk 0x0A [1, 2, 3, 4, 5]
  else mk 1 [0x11, 0x12, 0x13]

/-- Longest signature of an issuer key, DER included. -/
def State.issuerSigMax (s : State) (a : Bytes) : Nat :=
  match aFam a with
  | 0x01 => (latSizes (aAlg a)).2.2
  | 0x02 => (slhSizes (aAlg a)).2.2.1
  | 0x04 => if isWeier (aAlg a) then 2 * (s.curveLen (aAlg a) + 3) + 3 else s.sigLen (aAlg a)
  | 0x0A => (compositeParts (aAlg a)).elim 0 (fun c => 4 + (latSizes c.1.2).2.2 + s.sigLen c.2.2)
  | _ => 0

/-- Lengths of a composite ALG: post-quantum public key, ciphertext and signature, then classical public key and signature. -/
def State.compLens (s : State) (a : Nat) : (Nat × Nat × Nat) × (Nat × Nat) :=
  match compositeParts a with
  | some (p, c) => (latSizes p.2, (s.pkLen c.2, s.sigLen c.2))
  | none => ((0, 0, 0), (0, 0))

/-! ## Templates (R354) -/

/-- Entry `k` of a TPL_LOAD block: type, offset, length, and whether its reserved bytes are zero. -/
def tplField (p : Bytes) (k : Nat) : TplField :=
  { kind := (byteAt p (24 + 8 * k)).toNat, offset := fieldLE p (26 + 8 * k) 2, len := fieldLE p (28 + 8 * k) 2 }

def tplFields (p : Bytes) : List TplField := (List.range (byteAt p 1).toNat).map (tplField p)

/-- A field has a length its type takes and lies in the template. -/
def TplField.ok (f : TplField) (len : Nat) : Bool :=
  decide (f.offset + f.len ≤ len) &&
  (match f.kind with
    | 1 | 2 => f.len == 4 || f.len == 8
    | 3 => decide (8 ≤ f.len) && decide (f.len ≤ 32)
    | 4 => decide (1 ≤ f.len) && decide (f.len ≤ 256)
    | _ => false)

/-- Fields do not overlap. -/
def tplApart : List TplField → Bool
  | [] => true
  | f :: r => r.all (fun g => decide (f.offset + f.len ≤ g.offset) || decide (g.offset + g.len ≤ f.offset)) && tplApart r

/-- The template in a slot of a slice. -/
def State.template (s : State) (sl slot : Nat) : Option Template := tget s.thm.templates none (4 * sl + slot)

/-- Host bytes a template takes. -/
def Template.hostLen (t : Template) : Nat := ((t.fields.filter (·.kind == 4)).map (·.len)).foldl (· + ·) 0

/-- Puts bytes into a string at an offset. -/
def splice (bs : Bytes) (off : Nat) (x : Bytes) : Bytes := bs.take off ++ x ++ bs.drop (off + x.length)

/-- Fills the fields in order: issue time, expiry, serials and host bytes (R354). -/
def fillFields (issue expiry : BitVec 64) : List TplField → Bytes → Bytes → Bytes → Bytes
  | [], _, _, t => t
  | f :: r, host, rnd, t =>
    let time (e : BitVec 64) : Bytes := if f.len = 4 then beBytes 4 (e.toNat / 2 ^ 32) else beBytes 8 e.toNat
    match f.kind with
    | 1 => fillFields issue expiry r host rnd (splice t f.offset (time issue))
    | 2 => fillFields issue expiry r host rnd (splice t f.offset (time expiry))
    | 3 => fillFields issue expiry r host (rnd.drop f.len) (splice t f.offset (fit f.len rnd))
    | _ => fillFields issue expiry r (host.drop f.len) rnd (splice t f.offset (fit f.len host))

/-- Expiry of a credential: issue time plus DURATION seconds. -/
def expiryOf (issue : BitVec 64) (dur : Nat) : BitVec 64 := issue + BitVec.ofNat 64 (dur * 2 ^ 32)

/-! ## The quorum (R334 to R338, R357) -/

/-- The enrolled set as QUORUM_ENROLL takes it: M, N, then identifier and key of each custodian (log 28). -/
def State.setBytes (s : State) : Bytes :=
  leBytes 1 s.thm.m ++ leBytes 1 s.thm.custodians.length ++ (s.thm.custodians.map (fun c => c.id ++ c.key)).flatten

/-- Instant at which a quorum expires (R337). -/
def Quorum.expiry (q : Quorum) : Nat := q.since + q.ttl * 2 ^ 32

/-- The 16 bytes of QUORUM_STATUS (R357); the expiry of no quorum is a free value. -/
def quorumStatus (s : State) : Bytes :=
  let exp := match s.thm.quorum with
    | some q => leBytes 4 (q.expiry / 2 ^ 18)
    | none => freeBytes s 4
  leBytes 1 (flag s.quorumInForce) ++ leBytes 1 s.thm.m ++ leBytes 1 s.thm.custodians.length ++
  leBytes 1 (s.thm.run.elim 0 (fun r => r.counted.length)) ++ exp ++ (sha256 s.setBytes).take 8

/-! ## What the opcodes of family 0x0A ask -/

/-- What the opcodes of family 0x0A ask (R356, R357). Each is a composite job. -/
def reqIdentity (s : State) (j : Job) : Option OpReq :=
  let p := j.params
  let h := j.handle
  let small := p.length == 8
  let f := (byteAt p 0).toNat
  let g := (byteAt p 1).toNat
  let ((pqPk, pqCt, pqSig), (clPk, clSig)) := s.compLens f
  let noSet (l : List Nat) : List Nat := if (compositeParts f).isSome then [] else l
  let own (usage : Nat) : KeyUse := { handle := h, fam := 0x0A, algs := [f], usage := usage }
  let a := s.attrOf j.slice h
  let issuer := s.issuerUse j.slice h
  let hyb9 (src : Bool) : Bool := !(1 ≤ f && f ≤ 5) || decide ((if src then 2 else 1) ≤ g) || byteAt p 3 != 0 || decide (16000 < fieldLE p 4 4) ||
    !isZero p 10 2 || (g == 1 && decide (h ≠ 0))
  let kem9 (enc : Bool) : Bool := !(0x11 ≤ f && f ≤ 0x13) || decide (8 ≤ g) || !isZero p 2 6 ||
    (g.testBit 0 && (!enc || decide (h ≠ 0))) || (g.testBit 2 && !g.testBit 0)
  match j.opcode % 256 with
  | 0x01 => some { ins := [(0, 48)], outs := [(0, 8)], plen := p.length == 24, noKey := true, creates := true
                   check9 := bad (decide (3 ≤ f) || !isZero p 1 7)
                   keys := [{ handle := fieldLE p 8 8, light := true }, { handle := fieldLE p 16 8, light := true }] }
  | 0x02 => some { ins := [(0, fieldLE p 4 4)], outs := [(0, 4 + pqSig + clSig)], plen := p.length == 12 + (byteAt p 2).toNat
                   check9 := bad (hyb9 false || fieldLE p 8 2 != 0), keys := [own uSign] }
  | 0x03 => some { ins := [(0, fieldLE p 4 4), (1, if g = 1 then 4 + pqPk + clPk else 0), (2, fieldLE p 8 2)], unsized := noSet [1]
                   plen := p.length == 12 + (byteAt p 2).toNat, check9 := bad (hyb9 true), keys := if g = 1 then [] else [own uVerify] }
  | 0x11 =>
    let src := g.testBit 0
    some { ins := [(0, if src then 4 + pqPk + clPk else 0)], unsized := noSet [0], outs := [(0, 4 + pqCt + clPk), (1, if g.testBit 1 then 8 else 32)]
           plen := small, check9 := bad (kem9 true), keys := if src then [] else [own uEncaps], drbg := 128 }
  | 0x12 => some { ins := [(0, 4 + pqCt + clPk)], unsized := noSet [0], outs := [(0, if g.testBit 1 then 8 else 32)], plen := small
                   check9 := bad (kem9 false), keys := [own uDecaps] }
  | 0x21 =>
    let n := fieldLE p 4 4
    let hashed := aFam a = 4 ∧ (isWeier (aAlg a) ∨ isRsa (aAlg a))
    some { ins := [(0, n)], outs := [(0, 0)], late := [(0, Config.measure .certBuild [num n, a.take 2, num f])], plen := small
           check9 := bad (decide (4 ≤ f) || (g != 0 && phLen g == 0) || !isZero p 2 2 || n == 0 || decide (16384 < n))
           deny := bad (decide hashed && (phLen g == 0 || (isRsa (aAlg a) && (g == 4 || g == 5))))
           keys := [issuer], drbg := (if f % 2 = 1 then 20 else 0) + (if aFam a = 4 ∧ isRsa (aAlg a) ∧ f / 2 % 2 = 1 then phLen g else 0) }
  | 0x22 =>
    let n := fieldLE p 0 4
    some { ins := [(0, n), (1, fieldLE p 4 4)], outs := [(0, 0)], late := [(0, Config.measure .mdocBuild [num n, num (fieldLE p 4 4), a.take 2])]
           plen := p.length == 16, check9 := bad (n == 0 || decide (16384 < n) || !isZero p 8 8)
           keys := [{ handle := h, fam := 4, algs := [1, 2, 3, 0x10, 0x11], usage := uSign, needle := true }], drbg := 64 }
  | 0x31 =>
    let n := fieldLE p 16 2
    some { ins := [(0, n)], plen := p.length == 24 + 8 * g, noKey := true
           check9 := bad (decide (4 ≤ f) || g == 0 || decide (8 < g) || decide (2 ≤ (byteAt p 2).toNat) || byteAt p 3 != 0 || !isZero p 18 6 ||
             n == 0 || decide (512 < n) ||
             !((List.range g).all (fun k => byteAt p (25 + 8 * k) == 0 && isZero p (30 + 8 * k) 2 && (tplField p k).ok n)) || !tplApart (tplFields p)) }
  | 0x32 => some { plen := small, noKey := true, check9 := bad (decide (4 ≤ f) || !isZero p 1 7) }
  | 0x33 =>
    let dur := fieldLE p 4 4
    let hl := fieldLE p 8 4
    match s.template j.slice f with
    | none => some { ins := [(0, hl)], plen := p.length == 16, check9 := stBadParameter }
    | some t =>
      let e := expiryOf s.time.epoch dur
      some { ins := [(0, hl)], outs := [(0, 0)], late := [(0, t.text.length + s.issuerSigMax a)], plen := p.length == 16
             check9 := bad (decide (4 ≤ f) || !isZero p 1 3 || !isZero p 12 4 || decide (t.maxDuration < dur) || hl != t.hostLen)
             keys := [issuer], drbg := 384
             deny := firstBad [
               denied (hClass h != t.cls || hIndex h != t.issuer),
               if aNotAfter a ≠ 0 ∧ (aNotAfter a < s.time.epoch.toNat + dur * 2 ^ 32 ∨ aNotAfter a < e.toNat) then stKeyOutsideValidity else 0,
               if !s.locked ∧ !t.allowHoldover then stHoldover else 0] }
  | 0x80 => some { slice0 := true, outs := [(0, 16)], plen := small, noKey := true, drbg := 32, bound := none
                   check9 := bad (decide (fieldLE p 0 2 < 10) || decide (600 < fieldLE p 0 2) || decide (fieldLE p 2 4 < 60) ||
                     decide (28800 < fieldLE p 2 4) || !isZero p 6 2) }
  | 0x81 => some { slice0 := true, plen := small, noKey := true, check9 := bad (!isZero p 0 8) }
  | 0x82 => some { outs := [(0, 16)], plen := small, noKey := true, check9 := bad (!isZero p 0 8) }
  | 0x83 =>
    let n := fieldLE p 0 4
    let first := s.thm.custodians.isEmpty && (s.lcs.state == .maker || s.lcs.state == .integrator)
    some { slice0 := true, ins := [(0, n)], plen := small, noKey := true, quorum := !first
           check9 := bad (!isZero p 4 4 || decide (n < 75) || decide (1170 < n) || (n - 2) % 73 != 0) }
  | 0xF0 => some { outs := [(0, 0)], late := [(0, let ((x, _, _), (y, _)) := s.compLens (aAlg a); 4 + x + y)], plen := small
                   check9 := bad (!isZero p 0 8), keys := [{ handle := h, fam := 0x0A, algs := [1, 2, 3, 4, 5, 0x11, 0x12, 0x13] }] }
  | _ => none

/-! ## Composite keys (R339 to R343) -/

/-- COMPOSITE_BIND (R340): the checks in the order listed, over parts resolved with checks 1 and 2 of R312. -/
def compositeBindDo (job : Nat) (s : State) : State :=
  runOp 0x0A01 (fun j s =>
    let a := j.input 0
    let b0 := j.keyN 0
    let b1 := j.keyN 1
    if !s.attrOk j.slice a || aFam a != 0x0A then fail j stBadParameter s
    else match compositeParts (aAlg a) with
      | none => fail j stBadParameter s
      | some (p0, p1) =>
        let u := aUsage a &&& (uSign + uVerify + uEncaps + uDecaps)
        if b0.fam ≠ p0.1 ∨ b0.alg ≠ p0.2 ∨ b1.fam ≠ p1.1 ∨ b1.alg ≠ p1.2 then fail j stKeyAlgorithmMismatch s
        else if (aUsage b0.attr &&& u) ≠ u ∨ (aUsage b1.attr &&& u) ≠ u then fail j stKeyPolicyDenied s
        else if (aUsage a &&& (if aAlg a < 0x10 then uSign + uVerify else uEncaps + uDecaps)) ≠ aUsage a then fail j stBadParameter s
        else if aOrder2 a then fail j stBadParameter s
        else if j.pb 0 = 1 ∧ (b0.kt ∨ b1.kt) then fail j stBadParameter s
        else withKey j (j.pb 0) a 0 (leBytes 8 b0.handle ++ leBytes 8 b1.handle)
          (fun i s => done j [(0, handleBytes s (j.pb 0 != 1) i)] s) s) job s

/-- Event 0x11 of a composite job: the Mangle that ran its signing task reports it (R138, R447). -/
def capEvent (j : Job) (s : State) : State :=
  match j.ran with
  | some e => raiseEvent 0x11 e (.engine e) .own s
  | none => raiseEvent 0x11 j.engine .none .own s

/-- HYB_SIGN (R341). -/
def hybSignDo (job : Nat) (s : State) : State :=
  runOp 0x0A02 (fun j s =>
    let ctx := cut j.params 12 (j.pb 2)
    let rnd := openRnd s
    if issuerCapped [j.keyN 1] (compositeMsg (j.pb 0) ctx (j.input 0)) rnd then
      fresh (fail j stEngineFault (capEvent j s))
    else fresh (done j [(0, compositeSig s (j.pb 0) (j.keyN 1) (j.keyN 2) ctx (j.input 0) rnd)] s)) job s

/-- The public key of a bound composite key, in the layout of R341. -/
def compositePk (s : State) (j : Job) : Bytes :=
  compositeJoin j.keyB.alg (publicKey (s.curvesOf j) (j.keyN 1)) (publicKey (s.curvesOf j) (j.keyN 2))

/-- Header of a supplied composite string: ALG, 0 and the length of its post-quantum part. -/
def compositeHead (a n : Nat) (bs : Bytes) : Bool := cut bs 0 4 == leBytes 1 a ++ [0] ++ leBytes 2 n

/-- HYB_VERIFY (R342): both parts are always verified. -/
def hybVerifyDo (job : Nat) (s : State) : State :=
  runOp 0x0A03 (fun j s =>
    let a := j.pb 0
    let src := j.pb 1 = 1
    let ((pqPk, _, pqSig), (_, clSig)) := s.compLens a
    let set := (compositeParts a).elim 0 (fun c => c.2.2)
    let pset := (compositeParts a).elim 0 (fun c => c.1.2)
    let pk := if src then j.input 1 else compositePk s j
    let sg := j.input 2
    let mc := compositeMsg a (cut j.params 12 (j.pb 2)) (j.input 0)
    let pkC := pk.drop (4 + pqPk)
    let sgC := sg.drop (4 + pqSig)
    let pqOk := Config.check .mlDsaVerify [num pset, cut pk 4 pqPk, cut sg 4 pqSig, num 0, num 0, [], mc]
    let clOk := if isWeier set then sigCheck .ecdsaVerify [num (compositeHash a)] s set pkC sgC (phDigest (compositeHash a) mc)
      else sigCheck .eddsaVerify [num 0, []] s set pkC sgC mc
    if src && !compositeHead a pqPk pk then fail j stInputKeyInvalid s
    else match if src then pkStatus s set pkC else 0 with
      | 0 => verdict j (sg.length == 4 + pqSig + clSig && compositeHead a pqSig sg && pqOk && clOk) s
      | st => fail j st s) job s

/-- K of R343. -/
def hybridSecret (kpq kcl ct eph pk : Bytes) : Bytes := kmac256 (kpq ++ kcl) (ct ++ eph ++ pk) 32 (ascii "EQX-HYBRID-KEM")

/-- Returns a shared secret, or keeps it as a session-ephemeral key (R343, R144). -/
def hybDeliver (j : Job) (attr : Bytes) (outs : Bytes → List (Nat × Bytes)) (k : Bytes) (s : State) : State :=
  if (j.pb 1).testBit 1 then withKey j 2 attr 0 k (fun i s => done j (outs (handleBytes s true i)) s) s else done j (outs k) s

/-- HYB_KEM_ENCAPS (R343). -/
def hybKemEncapsDo (job : Nat) (s : State) : State :=
  runOp 0x0A11 (fun j s =>
    let a := j.pb 0
    let src := (j.pb 1).testBit 0
    let ((pqPk, pqCt, _), (clPk, _)) := s.compLens a
    let set := (compositeParts a).elim 0 (fun c => c.2.2)
    let pset := (compositeParts a).elim 0 (fun c => c.1.2)
    let pk := if src then j.input 0 else compositePk s j
    let ek := cut pk 4 pqPk
    let pkC := pk.drop (4 + pqPk)
    let m := j.seed.take 32
    let l := s.curveLen set
    let d := genScalar s set (j.seed.drop 32)
    let eph := alg .ecPk clPk (setArgs s set ++ [d])
    let z := alg .ecdh l (setArgs s set ++ [d, pkC])
    let ct := alg .mlKemCt pqCt [num pset, ek, m]
    let k := hybridSecret (alg .mlKemSs 32 [num pset, ek, m]) z ct eph pkC
    if src && (!compositeHead a pqPk pk || !Config.check .mlKemEkOk [num pset, ek]) then fail j stInputKeyInvalid s
    else match if src then pkStatus s set pkC else 0 with
      | 0 =>
        if isMont set && z.all (· == 0) then fail j stPointInvalid s
        else hybDeliver j (koutAttr (if src then none else some j.keyB.attr) (src && (j.pb 1).testBit 2) 1 0)
          (fun o => [(0, compositeJoin a ct eph), (1, o)]) k s
      | st => fail j st s) job s

/-- HYB_KEM_DECAPS (R343): implicit rejection for the ML-KEM part; an ephemeral point that fails R256 gives POINT_INVALID. -/
def hybKemDecapsDo (job : Nat) (s : State) : State :=
  runOp 0x0A12 (fun j s =>
    let a := j.pb 0
    let ((_, pqCt, _), _) := s.compLens a
    let set := (compositeParts a).elim 0 (fun c => c.2.2)
    let pset := (compositeParts a).elim 0 (fun c => c.1.2)
    let ct := cut (j.input 0) 4 pqCt
    let eph := (j.input 0).drop (4 + pqCt)
    let l := s.curveLen set
    let z := alg .ecdh l (setArgs s set ++ [(j.keyN 2).material, eph])
    let kpq := alg .mlKemDecaps 32 [num pset, (j.keyN 1).material, ct]
    if !compositeHead a pqCt (j.input 0) then fail j stInputMalformed s
    else if pkStatus s set eph ≠ 0 ∨ (isMont set && z.all (· == 0)) then fail j stPointInvalid s
    else hybDeliver j (koutAttr (some j.keyB.attr) false 1 0) (fun o => [(0, o)])
      (hybridSecret kpq z ct eph (publicKey s (j.keyN 2))) s) job s

/-- HYB_PUBLIC_KEY. -/
def hybPublicKeyDo (job : Nat) (s : State) : State := runOp 0x0AF0 (fun j s => done j [(0, compositePk s j)] s) job s

/-! ## Certificates, mdocs, credentials (R352 to R355) -/

/-- Runs a signature of the job's issuer key and goes on with it; one under an RSA key is checked first (R260). -/
def withSig (j : Job) (ph pss : Nat) (m salt : Bytes) (k : Bytes → State → State) (s : State) : State :=
  let rnd := openRnd s
  let sig := issuerSig (s.curvesOf j) j.bound ph pss m rnd salt
  if issuerCapped j.bound m rnd then fresh (fail j stEngineFault (capEvent j s))
  else if j.keyB.fam = 4 ∧ isRsa j.keyB.alg then rsaChecked j (rsaArgs j.keyB ph pss m salt) (k sig) (fresh s)
  else k sig (fresh s)

/-- CERT_ISSUE (R352): with SERIAL the 20 serial bytes come from the DRBG, top bit 0. -/
def certIssueDo (job : Nat) (s : State) : State :=
  runOp 0x0A21 (fun j s =>
    let tbs := j.input 0
    let sn := match fit 20 j.seed with | b :: r => (b &&& 0x7F) :: r | [] => []
    let sn := if sn.all (· == 0) then zeros 19 ++ [1] else sn
    let tbs' := if j.pb 0 % 2 = 1 then fit tbs.length (Config.crypto .certSerial [tbs, sn]) else tbs
    let cap := Config.measure .certBuild [num tbs.length, j.keyB.attr.take 2, num (j.pb 0)]
    if !Config.check .derOk [tbs, num (j.pb 0 % 2)] then fail j stInputMalformed s
    else withSig j (j.pb 1) (j.pb 0 / 2) tbs' (if j.pb 0 % 2 = 1 then j.seed.drop 20 else j.seed) (fun sig s => done j [(0, (Config.crypto .certBuild [tbs', sig]).take cap)] s) s) job s

/-- COSE algorithm of an issuer key (R353): −7, −35, −36, −8, and the digest it signs. -/
def coseAlg (a : Nat) : Int × Nat := if a = 1 then (-7, 1) else if a = 2 then (-35, 2) else if a = 3 then (-36, 3) else (-8, 0)

/-- MDOC_ISSUE (R353): the protected header carries alg, the unprotected header x5chain; r‖s for ECDSA. -/
def mdocIssueDo (job : Nat) (s : State) : State :=
  runOp 0x0A22 (fun j s =>
    let b := j.keyB
    let mso := j.input 0
    let cose := num (coseAlg b.alg).1.natAbs
    let tbs := Config.crypto .mdocBuild [num 0, cose, mso]
    let sig := if isWeier b.alg then ecdsaOf (s.curvesOf j) b (coseAlg b.alg).2 tbs j.seed else eddsaOf s b tbs
    let cap := Config.measure .mdocBuild [num mso.length, num (j.input 1).length, b.attr.take 2]
    if !Config.check .derOk [num 0x0A22, mso] then fail j stInputMalformed s
    else done j [(0, (Config.crypto .mdocBuild [num 1, cose, mso, j.input 1, sig]).take cap)] s) job s

/-- TPL_LOAD (R354): bound to the class and index of the issuer handle. Its fields were checked with the parameter block
(log 68). -/
def tplLoadDo (job : Nat) (s : State) : State :=
  runOp 0x0A31 (fun j s =>
    let p := j.params
    let t : Template := {
      cls := hClass (fieldLE p 8 8), issuer := hIndex (fieldLE p 8 8), text := j.input 0, fields := tplFields p
      allowHoldover := j.pb 2 == 1, maxDuration := fieldLE p 4 4 }
    done j [] { s with thm.templates := tput s.thm.templates none (4 * j.slice + j.pb 0) (some t) }) job s

/-- TPL_DELETE. -/
def tplDeleteDo (job : Nat) (s : State) : State :=
  runOp 0x0A32 (fun j s => done j [] { s with thm.templates := tput s.thm.templates none (4 * j.slice + j.pb 0) none }) job s

/-- CRED_ISSUE (R355): the issue time is that of check 10. Its block names no hash for ECDSA and RSA and no PSS: they are free values,
among the hashes that R254 offers where the key is RSA. -/
def credIssueDo (job : Nat) (s : State) : State :=
  runOp 0x0A33 (fun j s =>
    match s.template j.slice (j.pb 0) with
    | none => fail j stBadParameter s
    | some t =>
      let m := fillFields j.at10 (expiryOf j.at10 (fieldLE j.params 4 4)) t.fields (j.input 0) j.seed t.text
      let rsa := j.keyB.fam = 4 ∧ isRsa j.keyB.alg
      let ph := if rsa then [1, 2, 3, 6, 7].getD (Config.freeNat s.freeCtr % 5) 1 else 1 + Config.freeNat s.freeCtr % 7
      withSig j ph (Config.freeNat s.freeCtr / 35 % 2) m (j.seed.drop 320) (fun sig s => done j [(0, m ++ sig)] s) s) job s

/-! ## The quorum -/

/-- QUORUM_OPEN (R336, step 1): the challenge is drawn and cards are awaited, once no RESTORE has the ports (R487). -/
def quorumOpenDo (job : Nat) (s : State) : State :=
  runOp 0x0A80 (fun j s =>
    if s.thm.run.isSome || s.crd.run.any (fun r => r.step == .collect) then s
    else { s.modJob j.id (fun j => { j with phase := .held .cards }) with
      thm.run := some { job := j.id, challenge := fit 32 j.seed, ttl := fieldLE j.params 2 4 } }) job s

/-- QUORUM_CLOSE (R337). -/
def quorumCloseDo (job : Nat) (s : State) : State := runOp 0x0A81 (fun j s => done j [] (endQuorum s)) job s

/-- QUORUM_STATUS. -/
def quorumStatusDo (job : Nat) (s : State) : State := runOp 0x0A82 (fun j s => fresh (done j [(0, quorumStatus s)] s)) job s

/-- The custodians of an enrolment set. -/
def enrolSet (b : Bytes) : List Custodian :=
  (List.range ((b.length - 2) / 73)).map (fun k => { id := cut b (2 + 73 * k) 8, key := cut b (10 + 73 * k) 65 })

/-- QUORUM_ENROLL (R335): the whole set is replaced, and a quorum in force ends. -/
def quorumEnrollDo (job : Nat) (s : State) : State :=
  runOp 0x0A83 (fun j s =>
    let b := j.input 0
    let m := (byteAt b 0).toNat
    let set := enrolSet b
    if (byteAt b 1).toNat ≠ set.length ∨ m = 0 ∨ set.length < m ∨ !decide (set.map (·.id)).Nodup then fail j stBadParameter s
    else match firstBad (set.map (fun c => pkStatus s 1 c.key)) with
      | 0 => done j [] (endQuorum { s with thm.custodians := set, thm.m := m })
      | st => fail j st s) job s

/-! ## The meanings of the commands -/

/-- COMPOSITE_BIND (R340). -/
def execCompositeBind (job : Nat) (s : State) : Host.Outcome State Fault Refusal := .next (compositeBindDo job s)
/-- HYB_SIGN (R341). -/
def execHybSign (job : Nat) (s : State) : Host.Outcome State Fault Refusal := .next (hybSignDo job s)
/-- HYB_VERIFY (R342). -/
def execHybVerify (job : Nat) (s : State) : Host.Outcome State Fault Refusal := .next (hybVerifyDo job s)
/-- HYB_KEM_ENCAPS (R343). -/
def execHybKemEncaps (job : Nat) (s : State) : Host.Outcome State Fault Refusal := .next (hybKemEncapsDo job s)
/-- HYB_KEM_DECAPS (R343). -/
def execHybKemDecaps (job : Nat) (s : State) : Host.Outcome State Fault Refusal := .next (hybKemDecapsDo job s)
/-- CERT_ISSUE (R352). -/
def execCertIssue (job : Nat) (s : State) : Host.Outcome State Fault Refusal := .next (certIssueDo job s)
/-- MDOC_ISSUE (R353). -/
def execMdocIssue (job : Nat) (s : State) : Host.Outcome State Fault Refusal := .next (mdocIssueDo job s)
/-- TPL_LOAD (R354). -/
def execTplLoad (job : Nat) (s : State) : Host.Outcome State Fault Refusal := .next (tplLoadDo job s)
/-- TPL_DELETE (R354). -/
def execTplDelete (job : Nat) (s : State) : Host.Outcome State Fault Refusal := .next (tplDeleteDo job s)
/-- CRED_ISSUE (R355). -/
def execCredIssue (job : Nat) (s : State) : Host.Outcome State Fault Refusal := .next (credIssueDo job s)
/-- QUORUM_OPEN (R336). -/
def execQuorumOpen (job : Nat) (s : State) : Host.Outcome State Fault Refusal := .next (quorumOpenDo job s)
/-- QUORUM_CLOSE (R337). -/
def execQuorumClose (job : Nat) (s : State) : Host.Outcome State Fault Refusal := .next (quorumCloseDo job s)
/-- QUORUM_STATUS (R357). -/
def execQuorumStatus (job : Nat) (s : State) : Host.Outcome State Fault Refusal := .next (quorumStatusDo job s)
/-- QUORUM_ENROLL (R335). -/
def execQuorumEnroll (job : Nat) (s : State) : Host.Outcome State Fault Refusal := .next (quorumEnrollDo job s)
/-- HYB_PUBLIC_KEY (R356). -/
def execHybPublicKey (job : Nat) (s : State) : Host.Outcome State Fault Refusal := .next (hybPublicKeyDo job s)

end Sys2Proof.Machine
end

