-- ==== Sys2Proof/Machine/Time.lean ====
section
/-! DEFINITION. The Time Base, ticks, class configuration and service contracts (16_time_and_scheduling.md). -/
namespace Sys2Proof.Machine

/-! ## Contracts (R410 to R416) -/

/-- Guaranteed capacity of one instance in one tick (R410). -/
def tickCap (c : Nat) : Nat := if c = 6 then 48828 else 85449

/-- Instances of a class (R410). -/
def instances (c : Nat) : Nat := (classEngines c).2

def State.classCfg (s : State) (c : Nat) : ClassCfg := tget s.sched.cfg {} c

/-- LONG_MAX as it acts (R411, R420): 0 as 1, at most N − 1, and 1 for class 6. -/
def longMaxOf (c : Nat) (cfg : ClassCfg) : Nat := if c = 6 then 1 else min (max 1 cfg.longMax.toNat) (instances c - 1)

/-- Guaranteed capacity of a class with `lost` instances fenced (R411, R416). -/
def classCap (c lost : Nat) (cfg : ClassCfg) : Nat :=
  if c = 6 then (1 - lost) * 48828 else (instances c - lost - longMaxOf c cfg) * 85449

/-- The contract a slice holds: the one admitted last (R415). -/
def Slice.admitted (sl : Slice) : Tbl Contract := sl.nextContract.getD sl.contract

/-- ΣRATE of a class over admitted contracts, that of slice `i` replaced by `n` where one is given. -/
def State.rateSum (s : State) (c : Nat) (n : Option (Nat × Tbl Contract)) : Nat :=
  let own := (s.slices.map (fun e =>
    match n with
    | some (i, t) => if e.1 = i then (tget t {} c).rate else (tget e.2.admitted {} c).rate
    | none => (tget e.2.admitted {} c).rate)).foldl (· + ·) 0
  match n with
  | some (i, t) => if s.slices.any (fun e => e.1 == i) then own else own + (tget t {} c).rate
  | none => own

/-- Check 1 of R414 for a class; classes 1 and 2 share one condition. -/
def State.check1 (s : State) (cfg : Nat → ClassCfg) (lost : Nat → Nat) (n : Option (Nat × Tbl Contract)) (c : Nat) : Bool :=
  if c = 1 ∨ c = 2 then
    let g1 := classCap 1 (lost 1) (cfg 1)
    let g2 := classCap 2 (lost 2) (cfg 2)
    decide (25 * (s.rateSum 1 n * g2 + s.rateSum 2 n * g1) ≤ 23 * g1 * g2)
  else decide (25 * s.rateSum c n ≤ 23 * classCap c (lost c) (cfg c))

/-- L_min of R414. -/
def lMin (c : Nat) (cfg : ClassCfg) (jobMax : Nat) : Nat := 1 + ceilDiv (cfg.block.toNat + jobMax) (tickCap c)

/-- Checks 2 to 4 of R414 on one entry: the number of the first that fails, 0 when all pass. -/
def entryCheck (c : Nat) (cfg : ClassCfg) (e : Contract) : Nat :=
  if e.deadline = 0 then 0
  else if cfg.block.toNat < e.jobMax then 2
  else if e.rate * e.deadline < e.jobMax then 3
  else if e.deadline < lMin c cfg e.jobMax then 4
  else 0

/-- Admission of a contract for a slice (R414): the class and check of the first failure, class by class. -/
def State.admission (s : State) (i : Nat) (t : Tbl Contract) : Option (Nat × Nat) :=
  ((List.range 7).filterMap (fun c =>
    if !s.check1 s.classCfg (fun _ => 0) (some (i, t)) c then some (c, 1)
    else match entryCheck c (s.classCfg c) (tget t {} c) with
      | 0 => none
      | k => some (c, k))).head?

/-- A class configuration under which every admitted contract still passes checks 1, 2 and 4 (R414). -/
def State.cfgFits (s : State) (c : Nat) (n : ClassCfg) : Bool :=
  let cfg := fun k => if k = c then n else s.classCfg k
  s.check1 cfg (fun _ => 0) none c &&
  s.slices.all (fun e =>
    let k := tget e.2.admitted {} c
    k.deadline == 0 || (decide (k.jobMax ≤ n.block.toNat) && decide (lMin c n k.jobMax ≤ k.deadline)))

/-- Fenced instances of a class. -/
def State.fencedOf (s : State) (c : Nat) : Nat :=
  ((List.range (classEngines c).2).filter (fun k => s.fence ((classEngines c).1 + k) != .none)).length

/-- SCH_CLASS_STATUS[c].GUARANTEED (R416). -/
def State.guaranteed (s : State) (c : Nat) : Bool := s.check1 s.classCfg s.fencedOf none c

/-- Credit of a slice in a class after a tick boundary (R415). -/
def grow (k : Contract) (credit : Nat) : Nat := min (credit + k.rate) (k.rate * max k.deadline 64)

/-- A slice at a tick boundary (R415): a new contract takes effect with its credit at RATE, otherwise credit grows. -/
def Slice.tick (sl : Slice) : Slice :=
  match sl.nextContract with
  | some n => { sl with
      contract := n, nextContract := none
      credit := (List.range 7).foldl (fun t c => tput t 0 c (tget n {} c).rate) [] }
  | none => { sl with
      credit := (List.range 7).foldl (fun t c => tput t 0 c (grow (tget sl.contract {} c) (tget sl.credit 0 c))) [] }

/-! ## Epoch Time (R404 to R408) -/

/-- A step of Epoch Time (R408): STEPPED, event 0x02, and the deadline and acceptance tick of every outstanding job moved by it. -/
def stepEpoch (dst : BitVec 64) (s : State) : State :=
  let d : BitVec 32 := fld dst 18 32 - s.tick
  let s := { s with
    time.epoch := dst, time.stepped := true, met.marks := s.met.marks + 1
    jobs := s.jobs.map (fun j => { j with accept := j.accept + d, deadline := j.deadline + d }) }
  raiseOpen 0x02 s

/-- A seconds value is loaded (R407, R408). -/
def loadSeconds (dst : BitVec 64) (s : State) : State := stepEpoch dst { s with time.set := true }

/-- Signed difference of two Epoch Times. -/
def epochDiff (a b : BitVec 64) : Int := (a - b).toInt

/-- Acquisition is complete (R407, R408): LOCKED, a slew toward the reference up to 100 ms, a step above it. -/
def lock (ref : BitVec 64) (s : State) : State :=
  let off := epochDiff ref s.time.epoch
  let s := { s with time.state := .locked, time.qualifying := 0, time.holdoverSecs := 0, time.holdFrac := 0 }
  if off.natAbs ≤ 429496729 then { s with time.slew := off } else stepEpoch ref { s with time.slew := 0 }

/-- The Time Base loses its reference (R407). -/
def loseReference (s : State) : State :=
  match s.time.state with
  | .locked => { s with
      time.state := .holdover, time.lost := true, time.qualifying := 0, time.holdoverSecs := 0, time.holdFrac := 0, time.slew := 0
      met.episode := s.met.episode + 1 }
  | .acquiring | .holdover => { s with time.lost := true, time.qualifying := 0 }
  | .free => s

/-- An acquisition counts one more qualifying interval or exchange, or starts again. -/
def qualify (good : Bool) (need : Nat) (ref : BitVec 64) (s : State) : State :=
  match s.time.state with
  | .acquiring | .holdover =>
    if !good then { s with time.qualifying := 0 }
    else if need ≤ s.time.qualifying + 1 then lock ref s
    else { s with time.qualifying := s.time.qualifying + 1 }
  | _ => s

/-- The whole second nearest to Epoch Time. -/
def nearestSecond (e : BitVec 64) : BitVec 64 := ((e + 0x80000000) >>> 32) <<< 32

/-- Part of an offset that one tick slews away at 500 ppm. -/
def slewLeft (x : Int) : Int := if x < 0 then min 0 (x + 131) else max 0 (x - 131)

/-- A tick boundary that Epoch Time reaches by running (R404, R407, R415): credits grow and new contracts take effect;
HOLDOVER and operating time go on. -/
def tickBoundaryDo (s : State) : State :=
  let hold := s.time.state == .holdover
  let s := { s with
    time.epoch := ((s.time.epoch >>> 18) + 1) <<< 18
    time.slew := slewLeft s.time.slew
    time.holdFrac := if hold then (s.time.holdFrac + 1) % 16384 else s.time.holdFrac
    time.holdoverSecs := if hold && s.time.holdFrac + 1 == 16384 then s.time.holdoverSecs + 1 else s.time.holdoverSecs
    evr.opTicks := s.evr.opTicks + 1 }
  { s with slices := tmap s.slices {} (fun _ sl => sl.tick) }

/-- A write of SCH_TIME_CTRL (R407, R420): SOURCE 3 is ignored; 0 gives FREE, 1 and 2 ACQUIRING. -/
def timeSourceWriteDo (value : BitVec 32) (s : State) : State :=
  let src := fld value 0 2
  let s := { s with time.ptmMs := fld value 8 8 }
  if src = 3 then s
  else { s with
    time.source := src, time.qualifying := 0, time.slew := 0, time.taiPending := if src = 2 then s.time.taiPending else none
    time.state := if src = 0 then .free else .acquiring, met.marks := s.met.marks + 1 }

/-- A write of SCH_TAI_SET (R406): loaded at once for SOURCE 0, at the next PPS edge for SOURCE 2; SOURCE 1 takes its seconds
from the PTM master. -/
def taiSetDo (value : BitVec 32) (s : State) : State :=
  if s.time.source = 0 then loadSeconds (value ++ fld s.time.epoch 0 32) s
  else if s.time.source = 2 then { s with time.taiPending := some value }
  else s

/-- A rising edge of TIM_PPS (R406, R407), with the REF10 cycles counted since the edge before it. -/
def ppsEdgeDo (cycles : Nat) (s : State) : State :=
  if s.time.source ≠ 2 then s
  else
    let good := decide (9999990 ≤ cycles) && decide (cycles ≤ 10000010)
    let s := if good then s else loseReference s
    let s := match s.time.taiPending with
      | some v => loadSeconds (v ++ (0 : BitVec 32)) { s with time.taiPending := none }
      | none => s
    qualify good 3 (nearestSecond s.time.epoch) s

/-- A PTM exchange (R406, R407); `good` tells whether its residual is below 1 µs. The first one of a start-up loads the
seconds value; in LOCKED Epoch Time follows the reference. -/
def ptmExchangeDo (master : BitVec 64) (good : Bool) (s : State) : State :=
  if s.time.source ≠ 1 then s
  else
    let ref := master + s.time.ptmOffset
    let s := if s.time.set then s else loadSeconds ref s
    if s.time.state = .locked then lock ref s else qualify good 4 ref s

/-- Loss of reference (R407). -/
def referenceLossDo (cause : RefLoss) (s : State) : State :=
  let mine := match cause with | .ptm => s.time.source == 1 | _ => s.time.source == 2
  if mine then loseReference s else s

/-- A write of SCH_CLASS_CFG[c] (R414, R420): RWL, and ignored where an admitted contract would fail. -/
def classCfgWriteDo (cls : BitVec 3) (value : BitVec 32) (s : State) : State :=
  let c := cls.toNat
  let n : ClassCfg := { longMax := fld value 24 6, block := fld value 0 24 }
  if c = 7 then s
  else writeRwl 2 (n != s.classCfg c) (fun s => if s.cfgFits c n then { s with sched.cfg := tput s.sched.cfg {} c n } else s) s

/-! ## The meanings of the commands -/

/-- PTM_EXCHANGE (R406). -/
def execPtmExchange (master : BitVec 64) (good : Bool) (s : State) : Host.Outcome State Fault Refusal := .next (powered (ptmExchangeDo master good) s)
/-- TICK_BOUNDARY (R415). -/
def execTickBoundary (s : State) : Host.Outcome State Fault Refusal := .next (powered tickBoundaryDo s)
/-- TIME_SOURCE_WRITE (R407). -/
def execTimeSourceWrite (value : BitVec 32) (s : State) : Host.Outcome State Fault Refusal := .next (atBar (timeSourceWriteDo value) s)
/-- TAI_SET (R406). -/
def execTaiSet (value : BitVec 32) (s : State) : Host.Outcome State Fault Refusal := .next (atBar (taiSetDo value) s)
/-- PPS_EDGE (R406). -/
def execPpsEdge (cycles : Nat) (s : State) : Host.Outcome State Fault Refusal := .next (powered (ppsEdgeDo cycles) s)
/-- REFERENCE_LOSS (R407). -/
def execReferenceLoss (cause : RefLoss) (s : State) : Host.Outcome State Fault Refusal := .next (powered (referenceLossDo cause) s)
/-- CLASS_CFG_WRITE (R414). -/
def execClassCfgWrite (cls : BitVec 3) (value : BitVec 32) (s : State) : Host.Outcome State Fault Refusal := .next (atBar (classCfgWriteDo cls value) s)

end Sys2Proof.Machine
end

