-- ==== Sys2Proof/Machine/Records.lean ====
section
/-! DEFINITION. Reading, checking and clearing the Event Recorder; frames, sessions and answers of the Rohoul Service Link
(21_service_firmware_events.md). -/
namespace Sys2Proof.Machine

/-! ## Event Recorder (R509 to R511) -/

/-- The records from max(FIRST, oldest SEQ) on, up to `n`, rising (R510). -/
def eventRead (first n : Nat) (s : State) : Bytes :=
  (((s.evr.records.filter (fun r => first ≤ r.seq)).take n).map (·.bytes)).flatten

/-- MAC_prev of a stored record: 8 zero bytes with CHAIN_START, the last cleared MAC in record 0x0601, else the MAC of the record
before it, none where that one is no longer held (R509, R511). -/
def macPrev (before : Option Bytes) (b : Bytes) : Option Bytes :=
  if bit (byteAt b 29) 2 then some (zeros 8) else if fieldLE b 26 2 = 0x0601 then some (cut b 36 8) else before.map (fun p => cut p 56 8)

/-- The first SEQ at which a CRC, a MAC or the SEQ order fails; 0 where none does (R509). -/
def verifyFrom (key : Bytes) : Option (Nat × Bytes) → List EvStored → Nat
  | _, [] => 0
  | before, r :: rest =>
    let b := r.bytes
    let crc := fieldLE b 52 4 == (crc32c (b.take 52)).toNat
    let order := before.elim true (fun p => r.seq == p.1 + 1)
    let mac := (macPrev (before.map (·.2)) b).elim true (fun p => cut b 56 8 == kmac256 key (p ++ b.take 56) 8 (ascii "EQX-EVR"))
    if crc && order && mac then verifyFrom key (some (r.seq, b)) rest else r.seq

/-- EVENT_CLEAR (R511): every record zeroised, record 0x0601 first with the count, the last MAC and the authority. -/
def eventClear (authority : Nat) (s : State) : State :=
  let n := s.evr.records.length
  let last := match lastN 1 s.evr.records with | [r] => cut r.bytes 56 8 | _ => zeros 8
  drainRecords (writeRecord { code := 0x0601, data := leBytes 4 n ++ last ++ leBytes 1 authority }
    { s with evr.records := [], evr.lastMac := last, evr.chainStart := false })

/-! ## Frames of the service link (R495, R496, R498) -/

/-- Header of a device frame. -/
def frameHead (kind flags : Nat) (seq : Nat) (len : Nat) : Bytes :=
  leBytes 1 kind ++ leBytes 1 flags ++ leBytes 2 seq ++ leBytes 2 len ++ zeros 2

/-- A frame in clear: header, payload, CRC-32C. -/
def clearFrame (kind seq : Nat) (payload : Bytes) : Bytes :=
  let h := frameHead kind 0 seq payload.length ++ payload
  h ++ leBytes 4 (crc32c h).toNat

/-- Sends a frame: secured with AES-256-GCM under the device's key once a session is open (R498). -/
def sendFrame (kind seq : Nat) (more : Bool) (payload : Bytes) (s : State) : State :=
  if s.svc.stage = .isOpen then
    let h := frameHead kind (1 + 2 * flag more) seq (payload.length + 16)
    let key := cut s.svc.keys 32 32
    let iv := [0x01, 0, 0, 0] ++ leBytes 8 s.svc.txSeq
    let ct := gcmData 3 key iv payload
    let body := h ++ ct ++ alg .gcmTag 16 [num 3, key, iv, h, ct]
    emit (.rsl kind (body ++ leBytes 4 (crc32c body).toNat)) { s with svc.txSeq := s.svc.txSeq + 1 }
  else emit (.rsl kind (clearFrame kind seq payload)) s

/-- Sends a payload in frames of at most 4,096 bytes, all with one SEQ (R496). -/
def sendAll (kind seq : Nat) : Nat → Bytes → State → State
  | 0, _, s => s
  | fuel + 1, bs, s =>
    if bs.length ≤ 4096 then sendFrame kind seq false bs s
    else sendAll kind seq fuel (bs.drop 4096) (sendFrame kind seq true (bs.take 4096) s)

/-- Thimble serves requests: it is not restarting, and it has started. -/
def State.thimbleUp (s : State) : Bool := !s.thm.restarting && !s.svc.bootFailed && !s.pwr.inReset

/-- Answers a request (R499): the STATUS, then data; kept for a repetition (R496). -/
def rslAnswer (seq : BitVec 16) (status : Nat) (data : Bytes) (s : State) : State :=
  let p := leBytes 2 status ++ data
  sendAll 0x11 seq.toNat (p.length / 4096 + 1) p { s with svc.lastSeq := some seq.toNat, svc.lastReply := p }

/-- In LOCKED only NONCE and CERT are served, in SCRAPPED none (R457, R499). -/
def State.rslOpen (s : State) (nonceOrCert : Bool) : Bool :=
  match s.lcs.state with
  | .locked => nonceOrCert
  | .scrapped => false
  | _ => true

/-- A request of an open session (R496, R499): a repetition is answered again and not executed; one that is not permitted ends
with KEY_POLICY_DENIED and has no effect. -/
def rslRequest (seq : BitVec 16) (permitted : State → Bool) (f : State → State) (s : State) : State :=
  if s.svc.stage ≠ .isOpen ∨ !s.thimbleUp then s
  else if s.svc.lastSeq = some seq.toNat then sendAll 0x11 seq.toNat (s.svc.lastReply.length / 4096 + 1) s.svc.lastReply s
  else if permitted s then f s
  else rslAnswer seq stKeyPolicyDenied [] s

/-- A match register as a word: enable in bit 31, index in bits 23:16, address in bits 12:0. -/
def matchWord (m : MatchReg) : Bytes := leBytes 4 (word [(flag m.en, 31), (m.index.toNat, 16), (m.addr.toNat, 0)]).toNat

/-- What a PATTERN_READ of Mangle `k` returns (R170): ROM, patch RAM, match registers. -/
def patternBytes (k : Nat) (s : State) : Bytes :=
  ((List.range 8192).map (fun a => leBytes 20 (romWord a).toNat)).flatten ++
  ((List.range 256).map (fun a => leBytes 20 (tget s.eng.patch 0 (256 * k + a)).toNat)).flatten ++
  ((List.range 32).map (fun a => matchWord (s.matchReg k a))).flatten

/-- A job occupies Mangle `k`. -/
def State.mangleBusy (s : State) (k : Nat) : Bool := s.jobs.any (fun j => j.engine == k && j.holds)

/-- Thimble answers a waiting PATTERN_READ once the job of its Mangle has ended (R170). -/
def servePatRead (s : State) : State :=
  match s.svc.patRead with
  | some (seq, k) => if s.mangleBusy k ∨ !s.thimbleUp then s else rslAnswer seq stSuccess (patternBytes k s) { s with svc.patRead := none }
  | none => s

/-- A right of R467 is in force. -/
def State.right (s : State) (b : Nat) : Bool :=
  if s.lcs.state = .analysis then decide (b < 5) else s.lcs.dac.elim false (fun d => bit d.rights b)

end Sys2Proof.Machine
end

