-- ==== Sys2Proof/Machine/Metrology.lean ====
section
/-! DEFINITION. The Metrology Domain: seal, fuses, stamps, Tariff Records (17_metrology.md). -/
namespace Sys2Proof.Machine

/-! ## Seal and break count (R425, R426) -/

/-- A thermometer code: a run of ones from bit 0 (R425). -/
def thermometer (w : BitVec 32) : Bool := (w &&& (w + 1)) == 0

/-- The three copies of the break count. -/
def Otp.mseal (o : Otp) : List (BitVec 32) := [o.msealA, o.msealB, o.msealC]

/-- The highest valid copy; 0 where none is valid. -/
def highestOf (l : List (BitVec 32)) : BitVec 32 := l.foldl (fun m w => if thermometer w && decide (m < w) then w else m) 0

/-- BREAKS (R425). -/
def State.breaks (s : State) : Nat := popCount 32 (highestOf s.otp.mseal).toNat

/-- The domain has a key, and its life-cycle state lets it produce Tariff Records (R424, R457). -/
def State.makesRecords (s : State) : Bool :=
  s.met.key != [] && (match s.lcs.state with | .analysis | .scrapped | .locked => false | _ => true)

/-- The decode of R425 at every start-up: lower copies are burned up to the highest, which completes an unseal (R426). -/
def metStartup (s : State) : State :=
  let l := s.otp.mseal
  let h := highestOf l
  if !s.otp.variantL then s
  else if !l.all thermometer then { s with met.st := .fuseInvalid }
  else if l.all (· == h) then { s with met.st := if s.met.recorded then .isSealed else .isUnsealed }
  else { s with
    otp.msealA := h, otp.msealB := h, otp.msealC := h, met.st := .isUnsealed, met.recorded := false, met.intervals := [] }

/-- Generates the metrology key, counted in KEY_EPOCH (R424). -/
def newMetKey (s : State) : State :=
  let k := freeBytes s 64
  let pk := compositeJoin 2 (alg .mlDsaPk 1952 [num 0x12, k.take 32]) (alg .ecPk 65 [num 0x01, [], k.drop 32])
  fresh { s with met.key := k, met.pubKey := pk, met.keyEpoch := s.met.keyEpoch + 1 }

/-! ## Stamps and records (R427 to R432) -/

/-- The stamp of an event that enters the mailbox now (R427, R429). -/
def State.stampNow (s : State) : Stamp :=
  let hold := s.time.state == .holdover
  { epoch := s.time.epoch
    ok := s.time.set && (s.locked || (hold && (decide (s.time.holdoverSecs < 600) || (s.time.holdoverSecs == 600 && s.time.holdFrac == 0))))
    episode := if hold then some s.met.episode else none
    mark := s.met.marks }

/-- An interval between two stamps is traceable (R429). -/
def traceable (a b : Stamp) : Bool := a.ok && b.ok && a.mark == b.mark && (a.episode.isNone || a.episode == b.episode)

/-- Body of a Tariff Record (R432). -/
def tariffBody (s : State) (o : MetOpen) (stop : BitVec 64) (source : Nat) : Bytes :=
  let ms := (stop - o.start.epoch).toNat * 1000 / 2 ^ 32
  leBytes 2 0x0201 ++ leBytes 1 s.breaks ++ [s.met.keyEpoch] ++ leBytes 4 s.met.swId.toNat ++ fit 32 s.met.swSum ++
  leBytes 8 s.met.recordSeq ++ fit 16 o.session ++ leBytes 8 o.start.epoch.toNat ++ leBytes 8 stop.toNat ++ leBytes 8 ms ++
  leBytes 4 (ceilDiv (200 * ms) 1000 + 2000) ++ leBytes 2 o.source ++ leBytes 2 source ++ serialBytes ++ leBytes 1 o.slice ++ zeros 7

/-- The record: body and signature of R341 under the metrology key, context "EQX-TARIFF"; signing is hedged. -/
def tariffRecord (s : State) (body : Bytes) : Bytes :=
  let mk (fam a : Nat) (m : Bytes) : Bound :=
    { kt := false, index := 0, gen := 0, fam := fam, alg := a, material := m, attr := [], handle := 0 }
  body ++ compositeSig s 2 (mk 1 0x12 (s.met.key.take 32)) (mk 4 0x01 (s.met.key.drop 32)) (ascii "EQX-TARIFF") body (freeBytes s 32)

/-- Mailbox depth as it acts (R435). -/
def State.mailboxDepth (s : State) : Nat := max 1 (min 64 s.met.maxQueue.toNat)

/-- A write of MET_CTRL (R422, R435): RWL; a write that takes effect also updates the mailbox settings record. -/
def metCtrlWriteDo (value : BitVec 32) (s : State) : State :=
  let v := fld value 0 7
  if !s.otp.variantL then s
  else writeRwl 11 (v != s.met.maxQueue) (fun s => { s with met.maxQueue := v, met.stored := some v }) s

/-! ## Requests over the service link (R426, R499) -/

/-- METRO_UNSEAL: SEALED, the right and a quorum, and BREAKS below 32. -/
def metroUnsealDo (seq : BitVec 16) (s : State) : State :=
  rslRequest seq
    (fun s => s.rslOpen false && s.otp.variantL && s.lcs.state != .analysis && s.met.st == .isSealed && s.right 5 && s.quorumInForce &&
      decide (s.breaks < 32))
    (fun s =>
      let up (w : BitVec 32) : BitVec 32 := (w <<< 1) ||| 1
      let s := { s with
        otp.msealA := up s.otp.msealA, otp.msealB := up s.otp.msealB, otp.msealC := up s.otp.msealC
        met.intervals := [], met.st := .isUnsealed, met.recorded := false }
      rslAnswer seq stSuccess [] (logRecord 0x0502 (leBytes 1 s.breaks) s)) s

/-- Bytes laid over the start of a region of `n` bytes. -/
def overlay (n : Nat) (old data : Bytes) : Bytes := (data ++ old.drop data.length).take n

/-- The image region as the checksum reads it, all 1 MiB of it (R421, R423); what nothing has written reads as zero. -/
def State.metImage (s : State) : Bytes := fit 1048576 s.met.image

/-- METRO_LOAD: an image or a parameter set, only while UNSEALED. -/
def metroLoadDo (seq : BitVec 16) (image : Bool) (data : Bytes) (s : State) : State :=
  rslRequest seq (fun s => s.rslOpen false && s.otp.variantL && s.met.st == .isUnsealed)
    (fun s => rslAnswer seq stSuccess []
      (if image then { s with met.image := overlay 1048576 s.met.image data } else { s with met.params := overlay 65536 s.met.params data })) s

/-- METRO_RESEAL: image signature, checksum, record; a key is generated where there is none. -/
def metroResealDo (seq : BitVec 16) (s : State) : State :=
  rslRequest seq (fun s => s.rslOpen false && s.otp.variantL && s.met.st == .isUnsealed)
    (fun s =>
      if !Config.check .imageParse [vendorHash, s.metImage] then rslAnswer seq stSignatureInvalid [] s
      else
        let id := BitVec.ofNat 32 (Config.measure .imageParse [s.metImage])
        let sum := sha256 s.metImage
        let s := if s.met.key = [] ∧ s.lcs.state ≠ .analysis then newMetKey s else s
        let s := { s with met.swId := id, met.swSum := sum, met.st := .isSealed, met.recorded := true }
        rslAnswer seq stSuccess [] (logRecord 0x0501 (leBytes 4 id.toNat ++ sum.take 15 ++ leBytes 1 s.breaks) s)) s

/-! ## The meanings of the commands -/

/-- MET_CTRL_WRITE (R422). -/
def execMetCtrlWrite (value : BitVec 32) (s : State) : Host.Outcome State Fault Refusal := .next (atBar (metCtrlWriteDo value) s)
/-- METRO_UNSEAL (R426). -/
def execMetroUnseal (seq : BitVec 16) (s : State) : Host.Outcome State Fault Refusal := .next (metroUnsealDo seq s)
/-- METRO_LOAD (R426). -/
def execMetroLoad (seq : BitVec 16) (image : Bool) (data : Bytes) (s : State) : Host.Outcome State Fault Refusal := .next (metroLoadDo seq image data s)
/-- METRO_RESEAL (R426). -/
def execMetroReseal (seq : BitVec 16) (s : State) : Host.Outcome State Fault Refusal := .next (metroResealDo seq s)

end Sys2Proof.Machine
end

