-- ==== Sys2Proof/Machine/Rings.lean ====
section
/-! DEFINITION. Submission and completion queues: doorbells, cell fetches, watchdog, enabling and disabling
(03_rings.md). Intake itself stands in Intake.lean. -/
namespace Sys2Proof.Machine

/-- The phase the device expects at ring index `i` (R71): that of HEAD from HEAD on, the other before it. -/
def Sq.phaseAt (q : Sq) (i : Nat) : Bool := if q.head ≤ i then q.phase else !q.phase

/-- Distance of index `i` ahead of HEAD. -/
def Sq.ahead (q : Sq) (i : Nat) : Nat := (i + qsize q.log2 - q.head) % qsize q.log2

/-- Cells before the recorded tail (R76). -/
def Sq.declared (q : Sq) : Nat := q.ahead q.tail

/-- Indices from HEAD up to the tail and up to 8 beyond it (R77); a ring holds at most its size. -/
def Sq.window (q : Sq) : List Nat :=
  (List.range (min (qsize q.log2) (q.declared + 8))).map (fun k => (q.head + k) % qsize q.log2)

/-- Indices of the window that are neither held nor on their way. -/
def Sq.toFetch (q : Sq) : List Nat :=
  q.window.filter (fun i => !(q.held.any (fun h => h.1 == i)) && !(q.outst.contains i))

/-- Issues the fetch of cells (R77) while the device may request for the slice (R54, R60). -/
def issueFetch (i k : Nat) (idx : List Nat) (s : State) : State :=
  if idx = [] ∨ !s.mayRequest i ∨ !s.intakeOpen i then s
  else emit (.cellFetch i k (s.slice i).pasid idx s.hif.readRo s.hif.readIdo)
    (s.modSq i k (fun q => { q with outst := q.outst ++ idx }))

/-- Fetches what the window of an SQ lacks. -/
def fetchWindow (i k : Nat) (s : State) : State :=
  let q := s.sq i k
  if q.enable && !q.fault then issueFetch i k q.toFetch s else s

/-- Fetches for every queue of a slice again: intake resumes at each SQ's HEAD (R54, R60, R447, R451). -/
def refetchSlice (i : Nat) (s : State) : State := (List.range 16).foldl (fun s k => fetchWindow i k s) s

/-- Intake resumes for every slice. -/
def refetchAll (s : State) : State := (s.slices.map (fun e => e.1)).foldl (fun s i => refetchSlice i s) s

/-- States of a slice in which doorbells are recorded (R76, R390). -/
def State.doorbells (s : State) (i : Nat) : Bool :=
  let sl := s.slice i
  s.barOn && !s.tmp.rinse && s.pwr.hifReady && sl.enable &&
  (match sl.state with | .active | .freezing | .frozen | .saved => true | _ => false)

/-- An SQ tail doorbell (R75, R76, R77): the tail is recorded, and the window fetched unless the slice takes no jobs now. A
doorbell while Memory Space Enable is 0 is an Unsupported Request (R54). -/
def sqTailDoorbellDo (slice : BitVec 8) (queue : BitVec 4) (value : BitVec 64) (s : State) : State :=
  let i := slice.toNat
  let k := queue.toNat
  let q := s.sq i k
  if !s.barOn then emit .unsupported s
  else if !s.doorbells i || !q.enable then s
  else
    let v := (fld value 0 16).toNat % qsize q.log2
    if v = q.tail then s
    else fetchWindow i k (s.modSq i k (fun q => { q with tail := v }))

/-- A CQ head doorbell (R75, R91): releases written entries, never a reserved slot. -/
def cqHeadDoorbellDo (slice : BitVec 8) (queue : BitVec 4) (value : BitVec 64) (s : State) : State :=
  let i := slice.toNat
  let k := queue.toNat
  let c := s.cq i k
  if !s.barOn then emit .unsupported s
  else if !s.doorbells i || !c.enable then s
  else
    let v := (fld value 0 16).toNat % qsize c.log2
    let n := min ((v + qsize c.log2 - c.head) % qsize c.log2) c.written
    s.modCq i k (fun c => { c with head := v, written := c.written - n })

/-- One fetched cell (R77): held with the expected phase; discarded otherwise, and marked when it lies before the tail. -/
def takeCell (i k : Nat) (c : Nat × Bytes) (s : State) : State :=
  s.modSq i k (fun q =>
    if !q.outst.contains c.1 then q
    else
      let q := { q with outst := q.outst.filter (· != c.1) }
      let cell := fit 64 c.2
      if bit (byteAt cell 63) 0 = q.phaseAt c.1 then
        { q with held := tput q.held [] c.1 cell, missed := q.missed.filter (· != c.1) }
      else if q.ahead c.1 < q.declared then { q with missed := c.1 :: q.missed.filter (· != c.1) }
      else q)

/-- The job that waits at the head of a queue is gone, and with it the slot it held (R90). -/
def dropSlot (i k : Nat) (s : State) : State :=
  match (s.sq i k).slot with
  | none => s
  | some c => (s.modCq i c (fun q => { q with resv := q.resv - 1 })).modSq i k (fun q => { q with slot := none })

/-- A cell fetch that failed (R82): FAULT, the bit of HIF_DMA_STATUS, held cells dropped, event 0x21. -/
def fetchFault (i k : Nat) (e : ReadError) (s : State) : State :=
  let s := reportAer e (setDmaStatus e ((dropSlot i k s).modSq i k (fun q => { q with fault := true, held := [], outst := [], missed := [] })))
  raiseEvent 0x21 i (.slice i) .own s

/-- Fetched cells return (R77, R82). Cells of a queue disabled meanwhile are dropped (R94). -/
def cellFetchReturnDo (slice : BitVec 8) (queue : BitVec 4) (cells : List (BitVec 16 × Bytes)) (err : Option ReadError) (s : State) : State :=
  let i := slice.toNat
  let k := queue.toNat
  let q := s.sq i k
  if !q.enable || q.outst = [] then s
  else match err with
    | some e => fetchFault i k e s
    | none => cells.foldl (fun s c => takeCell i k (c.1.toNat % qsize q.log2, c.2) s) s

/-- Cells before the tail that mismatched are fetched again every 2 µs (R77). -/
def cellRefetchTimerDo (slice : BitVec 8) (queue : BitVec 4) (s : State) : State :=
  let i := slice.toNat
  let k := queue.toNat
  let q := s.sq i k
  if q.enable && !q.fault then issueFetch i k (q.missed.filter (fun x => q.toFetch.contains x)) s else s

/-- WDOG ticks of mismatching phase have passed (R78): STALLED and event 0x20; WDOG 0 is off. -/
def sqStallWatchdogDo (slice : BitVec 8) (queue : BitVec 4) (s : State) : State :=
  let i := slice.toNat
  let k := queue.toNat
  let q := s.sq i k
  if q.enable && decide (q.wdog ≠ 0) && !q.missed.isEmpty then
    raiseEvent 0x20 i (.slice i) .own (s.modSq i k (fun q => { q with stalled := true }))
  else s

/-- A job of the SQ is accepted and not yet completed (ACTIVE of R95). -/
def State.sqActive (s : State) (i k : Nat) : Bool := s.jobs.any (fun j => j.slice == i && j.sq == k && !j.suppressed)

/-- The queue the window selects (R95). -/
def State.sel (s : State) : Nat × Nat := (s.ring.qselSlice.toNat, s.ring.qselQueue.toNat)

/-- LOG2SIZE is one the device takes (R65). -/
def sizeOk (n : BitVec 5) : Bool := decide (6 ≤ n.toNat) && decide (n.toNat ≤ 16)

/-- A write of HIF_SQ_CFG to the selected SQ (R95, R96): WDOG always; ERR_CQ and LOG2SIZE while disabled; then ENABLE. -/
def writeSqCfg (value : BitVec 32) (s : State) : State :=
  let (i, k) := s.sel
  let s := s.modSq i k (fun q => { q with wdog := fld value 16 8 })
  let s := if (s.sq i k).enable then s else s.modSq i k (fun q => { q with errCq := fld value 12 4, log2 := fld value 4 5 })
  let q := s.sq i k
  if bit value 0 then
    if q.enable then s
    else if sizeOk q.log2 && (s.cq i q.errCq.toNat).enable && !s.sqActive i k then
      s.modSq i k (fun q => { q with enable := true, head := 0, phase := true, tail := 0, held := [], outst := [], missed := [] })
    else s
  else (dropSlot i k s).modSq i k (fun q => { q with enable := false, held := [], outst := [], missed := [] })

/-- An enabled SQ of the slice names the CQ as ERR_CQ (R97). -/
def State.errCqUsed (s : State) (i k : Nat) : Bool :=
  (List.range 16).any (fun n => (s.sq i n).enable && (s.sq i n).errCq.toNat == k)

/-- A write of HIF_CQ_CFG to the selected CQ (R95, R97): moderation fields always, LOG2SIZE while disabled, then ENABLE.
A lower THRESH makes a message due at once where enough entries wait (R93, log 15); disabling drops the count (log 98). -/
def writeCqCfg (value : BitVec 32) (s : State) : State :=
  let (i, k) := s.sel
  let s := s.modCq i k (fun c => { c with
    timer := fld value 24 8, thresh := fld value 16 8, ien := bit value 15, vec := fld value 12 3,
    unsig := if bit value 15 then c.unsig else 0 })
  let s := if (s.cq i k).enable then s else s.modCq i k (fun c => { c with log2 := fld value 4 5 })
  let c := s.cq i k
  if bit value 0 then
    if c.enable then moderate i k s
    else if !sizeOk c.log2 then s
    else s.modCq i k (fun c => { c with enable := true, tail := 0, phase := true, head := 0, resv := 0, written := 0, unsig := 0 })
  else if c.resv ≠ 0 ∨ s.errCqUsed i k then moderate i k s
  else s.modCq i k (fun c => { c with enable := false, written := 0, unsig := 0 })

/-- A write of HIF_SQ_CFG with ENABLE = 1 (R96). -/
def sqEnableDo (value : BitVec 32) (s : State) : State := writeSqCfg (value ||| 1) s
/-- A write of HIF_SQ_CFG with ENABLE = 0 (R96). -/
def sqDisableDo (value : BitVec 32) (s : State) : State := writeSqCfg (value &&& ~~~1) s
/-- A write of HIF_CQ_CFG with ENABLE = 1 (R97). -/
def cqEnableDo (value : BitVec 32) (s : State) : State := writeCqCfg (value ||| 1) s
/-- A write of HIF_CQ_CFG with ENABLE = 0 (R97). -/
def cqDisableDo (value : BitVec 32) (s : State) : State := writeCqCfg (value &&& ~~~1) s

/-- A write to HIF_SQ_STATUS (R11, R82, R95): a 1 clears STALLED or FAULT; clearing FAULT fetches from HEAD again. -/
def sqFaultClearDo (value : BitVec 32) (s : State) : State :=
  let (i, k) := s.sel
  let was := (s.sq i k).fault
  let s := s.modSq i k (fun q => { q with stalled := q.stalled && !bit value 18, fault := q.fault && !bit value 19 })
  if was && bit value 19 then fetchWindow i k s else s

/-- TIMER µs have passed since the first entry not yet signalled (R93). -/
def cqModerationTimerDo (slice : BitVec 8) (queue : BitVec 4) (s : State) : State :=
  let c := s.cq slice.toNat queue.toNat
  if c.enable && c.ien && decide (c.timer ≠ 0) && decide (1 ≤ c.unsig) then cqMessage slice.toNat queue.toNat s else s

/-! ## The meanings of the commands -/

/-- SQ_TAIL_DOORBELL (R76). -/
def execSqTailDoorbell (slice : BitVec 8) (queue : BitVec 4) (value : BitVec 64) (s : State) : Host.Outcome State Fault Refusal := .next (sqTailDoorbellDo slice queue value s)
/-- CQ_HEAD_DOORBELL (R91). -/
def execCqHeadDoorbell (slice : BitVec 8) (queue : BitVec 4) (value : BitVec 64) (s : State) : Host.Outcome State Fault Refusal := .next (cqHeadDoorbellDo slice queue value s)
/-- CELL_FETCH_RETURN (R77). -/
def execCellFetchReturn (slice : BitVec 8) (queue : BitVec 4) (cells : List (BitVec 16 × Bytes)) (err : Option ReadError) (s : State) : Host.Outcome State Fault Refusal := .next (cellFetchReturnDo slice queue cells err s)
/-- CELL_REFETCH_TIMER (R77). -/
def execCellRefetchTimer (slice : BitVec 8) (queue : BitVec 4) (s : State) : Host.Outcome State Fault Refusal := .next (cellRefetchTimerDo slice queue s)
/-- SQ_STALL_WATCHDOG (R78). -/
def execSqStallWatchdog (slice : BitVec 8) (queue : BitVec 4) (s : State) : Host.Outcome State Fault Refusal := .next (sqStallWatchdogDo slice queue s)
/-- SQ_ENABLE (R96). -/
def execSqEnable (value : BitVec 32) (s : State) : Host.Outcome State Fault Refusal := .next (atBar (sqEnableDo value) s)
/-- SQ_DISABLE (R96). -/
def execSqDisable (value : BitVec 32) (s : State) : Host.Outcome State Fault Refusal := .next (atBar (sqDisableDo value) s)
/-- CQ_ENABLE (R97). -/
def execCqEnable (value : BitVec 32) (s : State) : Host.Outcome State Fault Refusal := .next (atBar (cqEnableDo value) s)
/-- CQ_DISABLE (R97). -/
def execCqDisable (value : BitVec 32) (s : State) : Host.Outcome State Fault Refusal := .next (atBar (cqDisableDo value) s)
/-- SQ_FAULT_CLEAR (R82). -/
def execSqFaultClear (value : BitVec 32) (s : State) : Host.Outcome State Fault Refusal := .next (atBar (sqFaultClearDo value) s)
/-- CQ_MODERATION_TIMER (R93). -/
def execCqModerationTimer (slice : BitVec 8) (queue : BitVec 4) (s : State) : Host.Outcome State Fault Refusal := .next (cqModerationTimerDo slice queue s)

end Sys2Proof.Machine
end

