-- ==== Sys2Proof/Machine/Slices.lean ====
section
/-! DEFINITION. Slices: enabling, disabling, resets, the drain limit (15_slices.md, R378 to R392). -/
namespace Sys2Proof.Machine

/-- A queue of the slice is enabled. -/
def State.anyQueue (s : State) (i : Nat) : Bool := (List.range 16).any (fun k => (s.sq i k).enable || (s.cq i k).enable)

/-- Another enabled slice has this PASID (R379). -/
def State.pasidTaken (s : State) (i : Nat) (p : BitVec 20) : Bool :=
  s.slices.any (fun e => e.1 != i && e.2.enable && e.2.pasid == p)

/-- Asks for a slice reset (R385, R387): at once, or once no job of the next generation is outstanding. -/
def requestReset (i : Nat) (s : State) : State :=
  if (s.slice i).resetPending then s
  else if s.resetClear i then sliceReset i s
  else s.modSlice i (fun sl => { sl with resetPending := true })

/-- A write of SLC_SLICE_CFG[s] (R379, R380, R403). PASID is writable only while DISABLED; for slice 0, only while none of its
queues is enabled, and its ENABLE is read-only. -/
def writeSliceCfg (i : Nat) (value : BitVec 32) (s : State) : State :=
  let p := fld value 0 20
  let sl := s.slice i
  if i = 0 then (if s.anyQueue 0 then s else s.modSlice 0 (fun sl => { sl with pasid := p }))
  else if sl.enable then
    if bit value 31 then s
    else requestReset i (dropMigration i (s.modSlice i (fun sl => { sl with enable := false })))
  else if s.sliceState i ≠ .disabled then s
  else
    let s := s.modSlice i (fun sl => { sl with pasid := p })
    if bit value 31 && !s.pasidTaken i p then
      resetQueues i (s.modSlice i (fun sl => { sl with enable := true, state := .active, contract := [], credit := [], nextContract := none }))
    else s

/-- A write with ENABLE = 1 (R379). -/
def sliceEnableDo (slice : BitVec 8) (value : BitVec 32) (s : State) : State := writeSliceCfg slice.toNat (value ||| 0x80000000) s

/-- A write with ENABLE = 0 (R380). -/
def sliceDisableDo (slice : BitVec 8) (value : BitVec 32) (s : State) : State := writeSliceCfg slice.toNat (value &&& 0x7FFFFFFF) s

/-- A write of SLC_SLICE_CTRL[s] (R385, R387). -/
def sliceResetDo (slice : BitVec 8) (value : BitVec 32) (s : State) : State :=
  if bit value 0 then requestReset slice.toNat s else s

/-- A pending RESET takes effect (R387). -/
def sliceResetPendingActDo (slice : BitVec 8) (s : State) : State :=
  if (s.slice slice.toNat).resetPending && s.resetClear slice.toNat then sliceReset slice.toNat s else s

/-- The drain limit expires (R392): outstanding jobs stop with MIGRATED_RESUBMIT; a release that has begun runs out. -/
def freezeDrainLimitDo (slice : BitVec 8) (s : State) : State :=
  if (s.slice slice.toNat).state = .freezing then stopJobs (fun j => j.slice == slice.toNat) stMigratedResubmit s else s

/-- The oldest pending nonce expires (R394). -/
def migNonceExpiryDo (s : State) : State := { s with mig.nonces := s.mig.nonces.drop 1 }

/-! ## The meanings of the commands -/

/-- SLICE_ENABLE (R379). -/
def execSliceEnable (slice : BitVec 8) (value : BitVec 32) (s : State) : Host.Outcome State Fault Refusal := .next (atBar (sliceEnableDo slice value) s)
/-- SLICE_DISABLE (R380). -/
def execSliceDisable (slice : BitVec 8) (value : BitVec 32) (s : State) : Host.Outcome State Fault Refusal := .next (atBar (sliceDisableDo slice value) s)
/-- SLICE_RESET (R385). -/
def execSliceReset (slice : BitVec 8) (value : BitVec 32) (s : State) : Host.Outcome State Fault Refusal := .next (atBar (sliceResetDo slice value) s)
/-- SLICE_RESET_PENDING_ACT (R387). -/
def execSliceResetPendingAct (slice : BitVec 8) (s : State) : Host.Outcome State Fault Refusal := .next (sliceResetPendingActDo slice s)
/-- FREEZE_DRAIN_LIMIT (R392). -/
def execFreezeDrainLimit (slice : BitVec 8) (s : State) : Host.Outcome State Fault Refusal := .next (freezeDrainLimitDo slice s)
/-- MIG_NONCE_EXPIRY (R394). -/
def execMigNonceExpiry (s : State) : Host.Outcome State Fault Refusal := .next (migNonceExpiryDo s)

end Sys2Proof.Machine
end

