-- ==== Sys2Proof/Machine/Migration.lean ====
section
/-! DEFINITION. Slice Images: tickets, parts, records, saving and restoring (15_slices.md, R394 to R400; R330). The byte
layouts of record bodies, which the rules list by content, are the model's (log 27). -/
namespace Sys2Proof.Machine

/-! ## Bytes -/

/-- Strings put one behind another, each with its length. -/
def pack (fs : List Bytes) : Bytes := (fs.map (fun f => leBytes 4 f.length ++ f)).flatten

/-- The strings of a packed one; at most `fuel`. -/
def unpack : Nat → Bytes → List Bytes
  | 0, _ => []
  | fuel + 1, bs => if bs = [] then [] else let n := fieldLE bs 0 4; cut bs 4 n :: unpack fuel (bs.drop (4 + n))

/-- A packed string's fields. -/
def fieldsOf (bs : Bytes) : List Bytes := unpack bs.length bs
def fieldNo (l : List Bytes) (k : Nat) : Bytes := l.getD k []
def numNo (l : List Bytes) (k : Nat) : Nat := ofLE (fieldNo l k)
def n8 (n : Nat) : Bytes := leBytes 8 n

/-- A record (R397): TYPE, three reserved bytes, length, body. -/
def recBytes (r : Nat × Bytes) : Bytes := leBytes 1 r.1 ++ zeros 3 ++ leBytes 4 r.2.length ++ r.2

/-- The records of an area, none where its syntax fails. -/
def parseRecs : Nat → Bytes → Option (List (Nat × Bytes))
  | 0, bs => if bs = [] then some [] else none
  | fuel + 1, bs =>
    if bs = [] then some []
    else
      let t := (byteAt bs 0).toNat
      let n := fieldLE bs 4 4
      if bs.length < 8 + n ∨ t = 0 ∨ 7 < t ∨ !isZero bs 1 3 then none
      else (parseRecs fuel (bs.drop (8 + n))).map (fun r => (t, cut bs 8 n) :: r)

/-! ## Contracts (R419) -/

/-- The 112 bytes of a contract. -/
def contractBytes (t : Tbl Contract) : Bytes :=
  ((List.range 7).map (fun c =>
    let k := tget t {} c
    leBytes 4 k.rate ++ leBytes 4 k.jobMax ++ leBytes 2 k.deadline ++ zeros 6)).flatten

/-- A contract from its bytes. -/
def parseContract (b : Bytes) : Tbl Contract :=
  (List.range 7).foldl (fun t c => tput t {} c
    { rate := fieldLE b (16 * c) 4, jobMax := fieldLE b (16 * c + 4) 4, deadline := fieldLE b (16 * c + 8) 2 }) []

/-- Entry `c` has no reserved byte set, and a deadline only with a rate and a largest charge (R414). -/
def contractEntryOk (b : Bytes) (c : Nat) : Bool :=
  isZero b (16 * c + 10) 6 && (fieldLE b (16 * c + 8) 2 == 0 || (fieldLE b (16 * c) 4 != 0 && fieldLE b (16 * c + 4) 4 != 0))

def contractOk (b : Bytes) : Bool := (List.range 7).all (contractEntryOk b)

/-! ## Records of a slice (R397) -/

/-- Type 0x01: contract, quotas, cache quotas. -/
def sliceRecord (s : State) (i : Nat) : Bytes :=
  let sl := s.slice i
  contractBytes sl.admitted ++ leBytes 4 sl.quotaKt.toNat ++ leBytes 4 sl.quotaPs.toNat ++ leBytes 4 sl.quotaJobs.toNat ++
  leBytes 4 sl.quotaSessions.toNat ++ leBytes 4 (tget s.eng.ekc.quota 0 i) ++ leBytes 4 (tget s.eng.dpk.quota 0 i)

/-- Type 0x02: a queue pair. -/
def queueRecord2 (s : State) (i k : Nat) : Bytes :=
  let q := s.sq i k
  let c := s.cq i k
  let f := (s.slice i).freeze.getD {}
  pack [n8 k, n8 (flag (f.sqs.contains k)), n8 q.base.toNat, n8 q.log2.toNat, n8 q.head, n8 (flag q.phase), n8 q.tail, n8 q.errCq.toNat,
    n8 q.wdog.toNat, n8 (flag (f.cqs.contains k)), n8 c.base.toNat, n8 c.log2.toNat, n8 c.tail, n8 (flag c.phase), n8 c.head, n8 c.written,
    n8 (flag c.ien), n8 c.vec.toNat, n8 c.thresh.toNat, n8 c.timer.toNat]

/-- Type 0x03: a session reference with its context. -/
def sessionRecord (s : State) (c : Nat) : Bytes :=
  let x := s.ctx c
  pack [n8 c, n8 x.sgen.toNat, n8 (flag x.gcm), n8 x.func, n8 (flag x.order2), x.key, n8 x.keyIndex, x.iv, x.aad, n8 x.dlen, n8 x.nlen, x.custom,
    x.absorbed, n8 (flag x.last)]

/-- Type 0x04: old handle and a FORMAT 0x0002 blob, or a composite key's attributes and part handles. -/
def keyRecord (kwrap : Bytes) (s : State) (kt : Bool) (i : Nat) : Bytes :=
  let d := s.keyData kt i
  n8 (s.handleOf kt i) ++ (if aFam d.attr = 0x0A then fit 48 d.attr ++ d.material.take 16 else wrapBlob 2 kwrap d.attr d.material)

/-- Type 0x05: a stateful key with NEXT and HIGH at the committed HIGH. -/
def statefulRecord (kwrap : Bytes) (s : State) (i : Nat) : Bytes :=
  let d := s.keyData false i
  let k := tget s.kv.hbs {} i
  let tree (t : HbsTree) : Bytes :=
    pack [n8 t.level, n8 t.tree, pack (t.segs.map (fun g => leBytes 4 g.1 ++ g.2)), pack (t.top.elim [] (fun r => [r]))]
  n8 (s.handleOf false i) ++ pack [wrapBlob 2 kwrap d.attr d.material, n8 k.high, n8 k.upper, pack (k.trees.map tree),
    pack (k.upSigs.map (fun u => leBytes 4 u.1 ++ u.2)), pack (k.abandoned.map n8)]

/-- Type 0x06: a credential template. -/
def templateRecord (slot : Nat) (t : Template) : Bytes :=
  pack [n8 slot, n8 t.cls, n8 t.issuer, t.text, pack (t.fields.map (fun f => leBytes 1 f.kind ++ leBytes 2 f.offset ++ leBytes 2 f.len)),
    n8 (flag t.allowHoldover), n8 t.maxDuration]

/-- Keys of a slice that travel (R330): resident and persistent with MIGRATE, and composite keys, whose usage can never carry it. -/
def State.movingKeys (s : State) (kt : Bool) (i : Nat) : List Nat :=
  (s.keysOf kt i).filter (fun k =>
    let a := (s.keyData kt k).attr
    !(s.slot kt k).eph && ((aUsage a &&& uMigrate) != 0 || aFam a == 0x0A))

/-- Records of every part but the last, in order: parts of composite keys before the keys that name them. -/
def bodyRecords (kwrap : Bytes) (s : State) (i : Nat) : List (Nat × Bytes) :=
  let comp (kt : Bool) (k : Nat) : Bool := aFam (s.keyData kt k).attr == 0x0A
  let stateful (k : Nat) : Bool := aStateful (s.keyData false k).attr
  let kt := s.movingKeys true i
  let ps := (s.movingKeys false i).filter (fun k => !stateful k)
  let key (kt : Bool) (k : Nat) : Nat × Bytes := (4, keyRecord kwrap s kt k)
  [(1, sliceRecord s i)] ++ (List.range 16).map (fun k => (2, queueRecord2 s i k)) ++ (s.ctxsOf i).map (fun c => (3, sessionRecord s c)) ++
  (kt.filter (fun k => !comp true k)).map (key true) ++ (ps.filter (fun k => !comp false k)).map (key false) ++
  (kt.filter (comp true)).map (key true) ++ (ps.filter (comp false)).map (key false) ++
  (List.range 4).filterMap (fun k => (s.template i k).map (fun t => (6, templateRecord k t)))

/-- Records of the part with LAST = 1: stateful keys and resubmission entries. -/
def lastRecords (kwrap : Bytes) (s : State) (i : Nat) : List (Nat × Bytes) :=
  ((s.movingKeys false i).filter (fun k => aStateful (s.keyData false k).attr)).map (fun k => (5, statefulRecord kwrap s k)) ++
  ((s.slice i).freeze.getD {}).resub.map (fun r => (7, leBytes 1 r.1 ++ leBytes 2 r.2.1 ++ leBytes 2 r.2.2))

/-- Packs records into areas of bounded length. -/
def areas (cap : Nat) : List (Nat × Bytes) → Bytes → List Bytes
  | [], acc => [acc]
  | r :: rest, acc =>
    if acc ≠ [] ∧ cap < (acc ++ recBytes r).length then acc :: areas cap rest (recBytes r) else areas cap rest (acc ++ recBytes r)

/-! ## Keys, headers, parts (R394 to R396) -/

/-- One of the three keys of R395. -/
def migKey (ss src dst : Bytes) (seq : Nat) (nonce : Bytes) (name : String) : Bytes :=
  kmac256 ss (src ++ dst ++ leBytes 4 seq ++ nonce) 32 (ascii name)

/-- K_enc, K_mac and K_wrap. -/
def migKeys (ss src dst : Bytes) (seq : Nat) (nonce : Bytes) : Bytes :=
  migKey ss src dst seq nonce "EQX-MIG-ENC" ++ migKey ss src dst seq nonce "EQX-MIG-MAC" ++ migKey ss src dst seq nonce "EQX-MIG-WRAP"

/-- The 48-byte header of a part (R396). -/
def partHead (last : Bool) (seq part len slice : Nat) (gen : BitVec 8) (src dst : Bytes) : Bytes :=
  leBytes 2 0x0102 ++ leBytes 1 1 ++ leBytes 1 (flag last) ++ leBytes 4 seq ++ leBytes 4 part ++ leBytes 4 len ++ leBytes 1 slice ++ [gen] ++
  zeros 6 ++ fit 8 src ++ fit 8 dst ++ zeros 8

/-- AES-256-CTR with the part number as the high 32 bits of the initial counter. -/
def partCrypt (kenc : Bytes) (part : Nat) (bs : Bytes) : Bytes := ctrCrypt 16 3 kenc (beBytes 4 part ++ zeros 12) bs

def partTag (kmac prev body : Bytes) : Bytes := kmac256 kmac (prev ++ body) 32 (ascii "EQX-MIG-PART")

/-- Outcome of R395 on a certificate chain, the serial number it must carry, and a signature under its leaf: 0 or the status. -/
def chainStatus (chain serial_ msg sig : Bytes) : Nat :=
  if !Config.check .derOk [chain] then stInputMalformed
  else if !Config.check .chainOk [vendorHash, chain] then stSignatureInvalid
  else if Config.crypto .certSerial [chain] ≠ serial_ then stInputKeyInvalid
  else if !Config.check .ecdsaVerify [num 0x02, chain, sig, sha384 msg] then stSignatureInvalid
  else 0

/-- The ticket of MIG_PREPARE (R394). -/
def ticketOf (s : State) (nonce : Bytes) : Bytes :=
  let t := leBytes 2 0x0101 ++ zeros 2 ++ serialBytes ++ fit 16 nonce ++ zeros 4 ++ alg .mlKemEk 1568 [num 0x03, s.kv.migKey]
  t ++ identitySign t (freeBytes s 48)

/-! ## Saving -/

def State.migOf (s : State) (i : Nat) : Option MigContext := s.mig.contexts.find? (fun c => c.slice == i)
def setMig (c : MigContext) (s : State) : State :=
  { s with mig.contexts := s.mig.contexts.filter (fun d => d.slice != c.slice) ++ [c] }

/-- The first part of an image (R395, R396, R398). -/
def saveFirst (j : Job) (i : Nat) (s : State) : State :=
  let t := j.input 0
  let dst := cut t 4 8
  let nonce := cut t 12 16
  match chainStatus (j.input 1) dst (t.take 1600) (t.drop 1600) with
  | 0 =>
    let s := { s with mig.imageSeq := s.mig.imageSeq + 1 }
    let seq := s.mig.imageSeq.toNat
    let m := freeBytes s 32
    let ek := cut t 32 1568
    let ct := alg .mlKemCt 1568 [num 0x03, ek, m]
    let keys := migKeys (alg .mlKemSs 32 [num 0x03, ek, m]) serialBytes dst seq nonce
    let s := dropEphemeral i s
    let all := areas (1048576 - 48 - 32 - 1664) (bodyRecords (cut keys 64 32) s i) []
    let area := all.headD []
    let h := partHead false seq 0 area.length i (s.slice i).gen serialBytes dst
    let body := h ++ ct ++ identitySign (h ++ ct) (freeBytes s 80) ++ partCrypt (cut keys 0 32) 0 area
    let tag := partTag (cut keys 32 32) (zeros 32) body
    let part := body ++ tag
    fresh (done j [(0, part)] (setMig {
      slice := i, saving := true, nextPart := 1, lastPart := part, prevTag := tag, secret := keys, imageSeq := seq, nonce := nonce
      peer := dst, rest := all.drop 1, gen := (s.slice i).gen } s))
  | st => fail j st s

/-- End of the index space of a stateful key. -/
def indexEnd (a : Bytes) : Nat := if hbsLevels a = 2 then 2 ^ (2 * hbsHeight a) else 2 ^ hbsHeight a

/-- Sets the HIGH of a stateful key to the end of its index space (R398). -/
def exhaustKey (i : Nat) (s : State) : State :=
  let e := indexEnd (s.keyData false i).attr
  let k := s.hbs i
  let c : PairCopy := { keyId := s.keyId i, seq := k.seq + 1, high := e, upper := k.upper, good := true }
  { s.modHbs i (fun k => { k with high := e, next := e, seq := k.seq + 1, writing := none }) with
    eng.hbsCommits := satInc s.eng.hbsCommits
    kv.pairs := tmod s.kv.pairs {} k.pair (fun p => p.write c) }

/-- A later part: the next area, or the last part with its commit (R398). -/
def saveNext (j : Job) (c : MigContext) (s : State) : State :=
  let last := c.rest.isEmpty
  let area := if last then ((lastRecords (cut c.secret 64 32) s c.slice).map recBytes).flatten else c.rest.headD []
  let body := partHead last c.imageSeq c.nextPart area.length c.slice c.gen serialBytes c.peer ++ partCrypt (cut c.secret 0 32) c.nextPart area
  let tag := partTag (cut c.secret 32 32) c.prevTag body
  let part := body ++ tag
  if last then
    let s := ((s.keysOf false c.slice).filter (fun k => aStateful (s.keyData false k).attr)).foldl (fun s k => exhaustKey k s) s
    let s := freeSessions c.slice s
    done j [(0, part)] ({ s with mig.contexts := s.mig.contexts.filter (fun d => d.slice != c.slice) }.modSlice c.slice
      (fun sl => { sl with state := .saved }))
  else done j [(0, part)] (setMig { c with nextPart := c.nextPart + 1, lastPart := part, prevTag := tag, rest := c.rest.drop 1 } s)

/-! ## Restoring (R399) -/

/-- The slice is empty: no key, session or template, and every queue disabled. -/
def State.sliceEmpty (s : State) (i : Nat) : Bool :=
  s.slotsHeld true i == 0 && s.slotsHeld false i == 0 && (s.ctxsOf i).isEmpty && (List.range 4).all (fun k => (s.template i k).isNone) &&
  !s.anyQueue i

/-- Cancels a restore: shadow runs freed, the slice ACTIVE again; the nonce stays pending. -/
def cancelRestore (i : Nat) (s : State) : State :=
  (dropMigration i s).modSlice i (fun sl => { sl with state := if sl.state = .restoring then .active else sl.state })

/-- Places a run at its source index and generation where that run is free, otherwise in a new run with GEN 0x0001 (R330). -/
def placeMoved (i h : Nat) (quotaKt quotaPs : Nat) (attr material : Bytes) (s : State) : (State × Nat) ⊕ Nat :=
  let kt := hClass h != 1
  let n := s.slotCount attr
  let q := if kt then quotaKt else quotaPs
  let at_ (k g : Nat) : (State × Nat) ⊕ Nat :=
    if q < s.slotsHeld kt i + n then .inr stSliceQuotaExceeded
    else .inl (layRun kt k {
      kind := .shadow, count := n, gen := BitVec.ofNat 16 g, slice := i, layout := 1, origin := 3, data := k
      attr := fit 48 attr, material := fit (mLen n) material } s, k)
  if s.runFree kt (hIndex h) n then at_ (hIndex h) (hGen h)
  else match s.freeRun kt n with
    | some k => at_ k 1
    | none => .inr (if kt then stKeyTableFull else stPersistentStoreFull)

/-- Opens a FORMAT 0x0002 blob. -/
def openMoved (kwrap b : Bytes) : (Bytes × Bytes) ⊕ Nat :=
  let pt := fit (b.length - 64) (Config.crypto .kwpUnwrap [kwrap, b.drop 56])
  if !Config.check .kwpOk [kwrap, b.drop 56] then .inr stAuthFailed
  else if fieldLE b 0 2 ≠ 2 ∨ fieldLE b 2 2 + 48 ≠ pt.length ∨ cut b 8 48 ≠ pt.take 48 then .inr stInputMalformed
  else .inl (pt.take 48, pt.drop 48)

/-- The handle on this device of a key that has been placed. -/
def newHandle (s : State) (placed : List (Nat × Bool × Nat)) (h : Nat) : Nat :=
  match placed.find? (fun p => p.1 == h) with
  | some p => s.handleOf p.2.1 p.2.2
  | none => 0

/-- Places the key of one record; answers the state, the placed runs and the handle-map entry. -/
def placeRecord (i qk qp : Nat) (kwrap : Bytes) (r : Nat × Bytes) (placed : List (Nat × Bool × Nat)) (s : State) :
    (State × List (Nat × Bool × Nat) × Bytes) ⊕ Nat :=
  let h := fieldLE r.2 0 8
  let put (a m : Bytes) : (State × List (Nat × Bool × Nat) × Bytes) ⊕ Nat :=
    match placeMoved i h qk qp a m s with
    | .inl (s, k) => .inl (s, placed ++ [(h, hClass h != 1, k)], n8 h ++ n8 (s.handleOf (hClass h != 1) k))
    | .inr st => .inr st
  let blob (b : Bytes) : (State × List (Nat × Bool × Nat) × Bytes) ⊕ Nat :=
    match openMoved kwrap b with
    | .inl (a, m) => put a m
    | .inr st => .inr st
  if r.1 = 5 then blob (fieldNo (fieldsOf (r.2.drop 8)) 0)
  else if r.2.length = 72 then
    let p0 := newHandle s placed (fieldLE r.2 56 8)
    let p1 := newHandle s placed (fieldLE r.2 64 8)
    if p0 = 0 ∨ p1 = 0 then .inl (s, placed, n8 h ++ n8 0) else put (cut r.2 8 48) (n8 p0 ++ n8 p1)
  else blob (r.2.drop 8)

/-- Places every key record of a part, in order. -/
def placeAll (i qk qp : Nat) (kwrap : Bytes) : List (Nat × Bytes) → List (Nat × Bool × Nat) → Bytes → State →
    (State × List (Nat × Bool × Nat) × Bytes) ⊕ (State × Nat)
  | [], placed, out, s => .inl (s, placed, out)
  | r :: rest, placed, out, s =>
    if r.1 = 4 ∨ r.1 = 5 then
      match placeRecord i qk qp kwrap r placed s with
      | .inl (s, placed, e) => placeAll i qk qp kwrap rest placed (out ++ e) s
      | .inr st => .inr (placed.foldl (fun s p => freeSlots p.2.1 p.2.2 (s.slot p.2.1 p.2.2).count s) s, st)
    else placeAll i qk qp kwrap rest placed out s

/-- Applies one record at the commit of the last part. -/
def applyRecord (i : Nat) (placed : List (Nat × Bool × Nat)) (r : Nat × Bytes) (s : State) : State :=
  let f := fieldsOf r.2
  let b (k : Nat) : Bool := numNo f k == 1
  match r.1 with
  | 1 =>
    let ekc := tput s.eng.ekc.quota 0 i (fieldLE r.2 128 4)
    let dpk := tput s.eng.dpk.quota 0 i (fieldLE r.2 132 4)
    let sum (t : Tbl Nat) : Nat := (t.map (·.2)).foldl (· + ·) 0
    let s := { s with
      eng.ekc.quota := if sum ekc ≤ 16384 then ekc else s.eng.ekc.quota
      eng.dpk.quota := if sum dpk ≤ 1536 then dpk else s.eng.dpk.quota }
    s.modSlice i (fun sl => { sl with
      nextContract := some (parseContract r.2)
      quotaKt := BitVec.ofNat 21 (fieldLE r.2 112 4), quotaPs := BitVec.ofNat 17 (fieldLE r.2 116 4)
      quotaJobs := BitVec.ofNat 13 (fieldLE r.2 120 4), quotaSessions := BitVec.ofNat 12 (fieldLE r.2 124 4) })
  | 2 =>
    let k := numNo f 0 % 16
    let s := s.modSq i k (fun q => { q with
      enable := false, base := BitVec.ofNat 64 (numNo f 2), log2 := BitVec.ofNat 5 (numNo f 3), head := numNo f 4, phase := b 5
      tail := numNo f 6, errCq := BitVec.ofNat 4 (numNo f 7), wdog := BitVec.ofNat 8 (numNo f 8), held := [], outst := [], missed := [] })
    let s := s.modCq i k (fun c => { c with
      enable := false, base := BitVec.ofNat 64 (numNo f 10), log2 := BitVec.ofNat 5 (numNo f 11), tail := numNo f 12, phase := b 13
      head := numNo f 14, written := numNo f 15, ien := b 16, vec := BitVec.ofNat 3 (numNo f 17), thresh := BitVec.ofNat 8 (numNo f 18)
      timer := BitVec.ofNat 8 (numNo f 19), resv := 0, unsig := 0 })
    s.modSlice i (fun sl => { sl with freeze := sl.freeze.map (fun z => { z with
      sqs := if b 1 then z.sqs ++ [k] else z.sqs, cqs := if b 9 then z.cqs ++ [k] else z.cqs }) })
  | 3 => s.modCtx (numNo f 0) (fun _ => {
      isOpen := true, sgen := BitVec.ofNat 16 (numNo f 1), slice := i, gcm := b 2, func := numNo f 3, order2 := b 4, key := fieldNo f 5
      keyIndex := numNo f 6, iv := fieldNo f 7, aad := fieldNo f 8, dlen := numNo f 9, nlen := numNo f 10, custom := fieldNo f 11
      absorbed := fieldNo f 12, last := b 13 })
  | 5 =>
    let g := fieldsOf (r.2.drop 8)
    let tree (t : Bytes) : HbsTree :=
      let l := fieldsOf t
      { level := numNo l 0, tree := numNo l 1, segs := (fieldsOf (fieldNo l 2)).map (fun x => (fieldLE x 0 4, x.drop 4))
        top := (fieldsOf (fieldNo l 3)).head? }
    match placed.find? (fun p => p.1 == fieldLE r.2 0 8), s.freePair with
    | some p, some n =>
      let s := takePair n { keyId := s.keyId p.2.2, high := numNo g 1, upper := numNo g 2, good := true } s
      s.modHbs p.2.2 (fun _ => {
        pair := n, next := numNo g 1, high := numNo g 1, upper := numNo g 2, trees := (fieldsOf (fieldNo g 3)).map tree
        upSigs := (fieldsOf (fieldNo g 4)).map (fun x => (fieldLE x 0 4, x.drop 4)), abandoned := (fieldsOf (fieldNo g 5)).map ofLE })
    | _, _ => s
  | 6 => { s with thm.templates := tput s.thm.templates none (4 * i + numNo f 0 % 4) (some {
      cls := numNo f 1, issuer := numNo f 2, text := fieldNo f 3
      fields := (fieldsOf (fieldNo f 4)).map (fun x => { kind := (byteAt x 0).toNat, offset := fieldLE x 1 2, len := fieldLE x 3 2 })
      allowHoldover := b 5, maxDuration := numNo f 6 }) }
  | _ => s

/-- The commit of the last part (R399). -/
def restoreCommit (c : MigContext) (gen : BitVec 8) (recs : List (Nat × Bytes)) (s : State) : State :=
  let s := c.placed.foldl (fun s p => s.modSlot p.2.1 p.2.2 (fun b => { b with kind := .base })) s
  let s := s.modSlice c.slice (fun sl => { sl with freeze := some {} })
  let s := recs.foldl (fun s r => applyRecord c.slice c.placed r s) s
  { s with
    mig.contexts := s.mig.contexts.filter (fun d => d.slice != c.slice)
    mig.nonces := s.mig.nonces.filter (· != c.nonce) }.modSlice c.slice (fun sl => { sl with gen := gen, state := .frozen })

/-- Room for what a part brings besides its slots (R399, check 6): record pairs, sessions within the quota and at their own
numbers. -/
def roomStatus (s : State) (recs : List (Nat × Bytes)) (sessions : Nat) : Nat :=
  let free := ((List.range 16384).filter (fun k => !(s.pair k).used && !(s.pair k).unusable)).length
  let ses := recs.filter (·.1 == 3)
  if free < (recs.filter (·.1 == 5)).length then stPersistentStoreFull
  else if sessions < ses.length then stSliceQuotaExceeded
  else if ses.any (fun r => (s.ctx (numNo (fieldsOf r.2) 0)).isOpen) then stSessionUnavailable
  else 0

/-- One part of a restore (R399): the checks in order; a failure cancels the restore. -/
def restorePart (j : Job) (i part : Nat) (s : State) : State :=
  let img := j.input 0
  let first := part == 0
  let c := (s.migOf i).getD { slice := i, saving := false }
  let h := img.take 48
  let extra := if first then 1664 else 0
  let n := fieldLE h 12 4
  let src := cut h 24 8
  let ct := cut img 48 1568
  let sig := cut img 1616 96
  let seq := fieldLE h 4 4
  let nonce := if first then fit 16 (Config.crypto .imageParse [s.kv.migKey, img]) else c.nonce
  let keys := if first then migKeys (alg .mlKemDecaps 32 [num 0x03, s.kv.migKey, ct]) src serialBytes seq nonce else c.secret
  let area := partCrypt (cut keys 0 32) part (cut img (48 + extra) n)
  let body := img.take (48 + extra + n)
  let recs := parseRecs area.length area
  let stop (st : Nat) (s : State) : State := fail j st (cancelRestore i s)
  if fieldLE h 0 2 ≠ 0x0102 ∨ cut h 32 8 ≠ serialBytes ∨ byteAt h 2 ≠ 1 ∨ fieldLE h 8 4 ≠ part ∨ part ≠ c.nextPart ∨ 2 ≤ (byteAt h 3).toNat ∨
      !isZero h 18 6 ∨ !isZero h 40 8 ∨ img.length ≠ 48 + extra + n + 32 ∨ recs.isNone ∨ (!first ∧ (src ≠ c.peer ∨ seq ≠ c.imageSeq)) ∨
      (first ∧ (recs.getD []).head?.elim true (fun r => r.1 ≠ 1 ∨ r.2.length ≠ 136)) then stop stInputMalformed s
  else
    let recs := recs.getD []
    match if first then chainStatus (j.input 1) src (h ++ ct) sig else 0 with
    | 0 =>
      if partTag (cut keys 32 32) (if first then zeros 32 else c.prevTag) body ≠ img.drop (48 + extra + n) then stop stAuthFailed s
      else if first && !s.mig.nonces.contains nonce then stop stKeyPolicyDenied s
      else
        let st0 := if first then (recs.headD (1, [])).2 else c.stateRec
        match if first then s.admission i (parseContract st0) else none with
        | some _ => stop stConfigInfeasible s
        | none =>
          let all := c.rest.map (fun b => ((byteAt b 0).toNat, b.drop 1)) ++ recs
          match roomStatus s all (min 4000 (fieldLE st0 124 4)) with
          | 0 =>
            match placeAll i (fieldLE st0 112 4) (fieldLE st0 116 4) (cut keys 64 32) recs c.placed [] s with
            | .inr (s, st) => stop st s
            | .inl (s, placed, out) =>
              let c := { c with
                nextPart := part + 1, prevTag := img.drop (48 + extra + n), secret := keys, imageSeq := seq, nonce := nonce, peer := src
                rest := all.map (fun r => leBytes 1 r.1 ++ r.2), placed := placed, stateRec := st0 }
              if byteAt h 3 = 1 then done j [(0, out)] (restoreCommit c (byteAt h 17) all s)
              else done j [(0, out)] ((setMig c s).modSlice i (fun sl => { sl with state := .restoring }))
          | st => stop st s
    | st => stop st s

end Sys2Proof.Machine
end

