-- ==== Sys2Proof/Machine/OpsManage.lean ====
section
/-! DEFINITION. Metrology opcodes, family 0x0B, and management opcodes, family 0x0C (15_slices.md, 16_time_and_scheduling.md,
17_metrology.md, 21_service_firmware_events.md). -/
namespace Sys2Proof.Machine

/-! ## What the opcodes ask -/

/-- What the metrology opcodes ask (R434). -/
def reqMetrology (j : Job) : Option OpReq :=
  let p := j.params
  let mk (r : OpReq) : OpReq := { r with noKey := true, cls := 9, charge := 0, bound := some 0, masked := false }
  let ty := (byteAt p 2).toNat
  match j.opcode % 256 with
  | 0x01 => some (mk { slice0 := true, ins := [(0, 65)], outs := [(0, 2)], plen := p.length == 8, check9 := bad (!isZero p 1 7) })
  | 0x02 => some (mk {
      ins := [(0, 64)], outs := [(0, if ty = 1 then 8 else 3489)], plen := p.length == 32
      check9 := bad (!(ty == 1 || ty == 2) || byteAt p 3 != 0 || !isZero p 28 4) })
  | 0x03 => some (mk { outs := [(0, 2069)], plen := p.length == 8, check9 := bad (!isZero p 0 8) })
  | 0x04 => some (mk { outs := [(0, 3489)], plen := p.length == 16 })
  | _ => none

/-- What the management opcodes ask (R401, R402, R412, R419, R512). -/
def reqManage (j : Job) : Option OpReq :=
  let p := j.params
  let part := fieldLE p 4 4
  let l0 := fieldLE p 8 4
  let l1 := fieldLE p 12 4
  let none9 : Bool := !isZero p 1 15
  let block := p.length == 16
  let small := p.length == 8
  let mk (r : OpReq) : OpReq := { r with noKey := true, masked := false }
  let sl := byteAt p 0 == 0
  match j.opcode % 256 with
  | 0x01 => some (mk { slice0 := true, outs := [(0, 8)], plen := block, check9 := bad (sl || none9), bound := none })
  | 0x02 => some (mk {
      slice0 := true, ins := [(0, l0), (1, l1)], outs := [(0, 1048576)], plen := block, bound := none
      check9 := bad (sl || !isZero p 1 3 ||
        (if part = 0 then l0 != 1696 || l1 == 0 || decide (16384 < l1) else l0 != 0 || l1 != 0)) })
  | 0x03 => some (mk { slice0 := true, plen := block, check9 := bad (sl || none9) })
  | 0x04 => some (mk { slice0 := true, plen := block, check9 := bad (sl || none9), bound := none })
  | 0x10 => some (mk { slice0 := true, outs := [(0, 1696)], plen := block, check9 := bad (!sl || none9), drbg := 16 })
  | 0x11 => some (mk {
      slice0 := true, ins := [(0, l0), (1, l1)], outs := [(0, 16 * (l0 / 80))], plen := block, bound := none
      check9 := bad (sl || !isZero p 1 3 || l0 == 0 || decide (1048576 < l0) ||
        (if part = 0 then l1 == 0 || decide (16384 < l1) else l1 != 0)) })
  | 0x20 => some (mk { slice0 := true, ins := [(0, 112)], plen := small, check9 := bad (!isZero p 1 7) })
  | 0x21 => some (mk { slice0 := true, outs := [(0, 112)], plen := small, check9 := bad (!isZero p 1 7) })
  | 0x22 => some (mk { outs := [(0, 16)], plen := small, check9 := bad (!isZero p 0 8) })
  | 0x30 => some (mk {
      slice0 := true, outs := [(0, 64 * fieldLE p 8 4)], plen := block, bound := none
      check9 := bad (fieldLE p 8 4 == 0 || decide (16384 < fieldLE p 8 4) || !isZero p 12 4) })
  | 0x31 => some (mk { slice0 := true, outs := [(0, 8)], plen := small, check9 := bad (!isZero p 0 8), bound := none })
  | 0x32 => some (mk { slice0 := true, plen := small, check9 := bad (!isZero p 0 8), bound := none, quorum := true })
  | 0x33 => some (mk { slice0 := true, outs := [(0, 32)], plen := small, check9 := bad (!isZero p 0 8) })
  | _ => none

/-! ## Metrology (R427 to R434) -/

/-- MET_SOURCE_ADD (R434): the point is checked as R256 states; a 1,025th source finds no room. -/
def metSourceAddDo (job : Nat) (s : State) : State :=
  runOp 0x0B01 (fun j s =>
    let n := s.met.sources.length
    match pkStatus s 0x01 (j.input 0) with
    | 0 =>
      if 1024 ≤ n then fail j stPersistentStoreFull s
      else done j [(0, leBytes 2 n)] { s with met.sources := s.met.sources ++ [{ num := n, slice := j.pb 0, key := j.input 0 }] }
    | st => fail j st s) job s

/-- The stamp latched with a job's request (R427). -/
def State.stampOf (s : State) (j : Job) : Stamp := ((s.met.mailbox.find? (fun m => m.1 == j.id)).map (·.2)).getD s.stampNow

/-- What the source signs (R428). -/
def eventMsg (p : Bytes) : Bytes := ascii "EQX-MET-EVT" ++ cut p 0 2 ++ cut p 2 1 ++ cut p 4 8 ++ cut p 12 16

/-- Checks 1 to 4 of R428; 0 when all pass. In FUSE_INVALID every MET_EVENT is refused first (R425). -/
def State.eventCheck (s : State) (j : Job) (src : Option MetSource) : Nat :=
  let p := j.params
  if s.met.st = .fuseInvalid then stKeyPolicyDenied
  else match src with
    | none => stKeyNotFound
    | some m => firstBad [
        if s.met.st = .isSealed then 0 else stKeyPolicyDenied,
        if Config.check .ecdsaVerify (setArgs s 0x01 ++ [m.key, j.input 0, sha256 (eventMsg p), num 1]) then 0 else stSignatureInvalid,
        if m.counter < fieldLE p 4 8 then 0 else stInputMalformed]

/-- START (R428, checks 5 to 7): an interval opens with the stamp. -/
def metStart (j : Job) (session : Bytes) (stamp : Stamp) (s : State) : State :=
  if s.met.intervals.any (fun o => o.session == session) then fail j stInputMalformed s
  else if 16384 ≤ s.met.intervals.length then fail j stSessionUnavailable s
  else if !stamp.ok then fail j stTimeUntraceable s
  else done j [(0, leBytes 8 stamp.epoch.toNat)] { s with
    met.intervals := s.met.intervals ++ [{ session := session, slice := j.slice, source := fieldLE j.params 0 2, start := stamp }] }

/-- END (R428, checks 5 and 7; R432): the interval closes, with a record when it is traceable. Where the domain produces no record
(R424), it ends with KEY_POLICY_DENIED (log 96). -/
def metEnd (j : Job) (session : Bytes) (stamp : Stamp) (s : State) : State :=
  if !s.makesRecords then fail j stKeyPolicyDenied s
  else match s.met.intervals.find? (fun o => o.session == session && o.slice == j.slice) with
  | none => fail j stInputMalformed s
  | some o =>
    let s := { s with met.intervals := s.met.intervals.filter (fun x => x.session != session) }
    if !traceable o.start stamp then fail j stTimeUntraceable s
    else
      let body := tariffBody s o stamp.epoch (fieldLE j.params 0 2)
      fresh (done j [(0, tariffRecord s body)] { s with
        met.ring := lastN 2048 (s.met.ring ++ [{ seq := s.met.recordSeq, slice := j.slice, body := body }])
        met.recordSeq := s.met.recordSeq + 1 })

/-- MET_EVENT (R428): COUNTER becomes the source's last once checks 1 to 4 have passed. -/
def metEventDo (job : Nat) (s : State) : State :=
  runOp 0x0B02 (fun j s =>
    let p := j.params
    let n := fieldLE p 0 2
    let stamp := s.stampOf j
    match s.eventCheck j (s.met.sources.find? (fun m => m.num == n && m.slice == j.slice)) with
    | 0 =>
      let s := { s with met.sources := mapIf (fun m => m.num == n) (fun m => { m with counter := fieldLE p 4 8 }) s.met.sources }
      if j.pb 2 = 1 then metStart j (cut p 12 16) stamp s else metEnd j (cut p 12 16) stamp s
    | st => fail j st s) job s

/-- STATE of the domain as it reads (R435). -/
def SealSt.code : SealSt → Nat
  | .isSealed => 0 | .isUnsealed => 1 | .fuseInvalid => 2

/-- MET_INFO (R434). -/
def metInfoDo (job : Nat) (s : State) : State :=
  runOp 0x0B03 (fun j s =>
    done j [(0, leBytes 4 s.met.swId.toNat ++ fit 32 s.met.swSum ++ leBytes 1 s.met.st.code ++ leBytes 1 s.breaks ++ [s.met.keyEpoch, 0] ++
      leBytes 8 s.met.recordSeq ++ fit 2021 s.met.pubKey)] s) job s

/-- MET_RECORD_GET (R433): the newest record of the session for the same slice, newly signed. -/
def metRecordGetDo (job : Nat) (s : State) : State :=
  runOp 0x0B04 (fun j s =>
    match (s.met.ring.filter (fun r => r.slice == j.slice && cut r.body 48 16 == cut j.params 0 16)).getLast? with
    | none => fail j stInputMalformed s
    | some r =>
      if s.met.st = .fuseInvalid ∨ !s.makesRecords then fail j stKeyPolicyDenied s
      else fresh (done j [(0, tariffRecord s r.body)] s)) job s

/-! ## Freezing and thawing (R391, R393) -/

/-- SLICE_FREEZE: the freeze point; the job holds until the drain is over. -/
def sliceFreezeDo (job : Nat) (s : State) : State :=
  runOp 0x0C01 (fun j s =>
    let i := j.pb 0
    if i = 0 ∨ !(s.slice i).enable ∨ (s.slice i).state ≠ .active then fail j stBadParameter s
    else
      let s := s.modSlice i (fun sl => { sl with state := .freezing, freeze := some {
        job := j.id, sqs := below 16 (fun k => (s.sq i k).enable), cqs := below 16 (fun k => (s.cq i k).enable) } })
      let s := (List.range 16).foldl (fun s k => (dropSlot i k s).modSq i k (fun q => { q with held := [], outst := [], missed := [] })) s
      settleFreeze i (s.modJob j.id (fun j => { j with phase := .held .drain }))) job s

/-- Enables exactly the queues that were enabled at the freeze point. -/
def thawQueues (i : Nat) (f : Freeze) (s : State) : State :=
  (List.range 16).foldl (fun s k =>
    (s.modSq i k (fun q => { q with enable := f.sqs.contains k })).modCq i k (fun c => { c with enable := f.cqs.contains k })) s

/-- SLICE_THAW: ACTIVE again, any migration context over, intake from each HEAD. -/
def sliceThawDo (job : Nat) (s : State) : State :=
  runOp 0x0C03 (fun j s =>
    let i := j.pb 0
    let sl := s.slice i
    if i = 0 ∨ !(sl.state == .frozen || sl.state == .saved) then fail j stBadParameter s
    else
      let s := thawQueues i (sl.freeze.getD {}) (dropMigration i s)
      refetchSlice i (done j [] (s.modSlice i (fun sl => { sl with state := .active, freeze := none })))) job s

/-- The slice loses its keys, templates, quotas and contract, and is DISABLED (R389). -/
def releaseSlice (i : Nat) (s : State) : State :=
  let s := sliceReset i s
  let s := (s.keysOf true i).foldl (fun s k => deleteKey true k s) s
  let s := (s.keysOf false i).foldl (fun s k => deleteKey false k s) s
  let s := { s with thm.templates := (List.range 4).foldl (fun t k => tput t none (4 * i + k) none) s.thm.templates }
  s.modSlice i (fun sl => { enable := false, pasid := sl.pasid, state := .disabled, gen := sl.gen })

/-- A run of a key of the slice waits to be zeroised for a job that is bound to it (R315). -/
def State.dyingOf (s : State) (i : Nat) : Bool := s.kv.dying.any (fun d => (s.slot d.kt d.first).slice == i)

/-- SLICE_RELEASE: FREEZING waits for FROZEN; the reset in it waits as R387 states. It ends once every key of the slice is
zeroised. -/
def sliceReleaseDo (job : Nat) (s : State) : State :=
  runOp 0x0C04 (fun j s =>
    let i := j.pb 0
    if j.stage = 1 then (if s.dyingOf i then s else done j [] s)
    else if i = 0 ∨ (s.slice i).state = .restoring then fail j stBadParameter s
    else if (s.slice i).state = .freezing ∨ !s.resetClear i then s
    else
      let s := releaseSlice i s
      if s.dyingOf i then s.modJob j.id (fun j => { j with stage := 1 }) else done j [] s) job s

/-! ## Migration (R394 to R400) -/

/-- SLICE_SAVE: parts in order, the last one again on request. -/
def sliceSaveDo (job : Nat) (s : State) : State :=
  runOp 0x0C02 (fun j s =>
    let i := j.pb 0
    let part := fieldLE j.params 4 4
    if i = 0 ∨ (s.slice i).state ≠ .frozen then fail j stBadParameter s
    else match s.migOf i with
      | some c =>
        if part + 1 = c.nextPart then done j [(0, c.lastPart)] s
        else if part = c.nextPart then saveNext j c s
        else fail j stBadParameter s
      | none =>
        if part ≠ 0 then fail j stBadParameter s
        else if 4 ≤ s.mig.contexts.length then fail j stSessionUnavailable s
        else saveFirst j i s) job s

/-- MIG_PREPARE: at most 16 nonces pend; the oldest goes. -/
def migPrepareDo (job : Nat) (s : State) : State :=
  runOp 0x0C10 (fun j s =>
    let n := fit 16 j.seed
    fresh (done j [(0, ticketOf s n)] { s with mig.nonces := lastN 16 (s.mig.nonces ++ [n]) })) job s

/-- SLICE_RESTORE: part 0 into an enabled, ACTIVE, empty slice; later parts while RESTORING. -/
def sliceRestoreDo (job : Nat) (s : State) : State :=
  runOp 0x0C11 (fun j s =>
    let i := j.pb 0
    let part := fieldLE j.params 4 4
    let sl := s.slice i
    if i = 0 ∨ !sl.enable ∨ s.pasidTaken i sl.pasid then fail j stBadParameter s
    else if sl.state = .restoring then restorePart j i part s
    else if part ≠ 0 ∨ sl.state ≠ .active ∨ !s.sliceEmpty i then fail j stBadParameter s
    else if 4 ≤ s.mig.contexts.length then fail j stSessionUnavailable s
    else restorePart j i 0 s) job s

/-! ## Contracts and time (R414, R419) -/

/-- CONTRACT_SET: syntax once the contract is read, then admission; it acts at the next tick boundary (R415). -/
def contractSetDo (job : Nat) (s : State) : State :=
  runOp 0x0C20 (fun j s =>
    let i := j.pb 0
    let t := parseContract (j.input 0)
    if !contractOk (j.input 0) then fail j stBadParameter s
    else match s.admission i t with
      | some (c, k) => fail j stConfigInfeasible { s with sched.admitLast := BitVec.ofNat 16 (i * 256 + c * 16 + k) }
      | none => done j [] (s.modSlice i (fun sl => { sl with nextContract := some t }))) job s

/-- CONTRACT_GET. -/
def contractGetDo (job : Nat) (s : State) : State :=
  runOp 0x0C21 (fun j s => done j [(0, contractBytes (s.slice (j.pb 0)).admitted)] s) job s

/-- STATE of the Time Base as it reads (R420). -/
def TimeSt.code : TimeSt → Nat
  | .free => 0 | .acquiring => 1 | .locked => 2 | .holdover => 3

/-- TIME_READ. -/
def timeReadDo (job : Nat) (s : State) : State :=
  runOp 0x0C22 (fun j s =>
    done j [(0, leBytes 8 s.time.epoch.toNat ++ leBytes 1 (s.time.state.code + 128 * flag s.time.set) ++ zeros 3 ++
      leBytes 4 s.time.holdoverSecs.toNat)] s) job s

/-! ## Event Recorder and firmware (R509 to R512) -/

/-- EVENT_READ. -/
def eventReadDo (job : Nat) (s : State) : State :=
  runOp 0x0C30 (fun j s => done j [(0, eventRead (fieldLE j.params 0 8) (fieldLE j.params 8 4) s)] s) job s

/-- EVENT_VERIFY. -/
def eventVerifyDo (job : Nat) (s : State) : State :=
  runOp 0x0C31 (fun j s => done j [(0, leBytes 8 (verifyFrom s.kv.chainKey none s.evr.records))] s) job s

/-- EVENT_CLEAR by a quorum. -/
def eventClearDo (job : Nat) (s : State) : State := runOp 0x0C32 (fun j s => done j [] (eventClear 1 s)) job s

/-- State of a bank as it reads (R513). -/
def BankSt.code : BankSt → Nat
  | .invalid => 0 | .staged => 1 | .active => 2 | .activating => 3

/-- VERSION of a staged bank, 0 when none. -/
def State.stagedVersion (s : State) : BitVec 32 :=
  if s.svc.bank0.st = .staged then s.svc.bank0.version else if s.svc.bank1.st = .staged then s.svc.bank1.version else 0

/-- FW_INFO: the six items in the order listed, 32-bit words and a byte of bank states as SVC_STATUS lays them (log 39). -/
def fwInfoDo (job : Nat) (s : State) : State :=
  runOp 0x0C33 (fun j s =>
    let b := s.activeBank
    done j [(0, fit 32 (leBytes 4 b.version.toNat ++ leBytes 4 b.svn.toNat ++ leBytes 4 b.setId.toNat ++ leBytes 4 s.stagedVersion.toNat ++
      leBytes 4 s.svc.svnFloor.toNat ++ leBytes 1 (s.svc.bank0.st.code + 4 * s.svc.bank1.st.code)))] s) job s

/-! ## The meanings of the commands -/

/-- MET_SOURCE_ADD (R434). -/
def execMetSourceAdd (job : Nat) (s : State) : Host.Outcome State Fault Refusal := .next (metSourceAddDo job s)
/-- MET_EVENT (R428). -/
def execMetEvent (job : Nat) (s : State) : Host.Outcome State Fault Refusal := .next (metEventDo job s)
/-- MET_INFO (R434). -/
def execMetInfo (job : Nat) (s : State) : Host.Outcome State Fault Refusal := .next (metInfoDo job s)
/-- MET_RECORD_GET (R433). -/
def execMetRecordGet (job : Nat) (s : State) : Host.Outcome State Fault Refusal := .next (metRecordGetDo job s)
/-- SLICE_FREEZE (R391). -/
def execSliceFreeze (job : Nat) (s : State) : Host.Outcome State Fault Refusal := .next (sliceFreezeDo job s)
/-- SLICE_SAVE (R398). -/
def execSliceSave (job : Nat) (s : State) : Host.Outcome State Fault Refusal := .next (sliceSaveDo job s)
/-- SLICE_THAW (R393). -/
def execSliceThaw (job : Nat) (s : State) : Host.Outcome State Fault Refusal := .next (sliceThawDo job s)
/-- SLICE_RELEASE (R401). -/
def execSliceRelease (job : Nat) (s : State) : Host.Outcome State Fault Refusal := .next (sliceReleaseDo job s)
/-- MIG_PREPARE (R394). -/
def execMigPrepare (job : Nat) (s : State) : Host.Outcome State Fault Refusal := .next (migPrepareDo job s)
/-- SLICE_RESTORE (R399). -/
def execSliceRestore (job : Nat) (s : State) : Host.Outcome State Fault Refusal := .next (sliceRestoreDo job s)
/-- CONTRACT_SET (R414). -/
def execContractSet (job : Nat) (s : State) : Host.Outcome State Fault Refusal := .next (contractSetDo job s)
/-- CONTRACT_GET (R419). -/
def execContractGet (job : Nat) (s : State) : Host.Outcome State Fault Refusal := .next (contractGetDo job s)
/-- TIME_READ (R419). -/
def execTimeRead (job : Nat) (s : State) : Host.Outcome State Fault Refusal := .next (timeReadDo job s)
/-- EVENT_READ (R510). -/
def execEventRead (job : Nat) (s : State) : Host.Outcome State Fault Refusal := .next (eventReadDo job s)
/-- EVENT_VERIFY (R509). -/
def execEventVerify (job : Nat) (s : State) : Host.Outcome State Fault Refusal := .next (eventVerifyDo job s)
/-- EVENT_CLEAR (R511). -/
def execEventClear (job : Nat) (s : State) : Host.Outcome State Fault Refusal := .next (eventClearDo job s)
/-- FW_INFO (R512). -/
def execFwInfo (job : Nat) (s : State) : Host.Outcome State Fault Refusal := .next (fwInfoDo job s)

end Sys2Proof.Machine
end

