-- ==== Sys2Proof/Machine/OpsSymmetric.lean ====
section
/-! DEFINITION. Symmetric opcodes, family 0x05, on the Tumblers (10_classical.md, R265 to R270; R111, R112). -/
namespace Sys2Proof.Machine

def isAes (a : Nat) : Bool := 1 ≤ a && a ≤ 3
def isXts (a : Nat) : Bool := a == 4 || a == 5
def isTdes (a : Nat) : Bool := a == 0x11 || a == 0x12

/-- Cycles of one serial block (R266) at order 1. -/
def serialCycles (a : Nat) : Nat := if isTdes a then 48 else if a = 1 then 24 else if a = 2 then 28 else 32

/-- Doubles at masking order 2 (R266). -/
def tmbOrder (o2 : Bool) (n : Nat) : Nat := if o2 then 2 * n else n

/-- What the symmetric opcodes ask (R265 to R270), with their cost (R266, R412). -/
def reqSymmetric (s : State) (j : Job) : Option OpReq :=
  let p := j.params
  let a := (byteAt p 0).toNat
  let b1 := (byteAt p 1).toNat
  let b2 := (byteAt p 2).toNat
  let o2 := s.order2Of j.slice j.handle
  let key (usage : Nat) : KeyUse := { handle := j.handle, fam := 5, algs := [a], usage := usage }
  let mk (start cyc : Nat) (r : OpReq) : OpReq :=
    { r with cls := 5, charge := tmbOrder o2 cyc + start, bound := boundOf (tmbOrder o2 cyc + start) 0 42 }
  let start := if isTdes a then 200 else if isXts a then 240 else 160
  let len := fieldLE p 4 4
  let blk := if isTdes a then 8 else 16
  let cipher (enc : Bool) : OpReq :=
    let ok := (isAes a && decide (b1 ≤ 2)) || (isXts a && b1 == 3) || (isTdes a && decide (b1 ≤ 1))
    mk start (ceilDiv len blk * (if enc && b1 == 1 then serialCycles a else 4)) {
      ins := [(0, len)], outs := [(0, len)], plen := p.length == 24, keys := [key (if enc then uWrap else uUnwrap)]
      check9 := bad (!ok || !isZero p 2 2 || (b1 ≤ 1 && len % blk != 0) || (b1 == 3 && decide (len < 16)) || (isTdes a && !isZero p 16 8)) }
  let aad := fieldLE p 8 4
  let gcm9 (enc sess : Bool) : Nat :=
    bad (!isAes a || decide (2 ≤ b1) || (b1 == 1 && !enc) || decide (b2 < 12) || decide (16 < b2) || byteAt p 3 != 0 ||
      (b1 == 1 && !isZero p 12 12) || (enc && !isZero p 24 16) || (sess && len != 0))
  let gcmKey (usage : Nat) : KeyUse := { key usage with ivgen := b1 == 1 }
  let gcmCyc (l : Nat) : Nat := 4 * (ceilDiv l 16 + ceilDiv aad 16)
  let x := s.ctx j.ctxOf
  let msg := fieldLE p 16 4
  let step (cyc : Nat) (ins outs : List (Nat × Nat)) : OpReq :=
    let c := (if x.order2 then 2 * cyc else cyc) + 240
    { ins := ins, outs := outs, plen := p.length == 24, check9 := stepBlock9 j.opcode j.inl p, noKey := true
      cls := 5, charge := c, bound := boundOf c 0 42 }
  let cmac (verify : Bool) : OpReq :=
    mk start (ceilDiv len blk * serialCycles a) {
      ins := (0, len) :: (if verify then [(1, b2)] else []), outs := if verify then [] else [(0, b2)], plen := p.length == 8
      keys := [key uMac]
      check9 := bad (!(isAes a || isTdes a) || b1 != 0 || byteAt p 3 != 0 ||
        (if isTdes a then decide (b2 < 4) || decide (8 < b2) else decide (b2 < 8) || decide (16 < b2))) }
  let kw (wrap : Bool) : OpReq :=
    let kwp := b1 == 1
    let out := if wrap then (if kwp then roundUp len 8 + 8 else len + 8) else len - 8
    mk start (6 * (if wrap then ceilDiv len 8 else len / 8 - 1) * serialCycles a) {
      ins := [(0, len)], outs := [(0, out)], plen := p.length == 8, keys := [key (if wrap then uWrap else uUnwrap)]
      check9 := bad (!isAes a || decide (2 ≤ b1) || !isZero p 2 2 ||
        (if kwp then (if wrap then len == 0 else len % 8 != 0 || decide (len < 16))
         else len % 8 != 0 || decide (len < (if wrap then 16 else 24)))) }
  match j.opcode % 256 with
  | 0x01 => some (cipher true)
  | 0x02 => some (cipher false)
  | 0x11 => some (mk 240 (gcmCyc len) {
      ins := [(0, len), (1, aad)], outs := [(0, len), (1, b2)] ++ (if b1 = 1 then [(2, 12)] else []), plen := p.length == 40
      check9 := gcm9 true false, keys := [gcmKey uWrap], drbg := if b1 = 1 then 12 else 0 })
  | 0x12 => some (mk 240 (gcmCyc len) {
      uvs := true, ins := [(0, len), (1, aad)], outs := [(0, len)], plen := p.length == 40, check9 := gcm9 false false, keys := [gcmKey uUnwrap] })
  | 0x18 => some (mk 240 (gcmCyc 0) {
      ins := [(0, aad)], outs := (0, 4) :: (if b1 = 1 then [(1, 12)] else []), plen := p.length == 40, check9 := gcm9 true true
      keys := [gcmKey uWrap], drbg := if b1 = 1 then 12 else 0 })
  | 0x19 => some (step (4 * ceilDiv (msg + 15) 16) [(0, msg)] [(0, msg)])
  | 0x1A => some (step (4 * ceilDiv (msg + 15) 16) [(0, msg)] [(0, msg), (1, fieldLE p 20 4)])
  | 0x1B => some (step 0 [] [])
  | 0x21 => some (cmac false)
  | 0x22 => some (cmac true)
  | 0x31 => some (kw true)
  | 0x32 => some (kw false)
  | _ => none

/-! ## Computation -/

/-- Key bytes of a family-0x05 key (R265). -/
def symKey (b : Bound) : Bytes := b.material.take (symLen b.alg)

/-- A cipher operation of `n` bytes; `enc` tells the direction (R265, R268). -/
def cipher (enc : Bool) (a mode : Nat) (key iv data : Bytes) : Bytes :=
  let k := if isTdes a then 8 else 16
  let f (b : Bytes) : Bytes := if isTdes a then alg .tdes 8 [num (flag enc), num a, key, b] else aesBlock enc a key b
  match mode with
  | 0 => ((blocksOf k data).map f).flatten
  | 1 => if enc then cbcEnc f (iv.take k) (blocksOf k data) else cbcDec f (iv.take k) (blocksOf k data)
  | 2 => ctrCrypt 16 a key iv data
  | _ => alg (if enc then .aesXts else .aesXtsDec) data.length [num a, key, iv, data]

/-- CIPHER_ENCRYPT. -/
def cipherEncryptDo (job : Nat) (s : State) : State :=
  runOp 0x0501 (fun j s => done j [(0, cipher true (j.pb 0) (j.pb 1) (symKey j.keyB) (cut j.params 8 16) (j.input 0))] s) job s

/-- CIPHER_DECRYPT. -/
def cipherDecryptDo (job : Nat) (s : State) : State :=
  runOp 0x0502 (fun j s => done j [(0, cipher false (j.pb 0) (j.pb 1) (symKey j.keyB) (cut j.params 8 16) (j.input 0))] s) job s

/-- The tag of GCM, its first `n` bytes. -/
def gcmTag (a n : Nat) (key iv aad ct : Bytes) : Bytes := (alg .gcmTag 16 [num a, key, iv, aad, ct]).take n

/-- The IV of an AEAD job: drawn with IVGEN, else from the block (R268, R270). -/
def Job.iv (j : Job) : Bytes := if j.pb 1 = 1 then fit 12 j.seed else cut j.params 12 12

/-- GCM_ENCRYPT. -/
def gcmEncryptDo (job : Nat) (s : State) : State :=
  runOp 0x0511 (fun j s =>
    let k := symKey j.keyB
    let ct := gcmData (j.pb 0) k j.iv (j.input 0)
    done j ([(0, ct), (1, gcmTag (j.pb 0) (j.pb 2) k j.iv (j.input 1) ct)] ++ (if j.pb 1 = 1 then [(2, j.iv)] else [])) s) job s

/-- Lays bytes over buffers from byte `k` of them on: (address, bytes) pieces. -/
def layAt : List Desc → Nat → Bytes → List (Nat × Bytes)
  | [], _, _ => []
  | d :: ds, k, bs =>
    if bs = [] then []
    else if d.len ≤ k then layAt ds (k - d.len) bs
    else (d.addr + k, bs.take (d.len - k)) :: layAt ds 0 (bs.drop (d.len - k))

/-- Writes bytes of a plaintext stream, which follow those already written, in units of at most 64 KiB, before the tag is checked
(R112). The stream waits while the device may not write or a page is not translated; the flag tells whether it went on. -/
def streamOut (j : Job) (bs : Bytes) (s : State) : State × Bool :=
  let ws := (layAt (j.outBufs 0) j.streamed bs).flatMap (fun w =>
    (blocksOf 65536 w.2).zipIdx.map (fun u => (w.1 + 65536 * u.2, u.1)))
  let pages := s.pagesMissing j.slice ws
  if !s.mayRequest j.slice then (s, false)
  else if pages ≠ [] then (translatePages j.slice pages s, false)
  else
    ((ws.foldl (fun s w => emit (.write .output j.slice (s.slice j.slice).pasid w.1 w.2 s.hif.dataRo) s) s).modJob j.id
      (fun j => { j with streamed := j.streamed + bs.length }), true)

/-- Input 0 as far as it has arrived without a gap (R49): the chunks of it, from byte `n` on, in the order of the buffers. -/
def arrivedFrom : Nat → List (Nat × Bytes) → Bytes → Bytes
  | 0, _, acc => acc
  | fuel + 1, cs, acc =>
    match cs.find? (fun c => decide (c.1 ≤ acc.length) && decide (acc.length < c.1 + c.2.length)) with
    | some c => arrivedFrom fuel cs (acc ++ c.2.drop (acc.length - c.1))
    | none => acc

/-- The arrived bytes of input 0 of a job whose reads are on their way. -/
def State.arrived (s : State) (j : Job) : Bytes :=
  let cs := (inputReads j).flatMap (fun (a, off, _, len) =>
    if a ≠ 0 then []
    else match s.hif.reads.find? (fun r => r.job == j.id && r.use == .input 0 off) with
      | some r => r.parts.map (fun p => (off + p.1, p.2))
      | none => [(off, cut (j.input 0) off len)])
  arrivedFrom cs.length cs []

/-- The plaintext of a long unverified stream is written as its ciphertext arrives, in whole units of 64 KiB (R112). -/
def streamNow (id : Nat) (s : State) : State :=
  match s.job? id with
  | some j =>
    if j.opcode = 0x0512 ∧ j.uvs ∧ j.phase = .reading ∧ 1048576 < fieldLE j.params 4 4 then
      let ct := s.arrived j
      let n := ct.length / 65536 * 65536
      if j.streamed < n then (streamOut j ((gcmData (j.pb 0) (symKey j.keyB) j.iv (ct.take n)).drop j.streamed) s).1 else s
    else s
  | none => s

/-- GCM_DECRYPT (R111, R112, R270): at most 1 MiB is staged; of a longer ciphertext under UVS the rest of the stream is written, once
its pages are translated and the device may write. -/
def gcmDecryptDo (job : Nat) (s : State) : State :=
  runOp 0x0512 (fun j s =>
    let k := symKey j.keyB
    let ct := j.input 0
    let pt := gcmData (j.pb 0) k j.iv ct
    let ok := gcmTag (j.pb 0) (j.pb 2) k j.iv (j.input 1) ct == cut j.params 24 (j.pb 2)
    let finish (s : State) : State := if ok then done j [(0, pt)] s else fail j stAuthFailed s
    if ct.length ≤ 1048576 then finish s
    else match streamOut j (pt.drop j.streamed) s with
      | (s, true) => finish s
      | (s, false) => s) job s

/-- GCM_SESSION_OPEN: the context binds the key (R270). -/
def gcmSessionOpenDo (job : Nat) (s : State) : State :=
  runOp 0x0518 (fun j s =>
    match j.session with
    | none => s
    | some c =>
      done j ((0, sessRef s c) :: (if j.pb 1 = 1 then [(1, j.iv)] else []))
        (s.modCtx c (fun x => { x with func := j.pb 0, order2 := aOrder2 j.keyB.attr, key := symKey j.keyB, iv := j.iv, aad := j.input 0, dlen := j.pb 2 }))) job s

/-- The ciphertext of the part a step adds. -/
def gcmPart (x : Ctx) (part : Bytes) : Bytes := (gcmData x.func x.key x.iv (x.absorbed ++ part)).drop x.absorbed.length

/-- GCM_SESSION_UPDATE. -/
def gcmSessionUpdateDo (job : Nat) (s : State) : State :=
  runOp 0x0519 (fun j s =>
    done j [(0, gcmPart (s.ctx j.ctxOf) (j.input 0))] (changeCtx j j.ctxOf (fun x => { x with absorbed := x.absorbed ++ j.input 0 }) s)) job s

/-- GCM_SESSION_FINAL. -/
def gcmSessionFinalDo (job : Nat) (s : State) : State :=
  runOp 0x051A (fun j s =>
    let x := s.ctx j.ctxOf
    let all := x.absorbed ++ j.input 0
    done j [(0, gcmPart x (j.input 0)), (1, gcmTag x.func x.dlen x.key x.iv x.aad (gcmData x.func x.key x.iv all))] (endCtx j s)) job s

/-- GCM_SESSION_CLOSE. -/
def gcmSessionCloseDo (job : Nat) (s : State) : State := runOp 0x051B (fun j s => done j [] (endCtx j s)) job s

/-- The CMAC of a message, `n` bytes. -/
def cmacOf (a n : Nat) (key msg : Bytes) : Bytes := (alg .cmac (if isTdes a then 8 else 16) [num a, key, msg]).take n

/-- CMAC_GENERATE. -/
def cmacGenerateDo (job : Nat) (s : State) : State :=
  runOp 0x0521 (fun j s => done j [(0, cmacOf (j.pb 0) (j.pb 2) (symKey j.keyB) (j.input 0))] s) job s

/-- CMAC_VERIFY. -/
def cmacVerifyDo (job : Nat) (s : State) : State :=
  runOp 0x0522 (fun j s =>
    if cmacOf (j.pb 0) (j.pb 2) (symKey j.keyB) (j.input 0) = j.input 1 then done j [] s else fail j stAuthFailed s) job s

/-- KW_WRAP: KW, or KWP with PAD. -/
def kwWrapDo (job : Nat) (s : State) : State :=
  runOp 0x0531 (fun j s =>
    let d := j.input 0
    let k := symKey j.keyB
    done j [(0, if j.pb 1 = 1 then alg .kwp (roundUp d.length 8 + 8) [k, d] else alg .kw (d.length + 8) [k, d])] s) job s

/-- KW_UNWRAP: the integrity check decides (R270). -/
def kwUnwrapDo (job : Nat) (s : State) : State :=
  runOp 0x0532 (fun j s =>
    let d := j.input 0
    let k := symKey j.keyB
    let kwp := j.pb 1 = 1
    if Config.check (if kwp then .kwpOk else .kwOk) [k, d] then
      done j [(0, if kwp then (Config.crypto .kwpUnwrap [k, d]).take (d.length - 8) else alg .kwUnwrap (d.length - 8) [k, d])] s
    else fail j stAuthFailed s) job s

/-! ## The meanings of the commands -/

/-- CIPHER_ENCRYPT (R268). -/
def execCipherEncrypt (job : Nat) (s : State) : Host.Outcome State Fault Refusal := .next (cipherEncryptDo job s)
/-- CIPHER_DECRYPT (R268). -/
def execCipherDecrypt (job : Nat) (s : State) : Host.Outcome State Fault Refusal := .next (cipherDecryptDo job s)
/-- GCM_ENCRYPT (R270). -/
def execGcmEncrypt (job : Nat) (s : State) : Host.Outcome State Fault Refusal := .next (gcmEncryptDo job s)
/-- GCM_DECRYPT (R112). -/
def execGcmDecrypt (job : Nat) (s : State) : Host.Outcome State Fault Refusal := .next (gcmDecryptDo job s)
/-- GCM_SESSION_OPEN (R270). -/
def execGcmSessionOpen (job : Nat) (s : State) : Host.Outcome State Fault Refusal := .next (gcmSessionOpenDo job s)
/-- GCM_SESSION_UPDATE (R270). -/
def execGcmSessionUpdate (job : Nat) (s : State) : Host.Outcome State Fault Refusal := .next (gcmSessionUpdateDo job s)
/-- GCM_SESSION_FINAL (R270). -/
def execGcmSessionFinal (job : Nat) (s : State) : Host.Outcome State Fault Refusal := .next (gcmSessionFinalDo job s)
/-- GCM_SESSION_CLOSE (R270). -/
def execGcmSessionClose (job : Nat) (s : State) : Host.Outcome State Fault Refusal := .next (gcmSessionCloseDo job s)
/-- CMAC_GENERATE (R268). -/
def execCmacGenerate (job : Nat) (s : State) : Host.Outcome State Fault Refusal := .next (cmacGenerateDo job s)
/-- CMAC_VERIFY (R270). -/
def execCmacVerify (job : Nat) (s : State) : Host.Outcome State Fault Refusal := .next (cmacVerifyDo job s)
/-- KW_WRAP (R268). -/
def execKwWrap (job : Nat) (s : State) : Host.Outcome State Fault Refusal := .next (kwWrapDo job s)
/-- KW_UNWRAP (R270). -/
def execKwUnwrap (job : Nat) (s : State) : Host.Outcome State Fault Refusal := .next (kwUnwrapDo job s)

end Sys2Proof.Machine
end

