-- ==== Sys2Proof/Machine/OpsPayment.lean ====
section
/-! DEFINITION. Payment opcodes, family 0x09 (13_payment_identity.md, R344 to R351, R356, R357). -/
namespace Sys2Proof.Machine

/-! ## Formats and numbers (R344, R357) -/

/-- Block length of a PIN block format; 0 for a code that names none. -/
def pinLen (f : Nat) : Nat := if f = 4 then 16 else if f = 0 ∨ f = 1 ∨ f = 3 then 8 else 0

/-- Algorithms of the key of a format. -/
def pinAlgs (f : Nat) : List Nat := if f = 4 then [1, 2, 3] else [0x11, 0x12]

/-- Packed BCD nibble `k` of a byte string, high nibble first. -/
def nibble (bs : Bytes) (k : Nat) : Nat := let b := (byteAt bs (k / 2)).toNat; if k % 2 = 0 then b / 16 else b % 16

/-- A PAN field holds `n` decimal digits, F-padded, and `n` is 12 to 19. -/
def panOk (n : Nat) (pan : Bytes) : Bool :=
  decide (12 ≤ n) && decide (n ≤ 19) && (List.range 20).all (fun k => if k < n then decide (nibble pan k < 10) else nibble pan k == 15)

/-- A KSN's transaction counter, its last four bytes, is neither 0 nor has more than 16 bits set (R348). -/
def ksnOk (ksn : Bytes) : Bool :=
  let c := ofBE (cut ksn 8 4)
  c != 0 && decide (popCount 32 c ≤ 16)

/-- The key with which a PIN job opens its block: the PIN key, or the key that AES DUKPT derives from a BDK. -/
def pinKey (s : State) (b : Bound) (dukpt : Bool) (ksn : Bytes) : Bytes :=
  let k := secretOf s b
  if dukpt then alg .dukpt k.length [k, ksn, ascii "PIN encryption"] else k

/-! ## PIN blocks of ISO 9564-1 (R344; log 95) -/

/-- Four-bit digits of a byte string, high digit first, and back. -/
def nibbles (bs : Bytes) : List Nat := (bs.map (fun b => [b.toNat / 16, b.toNat % 16])).flatten
def packNibbles : List Nat → Bytes
  | a :: b :: r => BitVec.ofNat 8 (16 * a + b) :: packNibbles r
  | _ => []

/-- The PIN field of a format: control nibble, length, digits, fill; formats 1 and 4 end in random digits, format 3 fills with A to F. -/
def pinField (fmt : Nat) (digits : List Nat) (fill : List Nat) : Bytes :=
  let head := [fmt, digits.length] ++ digits
  let rest := 16 - head.length
  packNibbles (head ++ (match fmt with
    | 0 => List.replicate rest 15
    | 1 => fill.take rest
    | 3 => (fill.take rest).map (fun x => 10 + x % 6)
    | _ => List.replicate rest 10 ++ fill.take 16))

/-- The PAN field of a format: the 12 rightmost digits without the check digit; format 4 takes the whole PAN behind its length. -/
def panField (fmt : Nat) (pan : Bytes) : Bytes :=
  let ds := (nibbles pan).takeWhile (fun d => decide (d < 10))
  let account := lastN 12 (ds.take (ds.length - 1))
  match fmt with
  | 0 | 3 => packNibbles (List.replicate (16 - account.length) 0 ++ account)
  | 4 => packNibbles ((ds.length - 12) :: ds ++ List.replicate (31 - ds.length) 0)
  | _ => zeros 8

/-- One block under a PIN key. -/
def pinBlock (enc : Bool) (a : Nat) (key b : Bytes) : Bytes :=
  if isTdes a then alg .tdes 8 [num (flag enc), num a, key, b] else aesBlock enc a key b

/-- The PIN field that a block holds, as four-bit digits. -/
def pinOpen (fmt a : Nat) (key block pan : Bytes) : List Nat :=
  let x := xorBytes (pinBlock false a key block) (panField fmt pan)
  nibbles (if fmt = 4 then pinBlock false a key x else x)

/-- The decrypted block keeps its format: control nibble, length, digits and fill (R346). A PAN that is not the block's shows there. -/
def pinGood (fmt a : Nat) (key block pan : Bytes) : Bool :=
  let ns := pinOpen fmt a key block pan
  let n := ns.getD 1 0
  let fill := (ns.take 16).drop (2 + n)
  ns.headD 15 == fmt && decide (4 ≤ n) && decide (n ≤ 12) && ((ns.drop 2).take n).all (fun d => decide (d < 10)) &&
  (match fmt with
    | 0 => fill.all (fun x => x == 15)
    | 3 => fill.all (fun x => decide (10 ≤ x))
    | 4 => fill.all (fun x => x == 10)
    | _ => true)

/-- The PIN digits in a block, one a byte, and the block of a format that carries digits, with its random fill. -/
def pinDigits (fmt a : Nat) (key block pan : Bytes) : Bytes :=
  let ns := pinOpen fmt a key block pan
  ((ns.drop 2).take (ns.getD 1 0)).map (fun d => BitVec.ofNat 8 d)
def pinSeal (fmt a : Nat) (key digits pan fill : Bytes) : Bytes :=
  let f := pinField fmt (digits.map (·.toNat)) (nibbles fill)
  if fmt = 4 then pinBlock true a key (xorBytes (pinBlock true a key f) (panField fmt pan))
  else pinBlock true a key (xorBytes f (panField fmt pan))


/-! ## Key blocks (R350, R351): the header of ANSI X9.143 is clear ASCII -/

/-- A row of R351: usage codes, algorithm letters, family, permitted usage. -/
def kbRows : List (List String × List String × Nat × Nat) :=
  [(["B0"], ["A"], 9, uDerive + uPin), (["D0", "K0", "K1"], ["A", "T"], 5, uWrap + uUnwrap),
   (["E0"], ["A", "T"], 5, uDerive + uMac), (["M6"], ["A"], 5, uMac), (["P0"], ["A", "T"], 5, uPin)]

/-- The row an imported block names: usage in bytes 6:5, algorithm in byte 7. -/
def kbRow (b : Bytes) : Option (List String × List String × Nat × Nat) :=
  kbRows.find? (fun r => r.1.any (fun u => ascii u == cut b 5 2) && r.2.1.any (fun u => ascii u == cut b 7 1))

/-- Usage bits an imported block permits: those of the row less what the mode of use removes, and EXPORT_WRAPPED unless the
exportability is N. -/
def kbUsage (b : Bytes) (row : Nat) : Nat :=
  let mode := cut b 8 1
  let less := (if mode = ascii "E" then uUnwrap else 0) + (if mode = ascii "D" then uWrap else 0)
  ((row ||| less) - less) + (if cut b 11 1 = ascii "N" then 0 else uExport)

/-- Letter of a key algorithm in a key block. -/
def kbLetter (fam a : Nat) : String := if fam = 5 ∧ isTdes a then "T" else "A"

/-- The first row whose usage set covers a key's operation usage (R351). -/
def kbExportRow (a : Bytes) : Option (List String × List String × Nat × Nat) :=
  let u := (aUsage a ||| (uExport + uMigrate)) - (uExport + uMigrate)
  kbRows.find? (fun r => r.2.2.1 == aFam a && r.2.1.any (· == kbLetter (aFam a) (aAlg a)) && (u &&& r.2.2.2) == u)

/-- Length of a version D key block for a key of `n` bytes: header, encrypted length, key and padding, and CMAC, in hexadecimal. -/
def kbLen (n : Nat) : Nat := 16 + 2 * roundUp (2 + n) 16 + 32

/-! ## What the payment opcodes ask -/

/-- What the payment opcodes ask (R356, R357). Each is a composite job. The declared length of a key block is the sum of its
descriptors (log 100). -/
def reqPayment (s : State) (j : Job) : Option OpReq :=
  let p := j.params
  let h := j.handle
  let small := p.length == 8
  let f := (byteAt p 0).toNat
  let dst := (byteAt p 1).toNat
  let dukpt := byteAt p 2 == 1
  let pin9 : Bool := pinLen f == 0 || decide (2 ≤ (byteAt p 2).toNat) || (dukpt && f != 4) || (!dukpt && !isZero p 4 12) ||
    !panOk (byteAt p 3).toNat (cut p 24 10)
  let src : KeyUse := if dukpt then { handle := h, fam := 9, algs := [1, 2, 3], usage := uPin, needle := true }
    else { handle := h, fam := 5, algs := pinAlgs f, usage := uPin, needle := true }
  let imk : KeyUse := { handle := h, fam := 5, algs := [0x11, 0x12, 1, 2, 3], usage := uDerive }
  let emv9 : Bool := !panOk (byteAt p 0).toNat (cut p 1 10)
  match j.opcode % 256 with
  | 0x01 => some {
      ins := [(0, pinLen f)], unsized := if pinLen f = 0 then [0] else [], outs := [(0, pinLen dst)], plen := p.length == 40
      check9 := bad (pin9 || pinLen dst == 0 || !isZero p 34 6)
      keys := [src, { handle := fieldLE p 16 8, fam := 5, algs := pinAlgs dst, usage := uPin, needle := true }]
      deny := denied ((f == 4 && dst != 4 && !bit s.thm.payPolicy 0) || (dst == 1 && !bit s.thm.payPolicy 1)) }
  | 0x02 =>
    let ref := (byteAt p 34).toNat
    some {
      ins := [(0, pinLen f), (1, if dst = 0 then pinLen ref else 16)]
      unsized := (if pinLen f = 0 then [0] else []) ++ (if (dst = 0 ∧ pinLen ref = 0) ∨ 2 ≤ dst then [1] else []), plen := p.length == 40
      check9 := bad (pin9 || decide (2 ≤ dst) || (dst == 0 && pinLen ref == 0) || (dst == 1 && ref != 0) || !isZero p 35 5)
      keys := [src, if dst = 0 then { handle := fieldLE p 16 8, fam := 5, algs := pinAlgs ref, usage := uPin, needle := true }
        else { handle := fieldLE p 16 8, fam := 6, algs := [0x62], usage := uPin, needle := true }] }
  | 0x11 =>
    let n := fieldLE p 22 2
    some { ins := [(0, n)], plen := p.length == 24, check9 := bad (emv9 || n == 0 || decide (256 < n)), keys := [imk] }
  | 0x12 =>
    let m := (byteAt p 22).toNat
    some { outs := [(0, if m = 1 then 8 else 4)], plen := p.length == 32, keys := [imk]
           check9 := bad (emv9 || !(m == 1 || m == 2) || byteAt p 23 != 0 || !isZero p 28 4) }
  | 0x20 => some { ins := [(0, 48)], outs := [(0, 8)], plen := small, noKey := true, creates := true, drbg := 32
                   check9 := bad (decide (3 ≤ f) || !isZero p 1 7) }
  | 0x21 => some { ins := [(0, 48)], outs := [(0, 8)], plen := p.length == 24
                   check9 := bad (f != 0 || !isZero p 13 11), creates := true
                   keys := [{ handle := h, fam := 9, algs := [1, 2, 3], usage := uDerive }] }
  | 0x31 => some { ins := [(0, sumLen j.descs false 0), (1, 48)], outs := [(0, 8)], plen := small, creates := true
                   check9 := bad (decide (3 ≤ f) || !isZero p 1 7)
                   keys := [{ handle := h, fam := 5, algs := [1, 2, 3, 0x11, 0x12], usage := uUnwrap }] }
  | 0x32 =>
    let k := fieldLE p 0 8
    let a := s.attrOf j.slice k
    some { outs := [(0, 0)], late := [(0, if a = [] then 0 else kbLen (s.secretLen a))], plen := p.length == 16, check9 := bad (!isZero p 8 8)
           keys := [{ handle := h, fam := 5, algs := [1, 2, 3], usage := uWrap },
             { handle := k, fam := if aFam a = 9 then 9 else 5, algs := if aFam a = 9 then [1, 2, 3] else [1, 2, 3, 0x11, 0x12], usage := uExport }]
           deny := denied (s.kv.exportDis || hClass k == 2 || (kbExportRow a).isNone) }
  | 0xF0 => some { slice0 := true, plen := small, noKey := true, quorum := true, check9 := bad (decide (4 ≤ f) || !isZero p 1 7) }
  | _ => none

/-! ## Computation -/

/-- PIN_TRANSLATE (R346). The random fill of the destination block is a free value: the opcode draws no DRBG output of its own. -/
def pinTranslateDo (job : Nat) (s : State) : State :=
  runOp 0x0901 (fun j s =>
    let p := j.params
    let dukpt := j.pb 2 == 1
    let ksn := cut p 4 12
    let pan := cut p 24 10
    let k := pinKey s j.keyB dukpt ksn
    if dukpt && !ksnOk ksn then fail j stInputMalformed s
    else if !pinGood (j.pb 0) j.keyB.alg k (j.input 0) pan then fail j stInputMalformed s
    else
      let d := pinDigits (j.pb 0) j.keyB.alg k (j.input 0) pan
      fresh (done j [(0, pinSeal (j.pb 1) (j.keyN 1).alg (secretOf s (j.keyN 1)) d pan (freeBytes s 16))] s)) job s

/-- PIN_VERIFY (R347): method 0 against a reference block, method 1 against a 16-byte value. -/
def pinVerifyDo (job : Nat) (s : State) : State :=
  runOp 0x0902 (fun j s =>
    let p := j.params
    let dukpt := j.pb 2 == 1
    let ksn := cut p 4 12
    let pan := cut p 24 10
    let k := pinKey s j.keyB dukpt ksn
    let r := secretOf s (j.keyN 1)
    let d := pinDigits (j.pb 0) j.keyB.alg k (j.input 0) pan
    let good := pinGood (j.pb 0) j.keyB.alg k (j.input 0) pan
    let same (b : Bool) : State := if b then done j [] s else fail j stNotEqual s
    if dukpt && !ksnOk ksn then fail j stInputMalformed s
    else if j.pb 1 = 0 then
      if good && pinGood (j.pb 34) (j.keyN 1).alg r (j.input 1) pan then
        same (d == pinDigits (j.pb 34) (j.keyN 1).alg r (j.input 1) pan)
      else fail j stInputMalformed s
    else if good then same (kmac256 r (pan ++ d) 16 (ascii "EQX-PIN") == j.input 1)
    else fail j stInputMalformed s) job s

/-- The account arguments of an EMV job: PAN length, PAN, PSN, ATC. -/
def emvArgs (j : Job) : List Bytes := [num j.keyB.alg, j.keyB.material, cut j.params 0 14]

/-- EMV_ARQC_VERIFY (R349). -/
def emvArqcVerifyDo (job : Nat) (s : State) : State :=
  runOp 0x0911 (fun j s =>
    if alg .emv 8 (num 0 :: emvArgs j ++ [j.input 0]) = cut j.params 14 8 then done j [] s else fail j stNotEqual s) job s

/-- EMV_ARPC_GENERATE (R349): method 1 gives 8 bytes, method 2 gives 4. -/
def emvArpcGenerateDo (job : Nat) (s : State) : State :=
  runOp 0x0912 (fun j s =>
    done j [(0, alg .emv (if j.pb 22 = 1 then 8 else 4) (num (j.pb 22) :: emvArgs j ++ [cut j.params 14 8, cut j.params 24 4]))] s) job s

/-- BDK_GENERATE (R348). -/
def bdkGenerateDo (job : Nat) (s : State) : State :=
  runOp 0x0920 (fun j s =>
    let a := j.input 0
    if !s.attrOk j.slice a || aFam a != 9 then fail j stBadParameter s else storeKey j (j.pb 0) a 0 (genMaterial s a j.seed) s) job s

/-- DUKPT_DERIVE_IK (R348). -/
def dukptDeriveIkDo (job : Nat) (s : State) : State :=
  runOp 0x0921 (fun j s =>
    let a := j.input 0
    let ksn := cut j.params 1 12
    let k := secretOf s j.keyB
    if !s.attrOk j.slice a || aFam a != 5 || aAlg a != j.keyB.alg then fail j stBadParameter s
    else if (aUsage a &&& (uDerive + uExport)) ≠ aUsage a then fail j stKeyPolicyDenied s
    else if !ksnOk ksn then fail j stInputMalformed s
    else storeKey j 0 a 2 (alg .dukpt k.length [k, cut ksn 0 8, ascii "initial key"]) s) job s

/-- KB_IMPORT (R350, R351): syntax, CMAC, usage, in this order; then the attribute block. -/
def kbImportDo (job : Nat) (s : State) : State :=
  runOp 0x0931 (fun j s =>
    let b := j.input 0
    let a := j.input 1
    let kbpk := secretOf s j.keyB
    let version := if isTdes j.keyB.alg then "B" else "D"
    let key := fit (s.secretLen a) (Config.crypto .keyBlockOpen [num j.keyB.alg, kbpk, b])
    if cut b 0 1 ≠ ascii version ∨ !Config.check .keyBlockOk [num j.keyB.alg, b] then fail j stInputMalformed s
    else if !Config.check .keyBlock [num j.keyB.alg, kbpk, b] then fail j stAuthFailed s
    else match kbRow b with
      | none => fail j stKeyPolicyDenied s
      | some r =>
        if !s.attrOk j.slice a then fail j stBadParameter s
        else if aFam a ≠ r.2.2.1 ∨ (aUsage a &&& kbUsage b r.2.2.2) ≠ aUsage a then fail j stKeyPolicyDenied s
        else if ascii (kbLetter (aFam a) (aAlg a)) ≠ cut b 7 1 ∨
            Config.measure .keyBlockOpen [num j.keyB.alg, kbpk, b] ≠ s.secretLen a then fail j stBadParameter s
        else match importStatus s a key with
          | 0 => storeKey j (j.pb 0) a 1 key s
          | st => fail j st s) job s

/-- KB_EXPORT (R350): version D, mode of use N, exportability N, padding from a free value. -/
def kbExportDo (job : Nat) (s : State) : State :=
  runOp 0x0932 (fun j s =>
    let k := j.keyN 1
    let usage := (kbExportRow k.attr).elim "" (fun r => r.1.headD "")
    let key := secretOf s k
    let n := kbLen key.length
    let header := ascii "D" ++ ascii (toString n |> fun t => "".pushn '0' (4 - t.length) ++ t) ++ ascii usage ++
      ascii (kbLetter k.fam k.alg) ++ ascii "N" ++ ascii "00" ++ ascii "N" ++ ascii "0000"
    fresh (done j [(0, header ++ alg .keyBlock (n - 16) [secretOf s j.keyB, header, key, freeBytes s 16])] s)) job s

/-- PAY_SET_POLICY (R346). -/
def paySetPolicyDo (job : Nat) (s : State) : State :=
  runOp 0x09F0 (fun j s => done j [] { s with thm.payPolicy := BitVec.ofNat 2 (j.pb 0) }) job s

/-! ## The meanings of the commands -/

/-- PIN_TRANSLATE (R346). -/
def execPinTranslate (job : Nat) (s : State) : Host.Outcome State Fault Refusal := .next (pinTranslateDo job s)
/-- PIN_VERIFY (R347). -/
def execPinVerify (job : Nat) (s : State) : Host.Outcome State Fault Refusal := .next (pinVerifyDo job s)
/-- EMV_ARQC_VERIFY (R349). -/
def execEmvArqcVerify (job : Nat) (s : State) : Host.Outcome State Fault Refusal := .next (emvArqcVerifyDo job s)
/-- EMV_ARPC_GENERATE (R349). -/
def execEmvArpcGenerate (job : Nat) (s : State) : Host.Outcome State Fault Refusal := .next (emvArpcGenerateDo job s)
/-- BDK_GENERATE (R348). -/
def execBdkGenerate (job : Nat) (s : State) : Host.Outcome State Fault Refusal := .next (bdkGenerateDo job s)
/-- DUKPT_DERIVE_IK (R348). -/
def execDukptDeriveIk (job : Nat) (s : State) : Host.Outcome State Fault Refusal := .next (dukptDeriveIkDo job s)
/-- KB_IMPORT (R350). -/
def execKbImport (job : Nat) (s : State) : Host.Outcome State Fault Refusal := .next (kbImportDo job s)
/-- KB_EXPORT (R350). -/
def execKbExport (job : Nat) (s : State) : Host.Outcome State Fault Refusal := .next (kbExportDo job s)
/-- PAY_SET_POLICY (R346). -/
def execPaySetPolicy (job : Nat) (s : State) : Host.Outcome State Fault Refusal := .next (paySetPolicyDo job s)

end Sys2Proof.Machine
end

