-- ==== Sys2Proof/Machine/Intake.lean ====
section
/-! DEFINITION. Intake of jobs: chains, the checks of the Ring Engine, the checks after acceptance up to check 9, and the reads
of scatter lists and inputs (03_rings.md, R79 to R87; 04_jobs_and_status.md, R99 to R106). -/
namespace Sys2Proof.Machine

/-! ## Opcodes (R116) -/

/-- What the opcode of a job asks; none where it is not defined or its family is absent on this variant (check 1). -/
def opReq (s : State) (j : Job) : Option OpReq :=
  match j.opcode / 256 with
  | 0x01 => reqLattice s j.slice (j.opcode % 256) j.params j.handle
  | 0x02 => reqHash s j
  | 0x03 => reqCode s j
  | 0x04 => reqClassical s j
  | 0x05 => reqSymmetric s j
  | 0x06 => reqDigest s j
  | 0x07 | 0x08 => reqVault s j
  | 0x09 => reqPayment s j
  | 0x0A => reqIdentity s j
  | 0x0B => if s.otp.variantL then reqMetrology j else none
  | 0x0C => reqManage j
  | _ => none

/-- A job or task in one class: long or conforming, and what its slice's reservation pays (R411, R415). -/
def chargeIn (sl cls charge : Nat) (bound : Option Nat) (s : State) : State × Bool × Bool :=
  let long := decide (cls < 7) && bound.elim true (fun b => decide ((s.classCfg cls).block.toNat < b))
  let credit := tget (s.slice sl).credit 0 cls
  let con := !long && decide (cls < 7) && decide (charge ≤ (tget (s.slice sl).contract {} cls).jobMax) && decide (charge ≤ credit)
  (if con then s.modSlice sl (fun x => { x with credit := tput x.credit 0 cls (credit - charge) }) else s, con, long)

/-- Step 4 of R35 begins: class and charge, and whether the job is long or conforming (R411, R415); a job that the Scheduler chains
over two classes is charged in both (R139, R410). -/
def makeReady (id : Nat) (r : OpReq) (s : State) : State :=
  match s.job? id with
  | none => s
  | some j =>
    let (s, con, long) := chargeIn j.slice r.cls r.charge r.bound s
    let s := s.modJob id (fun j => { j with phase := .ready, cls := r.cls, charge := r.charge, conforming := con, long := long })
    match r.other with
    | none => s
    | some (c, charge, b) =>
      let (s, con, long) := chargeIn j.slice c charge b s
      s.modJob id (fun j => { j with other := some (c, charge, con, long) })

/-! ## Engine tasks (R21, R23, R35 step 7; log 63) -/

/-- An engine task to issue: class, opcode and parameter block of the operation it is, and the keys delivered to it. A task of
Thimble's own on a Needle or a Wringer has the opcode of its job. -/
structure TaskSpec where
  cls : Nat
  opcode : Nat
  params : Bytes
  bound : List Bound := []

/-- A block of `n` bytes with a set in byte 0, a second byte, and a message length in bytes 7:4. -/
def taskBlock (n set b1 len : Nat) : Bytes := fit n ([BitVec.ofNat 8 set, BitVec.ofNat 8 b1, 0, 0] ++ leBytes 4 len)

/-- A signature of a key over `len` bytes (R341, R352, R353). -/
def signTask (b : Bound) (len : Nat) : List TaskSpec :=
  match b.fam with
  | 0x01 => [⟨0, 0x0112, taskBlock 12 b.alg 0 len, [b]⟩]
  | 0x02 => [⟨2, 0x0202, taskBlock 12 b.alg 0 len, [b]⟩]
  | 0x04 => [⟨4, if isRsa b.alg then 0x0421 else if isWeier b.alg then 0x0402 else 0x0411, taskBlock 16 b.alg 0 len, [b]⟩]
  | _ => []

/-- The signature of an issuer key: of a composite key, its two parts in the order of the key. -/
def issuerTasks (j : Job) (len : Nat) : List TaskSpec :=
  if j.keyB.fam = 0x0A then signTask (j.keyN 1) len ++ signTask (j.keyN 2) len else signTask j.keyB len

/-- Key generation for a replacement, where an engine computes it (R318). -/
def genTasks (b : Bound) : List TaskSpec :=
  let t (cls op : Nat) : TaskSpec := ⟨cls, op, taskBlock 8 b.alg 0 0, []⟩
  match b.fam with
  | 0x01 => t 0 (if isKem b.alg then 0x0101 else if isMlDsa b.alg then 0x0111 else 0x0121) :: (if isFnDsa b.alg then [t 4 0x0121] else [])
  | 0x02 => [t 2 0x0201]
  | 0x03 => [t 3 (if isCme b.alg then 0x0301 else 0x0311)]
  | 0x04 => [t 4 0x0401]
  | _ => []

/-- Wrapping or unwrapping of `len` bytes on a Tumbler (R328, R329). -/
def wrapTask (op len : Nat) (b : Bound) : List TaskSpec := [⟨5, op, taskBlock 8 b.alg 1 len, [b]⟩]

/-- A keyed digest over `len` bytes with `out` bytes of output (R323, R332). -/
def macTask (f len out : Nat) (b : Bound) : List TaskSpec := [⟨1, 0x0601, fit 16 (taskBlock 8 f 0 len ++ leBytes 4 out), [b]⟩]

/-- The engine tasks that Thimble issues for a composite job, in order (R23, R35 step 7, R185, R345; log 63). -/
def tasksFor (s : State) (j : Job) : List TaskSpec :=
  let p := j.params
  let own (cls : Nat) : List TaskSpec := [⟨cls, j.opcode, p, j.bound⟩]
  let parts := (compositeParts (j.pb 0)).getD ((0, 0), (0, 0))
  let src := (j.pb 1).testBit 0
  let supplied (l : List Bound) : List Bound := if src then [] else l
  match j.opcode with
  | 0x0601 | 0x0610 => own 1
  | 0x0706 => if j.pb 0 = 0 then genTasks j.keyB else wrapTask 0x0532 (j.inputs.map (·.2.length)).sum (j.keyN 1)
  | 0x0707 => wrapTask 0x0531 (48 + j.keyB.material.length) (j.keyN 1)
  | 0x0708 => wrapTask 0x0532 (j.input 0).length j.keyB
  | 0x0709 => macTask 0x62 (j.input 1).length (s.secretLen (j.input 0)) j.keyB
  | 0x070A => macTask 0x62 (j.pb 8 + 96) 16 j.keyB
  | 0x0901 | 0x0902 | 0x0911 | 0x0912 | 0x0921 | 0x0931 | 0x0932 => own 4
  | 0x0A02 =>
    let n := 18 + j.pb 2 + (j.input 0).length
    signTask (j.keyN 1) n ++ signTask (j.keyN 2) n
  | 0x0A03 =>
    let n := 18 + j.pb 2 + (j.input 0).length
    [⟨0, 0x0113, taskBlock 12 parts.1.2 (if src then 16 else 0) n, supplied [j.keyN 1]⟩,
     ⟨4, if isWeier parts.2.2 then 0x0403 else 0x0412, taskBlock 16 parts.2.2 (flag src) n, supplied [j.keyN 2]⟩]
  | 0x0A11 =>
    [⟨0, 0x0102, taskBlock 8 parts.1.2 (j.pb 1 % 2 + 4 * (j.pb 1 / 4 % 2)) 0, supplied [j.keyN 1]⟩, ⟨4, 0x0404, taskBlock 16 parts.2.2 0 0, []⟩]
  | 0x0A12 => [⟨0, 0x0103, taskBlock 8 parts.1.2 0 0, [j.keyN 1]⟩, ⟨4, 0x0404, taskBlock 16 parts.2.2 0 0, [j.keyN 2]⟩]
  | 0x0AF0 =>
    [⟨0, 0x01F0, taskBlock 8 (j.keyN 1).alg 0 0, [j.keyN 1]⟩, ⟨4, 0x04F0, taskBlock 8 (j.keyN 2).alg 0 0, [j.keyN 2]⟩]
  | 0x0A21 => issuerTasks j (j.input 0).length
  | 0x0A22 => signTask j.keyB (j.input 0).length
  | 0x0A33 => issuerTasks j ((s.template j.slice (j.pb 0)).elim 0 (fun t => t.text.length))
  | _ => []

/-- Class, charge, bound and masking of a task (R23, R410, R412): those of the operation it is. The Needle's part of an FN-DSA expansion
is charged with the Mangle's (R137); what a Needle task of Thimble's own costs is a constant of the device (log 17). -/
def taskReq (s : State) (t : Job) : OpReq :=
  match t.cls with
  | 1 =>
    let f := t.pb 0
    let order := if aOrder2 t.keyB.attr then 2 else 1
    let open_ := t.opcode == 0x0610
    let n := if open_ then 2 else blocksFor f (fieldLE t.params 4 4) (fieldLE t.params 8 4) (t.pb 12) (t.pb 13) + (if isKmac f then 2 else 3)
    let cyc := n * blockCycles f order + 40
    { cls := 1, charge := cyc, bound := boundOf cyc 0 42 }
  | 4 =>
    if t.opcode = 0x0121 then { cls := 4, charge := 0, bound := boundOf (latExpand (t.pb 0)) 0 4200, masked := false }
    else if t.opcode / 256 = 9 then
      { cls := 4, charge := Config.costCharge t.opcode 1 (t.pb 0), bound := boundOf (Config.costBound t.opcode 1 (t.pb 0)) 0 4200 }
    else (opReq s t).getD { cls := 4 }
  | c => { (opReq s t).getD {} with cls := c }

/-- Issues one engine task for a job: it carries the job's slice and generation, and passes through steps 4 to 6 (R23, R35). -/
def issueTask (id : Nat) (k : TaskSpec) (s : State) : State :=
  match s.job? id with
  | none => s
  | some p =>
    let t : Job := {
      id := s.nextJob, slice := p.slice, sq := p.sq, sqIndex := p.sqIndex, tag := p.tag, cq := p.cq, gen := p.gen, opcode := k.opcode
      key := BitVec.ofNat 64 ((k.bound.head?).elim 0 (·.handle)), body := k.params, accept := s.tick, inputs := p.inputs, seed := p.seed
      bound := k.bound, resolved := true, at10 := p.at10, curves := p.curves, read := true, suppressed := p.suppressed, parent := some id, cls := k.cls }
    let r := taskReq s t
    makeReady t.id r { s with jobs := s.jobs ++ [t], nextJob := s.nextJob + 1 }

/-- A job whose computation begins issues its engine tasks: those of a composite job, and the Needle's part of an FN-DSA expansion
(R23, R137). -/
def issueTasks (id : Nat) (s : State) : State :=
  match s.job? id with
  | none => s
  | some j =>
    if j.phase ≠ .running ∨ j.parent.isSome ∨ j.stage ≠ 0 then s
    else if j.composite then (tasksFor s j).foldl (fun s k => issueTask id k s) s
    else if j.opcode / 256 = 1 ∧ isFnDsa (j.pb 0) ∧ (j.opcode = 0x0121 ∨ j.cacheRes = 1 ∨ j.cacheRes = 2) then
      issueTask id ⟨4, 0x0121, taskBlock 8 (j.pb 0) 0 0, j.bound⟩ s
    else s

/-- More is charged to a job (R412). -/
def chargeMore (id n : Nat) (s : State) : State :=
  match s.job? id with
  | none => s
  | some j =>
    let s := if j.conforming then s.modSlice j.slice (fun sl => { sl with credit := tput sl.credit 0 j.cls (tget sl.credit 0 j.cls - n) }) else s
    s.modJob id (fun j => { j with charge := j.charge + n })

/-- A key generation at masking order 2 is charged the factor of its order once its attribute block has been read (R135, R233, R236,
R412; log 67). -/
def chargeOrder (id : Nat) (s : State) : State :=
  match s.job? id with
  | none => s
  | some j =>
    let gen := j.opcode == 0x0101 || j.opcode == 0x0111 || j.opcode == 0x0301 || j.opcode == 0x0311
    if gen && j.parent.isNone && j.read && aOrder2 (j.input 0) then
      let full := if j.opcode < 0x0200 then latFactor (j.pb 0) true j.charge else cbFactor (j.pb 0) true 22 j.charge
      chargeMore id (full - j.charge) s
    else s

/-- An RSA public operation is charged for an e above 65537 once its public key is known (R264, R412; log 67). -/
def chargeExponent (id : Nat) (s : State) : State :=
  match s.job? id with
  | none => s
  | some j =>
    if (j.opcode = 0x0422 ∨ j.opcode = 0x0423) ∧ j.parent.isNone ∧ j.read = true then
      chargeMore id (rsaExtra (j.pb 0) (ofBE (cut (j.pubKey s) (rsaLen (j.pb 0)) 32))) s
    else s

/-- The computation of a placed job begins, its inputs being read. -/
def beginRun (id : Nat) (s : State) : State := issueTasks id (startTask id (chargeExponent id (chargeOrder id s)))

/-! ## Chains (R70, R79, R80) -/

def cellFirst (c : Bytes) : Bool := bit (byteAt c 63) 1
def cellLast (c : Bytes) : Bool := bit (byteAt c 63) 2

/-- The cell held at distance `k` from the head, before the recorded tail. -/
def Sq.cellAt (q : Sq) (k : Nat) : Option Bytes :=
  if k < q.declared then (q.held.find? (fun h => h.1 == (q.head + k) % qsize q.log2)).map (·.2) else none

/-- The cells held from distance `k` on without a gap, at most `fuel`. -/
def Sq.heldFrom (q : Sq) : Nat → Nat → List Bytes
  | 0, _ => []
  | fuel + 1, k => match q.cellAt k with
    | some c => c :: q.heldFrom fuel (k + 1)
    | none => []

/-- What stands at the head of a queue: nothing to evaluate yet; a malformed chain of `n` cells; a well-formed chain. -/
inductive Chain where
  | waits
  | malformed (n : Nat) (header : Option Bytes)
  | job (cells : List Bytes)

/-- Cells of a run with FIRST = 0 at its start: the rest up to the next FIRST cell. -/
def runLength : List Bytes → Nat
  | [] => 0
  | c :: cs => if cellFirst c then 0 else 1 + runLength cs

/-- Evaluates the head of a queue (R79, R80). -/
def Sq.chain (q : Sq) : Chain :=
  let cs := q.heldFrom 16 0
  match cs with
  | [] => .waits
  | c :: rest =>
    if cellFirst c then
      match cs.findIdx? cellLast with
      | some k =>
        match (rest.take k).findIdx? cellFirst with
        | some f => .malformed (f + 1) (some c)
        | none => .job (cs.take (k + 1))
      | none =>
        if cs.length < 16 then .waits
        else match rest.findIdx? cellFirst with
          | some f => .malformed (f + 1) (some c)
          | none => .malformed 16 (some c)
    else
      let n := runLength cs
      if n < cs.length ∨ n = min 16 q.declared then .malformed n none else .waits

/-- Cells that a body length implies (R70). -/
def cellsFor (bodyLen : Nat) : Nat := if bodyLen ≤ 39 then 1 else 1 + (bodyLen - 39 + 62) / 63

/-- The body carried by a chain. -/
def chainBody : List Bytes → Bytes
  | [] => []
  | c :: cs => (c.drop 24).take 39 ++ (cs.map (fun x => x.take 63)).flatten

/-! ## Header (R69) -/

def hdrOpcode (c : Bytes) : Nat := fieldLE c 0 2
def hdrLen (c : Bytes) : Nat := fieldLE c 2 2
def hdrFlags (c : Bytes) : Nat := fieldLE c 4 2
def hdrTag (c : Bytes) : Nat := hdrFlags c % 4096
def hdrCq (c : Bytes) : Nat := (byteAt c 6).toNat % 16
def hdrWb (c : Bytes) : Bool := (hdrFlags c).testBit 12

/-- The reserved bits of a header are 0 (R69). -/
def hdrClean (c : Bytes) : Bool := !(hdrFlags c).testBit 15 && decide ((byteAt c 6).toNat < 16) && byteAt c 7 == 0

/-- The job a chain carries. -/
def jobOf (s : State) (i k : Nat) (cells : List Bytes) : Job :=
  let c := cells.headD []
  { id := s.nextJob, slice := i, sq := k, sqIndex := (s.sq i k).head, tag := hdrTag c, cq := hdrCq c, opcode := hdrOpcode c
    uvs := (hdrFlags c).testBit 14, dlv := (hdrFlags c).testBit 13, key := BitVec.ofNat 64 (fieldLE c 8 8)
    deadline := BitVec.ofNat 32 (fieldLE c 16 4), descCtrl := BitVec.ofNat 32 (fieldLE c 20 4)
    body := (chainBody cells).take (hdrLen c), gen := (s.slice i).gen, accept := s.tick }

/-! ## Checks after acceptance (R106) -/

/-- Checks 7 to 9, once the descriptors are known. -/
def checkArgs (id : Nat) (s : State) : State :=
  match s.job? id with
  | none => s
  | some j =>
    match opReq s j with
    | none => endNow id stBadOpcode engRing s
    | some r =>
      if !check7 r j.descs then endNow id stBadDescriptor engRing s
      else if !check8 j r j.descs then endNow id stLengthMismatch engRing s
      else match check9 j r with
        | 0 => makeReady id r s
        | st => endNow id st engRing s

/-- Checks 1 to 5 of an accepted job; then its list is read (check 6), or checks 7 to 9 follow. -/
def checkHeader (id : Nat) (clean : Bool) (s : State) : State :=
  match s.job? id with
  | none => s
  | some j =>
    match opReq s j with
    | none => endNow id stBadOpcode engRing s
    | some r =>
      if r.slice0 && j.slice != 0 then endNow id stSliceNotPermitted engRing s
      else if !clean || (j.uvs && !r.uvs) then endNow id stBadFlags engRing s
      else if !check4 j then endNow id stBadDescriptor engRing s
      else if j.body.length < j.descArea then endNow id stLengthMismatch engRing s
      else if j.mode = 2 then startListRead id (s.modJob id (fun j => { j with phase := .list }))
      else checkArgs id (s.modJob id (fun j => { j with descs := if j.mode = 1 then parseDescs j.count j.body else [] }))

/-! ## Intake (R79 to R87, R90) -/

/-- A slot of a completion queue can be reserved (R90). -/
def State.cqRoom (s : State) (i k : Nat) : Bool :=
  let c := s.cq i k
  c.enable && decide (c.resv + c.written < qsize c.log2)

/-- Reserves a slot. -/
def reserve (i k : Nat) (s : State) : State := s.modCq i k (fun c => { c with resv := c.resv + 1 })

/-- Takes `n` cells off the head of a queue (R71, R83). -/
def consume (i k n : Nat) (s : State) : State :=
  s.modSq i k (fun q =>
    let size := qsize q.log2
    let gone := (List.range n).map (fun x => (q.head + x) % size)
    { q with
      slot := none, head := (q.head + n) % size, phase := if size ≤ q.head + n then !q.phase else q.phase
      held := q.held.filter (fun h => !gone.contains h.1), missed := q.missed.filter (fun x => !gone.contains x) })

/-- DONE is written back into the FIRST cell (R84). -/
def writeDone (i k idx : Nat) (c : Bytes) (s : State) : State :=
  if hdrWb c then
    emit (.write .done i (s.slice i).pasid ((s.sq i k).base.toNat + 64 * idx + 63) [byteAt c 63 ||| 0x08] false) s
  else s

/-- Reserves a slot for the job at the head of a queue, which may hold it already (R90): none where there is none to reserve. -/
def takeSlot (i k cq : Nat) (s : State) : Option State :=
  if (s.sq i k).slot = some cq then some s
  else if s.cqRoom i cq then some ((reserve i cq s).modSq i k (fun q => { q with slot := some cq }))
  else none

/-- A header carries a DEADLINE that has passed: a completion decided now is LATE (R418). -/
def hdrLate (c : Bytes) (s : State) : Bool := (hdrFlags c).testBit 13 && tickAfter s.tick (BitVec.ofNat 32 (fieldLE c 16 4))

/-- A job consumed without running (R79): its completion goes into the slot reserved for it. -/
def consumeBad (i k cq n : Nat) (e : Entry) (s : State) : State :=
  postEntry i cq { e with sq := k, sqIndex := (s.sq i k).head, gen := (s.slice i).gen } (consume i k n s)

/-- Evaluates the head of one queue: the state after it, and whether a job was accepted or consumed; none where its intake
waits. A job that waits at check 6 holds its slot (R79, R90). -/
def intakeQueue (i k : Nat) (s : State) : Option (State × Bool) :=
  let q := s.sq i k
  if !q.enable || q.fault then none
  else
    let err := q.errCq.toNat
    match q.chain with
    | .waits => none
    | .malformed n h => (takeSlot i k err s).map (fun t =>
        (consumeBad i k err n { tag := h.elim 0 hdrTag, notag := h.isNone, status := stBadChain, outLen := n, late := h.elim false (hdrLate · s) } t, true))
    | .job cells =>
      let c := cells.headD []
      let bad (cq status : Nat) : Option (State × Bool) := (takeSlot i k cq s).map (fun t =>
        (consumeBad i k cq cells.length { tag := hdrTag c, status := status, late := hdrLate c s } (writeDone i k q.head c t), true))
      if !(s.cq i (hdrCq c)).enable then bad err stBadCq
      else if cellsFor (hdrLen c) ≠ cells.length ∨ 984 < hdrLen c then bad (hdrCq c) stLengthMismatch
      else if s.hostJobs.any (fun j => j.slice == i && j.tag == hdrTag c && !j.suppressed) then bad (hdrCq c) stTagReused
      else match takeSlot i k (hdrCq c) s with
        | none => none
        | some s =>
          if max 1 (s.slice i).quotaJobs.toNat ≤ (s.hostJobs.filter (fun j => j.slice == i && !j.suppressed)).length then some (s, false)
          else
            let j := jobOf s i k cells
            let s := consume i k cells.length (writeDone i k q.head c s)
            some (checkHeader j.id (hdrClean c) { s with jobs := s.jobs ++ [j], nextJob := s.nextJob + 1 }, true)

/-- The first queue of a list whose head can be taken. -/
def intakeFirst (i : Nat) : List Nat → State → State
  | [], s => s
  | k :: ks, s =>
    match intakeQueue i k s with
    | some (t, true) => { t with ring.rr := tput t.ring.rr 0 i ((k + 1) % 16) }
    | some (t, false) => intakeFirst i ks t
    | none => intakeFirst i ks s

/-- The Ring Engine takes one job of a slice (R83, R87): the queues in round robin, while intake is open and the device may
request for the slice. -/
def jobIntakeDo (slice : BitVec 8) (s : State) : State :=
  let i := slice.toNat
  if !s.intakeOpen i || !s.mayRequest i then s
  else intakeFirst i ((List.range 16).map (fun n => (tget s.ring.rr 0 i + n) % 16)) s

/-! ## Reads (R47 to R50, R103) -/

/-- Puts bytes at an offset of a string, which grows as far as it must. -/
def putAt (bs : Bytes) (off : Nat) (x : Bytes) : Bytes := fit off bs ++ x ++ bs.drop (off + x.length)

/-- The bytes of a read whose parts have all arrived. -/
def PendingRead.bytes (r : PendingRead) : Bytes := r.parts.foldl (fun b p => putAt b p.1 p.2) []

/-- A part fits into a read that still lacks it. -/
def PendingRead.takes (r : PendingRead) (off n : Nat) : Bool :=
  decide (1 ≤ n) && decide (off + n ≤ r.len) && r.parts.all (fun p => decide (p.1 + p.2.length ≤ off) || decide (off + n ≤ p.1))

/-- Every input of the job is read: a placed job computes; one that holds no engine is ready again (R181, R188). -/
def inputsRead (id : Nat) (s : State) : State :=
  match s.job? id with
  | none => s
  | some j =>
    if s.hif.reads.any (fun r => r.job == id) then s
    else match j.phase with
      | .reading => beginRun id (s.modJob id (fun j => { j with phase := .running, read := true }))
      | .preread => s.modJob id (fun j => { j with phase := .ready, read := true })
      | _ => s

/-- A read is complete: a list gives the descriptors (R103), an input its bytes, a store its node (R216). -/
def readDone (r : PendingRead) (s : State) : State :=
  match s.job? r.job with
  | none => s
  | some j =>
    match r.use with
    | .list => if j.phase = .list then checkArgs j.id (s.modJob j.id (fun j => { j with descs := parseDescs j.count r.bytes })) else s
    | .input a off =>
      inputsRead j.id (streamNow j.id (s.modJob j.id (fun j => { j with inputs := tput j.inputs [] a (putAt (tget j.inputs [] a) off r.bytes) })))
    | .store n => s.modJob j.id (fun j => { j with inputs := tput j.inputs [] (storeArg n) r.bytes })

/-- A read fails (R50): its job ends with DMA_FAULT. -/
def readFails (r : PendingRead) (e : ReadError) (s : State) : State :=
  match s.job? r.job with
  | none => s
  | some j =>
    let s := raiseNote 0x12 j.engine (reportAer e (setDmaStatus e s))
    match j.phase with
    | .list | .preread => endNow j.id stDmaFault engRing s
    | .reading | .running => endWiping j.id stDmaFault s
    | _ => s

/-- Takes a read off the list of those awaited. -/
def dropRead (tag : Nat) (s : State) : State := { s with hif.reads := s.hif.reads.filter (fun r => r.tag != tag) }

/-- A completion of a read arrives, in any order (R49): its bytes, or the error it carries. -/
def dmaReadCompletionDo (tag offset : Nat) (data : Bytes) (err : Option ReadError) (s : State) : State :=
  match s.hif.reads.find? (fun r => r.tag == tag) with
  | none => s
  | some r =>
    match err with
    | some e => readFails r e (dropRead tag s)
    | none =>
      if !r.takes offset data.length then s
      else
        let r := { r with parts := r.parts ++ [(offset, data)] }
        if (r.parts.map (·.2.length)).foldl (· + ·) 0 = r.len then readDone r (dropRead tag s)
        else streamNow r.job { s with hif.reads := mapIf (fun x => x.tag == tag) (fun _ => r) s.hif.reads }

/-- A read's completion timeout (R50). -/
def completionTimeoutDo (tag : Nat) (s : State) : State := dmaReadCompletionDo tag 0 [] (some .timeout) s

/-! ## The meanings of the commands -/

/-- DMA_READ_COMPLETION (R49). -/
def execDmaReadCompletion (tag : Nat) (offset : Nat) (data : Bytes) (err : Option ReadError) (s : State) : Host.Outcome State Fault Refusal := .next (dmaReadCompletionDo tag offset data err s)
/-- COMPLETION_TIMEOUT (R50). -/
def execCompletionTimeout (tag : Nat) (s : State) : Host.Outcome State Fault Refusal := .next (completionTimeoutDo tag s)
/-- JOB_INTAKE (R79). -/
def execJobIntake (slice : BitVec 8) (s : State) : Host.Outcome State Fault Refusal := .next (jobIntakeDo slice s)

end Sys2Proof.Machine
end

