-- ==== Sys2Proof/Machine/Jobs.lean ====
section
/-! DEFINITION. Dispatch of ready jobs, the end of a computation, safe points and wipes (01_architecture.md, R21 to R23, R35;
04_jobs_and_status.md, R106 to R115; 16_time_and_scheduling.md, R411, R417; 22_power_clock_reset.md, R524, R525). -/
namespace Sys2Proof.Machine

/-! ## Start Credits (R524, R525) -/

/-- Credits a unit needs to ungate; the Bolt vector unit of Needle n is unit 0x80 + n. -/
def creditCost (u : Nat) : Nat :=
  if u < 0x20 then 4 else if u < 0x40 then 1 else if u < 0x60 then 0 else if u < 0x64 then 6 else if 0x80 ≤ u then 2 else 0

/-- Grants queued requests in order while the bucket covers the first (R525); a granted unit ungates. -/
def grantCredits : List Nat → State → State
  | [], s => { s with pwr.creditQueue := [] }
  | u :: q, s =>
    if creditCost u ≤ s.pwr.credits then
      let s := { s with pwr.credits := s.pwr.credits - creditCost u, pwr.gated := tput s.pwr.gated false u false }
      grantCredits q (if 0x80 ≤ u then s.modNeedle (u - 0x80) (fun n => { n with bolt := n.running }) else s)
    else { s with pwr.creditQueue := u :: q }

/-- A unit requests its credits; a request that finds too few waits, behind every earlier one, and is counted. -/
def requestCredit (u : Nat) (s : State) : State :=
  let s := grantCredits (s.pwr.creditQueue ++ [u]) s
  if s.pwr.creditQueue.contains u then { s with pwr.creditWaits := satInc s.pwr.creditWaits } else s

def State.isGated (s : State) (u : Nat) : Bool := tget s.pwr.gated false u

/-- A unit of entry 0 ungates at dispatch (R524). -/
def ungate (u : Nat) (s : State) : State := { s with pwr.gated := tput s.pwr.gated false u false }

/-! ## Where a job can go (R21, R417) -/

/-- A job or task occupies this engine: it reads, computes, or the engine is being wiped (R120, R223, R249). -/
def State.busy (s : State) (code : Nat) : Bool := s.jobs.any (fun j => j.engine == code && j.holds) || s.eng.wipes.any (fun w => w.1 == code)

/-- The engine may take a job of this kind: not fenced, not stalled for masked work (R374), not withheld for a read-out (R170). -/
def State.takes (s : State) (masked : Bool) (code : Nat) : Bool :=
  s.fence code == .none && !(masked && s.stalled code) && !(s.svc.patRead.any (fun r => r.2 == code))

/-- Engine codes of a class. -/
def classCodes (c : Nat) : List Nat := (List.range (classEngines c).2).map (· + (classEngines c).1)

/-- A job of a tree that R194 calls long: key generation, signing, a tree build. -/
def treeLong (op : Nat) : Bool := op == 0x0201 || op == 0x0202 || op == 0x0212

/-- What the Scheduler finds for a job: an instance, a unit to ungate first, that every instance is fenced, or that it waits. -/
inductive Place where
  | on (code : Nat)
  | credit (unit : Nat)
  | fenced
  | waits

/-- Ready jobs of a class. -/
def State.readyOf (s : State) (c : Nat) : List Job := s.jobs.filter (fun j => j.phase == .ready && j.cls == c)

/-- Units of a class that wait for credits. -/
def State.queuedOf (s : State) (c : Nat) : Nat := (s.pwr.creditQueue.filter (fun u => (classCodes c).contains u)).length

/-- The first awake engine of a list of idle ones; a gated one before it asks for credits while more jobs are ready than units
wait. -/
def State.wake (s : State) (c : Nat) : List Nat → Place
  | [] => .waits
  | e :: es =>
    if !s.isGated e || creditCost e == 0 then .on e
    else if s.pwr.creditQueue.contains e then s.wake c es
    else if s.queuedOf c < (s.readyOf c).length then .credit e
    else s.wake c es

/-- Jobs of a class that are long and placed, or hold Thimble while they wait (R411). -/
def State.longPlaced (s : State) (c : Nat) : Nat :=
  (s.jobs.filter (fun j => j.cls == c && j.long &&
    (j.holds || (match j.phase with | .held .cards | .held .drain => true | _ => false)))).length

/-- Thimble starts composite jobs (R453, R469, R503): it runs, and no activation is in progress. -/
def State.thimbleStarts (s : State) : Bool :=
  !s.thm.restarting && !s.thm.halted && !s.thm.fenced && !s.thm.restricted && !s.svc.bootFailed && s.svc.activating.isNone && !s.svc.paused

/-- Tree Sequencer with the fewest jobs that can take the job, the lowest-numbered on a tie (R194). -/
def State.pickTree (s : State) (j : Job) : Option Nat :=
  let held (c : Nat) : List Job := s.jobs.filter (fun k => k.engine == c && k.holds)
  let can := (classCodes 2).filter (fun c => s.fence c == .none && decide ((held c).length < 8) &&
    !(treeLong j.opcode && (held c).any (fun k => treeLong k.opcode)))
  ((List.range 8).filterMap (fun n => can.find? (fun c => (held c).length == n))).head?

/-- Every instance of a class is fenced (R114). -/
def State.allFenced (s : State) (c : Nat) : Bool := (classCodes c).all (fun e => s.fence e != .none)

/-- Where a job of a class goes; a tree needs the Wringers too, and a chained job both its classes. A Darner is chosen later, by the public
key a job needs (R227). The mailbox takes no new request during an activation pause (R422). -/
def State.place (s : State) (j : Job) (masked : Bool) : Place :=
  let c := j.cls
  if c ≠ 6 ∧ (s.allFenced c ∨ (c = 2 ∧ s.allFenced 1) ∨ j.other.any (fun o => s.allFenced o.1)) then .fenced
  else if j.long ∧ longMaxOf c (s.classCfg c) ≤ s.longPlaced c then .waits
  else match c with
    | 0 | 4 => s.wake c ((classCodes c).filter (fun e => s.takes masked e && !s.busy e))
    | 1 | 5 =>
      let (lo, n) := classEngines c
      (match s.pickLane lo n (fun e => (!masked || !s.stalled e) && !s.pwr.creditQueue.contains e) with
        | some e => s.wake c [e]
        | none => .waits)
    | 2 => (s.pickTree j).elim .waits .on
    | 3 =>
      if j.opcode = 0x0301 ∧ !s.kgRoom then .waits
      else if (classCodes 3).any (fun e => s.takes masked e && !s.busy e) then .on 0x60 else .waits
    | 6 => if s.thimbleStarts then .on engThimble else .waits
    | 7 => .on engVault
    | 8 => .on engRandom
    | _ => if s.met.mailbox.length < s.mailboxDepth ∧ !s.svc.paused then .on engMailbox else .waits

/-! ## Step 5 (R106, check 10; R210, R313) -/

/-- How key resolution ends: the job goes on with its keys bound, it waits and holds no engine, or it has ended. -/
inductive Bind where
  | go (s : State)
  | waits (s : State)
  | ended (s : State)

/-- Gives the job what it is bound to, the loaded curves among it (R253); the instant is kept (R355). -/
def bound (id : Nat) (bs : List Bound) (index : Option Nat) (s : State) : State :=
  s.modJob id (fun j => { j with bound := bs, index := index, resolved := true, at10 := s.time.epoch, curves := s.thm.curves })

/-- A persistent key whose use lies above its reserved mark holds the job until a reservation commits (R313). -/
def reserveUses (id : Nat) (bs : List Bound) (s : State) : Bind :=
  if bs.any (fun b => s.overMark b.kt b.index) then .waits (s.modJob id (fun j => { j with phase := .held .useCommit })) else .go s

/-- Check 10: quorum, life-cycle state, every key in order, what the opcode adds, and for stateful signing the index. No use is
counted for a job that gets no index (R213). -/
def resolveJob (j : Job) (r : OpReq) (s : State) : Bind :=
  let stop (st : Nat) (s : State) : Bind := .ended (endNow j.id st engVault s)
  if j.resolved then .go s
  else if r.quorum && !s.quorumInForce then stop stQuorumRequired s
  else if s.analysisDenies r then stop stKeyPolicyDenied s
  else match resolveAll j.slice r.keys s with
    | (t, .inr st) => stop st t
    | (t, .inl bs) =>
      if r.deny ≠ 0 then stop r.deny t
      else if !lateFits j r then stop stLengthMismatch t
      else if j.opcode ≠ 0x0213 then reserveUses j.id bs (bound j.id bs none t)
      else
        let i := (bs.headD j.keyB).index
        match assignIndex i s with
        | (s, .exhausted) => stop stKeyStateExhausted s
        | (s, .fault) => stop stEngineFault s
        | (s, .waits) => .waits (s.modJob j.id (fun j => { j with phase := .held .indexCommit }))
        | (s, .index q) =>
          match resolveAll j.slice r.keys s with
          | (s, .inl bs) => reserveUses j.id bs (bound j.id bs (some q) s)
          | (s, .inr st) => stop st s

/-- The job's first DRBG request (R365, R367). -/
def drawFirst (j : Job) (n : Nat) (s : State) : Bind :=
  if n = 0 ∨ j.seed ≠ [] then .go s
  else .waits (requestDrbg j.id n (s.modJob j.id (fun j => { j with phase := .held .drbg })))

/-- Looks the lattice key of a job or task up in the Expanded Key Cache (R128, R130); a miss charges the expansion (R412). -/
def lookupJob (j : Job) (s : State) : Bind :=
  match j.bound with
  | b :: _ =>
    if j.cls = 0 ∧ b.fam = 1 ∧ j.opcode / 256 = 1 then
      match ekcLookup j.id j.slice b s with
      | (s, none) => .waits (s.modJob j.id (fun j => { j with phase := .held .cacheFill }))
      | (s, some res) =>
        let s := s.modJob j.id (fun j => { j with cacheRes := res })
        .go (if res = 0 then s else chargeMore j.id (latFactor b.alg (aOrder2 b.attr) (latExpand b.alg)) s)
    else .go s
  | [] => .go s

/-! ## Placement -/

/-- Staging space that jobs have reserved; the region holds 2 MiB (R26, R107; log 40). -/
def State.stagingUsed (s : State) : Nat := (s.jobs.map (·.staged)).foldl (· + ·) 0

/-- Space the outputs of a job take; a long unverified stream is not staged (R112). -/
def stagingOf (j : Job) (r : OpReq) : Nat :=
  let n := ((r.outs ++ r.late).map (·.2)).sum
  if j.uvs ∧ r.uvs ∧ 1048576 < n then 0 else n

/-- The job starts on an engine: its inputs are read, or have been read already. -/
def startOn (id code staged : Nat) (s : State) : State :=
  let s := ungate code (s.modJob id (fun j => { j with engine := code, staged := staged }))
  match s.job? id with
  | none => s
  | some j =>
    let s := if isLane code then joinLane code (.job id) s else s
    let s := if 0x64 ≤ code ∧ code < 0x68 then
        let s := joinTree (code - 0x64) s
        (classCodes 1).foldl (fun s w =>
          if s.isGated w && decide (s.held w ≠ 0) && !s.pwr.creditQueue.contains w then requestCredit w s else s) s
      else s
    let s := if code = engMailbox then { s with met.mailbox := s.met.mailbox ++ [(id, s.stampNow)] } else s
    let s := startSequencer id s
    sweepOld (beginRun id (if j.read then s.modJob id (fun j => { j with phase := .running }) else startReads id s))

/-- A session-opening job takes its context as it is dispatched (R180); the end it meets otherwise. -/
def openFirst (j : Job) (s : State) : Bind :=
  if (j.opcode = 0x0610 ∨ j.opcode = 0x0518) ∧ j.session.isNone then
    match allocCtx j s with
    | .inl s => .go s
    | .inr st => .ended (endNow j.id st engRing s)
  else .go s

/-- A job that needs a public key, or any other code-based job or task, goes to a Darner (R227 to R233). On a hit it takes the key
from the cache in place of a streamed one. -/
def startDarner (j : Job) (masked : Bool) (staged : Nat) (s : State) : Option State :=
  let idle := ((classCodes 3).filter (fun e => s.takes masked e && !s.busy e)).map (· - 0x60)
  let go (d res : Nat) (pk : Bytes) (s0 t : State) : Option State :=
    if s0.isGated (0x60 + d) then (if s0.pwr.creditQueue.contains (0x60 + d) then none else some (requestCredit (0x60 + d) s0))
    else
      let t := t.modJob j.id (fun j => { j with cacheRes := res })
      let b := j.keyB
      let t := if (isHqc b.alg ∨ j.opcode = 0x03F0) ∧ res ≠ 0 ∧ j.needsPk then chargeMore j.id (regenCycles b.alg (aOrder2 b.attr)) t else t
      let t := if j.needsPk ∧ res = 0 ∧ j.opcode ≠ 0x0313 then
          t.modJob j.id (fun j => { j with inputs := tput j.inputs [] 0 pk, descs := j.descs.filter (fun x => x.out || x.arg != 0) }) else t
      some (startOn j.id (0x60 + d) staged t)
  if j.needsPk then
    match placeDarner j j.keyB idle s with
    | (t, .on d res pk) => go d res pk s t
    | (_, .held) => some (s.modJob j.id (fun j => { j with phase := .held .cacheFill }))
    | (_, .waits) => none
  else match idle with
    | d :: _ => go d 3 [] s s
    | [] => none

/-- A session step reads its inputs while it holds no engine, and waits behind the earlier jobs of its session; then the
session checks apply, before any lane starts (R181, R182). -/
def stepFirst (j : Job) (s : State) : Option Bind :=
  if !isStep j.opcode then some (.go s)
  else if !j.read then
    match inputReads j with
    | [] => some (.waits (s.modJob j.id (fun j => { j with read := true })))
    | rs =>
      if !s.mayRequest j.slice then none
      else some (.waits (rs.foldl (fun s r => issueRead j.id j.slice (.input r.1 r.2.1) r.2.2.1 r.2.2.2 s)
        (s.modJob j.id (fun j => { j with phase := .preread }))))
  else if s.stepWaits j then none
  else match s.sessionCheck j with
    | 0 => some (.go s)
    | st => some (.ended (endNow j.id st engRing s))

/-- An earlier accepted session-opening job of the slice has not been dispatched yet (R180). -/
def State.openWaits (s : State) (j : Job) : Bool :=
  let opens (k : Job) : Bool := k.opcode == 0x0610 || k.opcode == 0x0518
  opens j && s.jobs.any (fun k => opens k && k.slice == j.slice && decide (k.id < j.id) && k.session.isNone &&
    (match k.phase with | .list | .ready | .preread | .held _ => true | _ => false))

/-- Takes on an engine task, or the next step of a job that the Scheduler chains: its keys are bound and its inputs read (R23, R35
step 7, R139). -/
def tryTask (t : Job) (s : State) : Option State :=
  match s.place t t.masked with
  | .waits => none
  | .fenced => some (endNow t.id stEngineFault engRing s)
  | .credit u => some (requestCredit u s)
  | .on code =>
    if t.cls = 3 then startDarner t t.masked t.staged s
    else if t.stage ≠ 0 then some (startOn t.id code t.staged s)
    else match lookupJob t s with
      | .waits t | .ended t => some t
      | .go s => some (startOn t.id code t.staged s)

/-- Takes a ready job on: placed, held, or ended; none where nothing can be done for it now. -/
def tryJob (id : Nat) (s : State) : Option State :=
  match s.job? id with
  | none => none
  | some j =>
    let r := (opReq s j).getD {}
    if j.parent.isSome || j.stage != 0 then tryTask j s else
    match stepFirst j s with
    | none => none
    | some (.waits t) | some (.ended t) => some t
    | some (.go s) =>
      match s.place j r.masked with
      | .waits => none
      | .fenced => some (endNow id stEngineFault engRing s)
      | .credit u => some (requestCredit u s)
      | .on code =>
        if s.openWaits j || (!j.resolved && !r.keys.isEmpty && s.stalled engVault) then none
        else match resolveJob j r s with
          | .waits t | .ended t => some t
          | .go s =>
            let was := j.resolved
            let j := (s.job? id).getD j
            match drawFirst j r.drbg s with
            | .waits t | .ended t => some t
            | .go s =>
              if 2097152 < s.stagingUsed + stagingOf j r ∨ (!j.read ∧ inputReads j ≠ [] ∧ !s.mayRequest j.slice) then
                (if was then none else some s)
              else if j.cls = 3 then startDarner j r.masked (stagingOf j r) s
              else match openFirst j s with
                | .waits t | .ended t => some t
                | .go s =>
                  match lookupJob ((s.job? id).getD j) s with
                  | .waits t | .ended t => some t
                  | .go s => some (startOn id code (stagingOf j r) s)

/-! ## Order (R417) -/

/-- The deadline that orders a job; the job's own orders its engine tasks (R412). -/
def State.orderBy (s : State) (j : Job) : Option (BitVec 32) :=
  match j.parent with
  | some p => (s.job? p).bind s.effDeadline
  | none => s.effDeadline j

/-- A job's deadline is before another's; one without a deadline comes last, and the first accepted wins a tie. -/
def State.before (s : State) (a b : Job) : Bool :=
  match s.orderBy a, s.orderBy b with
  | some x, some y => if x = y then decide (a.id ≤ b.id) else tickAfter y x
  | some _, none => true
  | none, some _ => false
  | none, none => decide (a.id ≤ b.id)

/-- Puts a job at its place by deadline. -/
def State.insertJob (s : State) (j : Job) : List Job → List Job
  | [] => [j]
  | k :: ks => if s.before j k then j :: k :: ks else k :: s.insertJob j ks

def State.byDeadline (s : State) (l : List Job) : List Job := l.foldr (fun j acc => s.insertJob j acc) []

/-- The ready jobs of a class in the order in which the Scheduler looks at them. -/
def State.queueOf (s : State) (c : Nat) : List Job :=
  let l := s.readyOf c
  let best := l.filter (fun j => !j.conforming && !j.long)
  let start := tget s.sched.rr 0 c
  s.byDeadline (l.filter (·.conforming)) ++
  ((List.range 256).filterMap (fun k => (s.byDeadline (best.filter (fun j => j.slice == (start + k) % 256))).head?)) ++
  l.filter (fun j => j.long)

/-- The first job of a list that can be taken on. -/
def dispatchFirst (c : Nat) : List Job → State → State
  | [], s => s
  | j :: js, s =>
    match tryJob j.id s with
    | some t => if !j.conforming && !j.long then { t with sched.rr := tput t.sched.rr 0 c ((j.slice + 1) % 256) } else t
    | none => dispatchFirst c js s

/-- JOB_DISPATCH: the Scheduler places one job of a class. -/
def jobDispatchDo (cls : BitVec 4) (s : State) : State :=
  if s.pwr.inReset ∨ s.tmp.rinse then s else dispatchFirst cls.toNat (s.queueOf cls.toNat) s

/-! ## The end of a job (R108, R113, R114, R527) -/

/-- Efficiency class of what a job or task computes (R40, R527): an FN-DSA signature counts once, with the Needles; the Needle's part of
an expansion is no operation of its own. -/
def effClass (j : Job) : Option Nat :=
  if j.opcode = 0x0122 then some 4
  else if j.cls = 4 ∧ j.opcode = 0x0121 then none
  else match j.cls with
    | 0 => some 0 | 1 | 2 => some 1 | 3 => some 2 | 5 => some 3 | 4 => some 4 | _ => none

/-- An operation of an efficiency class has completed: counted in the running window. -/
def countEff (j : Job) (s : State) : State :=
  match effClass j with
  | some k => { s with pwr.eff := tmod s.pwr.eff {} k (fun e => { e with
      runOps := e.runOps + 1, runNops := e.runNops + Config.nOp j.opcode (j.pb 0) }) }
  | none => s

/-- An engine task has computed (R35, R115): it leaves its engine and the device; one that a Needle's END gave a status other than
SUCCESS fails, and the engine is wiped. -/
def taskComplete (t : Job) (p : Nat) (s : State) : State :=
  if t.phase = .decided ∧ t.status ≠ stSuccess then endWiping t.id t.status s
  else if t.phase = .decided ∨ (t.phase = .running ∧ !s.suspended t) then
    endTaskOf t p (leaveEngine t (countEff t (s.modJob t.id (fun t => { t with phase := .release }))))
  else s

/-- ENGINE_COMPUTATION_COMPLETE: with SUCCESS the engine is left and the outputs are released; otherwise the engine is wiped first.
The Key Vault, the Random Unit and the mailbox hold no job memory. An engine task ends with it too. -/
def engineComputationCompleteDo (job : Nat) (s : State) : State :=
  match s.job? job with
  | some j =>
    match j.parent with
    | some p => servePatRead (taskComplete j p s)
    | none =>
      if j.phase ≠ .decided then s
      else
        let s := countEff j s
        if j.status = stSuccess then servePatRead (release job (leaveEngine j (s.modJob job (fun j => { j with phase := .release }))))
        else if j.cls < 7 then s.modJob job (fun j => { j with phase := .wiping })
        else complete job s
  | none => s

/-- SAFE_POINT_STOP. On a Mangle the last word executed was a safe point, and the sequencer halts there (R164). -/
def safePointStopDo (job : Nat) (s : State) : State :=
  match s.job? job with
  | some j =>
    if j.engine < 0x20 ∧ j.stoppable then
      if (s.mangle j.engine).sinceSafe = 0 ∧ j.stop.isSome then safePoint job (s.modMangle j.engine (fun m => { m with halted := true })) else s
    else safePoint job s
  | none => s

/-- ENGINE_WIPE_COMPLETE: a Needle that a job has left with SUCCESS takes work again (R249); or the completion of a failed job is
posted, once the engines of its tasks are wiped too (R113). After RINSE it waits for the SRAM clear (R442). -/
def engineWipeCompleteDo (job : Nat) (s : State) : State :=
  if s.tmp.rinse then s
  else match s.eng.wipes.find? (fun w => w.2 == job) with
    | some w => { s with eng.wipes := s.eng.wipes.erase w }
    | none => match s.job? job with
      | some j => if j.phase = .wiping ∧ !s.tasksLeft job then servePatRead (complete job (clearEngine j.engine s)) else s
      | none => s

/-! ## The meanings of the commands -/

/-- JOB_DISPATCH (R417). -/
def execJobDispatch (cls : BitVec 4) (s : State) : Host.Outcome State Fault Refusal := .next (jobDispatchDo cls s)
/-- ENGINE_COMPUTATION_COMPLETE (R108). -/
def execEngineComputationComplete (job : Nat) (s : State) : Host.Outcome State Fault Refusal := .next (engineComputationCompleteDo job s)
/-- SAFE_POINT_STOP (R114). -/
def execSafePointStop (job : Nat) (s : State) : Host.Outcome State Fault Refusal := .next (safePointStopDo job s)
/-- ENGINE_WIPE_COMPLETE (R113). -/
def execEngineWipeComplete (job : Nat) (s : State) : Host.Outcome State Fault Refusal := .next (engineWipeCompleteDo job s)

end Sys2Proof.Machine
end

