-- ==== Sys2Proof/Machine/Needles.lean ====
section
/-! DEFINITION. What the instructions of a Needle share: registers, local memory, control transfers, frames, exceptions
(11_stitch_isa.md, R274 to R288). -/
namespace Sys2Proof.Machine

/-- Exceptions of a Needle that its own instructions raise (R288). -/
inductive Trap where
  | illegal | align | access | frame
deriving DecidableEq, Repr

/-- What an instruction makes of a Needle: its new state, or an exception with no other effect. -/
abbrev NRes := Except Trap Needle

/-! ## Registers (R274, R275) -/

/-- x[r]; x0 reads zero. -/
def Needle.gx (n : Needle) (r : BitVec 5) : BitVec 64 := if r = 0 then 0 else tget n.x 0 r.toNat

/-- Writes x[r]; x0 ignores the write. -/
def Needle.px (n : Needle) (r : BitVec 5) (v : BitVec 64) : Needle := if r = 0 then n else { n with x := tput n.x 0 r.toNat v }

def Needle.gv (n : Needle) (r : BitVec 5) : BitVec 2048 := tget n.v 0 r.toNat
def Needle.pv (n : Needle) (r : BitVec 5) (v : BitVec 2048) : Needle := { n with v := tput n.v 0 r.toNat v }

/-- f[r] is bits 63:0 of v[r]. -/
def Needle.gf (n : Needle) (r : BitVec 5) : BitVec 64 := fld (n.gv r) 0 64

/-- Writes f[r], the other bits of v[r] as they were. -/
def Needle.pf (n : Needle) (r : BitVec 5) (v : BitVec 64) : Needle := n.pv r (((n.gv r >>> 64) <<< 64) ||| v.zeroExtend 2048)

/-- Sticky flags (R290). -/
def Needle.raise (n : Needle) (fl : BitVec 5) : Needle := { n with fflags := n.fflags ||| fl }

/-- The next instruction in order. -/
def Needle.next (n : Needle) : Needle := { n with pc := n.pc + 4 }

/-! ## Data space (R278, R279) -/

/-- A byte of the data space. -/
def Needle.byte (n : Needle) (a : Nat) : Byte := if a < 0x40000 then tget n.mem 0 a else tget n.window 0 (a - 0x40000)

/-- `k` bytes of the data space. -/
def Needle.bytes (n : Needle) (a k : Nat) : Bytes := (List.range k).map (fun i => n.byte (a + i))

/-- `k` bytes as a little-endian number. -/
def Needle.load (n : Needle) (a k : Nat) : Nat := ofLE (n.bytes a k)

/-- Writes bytes to a memory from address `a` on. -/
def writeBytes (m : List Host.Cell) (a : Nat) : Bytes → List Host.Cell
  | [] => m
  | b :: bs => writeBytes (tput m 0 a b) (a + 1) bs

def Needle.storeBytes (n : Needle) (a : Nat) (bs : Bytes) : Needle := { n with mem := writeBytes n.mem a bs }
def Needle.store (n : Needle) (a k v : Nat) : Needle := n.storeBytes a (leBytes k v)

/-- The memory form: addresses rising, no zero byte listed. -/
def Memory.wf (m : List Host.Cell) : Bool := twf m 0

/-- The exception of an access of `k` bytes, aligned to `al`, at an address; a store reaches local memory only. -/
def accessTrap (write : Bool) (a : BitVec 64) (k al : Nat) : Option Trap :=
  if a.toNat % al ≠ 0 then some .align
  else if (if write then 0x40000 else 0x41000) < a.toNat + k then some .access
  else none

/-- Address of a scalar access (R281). -/
def Needle.ea (n : Needle) (rs1 : BitVec 5) (imm : BitVec 16) : BitVec 64 := n.gx rs1 + imm.signExtend 64

/-- A scalar load of `k` bytes that goes on with the number read. -/
def Needle.loadThen (n : Needle) (rs1 : BitVec 5) (imm : BitVec 16) (k : Nat) (f : Nat → Needle) : NRes :=
  match accessTrap false (n.ea rs1 imm) k k with
  | some t => .error t
  | none => .ok (f (n.load (n.ea rs1 imm).toNat k)).next

/-- A scalar store of the low `k` bytes of a value. -/
def Needle.storeReg (n : Needle) (rs1 : BitVec 5) (imm : BitVec 16) (k : Nat) (v : BitVec 64) : NRes :=
  match accessTrap true (n.ea rs1 imm) k k with
  | some t => .error t
  | none => .ok (n.store (n.ea rs1 imm).toNat k v.toNat).next

/-! ## Control transfers and frames (R277, R280, R286) -/

/-- The exception of a transfer to a code address; the segment is the whole 1 MiB (log 41). -/
def targetTrap (t : BitVec 64) : Option Trap :=
  if t.toNat % 4 ≠ 0 then some .align else if 0x100000 ≤ t.toNat then some .access else none

/-- Goes to a code address. -/
def Needle.jump (n : Needle) (t : BitVec 64) : NRes :=
  match targetTrap t with
  | some e => .error e
  | none => .ok { n with pc := t }

/-- Registers of a mask, in ascending order. -/
def maskRegs (mask : BitVec 16) : List Nat := (List.range 16).filter (fun i => mask.getLsbD i) |>.map (· + 8)

/-- Size of a frame in bytes. -/
def frameSize (mask : BitVec 16) : Nat := (16 + 8 * (maskRegs mask).length + 15) / 16 * 16

/-- The header of a frame. -/
def frameHeader (mask : BitVec 16) : BitVec 64 :=
  let lo := BitVec.ofNat 32 (mask.toNat + frameSize mask / 16 * 2 ^ 16)
  (~~~lo) ++ lo

/-- The bytes of a frame: return address, header, registers, padding. -/
def Needle.frameBytes (n : Needle) (mask : BitVec 16) : Bytes :=
  fit (frameSize mask) (leBytes 8 (n.pc + 4).toNat ++ leBytes 8 (frameHeader mask).toNat ++
    ((maskRegs mask).map (fun r => leBytes 8 (n.gx (BitVec.ofNat 5 r)).toNat)).flatten)

/-- Builds a frame and goes to the target; an exception leaves everything as it was. -/
def Needle.call (n : Needle) (target : BitVec 64) (mask : BitVec 16) : NRes :=
  let top := (n.gx 31).toNat
  let size := frameSize mask
  match targetTrap target with
  | some e => .error e
  | none =>
    if top % 16 ≠ 0 then .error .align
    else if 0x40000 < top ∨ top < size then .error .access
    else .ok { (n.storeBytes (top - size) (n.frameBytes mask)).px 31 (BitVec.ofNat 64 (top - size)) with pc := target }

/-- Restores the registers of a mask from consecutive words. -/
def Needle.restore (n : Needle) (a : Nat) : List Nat → Needle
  | [] => n
  | r :: rs => (n.px (BitVec.ofNat 5 r) (BitVec.ofNat 64 (n.load a 8))).restore (a + 8) rs

/-- Checks the frame at x31, restores from it and returns. -/
def Needle.ret (n : Needle) : NRes :=
  let sp := n.gx 31
  if sp.toNat % 16 ≠ 0 then .error .align
  else match accessTrap false sp 16 8 with
  | some e => .error e
  | none =>
    let h := BitVec.ofNat 64 (n.load (sp.toNat + 8) 8)
    let mask := fld h 0 16
    if h ≠ frameHeader mask then .error .frame
    else match accessTrap false sp (frameSize mask) 8, targetTrap (BitVec.ofNat 64 (n.load sp.toNat 8)) with
      | some e, _ => .error e
      | none, some e => .error e
      | none, none =>
        .ok { (n.restore (sp.toNat + 16) (maskRegs mask)).px 31 (BitVec.ofNat 64 (sp.toNat + frameSize mask)) with
          pc := BitVec.ofNat 64 (n.load sp.toNat 8) }

/-! ## Execution -/

/-- The task that a Needle runs. -/
def State.task (s : State) (k : Nat) : Option Job :=
  if (s.needle k).running then s.jobs.find? (fun j => j.engine == engNeedle k && j.phase == .running) else none

/-- An exception: the task ends with ENGINE_FAULT after the wipe, the event is recorded, the Needle stays in service (R288). -/
def needleTrap (k : Nat) (j : Job) (s : State) : State :=
  raiseEvent 0x10 (engNeedle k) (.engine (engNeedle k)) .own (s.modNeedle k (fun _ => {})
    |> endWiping j.id stEngineFault)

/-- Puts an instruction's outcome into effect; a trace halt ends as the instruction executes (R289). -/
def settle (k : Nat) (j : Job) (s : State) : NRes → State
  | .ok n => s.modNeedle k (fun _ => { n with halted := false })
  | .error _ => needleTrap k j s

/-- An instruction of a Needle: it acts where the Needle runs a task; one fetched from outside the segment raises ACCESS (R277). -/
def onNeedle (k : BitVec 5) (f : Job → Needle → State → State) (s : State) : State :=
  match s.task k.toNat with
  | none => s
  | some j => if 0x100000 ≤ (s.needle k.toNat).pc.toNat then needleTrap k.toNat j s else f j (s.needle k.toNat) s

/-- An instruction that changes its Needle alone. -/
def stitch (k : BitVec 5) (f : Needle → NRes) (s : State) : State :=
  onNeedle k (fun j n s => settle k.toNat j s (f n)) s

/-- Goes on only where the fields that the member does not use are zero (R281). -/
def unused {w : Nat} (fields : List (BitVec w)) (r : NRes) : NRes := if fields.all (· == 0) then r else .error .illegal

/-- The instruction completes in order with this state. -/
def go (n : Needle) : NRes := .ok n.next

end Sys2Proof.Machine
end

