-- ==== Sys2Proof/Machine/Bolt.lean ====
section
/-! DEFINITION. The vector instructions of a Needle (11_stitch_isa.md, R275, R292 to R298; 22_power_clock_reset.md, R524). -/
namespace Sys2Proof.Machine

/-! ## Elements -/

/-- Element `i` of a register of `ew`-bit elements. -/
def elem (v : BitVec 2048) (ew i : Nat) : Nat := v.toNat / 2 ^ (ew * i) % 2 ^ ew

/-- Elements put together, element 0 lowest. -/
def ofElems (ew : Nat) : List Nat → Nat
  | [] => 0
  | e :: es => e % 2 ^ ew + 2 ^ ew * ofElems ew es

/-- An element as a signed number. -/
def signedElem (ew v : Nat) : Int := if 2 ^ (ew - 1) ≤ v then (v : Int) - 2 ^ ew else v

/-- Element `i` is active (R293). -/
def Needle.active (n : Needle) (m : Bool) (i : Nat) : Bool := !m || (n.gv 0).getLsbD i

/-- The active elements, ascending. -/
def Needle.actives (n : Needle) (m : Bool) : List Nat := (List.range n.vl).filter (n.active m)

/-- Writes a register of `w`-bit elements: active elements from `f`, the others below VL as they were, zero above (R293). -/
def Needle.fill (n : Needle) (w : Nat) (m : Bool) (vd : BitVec 5) (f : Nat → Nat) : Needle :=
  if n.vl = 0 then n
  else n.pv vd (BitVec.ofNat 2048 (ofElems w ((List.range n.vl).map (fun i => if n.active m i then f i else elem (n.gv vd) w i))))

/-! ## Execution -/

/-- A Bolt instruction: the first one of a task asks for the credits of the vector unit and waits until they are granted (R524). -/
def bolt (k : BitVec 5) (f : Needle → NRes) (s : State) : State :=
  onNeedle k (fun j n s =>
    if n.bolt || s.pwr.gateIdle == 0 then settle k.toNat j s (f n)
    else if s.pwr.creditQueue.contains (0x80 + k.toNat) then s
    else
      let t := requestCredit (0x80 + k.toNat) s
      if (t.needle k.toNat).bolt then settle k.toNat j t (f (t.needle k.toNat)) else t) s

/-- An element-wise instruction on two registers. -/
def vecOp (k : BitVec 5) (m : Bool) (vd vs1 vs2 : BitVec 5) (f : Nat → Nat → Nat → Nat) (s : State) : State :=
  bolt k (fun n => go (n.fill n.ew m vd (fun i => f n.ew (elem (n.gv vs1) n.ew i) (elem (n.gv vs2) n.ew i)))) s

/-- A comparison into bits. -/
def vecCmp (k : BitVec 5) (m : Bool) (vd vs1 vs2 : BitVec 5) (f : Nat → Nat → Nat → Bool) (s : State) : State :=
  bolt k (fun n => go (n.fill 1 m vd (fun i => flag (f n.ew (elem (n.gv vs1) n.ew i) (elem (n.gv vs2) n.ew i))))) s

/-- A binary64 instruction on elements; the flags are ORed over the active elements (R294). -/
def vecFp (n : Needle) (m : Bool) (vd : BitVec 5) (f : Nat → FRes) : NRes :=
  if n.ew ≠ 64 then .error .illegal
  else go ((n.fill 64 m vd (fun i => (f i).val.toNat)).raise ((n.actives m).foldl (fun a i => a ||| (f i).flags) 0))

/-- Element `i` as a binary64 datum. -/
def Needle.fe (n : Needle) (v : BitVec 5) (i : Nat) : BitVec 64 := BitVec.ofNat 64 (elem (n.gv v) 64 i)

/-- A binary64 instruction on two registers. -/
def vecFp2 (k : BitVec 5) (m : Bool) (vd vs1 vs2 : BitVec 5) (f : BitVec 3 → BitVec 64 → BitVec 64 → FRes) (s : State) : State :=
  bolt k (fun n => vecFp n m vd (fun i => f n.rm (n.fe vs1 i) (n.fe vs2 i))) s

/-- A binary64 instruction on one register. -/
def vecFp1 (k : BitVec 5) (m : Bool) (vd vs1 vs2 : BitVec 5) (f : BitVec 3 → BitVec 64 → FRes) (s : State) : State :=
  bolt k (fun n => unused [vs2] (vecFp n m vd (fun i => f n.rm (n.fe vs1 i)))) s

/-! ## Memory (R294, R296, R297) -/

/-- Addresses of contiguous, strided and indexed elements. -/
def Needle.contig (n : Needle) (vs1 : BitVec 5) (i : Nat) : BitVec 64 := n.gx vs1 + BitVec.ofNat 64 (i * (n.ew / 8))
def Needle.strided (n : Needle) (vs1 vs2 : BitVec 5) (i : Nat) : BitVec 64 := n.gx vs1 + BitVec.ofNat 64 i * n.gx vs2
def Needle.indexed (n : Needle) (vs1 vs2 : BitVec 5) (i : Nat) : BitVec 64 :=
  n.gx vs1 + BitVec.ofNat 64 (elem (n.gv vs2) n.ew i * (n.ew / 8))

/-- The exception that the address of some active element raises, checked before any element is accessed (R296). -/
def Needle.vecTrap (n : Needle) (write m : Bool) (addr : Nat → BitVec 64) : Option Trap :=
  (n.actives m).findSome? (fun i => accessTrap write (addr i) (n.ew / 8) (n.ew / 8))

/-- A vector load. -/
def Needle.vload (n : Needle) (m : Bool) (vd : BitVec 5) (addr : Nat → BitVec 64) : NRes :=
  match n.vecTrap false m addr with
  | some t => .error t
  | none => go (n.fill n.ew m vd (fun i => n.load (addr i).toNat (n.ew / 8)))

/-- A vector store, in ascending order of elements. -/
def Needle.vstore (n : Needle) (m : Bool) (vd : BitVec 5) (addr : Nat → BitVec 64) : NRes :=
  match n.vecTrap true m addr with
  | some t => .error t
  | none => go ((n.actives m).foldl (fun t i => t.store (addr i).toNat (n.ew / 8) (elem (n.gv vd) n.ew i)) n)

/-! ## The instructions -/

/-- VSETVL (R292). -/
def vsetvlDo (k : BitVec 5) (m : Bool) (vd vs1 vs2 : BitVec 5) (s : State) : State :=
  bolt k (fun n =>
    let ew := 8 * 2 ^ (fld vs2 0 2).toNat
    let vl := min (n.gx vs1).toNat (2048 / ew)
    if m || decide (3 < vs2.toNat) then .error .illegal
    else go { n.px vd (BitVec.ofNat 64 vl) with ew := ew, vl := vl }) s

def vaddDo (k : BitVec 5) (m : Bool) (vd vs1 vs2 : BitVec 5) (s : State) : State := vecOp k m vd vs1 vs2 (fun _ a b => a + b) s
def vsubDo (k : BitVec 5) (m : Bool) (vd vs1 vs2 : BitVec 5) (s : State) : State := vecOp k m vd vs1 vs2 (fun w a b => a + 2 ^ w - b) s
def vandDo (k : BitVec 5) (m : Bool) (vd vs1 vs2 : BitVec 5) (s : State) : State := vecOp k m vd vs1 vs2 (fun _ a b => a &&& b) s
def vorDo (k : BitVec 5) (m : Bool) (vd vs1 vs2 : BitVec 5) (s : State) : State := vecOp k m vd vs1 vs2 (fun _ a b => a ||| b) s
def vxorDo (k : BitVec 5) (m : Bool) (vd vs1 vs2 : BitVec 5) (s : State) : State := vecOp k m vd vs1 vs2 (fun _ a b => a ^^^ b) s
def vmulDo (k : BitVec 5) (m : Bool) (vd vs1 vs2 : BitVec 5) (s : State) : State := vecOp k m vd vs1 vs2 (fun _ a b => a * b) s
def vmulhuDo (k : BitVec 5) (m : Bool) (vd vs1 vs2 : BitVec 5) (s : State) : State := vecOp k m vd vs1 vs2 (fun w a b => a * b / 2 ^ w) s
def vsllDo (k : BitVec 5) (m : Bool) (vd vs1 vs2 : BitVec 5) (s : State) : State := vecOp k m vd vs1 vs2 (fun w a b => a * 2 ^ (b % w)) s
def vsrlDo (k : BitVec 5) (m : Bool) (vd vs1 vs2 : BitVec 5) (s : State) : State := vecOp k m vd vs1 vs2 (fun w a b => a / 2 ^ (b % w)) s
def vsraDo (k : BitVec 5) (m : Bool) (vd vs1 vs2 : BitVec 5) (s : State) : State :=
  vecOp k m vd vs1 vs2 (fun w a b => (signedElem w a / 2 ^ (b % w) % 2 ^ w).toNat) s
def vminDo (k : BitVec 5) (m : Bool) (vd vs1 vs2 : BitVec 5) (s : State) : State :=
  vecOp k m vd vs1 vs2 (fun w a b => if signedElem w a ≤ signedElem w b then a else b) s
def vmaxDo (k : BitVec 5) (m : Bool) (vd vs1 vs2 : BitVec 5) (s : State) : State :=
  vecOp k m vd vs1 vs2 (fun w a b => if signedElem w a ≤ signedElem w b then b else a) s
def vminuDo (k : BitVec 5) (m : Bool) (vd vs1 vs2 : BitVec 5) (s : State) : State := vecOp k m vd vs1 vs2 (fun _ a b => min a b) s
def vmaxuDo (k : BitVec 5) (m : Bool) (vd vs1 vs2 : BitVec 5) (s : State) : State := vecOp k m vd vs1 vs2 (fun _ a b => max a b) s
def vcmpEqDo (k : BitVec 5) (m : Bool) (vd vs1 vs2 : BitVec 5) (s : State) : State := vecCmp k m vd vs1 vs2 (fun _ a b => a == b) s
def vcmpLtDo (k : BitVec 5) (m : Bool) (vd vs1 vs2 : BitVec 5) (s : State) : State :=
  vecCmp k m vd vs1 vs2 (fun w a b => decide (signedElem w a < signedElem w b)) s
def vcmpLtuDo (k : BitVec 5) (m : Bool) (vd vs1 vs2 : BitVec 5) (s : State) : State := vecCmp k m vd vs1 vs2 (fun _ a b => decide (a < b)) s

/-- VBCAST. -/
def vbcastDo (k : BitVec 5) (m : Bool) (vd vs1 vs2 : BitVec 5) (s : State) : State :=
  bolt k (fun n => unused [vs2] (go (n.fill n.ew m vd (fun _ => (n.gx vs1).toNat)))) s

/-- VEXT; it has no element to mask, so m is a field it does not use (log 42). -/
def vextDo (k : BitVec 5) (m : Bool) (vd vs1 vs2 : BitVec 5) (s : State) : State :=
  bolt k (fun n =>
    if m then .error .illegal
    else if n.vl = 0 then go n
    else go (n.px vd (if (n.gx vs2).toNat < n.vl then BitVec.ofNat 64 (elem (n.gv vs1) n.ew (n.gx vs2).toNat) else 0))) s

/-- VRED.ADD: element 0 gets the sum, the other elements below VL stay (log 42). -/
def vredAddDo (k : BitVec 5) (m : Bool) (vd vs1 vs2 : BitVec 5) (s : State) : State :=
  bolt k (fun n =>
    let sum := ((n.actives m).map (elem (n.gv vs1) n.ew)).foldl (· + ·) 0
    unused [vs2] (go (n.fill n.ew false vd (fun i => if i = 0 then sum else elem (n.gv vd) n.ew i)))) s

/-- VSAD (R298). -/
def vsadDo (k : BitVec 5) (m sg : Bool) (vd vs1 vs2 : BitVec 5) (s : State) : State :=
  bolt k (fun n =>
    let val (v : BitVec 5) (i : Nat) : Int := let e := elem (n.gv v) n.ew i; if sg then signedElem n.ew e else e
    let sum := ((n.actives m).map (fun i => (val vs1 i - val vs2 i).natAbs)).foldl (· + ·) 0
    go (n.px vd (BitVec.ofNat 64 (min sum (2 ^ 64 - 1))))) s

def vfaddDo (k : BitVec 5) (m : Bool) (vd vs1 vs2 : BitVec 5) (s : State) : State := vecFp2 k m vd vs1 vs2 fadd s
def vfsubDo (k : BitVec 5) (m : Bool) (vd vs1 vs2 : BitVec 5) (s : State) : State := vecFp2 k m vd vs1 vs2 fsub s
def vfmulDo (k : BitVec 5) (m : Bool) (vd vs1 vs2 : BitVec 5) (s : State) : State := vecFp2 k m vd vs1 vs2 fmul s
def vfmaDo (k : BitVec 5) (m : Bool) (vd vs1 vs2 : BitVec 5) (s : State) : State :=
  bolt k (fun n => vecFp n m vd (fun i => fma n.rm (n.fe vs1 i) (n.fe vs2 i) (n.fe vd i))) s
def vfdivDo (k : BitVec 5) (m : Bool) (vd vs1 vs2 : BitVec 5) (s : State) : State := vecFp2 k m vd vs1 vs2 fdiv s
def vfsqrtDo (k : BitVec 5) (m : Bool) (vd vs1 vs2 : BitVec 5) (s : State) : State := vecFp1 k m vd vs1 vs2 fsqrt s
def vfcvtDLDo (k : BitVec 5) (m : Bool) (vd vs1 vs2 : BitVec 5) (s : State) : State := vecFp1 k m vd vs1 vs2 fcvtDL s
def vfcvtLDDo (k : BitVec 5) (m : Bool) (vd vs1 vs2 : BitVec 5) (s : State) : State := vecFp1 k m vd vs1 vs2 fcvtLD s

def vldDo (k : BitVec 5) (m : Bool) (vd vs1 vs2 : BitVec 5) (s : State) : State :=
  bolt k (fun n => unused [vs2] (n.vload m vd (n.contig vs1))) s
def vldsDo (k : BitVec 5) (m : Bool) (vd vs1 vs2 : BitVec 5) (s : State) : State := bolt k (fun n => n.vload m vd (n.strided vs1 vs2)) s
def vgatherDo (k : BitVec 5) (m : Bool) (vd vs1 vs2 : BitVec 5) (s : State) : State := bolt k (fun n => n.vload m vd (n.indexed vs1 vs2)) s
def vstDo (k : BitVec 5) (m : Bool) (vd vs1 vs2 : BitVec 5) (s : State) : State :=
  bolt k (fun n => unused [vs2] (n.vstore m vd (n.contig vs1))) s
def vstsDo (k : BitVec 5) (m : Bool) (vd vs1 vs2 : BitVec 5) (s : State) : State := bolt k (fun n => n.vstore m vd (n.strided vs1 vs2)) s
def vscatterDo (k : BitVec 5) (m : Bool) (vd vs1 vs2 : BitVec 5) (s : State) : State := bolt k (fun n => n.vstore m vd (n.indexed vs1 vs2)) s

/-! ## The meanings of the commands -/

/-- VSETVL (R292). -/
def execVsetvl (needle : BitVec 5) (m : Bool) (vd : BitVec 5) (vs1 : BitVec 5) (vs2 : BitVec 5) (s : State) : Host.Outcome State Fault Refusal := .next (vsetvlDo needle m vd vs1 vs2 s)
/-- VADD (R294). -/
def execVadd (needle : BitVec 5) (m : Bool) (vd : BitVec 5) (vs1 : BitVec 5) (vs2 : BitVec 5) (s : State) : Host.Outcome State Fault Refusal := .next (vaddDo needle m vd vs1 vs2 s)
/-- VSUB (R294). -/
def execVsub (needle : BitVec 5) (m : Bool) (vd : BitVec 5) (vs1 : BitVec 5) (vs2 : BitVec 5) (s : State) : Host.Outcome State Fault Refusal := .next (vsubDo needle m vd vs1 vs2 s)
/-- VAND (R294). -/
def execVand (needle : BitVec 5) (m : Bool) (vd : BitVec 5) (vs1 : BitVec 5) (vs2 : BitVec 5) (s : State) : Host.Outcome State Fault Refusal := .next (vandDo needle m vd vs1 vs2 s)
/-- VOR (R294). -/
def execVor (needle : BitVec 5) (m : Bool) (vd : BitVec 5) (vs1 : BitVec 5) (vs2 : BitVec 5) (s : State) : Host.Outcome State Fault Refusal := .next (vorDo needle m vd vs1 vs2 s)
/-- VXOR (R294). -/
def execVxor (needle : BitVec 5) (m : Bool) (vd : BitVec 5) (vs1 : BitVec 5) (vs2 : BitVec 5) (s : State) : Host.Outcome State Fault Refusal := .next (vxorDo needle m vd vs1 vs2 s)
/-- VMUL (R294). -/
def execVmul (needle : BitVec 5) (m : Bool) (vd : BitVec 5) (vs1 : BitVec 5) (vs2 : BitVec 5) (s : State) : Host.Outcome State Fault Refusal := .next (vmulDo needle m vd vs1 vs2 s)
/-- VMULHU (R294). -/
def execVmulhu (needle : BitVec 5) (m : Bool) (vd : BitVec 5) (vs1 : BitVec 5) (vs2 : BitVec 5) (s : State) : Host.Outcome State Fault Refusal := .next (vmulhuDo needle m vd vs1 vs2 s)
/-- VSLL (R294). -/
def execVsll (needle : BitVec 5) (m : Bool) (vd : BitVec 5) (vs1 : BitVec 5) (vs2 : BitVec 5) (s : State) : Host.Outcome State Fault Refusal := .next (vsllDo needle m vd vs1 vs2 s)
/-- VSRL (R294). -/
def execVsrl (needle : BitVec 5) (m : Bool) (vd : BitVec 5) (vs1 : BitVec 5) (vs2 : BitVec 5) (s : State) : Host.Outcome State Fault Refusal := .next (vsrlDo needle m vd vs1 vs2 s)
/-- VSRA (R294). -/
def execVsra (needle : BitVec 5) (m : Bool) (vd : BitVec 5) (vs1 : BitVec 5) (vs2 : BitVec 5) (s : State) : Host.Outcome State Fault Refusal := .next (vsraDo needle m vd vs1 vs2 s)
/-- VMIN (R294). -/
def execVmin (needle : BitVec 5) (m : Bool) (vd : BitVec 5) (vs1 : BitVec 5) (vs2 : BitVec 5) (s : State) : Host.Outcome State Fault Refusal := .next (vminDo needle m vd vs1 vs2 s)
/-- VMAX (R294). -/
def execVmax (needle : BitVec 5) (m : Bool) (vd : BitVec 5) (vs1 : BitVec 5) (vs2 : BitVec 5) (s : State) : Host.Outcome State Fault Refusal := .next (vmaxDo needle m vd vs1 vs2 s)
/-- VMINU (R294). -/
def execVminu (needle : BitVec 5) (m : Bool) (vd : BitVec 5) (vs1 : BitVec 5) (vs2 : BitVec 5) (s : State) : Host.Outcome State Fault Refusal := .next (vminuDo needle m vd vs1 vs2 s)
/-- VMAXU (R294). -/
def execVmaxu (needle : BitVec 5) (m : Bool) (vd : BitVec 5) (vs1 : BitVec 5) (vs2 : BitVec 5) (s : State) : Host.Outcome State Fault Refusal := .next (vmaxuDo needle m vd vs1 vs2 s)
/-- VCMP_EQ (R294). -/
def execVcmpEq (needle : BitVec 5) (m : Bool) (vd : BitVec 5) (vs1 : BitVec 5) (vs2 : BitVec 5) (s : State) : Host.Outcome State Fault Refusal := .next (vcmpEqDo needle m vd vs1 vs2 s)
/-- VCMP_LT (R294). -/
def execVcmpLt (needle : BitVec 5) (m : Bool) (vd : BitVec 5) (vs1 : BitVec 5) (vs2 : BitVec 5) (s : State) : Host.Outcome State Fault Refusal := .next (vcmpLtDo needle m vd vs1 vs2 s)
/-- VCMP_LTU (R294). -/
def execVcmpLtu (needle : BitVec 5) (m : Bool) (vd : BitVec 5) (vs1 : BitVec 5) (vs2 : BitVec 5) (s : State) : Host.Outcome State Fault Refusal := .next (vcmpLtuDo needle m vd vs1 vs2 s)
/-- VBCAST (R294). -/
def execVbcast (needle : BitVec 5) (m : Bool) (vd : BitVec 5) (vs1 : BitVec 5) (vs2 : BitVec 5) (s : State) : Host.Outcome State Fault Refusal := .next (vbcastDo needle m vd vs1 vs2 s)
/-- VEXT (R294). -/
def execVext (needle : BitVec 5) (m : Bool) (vd : BitVec 5) (vs1 : BitVec 5) (vs2 : BitVec 5) (s : State) : Host.Outcome State Fault Refusal := .next (vextDo needle m vd vs1 vs2 s)
/-- VRED_ADD (R294). -/
def execVredAdd (needle : BitVec 5) (m : Bool) (vd : BitVec 5) (vs1 : BitVec 5) (vs2 : BitVec 5) (s : State) : Host.Outcome State Fault Refusal := .next (vredAddDo needle m vd vs1 vs2 s)
/-- VSAD (R298). -/
def execVsad (needle : BitVec 5) (m : Bool) (sg : Bool) (vd : BitVec 5) (vs1 : BitVec 5) (vs2 : BitVec 5) (s : State) : Host.Outcome State Fault Refusal := .next (vsadDo needle m sg vd vs1 vs2 s)
/-- VFADD (R294). -/
def execVfadd (needle : BitVec 5) (m : Bool) (vd : BitVec 5) (vs1 : BitVec 5) (vs2 : BitVec 5) (s : State) : Host.Outcome State Fault Refusal := .next (vfaddDo needle m vd vs1 vs2 s)
/-- VFSUB (R294). -/
def execVfsub (needle : BitVec 5) (m : Bool) (vd : BitVec 5) (vs1 : BitVec 5) (vs2 : BitVec 5) (s : State) : Host.Outcome State Fault Refusal := .next (vfsubDo needle m vd vs1 vs2 s)
/-- VFMUL (R294). -/
def execVfmul (needle : BitVec 5) (m : Bool) (vd : BitVec 5) (vs1 : BitVec 5) (vs2 : BitVec 5) (s : State) : Host.Outcome State Fault Refusal := .next (vfmulDo needle m vd vs1 vs2 s)
/-- VFMA (R294). -/
def execVfma (needle : BitVec 5) (m : Bool) (vd : BitVec 5) (vs1 : BitVec 5) (vs2 : BitVec 5) (s : State) : Host.Outcome State Fault Refusal := .next (vfmaDo needle m vd vs1 vs2 s)
/-- VFDIV (R294). -/
def execVfdiv (needle : BitVec 5) (m : Bool) (vd : BitVec 5) (vs1 : BitVec 5) (vs2 : BitVec 5) (s : State) : Host.Outcome State Fault Refusal := .next (vfdivDo needle m vd vs1 vs2 s)
/-- VFSQRT (R294). -/
def execVfsqrt (needle : BitVec 5) (m : Bool) (vd : BitVec 5) (vs1 : BitVec 5) (vs2 : BitVec 5) (s : State) : Host.Outcome State Fault Refusal := .next (vfsqrtDo needle m vd vs1 vs2 s)
/-- VFCVT_D_L (R294). -/
def execVfcvtDL (needle : BitVec 5) (m : Bool) (vd : BitVec 5) (vs1 : BitVec 5) (vs2 : BitVec 5) (s : State) : Host.Outcome State Fault Refusal := .next (vfcvtDLDo needle m vd vs1 vs2 s)
/-- VFCVT_L_D (R294). -/
def execVfcvtLD (needle : BitVec 5) (m : Bool) (vd : BitVec 5) (vs1 : BitVec 5) (vs2 : BitVec 5) (s : State) : Host.Outcome State Fault Refusal := .next (vfcvtLDDo needle m vd vs1 vs2 s)
/-- VLD (R296). -/
def execVld (needle : BitVec 5) (m : Bool) (vd : BitVec 5) (vs1 : BitVec 5) (vs2 : BitVec 5) (s : State) : Host.Outcome State Fault Refusal := .next (vldDo needle m vd vs1 vs2 s)
/-- VLDS (R296). -/
def execVlds (needle : BitVec 5) (m : Bool) (vd : BitVec 5) (vs1 : BitVec 5) (vs2 : BitVec 5) (s : State) : Host.Outcome State Fault Refusal := .next (vldsDo needle m vd vs1 vs2 s)
/-- VGATHER (R297). -/
def execVgather (needle : BitVec 5) (m : Bool) (vd : BitVec 5) (vs1 : BitVec 5) (vs2 : BitVec 5) (s : State) : Host.Outcome State Fault Refusal := .next (vgatherDo needle m vd vs1 vs2 s)
/-- VST (R297). -/
def execVst (needle : BitVec 5) (m : Bool) (vd : BitVec 5) (vs1 : BitVec 5) (vs2 : BitVec 5) (s : State) : Host.Outcome State Fault Refusal := .next (vstDo needle m vd vs1 vs2 s)
/-- VSTS (R297). -/
def execVsts (needle : BitVec 5) (m : Bool) (vd : BitVec 5) (vs1 : BitVec 5) (vs2 : BitVec 5) (s : State) : Host.Outcome State Fault Refusal := .next (vstsDo needle m vd vs1 vs2 s)
/-- VSCATTER (R297). -/
def execVscatter (needle : BitVec 5) (m : Bool) (vd : BitVec 5) (vs1 : BitVec 5) (vs2 : BitVec 5) (s : State) : Host.Outcome State Fault Refusal := .next (vscatterDo needle m vd vs1 vs2 s)

end Sys2Proof.Machine
end

