-- ==== Sys2Proof/Machine/Backup.lean ====
section
/-! DEFINITION. The Backup Volume and the backup operations (20_removable_cards.md, R473 to R488). -/
namespace Sys2Proof.Machine

/-! ## Secret sharing over GF(2^8) (R483) -/

/-- Multiplication by x modulo x^8 + x^4 + x^3 + x + 1. -/
def gfDouble (a : Byte) : Byte := if a.getLsbD 7 then (a <<< 1) ^^^ 0x1B else a <<< 1

/-- Product of two field elements; the count is 8. -/
def gfMul : Nat → Byte → Byte → Byte
  | 0, _, _ => 0
  | n + 1, a, b => (if b.getLsbD 0 then a else 0) ^^^ gfMul n (gfDouble a) (b >>> 1)

/-- Inverse: the 254th power. -/
def gfInv (a : Byte) : Byte := (List.range 254).foldl (fun p _ => gfMul 8 p a) 1

/-- The polynomial with constant term `c` and further coefficients `cs` at `x`. -/
def gfEval (x c : Byte) (cs : Bytes) : Byte := c ^^^ gfMul 8 x (cs.foldr (fun k acc => k ^^^ gfMul 8 x acc) 0)

/-- Share `x` of a secret, with `32 · (m − 1)` coefficient bytes. -/
def shareOf (secret coeffs : Bytes) (m x : Nat) : Bytes :=
  (List.range 32).map (fun p => gfEval (BitVec.ofNat 8 x) (byteAt secret p) ((List.range (m - 1)).map (fun k => byteAt coeffs (32 * k + p))))

/-- The secret from shares (x, share). -/
def combineShares (sh : List (Nat × Bytes)) : Bytes :=
  (List.range 32).map (fun p =>
    sh.foldl (fun acc a =>
      let l := (sh.filter (fun b => b.1 != a.1)).foldl (fun v b =>
        let xj : Byte := BitVec.ofNat 8 b.1
        gfMul 8 v (gfMul 8 xj (gfInv (xj ^^^ BitVec.ofNat 8 a.1)))) 1
      acc ^^^ gfMul 8 l (byteAt a.2 p)) 0)

/-! ## Blocks (R479 to R484) -/

/-- A block: 508 bytes and their CRC. -/
def crcBlock (b : Bytes) : Bytes := let b := fit 508 b; b ++ leBytes 4 (crc32c b).toNat
def crcOk (b : Bytes) : Bool := b.length == 512 && fieldLE b 508 4 == (crc32c (b.take 508)).toNat

/-- First card block of an area. -/
def areaBase (a : Nat) : Nat := if a = 0 then 64 else 32832

/-- The header block (R480). -/
def headerBlock (volume : Bytes) : Bytes :=
  crcBlock (leBytes 4 0x56515845 ++ leBytes 2 0x0401 ++ zeros 2 ++ fit 16 volume ++ serialBytes ++ leBytes 4 32768 ++ leBytes 4 64 ++ leBytes 4 32832)
def headerOk (b : Bytes) : Bool := fieldLE b 0 4 == 0x56515845 && fieldLE b 4 2 == 0x0401 && crcOk b

/-- Fields of a generation descriptor (R481). -/
def descOk (b : Bytes) : Bool := fieldLE b 0 4 == 0x4A515845 && crcOk b
def descGen (b : Bytes) : Nat := fieldLE b 4 4
def descArea (b : Bytes) : Nat := (byteAt b 8).toNat
def descM (b : Bytes) : Nat := (byteAt b 9).toNat
def descN (b : Bytes) : Nat := (byteAt b 10).toNat
def descBlocks (b : Bytes) : Nat := min 32768 (fieldLE b 12 4)

/-- K_wrap and K_mac of a generation (R483). -/
def kWrap (bvk volume : Bytes) (gen : Nat) : Bytes := kmac256 bvk (volume ++ leBytes 4 gen) 32 (ascii "EQX-BKV-WRAP")
def kMac (bvk volume : Bytes) (gen : Nat) : Bytes := kmac256 bvk (volume ++ leBytes 4 gen) 32 (ascii "EQX-BKV-MAC")
def descMac (mac b : Bytes) : Bytes := kmac256 mac (b.take 64) 16 (ascii "EQX-BKV-DESC")

/-- An area block (R482). -/
def areaBlock (gen i : Nat) (payload : Bytes) : Bytes :=
  crcBlock (leBytes 4 0x42585145 ++ leBytes 4 gen ++ leBytes 4 i ++ zeros 4 ++ fit 492 payload)
def areaBlockOk (gen i : Nat) (b : Bytes) : Bool :=
  fieldLE b 0 4 == 0x42585145 && fieldLE b 4 4 == gen && fieldLE b 8 4 == i && fieldLE b 12 4 == 0 && crcOk b
def payloadOf (b : Bytes) : Bytes := cut b 16 492

/-- KEK of a custodian's share (R483). -/
def shareKek (z volume id : Bytes) (gen : Nat) : Bytes :=
  alg .hkdf 32 [num 2, volume ++ leBytes 4 gen, z, ascii "EQX-BKV-SHARE" ++ id]

/-- The share stream, 984 bytes: E, then an entry per custodian. `d` holds e and the coefficients. -/
def shareStream (s : State) (volume bvk d : Bytes) (gen : Nat) : Bytes :=
  let e := d.take 32
  let entry (k : Nat) (c : Custodian) : Bytes :=
    let kek := shareKek (alg .ecdh 32 [num 1, [], e, c.key]) volume c.id gen
    let ct := gcmData 3 kek (zeros 12) (shareOf bvk (d.drop 32) s.thm.m (k + 1))
    fit 8 c.id ++ ct ++ alg .gcmTag 16 [num 3, kek, zeros 12, [], ct]
  fit 984 (alg .ecPk 65 [num 1, [], e] ++ ((List.range s.thm.custodians.length).map (fun k =>
    (s.thm.custodians[k]?).elim [] (entry k))).flatten)

/-- A record (R484). -/
def bkvRecord (mac : Bytes) (gen rseq : Nat) (r : Nat × Bytes) : Bytes :=
  leBytes 1 r.1 ++ zeros 3 ++ leBytes 4 rseq ++ leBytes 4 r.2.length ++ r.2 ++
  kmac256 mac (leBytes 4 gen ++ leBytes 1 r.1 ++ leBytes 4 rseq ++ leBytes 4 r.2.length ++ r.2) 16 (ascii "EQX-BKV-REC")

/-- Persistent keys of the snapshot: all but stateful ones (R486, step 2). -/
def State.backupKeys (s : State) : List Nat :=
  (s.kv.ps.filter (fun e => e.2.isKey && !aStateful (s.keyData false e.1).attr)).map (·.1)

/-- Body of a key's record: TYPE 0x02 for a composite key, else 0x01 (R484). -/
def backupRecord (s : State) (kwrap : Bytes) (i : Nat) : Nat × Bytes :=
  let d := s.keyData false i
  let b := s.slot false i
  if aFam d.attr = 0x0A then (2, leBytes 8 (s.handleOf false i) ++ fit 48 d.attr ++ fit 64 d.material)
  else (1, leBytes 8 (s.handleOf false i) ++ leBytes 8 (if aLimit d.attr = 0 then b.used else max b.used b.reserved) ++
    wrapBlob 3 kwrap d.attr d.material)

/-- The key of a handle of the snapshot is still there (R486, step 3). -/
def State.stillThere (s : State) (h : Nat) : Bool := (s.slot false (hIndex h)).isKey && s.handleOf false (hIndex h) == h

/-- Builds the records of the snapshot's keys, each as it stands now, until a block is full; a key deleted meanwhile is left out, and
the End record closes the stream (R484, R486). -/
def fillRecords (s : State) : List Nat → BkpRun → BkpRun
  | [], r =>
    if r.ended then r
    else { r with
      keys := [], ended := true
      buf := r.buf ++ bkvRecord (kMac r.bvk r.volume r.gen) r.gen r.rseq (0xFF, leBytes 4 r.rseq ++ leBytes 4 (r.rseq + 1) ++ zeros 8) }
  | h :: hs, r =>
    if 492 ≤ r.buf.length then { r with keys := h :: hs }
    else if s.stillThere h then
      let rec_ := backupRecord s (kWrap r.bvk r.volume r.gen) (hIndex h)
      fillRecords s hs { r with buf := r.buf ++ bkvRecord (kMac r.bvk r.volume r.gen) r.gen r.rseq rec_, rseq := r.rseq + 1 }
    else fillRecords s hs r

/-- The next area block of the generation being written, none when both streams are out. -/
def nextArea (s : State) (r : BkpRun) : Option (BkpRun × (Nat × Bytes)) :=
  let r := if r.buf.length < 492 then fillRecords s r.keys r else r
  if r.buf = [] then none
  else
    let b := (areaBase r.areaNo + r.area.length, areaBlock r.gen r.area.length (r.buf.take 492))
    some ({ r with buf := r.buf.drop 492, area := r.area ++ [b], plan := [b] }, b)

/-- The descriptor of the generation written (R481). -/
def descOf (s : State) (r : BkpRun) : Bytes :=
  let head := leBytes 4 0x4A515845 ++ leBytes 4 r.gen ++ leBytes 1 r.areaNo ++ leBytes 1 r.m ++ leBytes 1 r.n ++ [0] ++
    leBytes 4 r.area.length ++ serialBytes ++ leBytes 8 s.time.epoch.toNat ++ sha256 (r.area.map (·.2)).flatten
  crcBlock (head ++ descMac (kMac r.bvk r.volume r.gen) head)

/-! ## The transfer of blocks (R475 to R478) -/

/-- Samples SD_WP and starts the write of the next block, or ends with CARD_WRITE_PROTECTED (R477). -/
def nextWrite (addr : Nat) (b : Bytes) (s : State) : State :=
  if s.crd.wp then bkpEnd stCardWriteProtected 0 (some addr) s else emit (.sd true addr b) { s with crd.phase := 4 }

/-- Starts the read of the next block. -/
def nextRead (addr : Nat) (s : State) : State := emit (.sd false addr []) { s with crd.phase := 3 }

/-- Changes the running operation. -/
def State.modRun (s : State) (f : BkpRun → BkpRun) : State := { s with crd.run := s.crd.run.map f }

/-- Starts a step that writes, or one that reads. -/
def startWrites (step : BkpStep) (plan : List (Nat × Bytes)) (s : State) : State :=
  let s := s.modRun (fun r => { r with step := step, plan := plan, toRead := [], got := [] })
  match plan with
  | b :: _ => nextWrite b.1 b.2 s
  | [] => s
def startReadsAt (step : BkpStep) (l : List Nat) (s : State) : State :=
  let s := s.modRun (fun r => { r with step := step, plan := [], toRead := l, got := [] })
  match l with
  | a :: _ => nextRead a s
  | [] => s

/-- A block read in the current step. -/
def BkpRun.block (r : BkpRun) (addr : Nat) : Bytes := ((r.got.find? (fun g => g.1 == addr)).map (·.2)).getD []

/-! ## WRITE and RESTORE (R486, R488) -/

/-- The valid descriptors of slots 0 and 1, as (slot, block). -/
def BkpRun.descs (r : BkpRun) : List (Nat × Bytes) :=
  ([2, 3].map (fun a => (a, r.block a))).filter (fun d => descOk d.2)

/-- The newest generation: the valid descriptor with the higher GEN. -/
def newestOf (l : List (Nat × Bytes)) : Option (Nat × Bytes) :=
  l.foldl (fun m d => match m with | some x => if descGen x.2 < descGen d.2 then some d else some x | none => some d) none

/-- The area block before is written: the next one follows, or the read-back of step 4. -/
def areaStep (r : BkpRun) (s : State) : State :=
  let s := { s with crd.keys := BitVec.ofNat 32 (if r.buf = [] then r.rseq else r.rseq - 1) }
  match nextArea s r with
  | some (r, b) => nextWrite b.1 b.2 { s with crd.run := some r }
  | none => startReadsAt .verifyArea (r.area.map (·.1)) (s.modRun (fun r => { r with desc := descOf s r }))

/-- Step 1 of WRITE is done: the snapshot is taken, the key drawn, and the share stream and the records follow (R486). -/
def beginWrite (r : BkpRun) (volume : Bytes) (s : State) : State :=
  let newest := newestOf r.descs
  let area := newest.elim 0 (fun d => if descArea d.2 = 0 then 1 else 0)
  let slot := newest.elim 2 (fun d => if d.1 = 2 then 3 else 2)
  let gen := newest.elim 1 (fun d => descGen d.2 + 1)
  let m := s.thm.m
  let d := freeBytes s (64 + 32 * (m - 1))
  let bvk := d.take 32
  areaStep { r with
    step := .writeArea, toRead := [], got := [], area := [], descAt := slot, volume := volume, gen := gen, areaNo := area, bvk := bvk
    m := m, n := s.thm.custodians.length, keys := s.backupKeys.map (s.handleOf false), rseq := 0, ended := false
    buf := shareStream s volume bvk (d.drop 32) gen } (fresh s)

/-- Step 1 of RESTORE is done: the generation is chosen and its share stream read. -/
def beginRestore (r : BkpRun) (volume : Bytes) (s : State) : State :=
  let pick := if s.crd.gen = 0 then newestOf r.descs else r.descs.find? (fun d => descGen d.2 == s.crd.gen.toNat)
  match pick with
  | none => bkpEnd stInputMalformed 3 none s
  | some d =>
    let base := areaBase (descArea d.2)
    startReadsAt .readShares [base, base + 1] (s.modRun (fun r => { r with desc := d.2, descAt := d.1, volume := volume }))

/-- Records of a record stream with their MACs checked, up to the End record; none where a MAC or the RSEQ order fails. -/
def bkvRecords (mac : Bytes) (gen : Nat) : Nat → Nat → Bytes → Option (List (Nat × Bytes))
  | 0, _, _ => none
  | fuel + 1, rseq, bs =>
    let t := (byteAt bs 0).toNat
    let l := fieldLE bs 8 4
    let body := cut bs 12 l
    if bs.length < 28 + l ∨ fieldLE bs 4 4 ≠ rseq ∨ bkvRecord mac gen rseq (t, body) ≠ bs.take (28 + l) then none
    else if t = 0xFF then (if fieldLE body 0 4 = rseq ∧ fieldLE body 4 4 = rseq + 1 then some [] else none)
    else (bkvRecords mac gen fuel (rseq + 1) (bs.drop (28 + l))).map (fun r => (t, body) :: r)

/-- Installs the key of one record (R488, step 5): skipped where it is held unchanged; the state, or the status and DETAIL. ORIGIN,
which no rule gives a restored key, is a free value. -/
def installKey (kwrap : Bytes) (r : Nat × Bytes) (s : State) : State ⊕ (Nat × Nat) :=
  let h := fieldLE r.2 0 8
  let i := hIndex h
  let pt := fit (r.2.length - 16 - 64) (Config.crypto .kwpUnwrap [kwrap, r.2.drop 72])
  let attr := if r.1 = 2 then cut r.2 8 48 else pt.take 48
  let mat := if r.1 = 2 then cut r.2 56 64 else pt.drop 48
  let used := if r.1 = 2 then 0 else fieldLE r.2 8 8
  let b := s.slot false i
  let n := s.slotCount attr
  if r.1 = 1 ∧ !Config.check .kwpOk [kwrap, r.2.drop 72] then .inr (stAuthFailed, 0)
  else if b.isKey ∧ b.gen.toNat = hGen h ∧ (s.keyData false i).attr = fit 48 attr then .inl s
  else if !s.runFree false i n then .inr (stKeyPolicyDenied, 5)
  else .inl (fresh { layRun false i {
      kind := .base, count := n, gen := BitVec.ofNat 16 (hGen h), slice := hSlice h, layout := 1, origin := Config.freeByte s.freeCtr 0, data := i
      used := used, reserved := used, attr := fit 48 attr, material := fit (mLen n) mat } s with
    crd.keys := s.crd.keys + 1 })

/-- Installs every key, or none. -/
def installAll (kwrap : Bytes) : List (Nat × Bytes) → State → State ⊕ (Nat × Nat)
  | [], s => .inl s
  | r :: rs, s => match installKey kwrap r s with
    | .inl s => installAll kwrap rs s
    | .inr e => .inr e

/-- Steps 4 and 5 of RESTORE: AREA_DIGEST, record MACs, RSEQ order and End record, then the installation. -/
def finishRestore (r : BkpRun) (s : State) : State :=
  let gen := descGen r.desc
  let blocks := r.got.map (·.2)
  if sha256 blocks.flatten ≠ cut r.desc 32 32 then bkpEnd stAuthFailed 0 none s
  else match bkvRecords (kMac r.bvk r.volume gen) gen 65537 0 ((blocks.drop 2).map payloadOf).flatten with
    | none => bkpEnd stAuthFailed 0 none s
    | some l => match installAll (kWrap r.bvk r.volume gen) l s with
      | .inl s => bkpEnd stSuccess 0 none s
      | .inr (st, d) => bkpEnd st d none s

/-- A share arrives from a custodian's card (R488, steps 2 and 3). With M of them the key is combined and DESC_MAC checked. -/
def addShare (id z : Bytes) (s : State) : State :=
  match s.crd.run with
  | some r =>
    if r.step ≠ .collect then s
    else
      let gen := descGen r.desc
      let entry (k : Nat) : Bytes := cut r.stream (65 + 56 * k) 56
      match (List.range (min 16 (descN r.desc))).find? (fun k => (entry k).take 8 == id) with
      | none => s
      | some k =>
        let kek := shareKek z r.volume id gen
        let ct := cut (entry k) 8 32
        if r.shares.any (fun x => x.1 == k + 1) ∨ alg .gcmTag 16 [num 3, kek, zeros 12, [], ct] ≠ cut (entry k) 40 16 then s
        else
          let sh := r.shares ++ [(k + 1, gcmData 3 kek (zeros 12) (fit 32 ct))]
          let s := s.modRun (fun r => { r with shares := sh })
          if sh.length < descM r.desc then s
          else
            let bvk := combineShares sh
            if descMac (kMac bvk r.volume gen) r.desc ≠ cut r.desc 64 16 then bkpEnd stAuthFailed 0 none s
            else startReadsAt .readArea ((List.range (descBlocks r.desc)).map (areaBase (descArea r.desc) + ·))
              (ocOff 1 0 (ocOff 0 0 (s.modRun (fun r => { r with bvk := bvk }))))
  | none => s

/-! ## From block to block -/

/-- A step's last block is done. -/
def stepDone (r : BkpRun) (s : State) : State :=
  match r.step with
  | .initCard | .collect => s
  | .format => bkpEnd stSuccess 0 none s
  | .readHead =>
    let h := if headerOk (r.block 0) then some (r.block 0) else if headerOk (r.block 1) then some (r.block 1) else none
    match h with
    | none => bkpEnd stInputMalformed 2 none s
    | some h => if r.op = 2 then beginWrite r (cut h 8 16) s else beginRestore r (cut h 8 16) s
  | .writeArea => areaStep r s
  | .verifyArea => startWrites .writeDesc [(r.descAt, r.desc)] s
  | .writeDesc => startReadsAt .verifyDesc [r.descAt] s
  | .verifyDesc => bkpEnd stSuccess 0 none s
  | .readShares => { s.modRun (fun x => { x with step := .collect, stream := (r.got.map (fun g => payloadOf g.2)).flatten, got := [] }) with crd.phase := 2 }
  | .readArea => finishRestore r s

/-- A block has been transferred: an ABORT takes effect here unless the descriptor has been begun (R485, R487). -/
def blockDone (s : State) : State :=
  let s := { s with crd.done := s.crd.done + 1, crd.phase := 2 }
  match s.crd.run with
  | none => s
  | some r =>
    if r.abort ∧ r.step ≠ .writeDesc ∧ r.step ≠ .verifyDesc then bkpEnd stAborted 0 none s
    else match r.plan, r.toRead with
      | b :: _, _ => nextWrite b.1 b.2 s
      | [], a :: _ => nextRead a s
      | [], [] => stepDone r s

/-- What a block read must satisfy in the step that reads it (R486, step 4; R488, steps 1 and 4). -/
def BkpRun.blockOk (r : BkpRun) (addr : Nat) (b : Bytes) : Bool :=
  match r.step with
  | .verifyArea => r.area.any (fun x => x.1 == addr && x.2 == b)
  | .verifyDesc => b == r.desc
  | .readShares | .readArea => areaBlockOk (descGen r.desc) (addr - areaBase (descArea r.desc)) b
  | _ => true

/-- A data token arrives for the block being read. -/
def readArrives (b : Bytes) (s : State) : State :=
  match s.crd.run with
  | some r => match r.toRead with
    | a :: rest =>
      if r.blockOk a (fit 512 b) then blockDone (s.modRun (fun r => { r with toRead := rest, got := r.got ++ [(a, fit 512 b)] }))
      else bkpEnd stInputMalformed 0 (some a) s
    | [] => s
  | none => s

/-- The next phase of a block's write; the block counts as written when its confirm phase passes (R476). -/
def writeAdvances (s : State) : State :=
  if s.crd.phase = 7 then blockDone (s.modRun (fun r => { r with plan := r.plan.drop 1 }))
  else { s with crd.phase := s.crd.phase + 1 }

/-- The card's identification has ended (R473, R479). -/
def cardReady (wide hs : Bool) (blocks : Nat) (s : State) : State :=
  match s.crd.run with
  | none => s
  | some r =>
    let s := { s with crd.phase := 2, crd.wide := wide && s.crd.wideEn, crd.hs := hs && s.crd.hsEn }
    if r.abort then bkpEnd stAborted 0 none s
    else if r.op = 1 then
      if blocks < 65600 then bkpEnd stCardAbsent 4 none s
      else
        let h := headerBlock (freeBytes s 16)
        startWrites .format ((List.range 64).map (fun k => (k, if k < 2 then h else zeros 512))) (fresh s)
    else startReadsAt .readHead [0, 1, 2, 3] s

/-- Card block in transfer. -/
def BkpRun.current (r : BkpRun) : Option Nat :=
  match r.plan, r.toRead with
  | b :: _, _ => some b.1
  | [], a :: _ => some a
  | [], [] => none

/-! ## Starting (R485) -/

/-- What an operation asks before it starts: the status that ends it, 0 when it may run. FORMAT and WRITE need the DRBG. -/
def State.bkpDenied (s : State) (op : Nat) : Nat :=
  if !s.quorumInForce then stQuorumRequired
  else if op = 3 ∧ (s.kv.rinsed ∨ (s.kv.vrk0 = 0 ∧ s.kv.vrk1 = 0)) then stKeyPolicyDenied
  else if op ≠ 3 ∧ s.rng.state = .failed then stRngFailed
  else if op ≠ 3 ∧ s.rng.state = .startup then stRngNotReady
  else if !s.crd.present then stCardAbsent
  else 0

/-- A write of CRD_BKP_CTRL (R485, R493). -/
def writeBkpCtrl (value : BitVec 32) (s : State) : State :=
  let op := (fld value 0 3).toNat
  let s := { s with crd.wait := fld value 8 8 }
  if op = 5 then
    match s.crd.run with
    | some r => if r.step = .collect then bkpEnd stAborted 0 none s else s.modRun (fun r => { r with abort := true })
    | none => s
  else if s.crd.busy ∨ !s.thimbleUp ∨ (op ≠ 1 ∧ op ≠ 2 ∧ op ≠ 3) then s
  else
    let s := { s with
      crd.run := some { op := op }, crd.busy := true, crd.op := fld value 0 3, crd.detail := 0, crd.block := 0xFFFFFFFF, crd.done := 0, crd.keys := 0
      crd.powered := true, crd.phase := 1 }
    let s := emit (.pin .sdPower true) s
    match s.bkpDenied op with
    | 0 => s
    | st => bkpEnd st 0 none s

end Sys2Proof.Machine
end

