-- ==== Sys2Proof/Machine/Cards.lean ====
section
/-! DEFINITION. Events of the operator card ports, the quorum they establish, and events of the backup card port
(20_removable_cards.md; 13_payment_identity.md, R336, R337). -/
namespace Sys2Proof.Machine

/-! ## Activation (R489 to R491) -/

/-- Classes that a port tries, bit 0 C, bit 1 B, bit 2 A. -/
def State.ocClasses (s : State) (k : Nat) : BitVec 3 := if k = 0 then s.crd.classes0 else s.crd.classes1

/-- Tries the next class after `c` in the order C, B, A; with none left the port ends with "no ATR in any class". -/
def tryClass (k c : Nat) (s : State) : State :=
  match (below 3 (fun b => decide (c ≤ b) && bit (s.ocClasses k) b)) with
  | b :: _ =>
    emit (.pin (ocPin k) true) (s.modOc k (fun p => { p with active := true, cls := BitVec.ofNat 2 (b + 1), stage := .atr }))
  | [] => ocOff k 1 (s.modOc k (fun p => { p with active := true }))

/-- OC_CARD_INSERT. -/
def ocCardInsertDo (port : BitVec 1) (s : State) : State :=
  let k := port.toNat
  if (s.ocPort k).present ∨ !s.thimbleUp then s
  else tryClass k 0 (s.modOc k (fun p => { p with present := true, retried := false, id := [] }))

/-- OC_CARD_REMOVAL: the port deactivates; LAST shows a removal that cut a transaction off. -/
def ocCardRemovalDo (port : BitVec 1) (s : State) : State :=
  (ocOff port.toNat 6 s).modOc port.toNat (fun p => { p with present := false })

/-- OC_WAITING_TIME_EXPIRY. -/
def ocWaitingTimeExpiryDo (port : BitVec 1) (s : State) : State := ocOff port.toNat 4 s

/-! ## The answer to reset -/

/-- What the device reads from an ATR: TA1, the first protocol offered, the class indicator. -/
structure Atr where
  ta1 : Option Nat := none
  proto : Nat := 0
  classes : Option Nat := none

/-- Interface bytes: the indicator Y of the next group, its protocol, the group's number; answers the ATR read so far, the bytes that
are left, and whether a protocol other than T=0 was indicated. -/
def atrGroups : Nat → Nat → Nat → Nat → Bytes → Atr → Bool → Option (Atr × Bytes × Bool)
  | 0, _, _, _, _, _, _ => none
  | fuel + 1, y, t, g, bs, a, other =>
    let nTa := y % 2
    let nTb := y / 2 % 2
    let nTc := y / 4 % 2
    let nTd := y / 8 % 2
    if bs.length < nTa + nTb + nTc + nTd then none
    else
      let ta := (byteAt bs 0).toNat
      let a := if nTa = 1 ∧ g = 1 then { a with ta1 := some ta } else a
      let a := if nTa = 1 ∧ t = 15 ∧ a.classes.isNone then { a with classes := some (ta % 64) } else a
      let rest := bs.drop (nTa + nTb + nTc)
      if nTd = 0 then some (a, rest, other)
      else
        let td := (byteAt rest 0).toNat
        let a := if g = 1 then { a with proto := td % 16 } else a
        atrGroups fuel (td / 16) (td % 16) (g + 1) (rest.drop 1) a (other || td % 16 != 0)

/-- An ATR, none where it is malformed: TS, T0, interface bytes, historical bytes, and TCK where a protocol other than T=0 is
indicated. -/
def parseAtr (bs : Bytes) : Option Atr :=
  let t0 := (byteAt bs 1).toNat
  if bs.length < 2 ∨ !(byteAt bs 0 == 0x3B || byteAt bs 0 == 0x3F) then none
  else match atrGroups 33 (t0 / 16) 0 1 (bs.drop 2) {} false with
    | none => none
    | some (a, rest, other) =>
      let n := t0 % 16 + (if other then 1 else 0)
      if rest.length ≠ n ∨ (other && (bs.drop 1).foldl (· ^^^ ·) 0 != 0) ∨ !(a.proto == 0 || a.proto == 1) then none else some a

/-- Fi and Di of a TA1 byte, 0 for a reserved code (ISO/IEC 7816-3); every listed Fi has an fmax of at least 4 MHz. -/
def fiOf (c : Nat) : Nat := [372, 372, 558, 744, 1116, 1488, 1860, 0, 0, 512, 768, 1024, 1536, 2048, 0, 0].getD c 0
def diOf (c : Nat) : Nat := [0, 1, 2, 4, 8, 16, 32, 64, 12, 20, 0, 0, 0, 0, 0, 0].getD c 0

/-- TA1 that the port accepts and that is not the default (R489, R490). -/
def wantsPps (ta1 : Nat) : Bool :=
  ta1 != 0x11 && fiOf (ta1 / 16) != 0 && diOf (ta1 % 16) != 0 && decide (31 * diOf (ta1 % 16) ≤ fiOf (ta1 / 16))

/-- SELECT by AID (R492). -/
def startSelect (k : Nat) (s : State) : State :=
  emit (.card k [0x00, 0xA4, 0x04, 0x00, 0x07, 0xF0, 0x45, 0x51, 0x58, 0x4F, 0x50, 0x31]) (s.modOc k (fun p => { p with stage := .select }))

/-- OC_ATR_RECEIVED: no ATR or an excluded class leads to the next class, a malformed one ends the activation; otherwise PPS where TA1
is acceptable and not the default, else the application is selected. -/
def ocAtrReceivedDo (port : BitVec 1) (atr : Option Bytes) (s : State) : State :=
  let k := port.toNat
  let p := s.ocPort k
  if p.stage ≠ .atr then s
  else match atr with
    | none => tryClass k p.cls.toNat s
    | some bs => match parseAtr bs with
      | none => ocOff k 2 s
      | some a =>
        let bitNo := 3 - p.cls.toNat
        if a.classes.any (fun c => !c.testBit bitNo) then tryClass k p.cls.toNat s
        else
          let s := s.modOc k (fun p => { p with proto := a.proto == 1 })
          match a.ta1 with
          | some t =>
            if wantsPps t && !p.retried then
              let pp : Byte := 0x10 + BitVec.ofNat 8 a.proto
              emit (.card k [0xFF, pp, BitVec.ofNat 8 t, 0xFF ^^^ pp ^^^ BitVec.ofNat 8 t]) (s.modOc k (fun p => { p with stage := .pps }))
            else startSelect k s
          | none => startSelect k s

/-- OC_PPS_RESPONSE: a failure leads to one further activation at the default rates. -/
def ocPpsResponseDo (port : BitVec 1) (good : Bool) (s : State) : State :=
  let k := port.toNat
  let p := s.ocPort k
  if p.stage ≠ .pps then s
  else if good then startSelect k s
  else tryClass k (p.cls.toNat - 1) ((ocOff k 3 s).modOc k (fun p => { p with retried := true }))

/-! ## The card application (R336, R492) -/

/-- Digest that a custodian's card signs (R336, step 3). -/
def quorumDigest (ch id : Bytes) : Bytes := sha256 (ascii "EQX-QUORUM" ++ serialBytes ++ ch ++ id)

/-- A custodian's signature arrives: it counts once; with M the quorum is in force and QUORUM_OPEN ends (R336, steps 4 and 5). -/
def countCustodian (r : QuorumRun) (id sig : Bytes) (s : State) : State :=
  let ok := s.thm.custodians.any (fun c => c.id == id &&
    Config.check .ecdsaVerify [num 1, [], c.key, sig, quorumDigest r.challenge id, num 1])
  if !ok then logRecord 0x0402 id s
  else if r.counted.contains id then s
  else
    let l := r.counted ++ [id]
    if l.length < s.thm.m then { s with thm.run := some { r with counted := l } }
    else
      let s := { s with thm.quorum := some { ttl := r.ttl, since := s.time.epoch.toNat }, thm.run := some { r with counted := l } }
      let out := quorumStatus s
      decideJob r.job stSuccess [(0, out)] (ocOff 1 0 (ocOff 0 0 (logRecord 0x0401 (leBytes 1 l.length) { s with thm.run := none })))

/-- OC_APDU_RESPONSE: an answer that is not the one awaited, or another status word, is an application error. -/
def ocApduResponseDo (port : BitVec 1) (answer : CardAnswer) (sw : BitVec 16) (s : State) : State :=
  let k := port.toNat
  let p := s.ocPort k
  let awaits := match p.stage with | .select | .getId | .sign | .ecdh => true | _ => false
  if !awaits then s
  else match answer with
    | .exhausted => ocOff k 5 s
    | a =>
      if sw ≠ 0x9000 then ocOff k 7 s
      else match p.stage, a with
        | .select, .selected => emit (.card k [0x80, 0x10, 0x00, 0x00, 0x08]) (s.modOc k (fun p => { p with stage := .getId }))
        | .getId, .identity id =>
          if id.length ≠ 8 then ocOff k 7 s
          else
            let s := s.modOc k (fun p => { p with id := id })
            match s.thm.run, s.crd.run with
            | some r, _ =>
              emit (.card k ([0x80, 0x20, 0x00, 0x00, 0x20] ++ quorumDigest r.challenge id)) (s.modOc k (fun p => { p with stage := .sign }))
            | none, some b =>
              if b.step = .collect then
                emit (.card k ([0x80, 0x30, 0x00, 0x00, 0x41] ++ b.stream.take 65)) (s.modOc k (fun p => { p with stage := .ecdh }))
              else ocOff k 0 s
            | none, none => ocOff k 0 s
        | .sign, .signature sig => match s.thm.run with
          | some r => countCustodian r p.id sig (ocOff k 0 s)
          | none => ocOff k 0 s
        | .ecdh, .secret z => if z.length = 32 then addShare p.id z (ocOff k 0 s) else ocOff k 7 s
        | _, _ => ocOff k 7 s

/-- QUORUM_WAIT_EXPIRY: the counts are discarded, the job ends with CARD_TIMEOUT. -/
def quorumWaitExpiryDo (s : State) : State :=
  match s.thm.run with
  | some r => decideJob r.job stCardTimeout [] (ocOff 1 0 (ocOff 0 0 { s with thm.run := none }))
  | none => s

/-- QUORUM_TTL_EXPIRY (R337). -/
def quorumTtlExpiryDo (s : State) : State := endQuorum s

/-! ## The backup card port (R474 to R478) -/

/-- SD_CARD_INSERT. -/
def sdCardInsertDo (wp : Bool) (s : State) : State := if s.pwr.inReset then s else { s with crd.present := true, crd.wp := wp }

/-- SD_CARD_REMOVAL: how a running operation ends depends on the phase in which the removal is recognised (R478). -/
def sdCardRemovalDo (s : State) : State :=
  if !s.crd.present then s
  else
    let s := { s with crd.present := false, crd.removed := true }
    let cur := s.crd.run.bind (·.current)
    match s.crd.phase.toNat with
    | 6 | 7 => bkpEnd stCardRemovedBusy 0 cur s
    | 3 | 4 | 5 => bkpEnd stCardAbsent 0 cur s
    | _ => bkpEnd stCardAbsent 0 none s

/-- SD_RESPONSE, with the level of SD_WP at that moment (R476, R477). -/
def sdResponseDo (answer : SdAnswer) (wp : Bool) (s : State) : State :=
  let s := { s with crd.wp := wp }
  let ph := s.crd.phase.toNat
  let cur := s.crd.run.bind (·.current)
  match answer with
  | .ready w h n => if ph = 1 then cardReady w h n s else s
  | .unsupported => if ph = 1 then bkpEnd stCardAbsent 1 none s else s
  | .data b => if ph = 3 then readArrives b s else s
  | .accepted => if 4 ≤ ph then writeAdvances s else s
  | .writeProtected => if 4 ≤ ph then bkpEnd stCardWriteProtected 0 cur s else s
  | .error => if ph = 1 ∨ 3 ≤ ph then bkpEnd stInputMalformed 0 cur s else s

/-- SD_TIMEOUT (R475). -/
def sdTimeoutDo (s : State) : State :=
  if s.crd.phase = 1 ∨ 3 ≤ s.crd.phase then bkpEnd stCardTimeout 0 (s.crd.run.bind (·.current)) s else s

/-- BKP_FORMAT: a write of CRD_BKP_CTRL with OP 1. -/
def bkpFormatDo (value : BitVec 32) (s : State) : State := writeBkpCtrl ((value &&& ~~~7) ||| 1) s
/-- BKP_WRITE: OP 2. -/
def bkpWriteDo (value : BitVec 32) (s : State) : State := writeBkpCtrl ((value &&& ~~~7) ||| 2) s
/-- BKP_RESTORE: OP 3. -/
def bkpRestoreDo (value : BitVec 32) (s : State) : State := writeBkpCtrl ((value &&& ~~~7) ||| 3) s
/-- BKP_ABORT: OP 5. -/
def bkpAbortDo (value : BitVec 32) (s : State) : State := writeBkpCtrl ((value &&& ~~~7) ||| 5) s

/-- BKP_WAIT_EXPIRY: fewer than M shares when the WAIT of R488 ends; cards are then still being collected. -/
def bkpWaitExpiryDo (s : State) : State :=
  match s.crd.run with
  | some r => if r.step = .collect then bkpEnd stCardTimeout 0 none s else s
  | none => s

/-! ## The meanings of the commands -/

/-- QUORUM_WAIT_EXPIRY (R336). -/
def execQuorumWaitExpiry (s : State) : Host.Outcome State Fault Refusal := .next (quorumWaitExpiryDo s)
/-- QUORUM_TTL_EXPIRY (R337). -/
def execQuorumTtlExpiry (s : State) : Host.Outcome State Fault Refusal := .next (quorumTtlExpiryDo s)
/-- OC_CARD_INSERT (R489). -/
def execOcCardInsert (port : BitVec 1) (s : State) : Host.Outcome State Fault Refusal := .next (ocCardInsertDo port s)
/-- OC_CARD_REMOVAL (R491). -/
def execOcCardRemoval (port : BitVec 1) (s : State) : Host.Outcome State Fault Refusal := .next (ocCardRemovalDo port s)
/-- OC_ATR_RECEIVED (R490). -/
def execOcAtrReceived (port : BitVec 1) (atr : Option Bytes) (s : State) : Host.Outcome State Fault Refusal := .next (ocAtrReceivedDo port atr s)
/-- OC_PPS_RESPONSE (R490). -/
def execOcPpsResponse (port : BitVec 1) (good : Bool) (s : State) : Host.Outcome State Fault Refusal := .next (ocPpsResponseDo port good s)
/-- OC_APDU_RESPONSE (R492). -/
def execOcApduResponse (port : BitVec 1) (answer : CardAnswer) (sw : BitVec 16) (s : State) : Host.Outcome State Fault Refusal := .next (ocApduResponseDo port answer sw s)
/-- OC_WAITING_TIME_EXPIRY (R491). -/
def execOcWaitingTimeExpiry (port : BitVec 1) (s : State) : Host.Outcome State Fault Refusal := .next (ocWaitingTimeExpiryDo port s)
/-- SD_CARD_INSERT (R474). -/
def execSdCardInsert (wp : Bool) (s : State) : Host.Outcome State Fault Refusal := .next (sdCardInsertDo wp s)
/-- SD_CARD_REMOVAL (R478). -/
def execSdCardRemoval (s : State) : Host.Outcome State Fault Refusal := .next (sdCardRemovalDo s)
/-- SD_RESPONSE (R476). -/
def execSdResponse (answer : SdAnswer) (wp : Bool) (s : State) : Host.Outcome State Fault Refusal := .next (sdResponseDo answer wp s)
/-- SD_TIMEOUT (R475). -/
def execSdTimeout (s : State) : Host.Outcome State Fault Refusal := .next (sdTimeoutDo s)
/-- BKP_FORMAT (R485). -/
def execBkpFormat (value : BitVec 32) (s : State) : Host.Outcome State Fault Refusal := .next (atBar (bkpFormatDo value) s)
/-- BKP_WRITE (R486). -/
def execBkpWrite (value : BitVec 32) (s : State) : Host.Outcome State Fault Refusal := .next (atBar (bkpWriteDo value) s)
/-- BKP_RESTORE (R488). -/
def execBkpRestore (value : BitVec 32) (s : State) : Host.Outcome State Fault Refusal := .next (atBar (bkpRestoreDo value) s)
/-- BKP_ABORT (R485). -/
def execBkpAbort (value : BitVec 32) (s : State) : Host.Outcome State Fault Refusal := .next (atBar (bkpAbortDo value) s)
/-- BKP_WAIT_EXPIRY (R488). -/
def execBkpWaitExpiry (s : State) : Host.Outcome State Fault Refusal := .next (bkpWaitExpiryDo s)

end Sys2Proof.Machine
end

