-- ==== Sys2Proof/Machine/Engines.lean ====
section
/-! DEFINITION. Engine faults and memory tests, the two key caches, lane boundaries, index commits (05_lattice_engines.md,
R128 to R131, R151 to R153; 07_digest_engines.md, R177, R188; 08_hash_signatures.md, R210; 09_code_based.md, R229, R230, R245;
11_stitch_isa.md, R288, R289). -/
namespace Sys2Proof.Machine

/-! ## Faults (R24, R153, R188, R245, R288) -/

/-- An uncorrectable fault of an engine: the jobs and tasks it runs end with ENGINE_FAULT and the event fences it. -/
def engineFault (code event : Nat) (kind : Fence) (s : State) : State :=
  let s := (s.jobs.filter (fun j => j.engine == code && j.faulted)).foldl (fun s j => endWiping j.id stEngineFault s) s
  raiseEvent event code (.engine code) kind s

/-- MANGLE_FAULT: Thimble tests the Mangle's memories next (R153). -/
def mangleFaultDo (mangle : BitVec 5) (s : State) : State := engineFault mangle.toNat 0x32 .memTest s

/-- DARNER_FAULT (R245). -/
def darnerFaultDo (darner : BitVec 2) (s : State) : State := engineFault (engDarner darner.toNat) 0x32 .memTest s

/-- NEEDLE_MEM_UNCORR (R288). -/
def needleMemUncorrDo (needle : BitVec 5) (s : State) : State := engineFault (engNeedle needle.toNat) 0x31 .memTest s

/-- ENGINE_MEMORY_TEST_DONE: the engine returns to service, or stays fenced until PORST# (R153, R245, R288, R447). -/
def engineMemoryTestDoneDo (engine : BitVec 7) (passed : Bool) (s : State) : State :=
  let c := engine.toNat
  if s.fence c = .memTest ∧ !s.thm.restarting then
    (if passed then clearEngine c (s.setFence c .none) else s.setFence c .porst)
  else s

/-- CORRECTED_MEMORY_ERROR: the word is corrected, the instruction executes again, and the Vent records event 0x04; nothing of
the engine's state differs afterwards (R289, R296). -/
def correctedMemoryErrorDo (engine : BitVec 7) (s : State) : State :=
  raiseEvent 0x04 engine.toNat (.engine engine.toNat) .own s

/-- WRINGER_LANE_ERROR: the lane clears at once; its running requester ends with ENGINE_FAULT, for a Tree Sequencer the job
named; suspended requesters go on elsewhere; the lane is fenced (R188). A fabric or key-port error of a Needle or of a Tree Sequencer
comes with this command too (R24, log 83): the Needle's job or task ends, or the Tree Sequencer's job that is named. -/
def wringerLaneErrorDo (engine : BitVec 7) (job : Nat) (s : State) : State :=
  let c := engine.toNat
  if !isLane c then
    if 0x40 ≤ c ∧ c < 0x60 then engineFault c 0x32 .memTest s
    else if 0x64 ≤ c ∧ c < 0x68 then
      let s := match s.job? job with
        | some j => if j.engine = c ∧ j.faulted then endWiping job stEngineFault s else s
        | none => s
      raiseEvent 0x32 c (.engine c) .own s
    else s
  else
    let hit := (s.lane c).running.bind (fun r => match r.who with
      | .job id => (s.job? id).bind (fun j => if j.faulted then some id else none)
      | .tree t => (s.job? job).bind (fun j => if j.engine = engTree t ∧ j.faulted then some job else none))
    let s := moveSuspended c s
    let s := hit.elim s (fun id => endWiping id stEngineFault s)
    raiseEvent 0x32 c (.engine c) .own s

/-! ## Lanes and index commits -/

/-- WRINGER_BLOCK_BOUNDARY (R177, R266): a stop request takes effect at the boundary (R179); a requester whose result is committed
keeps the lane until it has ended. -/
def wringerBlockBoundaryDo (engine : BitVec 7) (s : State) : State :=
  let c := engine.toNat
  if isLane c && s.fence c == .none then
    match (s.lane c).running with
    | some { who := .job id, .. } =>
      match s.job? id with
      | some j => if !j.stoppable then s else if j.stop.isSome then safePoint id s else boundary c s
      | none => s
    | _ => boundary c s
  else s

/-- INDEX_COMMIT_COMPLETE: `good` tells whether the read-back matches (R210). -/
def indexCommitCompleteDo (key : BitVec 16) (good : Bool) (s : State) : State := commitEnds key.toNat good s

/-! ## Expanded Key Cache (R128 to R131, R151, R152) -/

/-- The entry is being filled, or was when it was invalidated, by this job. -/
def CacheEntry.filledBy (e : CacheEntry) (job : Nat) : Bool := e.fillJob == job && (e.st == .filling || e.st == .invalid)

/-- A fill ends: a filling entry takes the state `st` gives it, or is discarded; an invalidated one is freed. -/
def endFill (job : Nat) (st : CacheEntry → Option EntrySt) (c : Cache) : Cache :=
  { c with entries := c.entries.filterMap (fun e =>
      if e.filledBy job then (if e.st == .filling then (st e).map (fun x => { e with st := x }) else none) else some e) }

/-- The entry is one of the current generation of its slot. -/
def State.isCurrent (s : State) (e : CacheEntry) : Bool := (s.slot e.kt e.index).gen.toNat == e.gen

/-- EKC_FILL_COMPLETE: the jobs held for the entry are released; an FN-DSA fill ends with the Needle's part of the expansion (R137). -/
def ekcFillCompleteDo (job : Nat) (s : State) : State :=
  let es := s.eng.ekc.entries.filter (·.filledBy job)
  if es = [] ∨ s.tasksLeft job then s
  else sweepOld (wakeFills es { s with eng.ekc := endFill job (fun e => some (if s.isCurrent e then .valid else .old)) s.eng.ekc })

/-- A write of ENG_EKC_CTRL: ENABLE is RWL, FLUSH write-only; ENABLE = 0 invalidates every entry too. -/
def writeEkcCtrl (value : BitVec 32) (s : State) : State :=
  let s := writeRwl 9 (bit value 0 != s.eng.ekcEnable) (fun s => { s with eng.ekcEnable := bit value 0 }) s
  if bit value 1 || !s.eng.ekcEnable then { s with eng.ekc := dropEntries (fun _ => true) s.eng.ekc } else s

def ekcFlushDo (value : BitVec 32) (s : State) : State := writeEkcCtrl value s

def ekcEnableWriteDo (value : BitVec 32) (s : State) : State := writeEkcCtrl value s

/-- Sum of the quotas of a cache. -/
def Cache.quotaSum (c : Cache) : Nat := (c.quota.map (·.2)).foldl (· + ·) 0

/-- The cache with a slice's quota written, as it was where the sum would exceed `size` (R152, R245). -/
def Cache.setQuota (c : Cache) (slice q size : Nat) : Cache :=
  if c.quotaSum - tget c.quota 0 slice + q ≤ size then { c with quota := tput c.quota 0 slice q } else c

/-- EKC_QUOTA_WRITE. -/
def ekcQuotaWriteDo (slice : BitVec 8) (value : BitVec 32) (s : State) : State :=
  let q := (fld value 0 15).toNat
  writeRwl 9 (q != tget s.eng.ekc.quota 0 slice.toNat) (fun s => { s with eng.ekc := s.eng.ekc.setQuota slice.toNat q 16384 }) s

/-! ## Darner public-key caches (R229, R230, R244, R245) -/

/-- A write of ENG_DRN_CTRL: SPILL and KG_MAX are RWL, FLUSH write-only. -/
def writeDrnCtrl (value : BitVec 32) (s : State) : State :=
  let s := writeRwl 9 (bit value 4 != s.eng.drnSpill || fld value 0 3 != s.eng.drnKgMax)
    (fun s => { s with eng.drnSpill := bit value 4, eng.drnKgMax := fld value 0 3 }) s
  if bit value 5 then { s with eng.dpk := dropEntries (fun _ => true) s.eng.dpk } else s

def dpkFlushDo (value : BitVec 32) (s : State) : State := writeDrnCtrl value s

/-- DPK_QUOTA_WRITE. -/
def dpkQuotaWriteDo (slice : BitVec 8) (value : BitVec 32) (s : State) : State :=
  let q := (fld value 0 11).toNat
  writeRwl 9 (q != tget s.eng.dpk.quota 0 slice.toNat) (fun s => { s with eng.dpk := s.eng.dpk.setQuota slice.toNat q 1536 }) s

/-- DPK_FILL_COMPLETE: a streamed key becomes valid once its job has found the digest to match; a fill for a slot whose
generation changed is discarded. -/
def dpkFillCompleteDo (job : Nat) (s : State) : State :=
  let streaming := (s.job? job).elim false (fun j => j.stoppable && isCme j.keyB.alg && (j.opcode == 0x0302 || j.opcode == 0x03F1))
  let es := s.eng.dpk.entries.filter (·.filledBy job)
  if streaming ∨ es = [] then s
  else wakeFills es { s with eng.dpk := endFill job (fun e => if s.isCurrent e then some .valid else none) s.eng.dpk }

/-! ## The meanings of the commands -/

/-- MANGLE_FAULT (R153). -/
def execMangleFault (mangle : BitVec 5) (s : State) : Host.Outcome State Fault Refusal := .next (mangleFaultDo mangle s)
/-- DARNER_FAULT (R245). -/
def execDarnerFault (darner : BitVec 2) (s : State) : Host.Outcome State Fault Refusal := .next (darnerFaultDo darner s)
/-- ENGINE_MEMORY_TEST_DONE (R153). -/
def execEngineMemoryTestDone (engine : BitVec 7) (passed : Bool) (s : State) : Host.Outcome State Fault Refusal := .next (engineMemoryTestDoneDo engine passed s)
/-- CORRECTED_MEMORY_ERROR (R289). -/
def execCorrectedMemoryError (engine : BitVec 7) (s : State) : Host.Outcome State Fault Refusal := .next (correctedMemoryErrorDo engine s)
/-- EKC_FILL_COMPLETE (R128). -/
def execEkcFillComplete (job : Nat) (s : State) : Host.Outcome State Fault Refusal := .next (ekcFillCompleteDo job s)
/-- EKC_FLUSH (R131). -/
def execEkcFlush (value : BitVec 32) (s : State) : Host.Outcome State Fault Refusal := .next (atBar (ekcFlushDo value) s)
/-- EKC_ENABLE_WRITE (R151). -/
def execEkcEnableWrite (value : BitVec 32) (s : State) : Host.Outcome State Fault Refusal := .next (atBar (ekcEnableWriteDo value) s)
/-- EKC_QUOTA_WRITE (R152). -/
def execEkcQuotaWrite (slice : BitVec 8) (value : BitVec 32) (s : State) : Host.Outcome State Fault Refusal := .next (atBar (ekcQuotaWriteDo slice value) s)
/-- DPK_FLUSH (R230). -/
def execDpkFlush (value : BitVec 32) (s : State) : Host.Outcome State Fault Refusal := .next (atBar (dpkFlushDo value) s)
/-- DPK_QUOTA_WRITE (R245). -/
def execDpkQuotaWrite (slice : BitVec 8) (value : BitVec 32) (s : State) : Host.Outcome State Fault Refusal := .next (atBar (dpkQuotaWriteDo slice value) s)
/-- DPK_FILL_COMPLETE (R229). -/
def execDpkFillComplete (job : Nat) (s : State) : Host.Outcome State Fault Refusal := .next (dpkFillCompleteDo job s)
/-- WRINGER_BLOCK_BOUNDARY (R177). -/
def execWringerBlockBoundary (engine : BitVec 7) (s : State) : Host.Outcome State Fault Refusal := .next (wringerBlockBoundaryDo engine s)
/-- INDEX_COMMIT_COMPLETE (R210). -/
def execIndexCommitComplete (key : BitVec 16) (good : Bool) (s : State) : Host.Outcome State Fault Refusal := .next (indexCommitCompleteDo key good s)
/-- NEEDLE_MEM_UNCORR (R288). -/
def execNeedleMemUncorr (needle : BitVec 5) (s : State) : Host.Outcome State Fault Refusal := .next (needleMemUncorrDo needle s)
/-- WRINGER_LANE_ERROR (R188). -/
def execWringerLaneError (engine : BitVec 7) (job : Nat) (s : State) : Host.Outcome State Fault Refusal := .next (wringerLaneErrorDo engine job s)

end Sys2Proof.Machine
end

