-- ==== Sys2Proof/Machine/Firmware.lean ====
section
/-! DEFINITION. The firmware banks and the swap of an activation (21_service_firmware_events.md, R502 to R505), patch sets as
Thimble loads them (06_pattern_store.md, R167 to R169). -/
namespace Sys2Proof.Machine

/-- Writes a patch set into one Mangle's store (R167, R169): 256 words and 32 match registers, all or nothing; what the set
does not carry is zero and disabled (log 102). -/
def loadPatch (k : Nat) (ws : List (BitVec 160)) (ms : List MatchEntry) (s : State) : State :=
  { s with
    eng.patch := (List.range 256).foldl (fun t i => tput t 0 (256 * k + i) (ws.getD i 0)) s.eng.patch
    eng.matchRegs := (List.range 32).foldl (fun t i =>
      let e := ms.getD i ⟨false, 0, 0⟩
      tput t {} (32 * k + i) { en := e.en, addr := e.addr, index := e.index }) s.eng.matchRegs }

/-- The bank that an activation is about to make active. -/
def State.activatingBank (s : State) : Option Bank :=
  if s.svc.bank0.st = .activating then some s.svc.bank0 else if s.svc.bank1.st = .activating then some s.svc.bank1 else none

/-- Changes the inactive bank. -/
def State.modInactive (s : State) (f : Bank → Bank) : State :=
  if s.svc.bank0.st = .active then { s with svc.bank1 := f s.svc.bank1 } else { s with svc.bank0 := f s.svc.bank0 }

/-- The inactive bank. -/
def State.inactive (s : State) : Bank := if s.svc.bank0.st = .active then s.svc.bank1 else s.svc.bank0

/-- The bank select changes: the active bank becomes the inactive one, in state `old`, and the other becomes active. -/
def selectOther (old : BankSt) (s : State) : State :=
  if s.svc.bank0.st = .active then
    { s with svc.bank0 := { s.svc.bank0 with st := old }, svc.bank1 := { s.svc.bank1 with st := .active } }
  else { s with svc.bank1 := { s.svc.bank1 with st := old }, svc.bank0 := { s.svc.bank0 with st := .active } }

/-- What firmware holds by default returns to its defaults at a start of new firmware: SPDM and RSL sessions, pending migration
nonces, a halt of Thimble; an operator quorum ends (R505). -/
def firmwareDefaults (s : State) : State :=
  endQuorum { endRsl 8 s with
    hif.spdm := .none, hif.session := .none, hif.spdmKeys := [], hif.spdmUpdates := 0, hif.spdmSeq := 0, hif.transcript := []
    mig.nonces := [], thm.halted := false, thm.run := none }

/-- Steps 4 and 5 of an activation: the swap, and Thimble's restart on the new image (R503). -/
def swapBanks (s : State) : State :=
  let s := selectOther .staged s
  let s := { s with eng.patSetId := s.activeBank.setId }
  { firmwareDefaults s with thm.restarting := true }

/-- A DOE response is ready (R55): the mailbox is free, and a message is due on a vector of slice 0 (log 87). -/
def doeReady (s : State) : State := msixDue Config.doeVector.toNat { s with hif.doeBusy := false, hif.doeReq := none }

/-- DOE Discovery, protocol 0, is answered from the list of protocols (R45, R57). -/
def answerDiscovery (s : State) : State := doeReady (emit (.spdm [0x00, 0x01, 0x02]) s)

/-- A DOE Discovery that came during the pause is answered after it (R58). -/
def answerHeld (s : State) : State := if s.hif.doeReq.any (fun r => r.1 == 0) then answerDiscovery s else s

/-- Step 6: the pause ends, the SVN floor rises, the old bank stays STAGED or becomes INVALID, record 0x0110 (R503). An image that
fails its start checks or a migration, which a free value decides, is taken back instead, with record 0x0111 (R504). -/
def endActivation (s : State) : State :=
  let failed := Config.freeBool s.freeCtr
  let old := s.inactive
  let new := s.activeBank
  let s := fresh s
  let s :=
    if failed then
      let s := selectOther .invalid s
      let s := (List.range 32).foldl (fun s k => loadPatch k old.pattern old.matchSet s) { s with eng.patSetId := old.setId }
      logRecord 0x0111 (leBytes 4 old.version.toNat ++ leBytes 4 new.version.toNat) s
    else
      let floor := if s.svc.svnFloor < new.svn then new.svn else s.svc.svnFloor
      let s := { s with svc.svnFloor := floor }.modInactive (fun b => { b with st := if floor ≤ b.svn then .staged else .invalid })
      logRecord 0x0110 (leBytes 4 old.version.toNat ++ leBytes 4 new.version.toNat) s
  refetchAll (answerHeld { s with svc.paused := false, svc.activating := none, svc.loaded := [] })

end Sys2Proof.Machine
end

