-- ==== Sys2Proof/Machine/HostLink.lean ====
section
/-! DEFINITION. The host link: link state, Bus Master Enable, MSI-X, ATS, DOE with the SPDM responder, IDE
(02_host_link.md). -/
namespace Sys2Proof.Machine

/-! ## Link and bus -/

/-- A rate, a width and a mode in which the link operates (R41): x2 is not offered, and 64 GT/s is always in FLIT mode. -/
def linkOk (speed : BitVec 3) (width : BitVec 5) (flit : Bool) : Bool :=
  decide (1 ≤ speed.toNat) && decide (speed.toNat ≤ 6) && (width == 1 || width == 4 || width == 8 || width == 16) && (flit || speed != 6)

/-- The link reaches L0 or changes rate or width (R42, R43): the status follows, no job is touched. What R41 does not offer does not
come about. -/
def linkStateChangeDo (speed : BitVec 3) (width : BitVec 5) (flit dlActive : Bool) (s : State) : State :=
  if !s.pwr.inReset && !s.pwr.perst && linkOk speed width flit then { s with hif.speed := speed, hif.width := width, hif.flit := flit, hif.dlActive := dlActive } else s

/-- The link is down (R471). -/
def linkDown (s : State) : State := { s with hif.speed := 0, hif.width := 0, hif.flit := false, hif.dlActive := false }

/-- A write of HIF_LINK_CTRL (R64): the RWL rate and width, and RETRAIN, which acts whatever LOCK says (R14). -/
def writeLinkCtrl (value : BitVec 32) (s : State) : State :=
  let s := writeRwl 0 (fld value 0 3 != s.hif.minSpeed || fld value 3 5 != s.hif.minWidth)
    (fun s => { s with hif.minSpeed := fld value 0 3, hif.minWidth := fld value 3 5 }) s
  if bit value 8 then emit .retrain s else s

/-- RETRAIN = 1 (R64). -/
def retrainDo (value : BitVec 32) (s : State) : State := writeLinkCtrl (value ||| 0x100) s

/-- A configuration request (R62): nothing while the device is in reset or PERST# is low, Configuration Request Retry Status until the
HIF is ready. -/
def atConfig (f : State → State) (s : State) : State :=
  if s.pwr.inReset ∨ s.pwr.perst then s else if s.pwr.hifReady then f s else emit .retryStatus s

/-- A write of the command register (R54): with Bus Master Enable at 1 the device resumes, sends pending messages, posts
and releases what waited, and fetches again; Memory Space Enable, the ATS enable and the power state come with it (log 10). -/
def busMasterEnableWriteDo (bme mse : Bool) (more : ConfigBits) (s : State) : State :=
  atConfig (fun s =>
    let s := { s with hif.bme := bme, hif.mse := mse, hif.d3hot := more.d3hot, hif.atsEn := more.ats, hif.atc := if more.ats then s.hif.atc else [] }
    if bme && !more.d3hot then refetchAll (resumeHeld (flushPba s)) else s) s

/-- A write of the MSI-X control register (R56). -/
def msixControlWriteDo (enable mask : Bool) (s : State) : State :=
  atConfig (fun s => flushPba { s with hif.msixEn := enable, hif.fnMask := mask }) s

/-- One 32-bit field of an MSI-X table entry (R31, R56). -/
def setVectorField (v fieldNo : Nat) (x : BitVec 32) (s : State) : State :=
  { s with hif.vectors := tmod s.hif.vectors {} v (fun m =>
      match fieldNo with
      | 0 => { m with addr := (fld m.addr 32 32) ++ x }
      | 1 => { m with addr := x ++ (fld m.addr 0 32) }
      | 2 => { m with data := x }
      | _ => { m with mask := bit x 0 }) }

/-- A write to BAR4 (R31, R56): the table up to 0x7FFF; the pending-bit array and the rest ignore writes. -/
def msixTableWriteDo (offset : Nat) (wide : Bool) (value : BitVec 64) (s : State) : State :=
  if !s.barOn || offset % (if wide then 8 else 4) ≠ 0 then emit .unsupported s
  else if 0x8000 ≤ offset then s
  else
    let v := offset / 16
    let f := offset % 16 / 4
    let s := setVectorField v f (fld value 0 32) s
    flushPba (if wide then setVectorField v (f + 1) (fld value 32 32) s else s)

/-! ## ATS (R52, R53) -/

/-- The read touches one of the pages. -/
def PendingRead.touches (r : PendingRead) (page count : Nat) : Bool :=
  decide (r.addr / 4096 < page + count) && decide (page * 4096 < r.addr + r.len)

/-- The cells being fetched for a queue that lie in one of the pages, by queue and index. -/
def Sq.fetching (q : Sq) (n page count : Nat) : List (Nat × Nat) :=
  (q.outst.filter (fun i => let p := (q.base.toNat + 64 * i) / 4096; decide (page ≤ p) && decide (p < page + count))).map (fun i => (n, i))

/-- A release that waits asks again for the pages that no request on its way covers (R52, R53). -/
def retranslate (s : State) : State :=
  (s.jobs.filter (fun j => j.phase == .release && s.mayRequest j.slice)).foldl (fun s j => translatePages j.slice (s.missingPages j) s) s

/-- An Invalidation Request (R53): the named translations serve no new request, a release that has not started translates its pages
again, and the completion waits for reads and fetches already issued under them. -/
def atsInvalidationRequestDo (tag : BitVec 5) (glob : Bool) (slice : BitVec 8) (page count : Nat) (s : State) : State :=
  let hit := fun (sl p : Nat) => (glob || sl == slice.toNat) && decide (page ≤ p) && decide (p < page + count)
  retranslate { s with
    hif.atc := s.hif.atc.filter (fun a => !hit a.slice a.page)
    hif.invals := s.hif.invals ++ [{
      tag := tag.toNat
      reads := (s.hif.reads.filter (fun r => (glob || r.slice == slice.toNat) && r.touches page count)).map (·.tag)
      cells := (s.sqs.map (fun e => if glob || e.1 / 16 == slice.toNat then e.2.fetching e.1 page count else [])).flatten }] }

/-- The Invalidation Completion (R53), once those reads and fetches have completed. -/
def atsInvalidationCompleteDo (tag : BitVec 5) (s : State) : State :=
  match s.hif.invals.find? (fun v => v.tag == tag.toNat) with
  | some v =>
    if s.hif.reads.any (fun r => v.reads.contains r.tag) || v.cells.any (fun c => (tget s.sqs {} c.1).outst.contains c.2) then s
    else emit (.invalidationDone v.tag) { s with hif.invals := s.hif.invals.filter (fun v => v.tag != tag.toNat) }
  | none => s

/-- A translation arrives (R52): granted with write permission, releases that waited go on; denied, their jobs
and the unverified streams that need the page end with DMA_FAULT before any output byte. -/
def translationCompletionDo (slice : BitVec 8) (page : Nat) (granted writeOk : Bool) (s : State) : State :=
  let i := slice.toNat
  let s := { s with hif.translating := s.hif.translating.filter (· != (i, page)) }
  let waiting := s.jobs.filter (fun j => j.slice == i && j.phase == .release && (s.missingPages j).contains page)
  if granted && writeOk then
    let s := { s with hif.atc := lastN 4096 (s.hif.atc ++ [{ slice := i, page := page, writeOk := true }]) }
    waiting.foldl (fun s j => if s.missingPages j = [] then release j.id s else s) s
  else
    let s := if granted then { s with hif.atc := lastN 4096 (s.hif.atc ++ [{ slice := i, page := page, writeOk := false }]) } else s
    let streams := s.jobs.filter (fun j => j.slice == i && j.phase == .running && j.opcode == 0x0512 &&
      decide (1048576 < (tget j.inputs [] 0).length) && (s.missingPages { j with outs := [(0, tget j.inputs [] 0)] }).contains page)
    (waiting ++ streams).foldl (fun s j =>
      let s := raiseNote 0x12 j.engine (setDmaStatus .denied s)
      if j.phase = .release then endNow j.id stDmaFault j.engine s else endWiping j.id stDmaFault s) s

/-! ## DOE and SPDM (R57, R58) -/

/-- A DOE data object arrives (R57, R58): Busy until it is answered. DOE Discovery is answered at once, and during an activation pause
every request waits. -/
def doeRequestDo (protocol : BitVec 8) (data : Bytes) (s : State) : State :=
  atConfig (fun s =>
    let s := { s with hif.doeBusy := true, hif.doeReq := some (protocol.toNat, data.take 16384) }
    if protocol = 0 ∧ !s.svc.paused then answerDiscovery s else s) s

/-- A DOE Abort (R58): request and response in progress are discarded, no SPDM state changes. -/
def doeAbortDo (s : State) : State := atConfig (fun s => { s with hif.doeBusy := false, hif.doeReq := none }) s

/-- A response as it leaves (R57): in a session sealed with AES-256-GCM under the session's keys and the number of the response
(log 21). -/
def State.spdmSeal (s : State) (m : Bytes) : Bytes :=
  if s.hif.session = .none then m
  else
    let key := s.hif.spdmKeys.take 32
    let iv := fit 4 (s.hif.spdmKeys.drop 32) ++ leBytes 8 s.hif.spdmSeq
    let ct := gcmData 3 key iv m
    ct ++ alg .gcmTag 16 [num 3, key, iv, leBytes 8 s.hif.spdmSeq, ct]

/-- Answers an SPDM request, after any activation pause (R58): code, then content. -/
def spdmReply (code : BitVec 8) (content : Bytes) (s : State) : State :=
  doeReady (emit (.spdm (s.spdmSeal (0x12 :: code :: content))) { s with
    hif.spdmSeq := if s.hif.session = .none then s.hif.spdmSeq else s.hif.spdmSeq + 1
    hif.transcript := s.hif.transcript ++ code :: content })

/-- An SPDM ERROR reply. -/
def spdmRefuse (code : Nat) (s : State) : State := doeReady (emit (.spdmError code) s)

/-- The mailbox holds a request that has not been answered or discarded (R58): an SPDM one, protocol 1 or 2. -/
def State.spdmAsked (s : State) : Bool := s.hif.doeReq.any (fun r => r.1 == 1 || r.1 == 2)

/-- Runs an answer only while Thimble serves a request that stands in the mailbox, outside an activation pause, and only at the stage the protocol asks; otherwise
UnexpectedRequest (0x04; the order of requests is that of SPDM 1.2, log 21). -/
def spdmAt (ok : Bool) (f : State → State) (s : State) : State :=
  if s.svc.paused ∨ s.thm.restarting ∨ s.thm.halted ∨ s.svc.bootFailed ∨ !s.pwr.hifReady ∨ !s.spdmAsked then s else if ok then f s else spdmRefuse 0x04 s

/-- Algorithms agreed. -/
def State.spdmReady (s : State) : Bool := s.hif.spdm == .algorithms

/-- GET_VERSION starts the connection afresh: version 1.2. -/
def spdmGetVersionDo (s : State) : State :=
  spdmAt true (fun s => spdmReply 0x04 [0x12] { s with hif.spdm := .version, hif.transcript := [] }) s

/-- GET_CAPABILITIES returns what the responder of R57 can do, by the flags of SPDM 1.2 (log 21): certificates, challenge, signed
measurements, encryption, message authentication, key exchange, heartbeat, key update. -/
def spdmGetCapabilitiesDo (_flags : BitVec 32) (s : State) : State :=
  spdmAt (s.hif.spdm != .none) (fun s => spdmReply 0x61 (leBytes 4 0x62D6) { s with hif.spdm := .capabilities }) s

/-- NEGOTIATE_ALGORITHMS selects ECDSA P-384, SHA-384, secp384r1 and AES-256-GCM (R57). -/
def spdmNegotiateAlgorithmsDo (base hash : BitVec 32) (s : State) : State :=
  spdmAt (s.hif.spdm == .capabilities || s.hif.spdm == .algorithms) (fun s =>
    spdmReply 0x63 ([0x02, 0x02, 0x02, 0x02] ++ leBytes 4 base.toNat ++ leBytes 4 hash.toNat) { s with hif.spdm := .algorithms }) s

/-- GET_DIGESTS returns the digest of each chain present. -/
def spdmGetDigestsDo (s : State) : State :=
  spdmAt s.spdmReady (fun s => spdmReply 0x01
    (((List.range 2).filterMap Config.certChain).map sha384).flatten s) s

/-- GET_CERTIFICATE returns part of a chain, InvalidRequest for an empty slot (R57). -/
def spdmGetCertificateDo (slot : BitVec 3) (offset length : BitVec 16) (s : State) : State :=
  spdmAt s.spdmReady (fun s =>
    match Config.certChain slot.toNat with
    | none => spdmRefuse 0x01 s
    | some c => spdmReply 0x02 ((c.drop offset.toNat).take length.toNat) s) s

/-- CHALLENGE is signed with the device identity key (R57); the device's nonce is a free value. -/
def spdmChallengeDo (slot : BitVec 3) (nonce : Bytes) (s : State) : State :=
  spdmAt s.spdmReady (fun s =>
    match Config.certChain slot.toNat with
    | none => spdmRefuse 0x01 s
    | some c =>
      let n := freeBytes s 32
      fresh (spdmReply 0x03 (sha384 c ++ n ++ identitySign (s.hif.transcript ++ nonce ++ n) (freeBytes s 48)) s)) s

/-- The value of LCS_STATUS.STATE (R459). -/
def LcsSt.code : LcsSt → Nat
  | .maker => 0 | .integrator => 1 | .fielded => 2 | .analysis => 3 | .scrapped => 4 | .locked => 7

/-- Rights in force (R458, R467). -/
def State.rights (s : State) : BitVec 7 :=
  if s.lcs.state = .analysis then 0b0011111 else s.lcs.dac.elim 0 (fun d => d.rights)

/-- A measurement block (R57); block 4 exists on EQX-6480-L only. -/
def State.measurement (s : State) (i : Nat) : Option Bytes :=
  match i with
  | 1 => some (sha384 ((List.range 48).map Config.bootRom))
  | 2 => some (sha384 s.activeBank.image)
  | 3 => some (sha384 (s.activeBank.pattern.map (fun w => leBytes 20 w.toNat) ++
      s.activeBank.matchSet.map (fun m => leBytes 4 (flag m.en * 2 ^ 31 + m.addr.toNat * 2 ^ 8 + m.index.toNat))).flatten)
  | 4 => if s.otp.variantL then some (leBytes 4 s.met.swId.toNat ++ fit 32 s.met.swSum) else none
  | 5 => some (sha384 (leBytes 1 s.lcs.state.code ++ leBytes 1 s.rights.toNat))
  | 6 => some (sha384 (leBytes 1 s.thm.payPolicy.toNat ++ leBytes 1 s.thm.m ++ (s.thm.custodians.map (fun c => c.id ++ c.key)).flatten ++
      leBytes 1 (s.met.stored.elim 0 (·.toNat))))
  | _ => none

/-- GET_MEASUREMENTS: index 0 asks how many, 0xFF for all, else one block; signed where asked (R57). -/
def spdmGetMeasurementsDo (index : BitVec 8) (sign : Bool) (nonce : Bytes) (s : State) : State :=
  spdmAt s.spdmReady (fun s =>
    let all := (List.range 7).filterMap s.measurement
    let body := if index = 0 then some (leBytes 1 all.length) else if index = 0xFF then some all.flatten else s.measurement index.toNat
    match body with
    | none => spdmRefuse 0x01 s
    | some b =>
      if sign then fresh (spdmReply 0x60 (b ++ identitySign (s.hif.transcript ++ nonce ++ b) (freeBytes s 48)) s)
      else spdmReply 0x60 b s) s

/-- KEY_EXCHANGE: ECDHE over secp384r1 with a fresh key starts the handshake of a session (R57). -/
def spdmKeyExchangeDo (slot : BitVec 3) (random exchange : Bytes) (s : State) : State :=
  spdmAt s.spdmReady (fun s =>
    match Config.certChain slot.toNat with
    | none => spdmRefuse 0x01 s
    | some _ =>
      let d := freeBytes s 48
      let share := alg .ecPk 96 [num 0x02, d]
      let z := alg .ecdh 48 [num 0x02, d, exchange]
      let t := s.hif.transcript ++ random ++ exchange ++ share
      let s := spdmReply 0x64 (share ++ identitySign t d) s
      fresh { s with hif.session := .handshake, hif.spdmKeys := alg .hkdf 96 [z, t], hif.spdmUpdates := 0, hif.spdmSeq := 0 }) s

/-- FINISH: the requester's verify data must be the HMAC under the finished key; then the session is secured. -/
def spdmFinishDo (verify : Bytes) (s : State) : State :=
  spdmAt (s.hif.session == .handshake) (fun s =>
    if verify = alg .hmac 48 [s.hif.spdmKeys, s.hif.transcript] then
      spdmReply 0x65 [] { s with hif.session := .secured }
    else spdmRefuse 0x06 { s with hif.session := .none, hif.spdmKeys := [] }) s

/-- KEY_UPDATE: the session's keys move on by one derivation. -/
def spdmKeyUpdateDo (s : State) : State :=
  spdmAt (s.hif.session == .secured) (fun s =>
    spdmReply 0x69 [] { s with hif.spdmKeys := alg .hkdf 96 [s.hif.spdmKeys, ascii "traffic upd"], hif.spdmUpdates := s.hif.spdmUpdates + 1, hif.spdmSeq := 0 }) s

/-- HEARTBEAT keeps the session alive. -/
def spdmHeartbeatDo (s : State) : State := spdmAt (s.hif.session == .secured) (spdmReply 0x68 []) s

/-- END_SESSION. -/
def spdmEndSessionDo (s : State) : State :=
  spdmAt (s.hif.session == .secured) (fun s => spdmReply 0x6C [] { s with hif.session := .none, hif.spdmKeys := [] }) s

/-! ## IDE (R59 to R61) -/

/-- A stream becomes Secure (R60): the hold of the slices bound to it ends. Keys are programmed only over a secured SPDM
session; at most one stream is the link stream (R59). -/
def ideStreamSecureDo (stream : BitVec 6) (link : Bool) (s : State) : State :=
  let old := tget s.hif.streams {} stream.toNat
  if !(old.programmed || s.hif.session == .secured) then s
  else
    let st := if link then tmap s.hif.streams {} (fun _ x => { x with link := false }) else s.hif.streams
    let s := { s with hif.streams := tput st {} stream.toNat { programmed := true, link := link, secure := true } }
    if s.hif.bme then refetchAll (resumeHeld s) else s

/-- An integrity failure (R61): the stream is Insecure; every slice bound to it, or every slice for the link stream, is
fenced, and its jobs end with DMA_FAULT at their next safe point. -/
def ideIntegrityFailureDo (stream : BitVec 6) (s : State) : State :=
  let x := tget s.hif.streams {} stream.toNat
  if !x.secure then s
  else
    let s := { s with hif.streams := tput s.hif.streams {} stream.toNat { x with secure := false } }
    let hit := below 256 (fun i =>
      x.link || ((tget s.hif.ideBind {} i).required && (tget s.hif.ideBind {} i).stream == stream.toNat))
    let s := stopJobs (fun j => hit.contains j.slice) stDmaFault s
    let s := hit.foldl (fun s i => fenceUnit (.slice i) .own s) s
    raiseEvent 0x22 stream.toNat .none .own s

/-! ## The meanings of the commands -/

/-- LINK_STATE_CHANGE (R42). -/
def execLinkStateChange (speed : BitVec 3) (width : BitVec 5) (flit : Bool) (dlActive : Bool) (s : State) : Host.Outcome State Fault Refusal := .next (linkStateChangeDo speed width flit dlActive s)
/-- RETRAIN (R64). -/
def execRetrain (value : BitVec 32) (s : State) : Host.Outcome State Fault Refusal := .next (atBar (retrainDo value) s)
/-- BUS_MASTER_ENABLE_WRITE (R54). -/
def execBusMasterEnableWrite (bme : Bool) (mse : Bool) (more : ConfigBits) (s : State) : Host.Outcome State Fault Refusal := .next (busMasterEnableWriteDo bme mse more s)
/-- MSIX_CONTROL_WRITE (R56). -/
def execMsixControlWrite (enable : Bool) (mask : Bool) (s : State) : Host.Outcome State Fault Refusal := .next (msixControlWriteDo enable mask s)
/-- MSIX_TABLE_WRITE (R56). -/
def execMsixTableWrite (offset : Nat) (wide : Bool) (value : BitVec 64) (s : State) : Host.Outcome State Fault Refusal := .next (msixTableWriteDo offset wide value s)
/-- ATS_INVALIDATION_REQUEST (R53). -/
def execAtsInvalidationRequest (tag : BitVec 5) (glob : Bool) (slice : BitVec 8) (page : Nat) (count : Nat) (s : State) : Host.Outcome State Fault Refusal := .next (atsInvalidationRequestDo tag glob slice page count s)
/-- ATS_INVALIDATION_COMPLETE (R53). -/
def execAtsInvalidationComplete (tag : BitVec 5) (s : State) : Host.Outcome State Fault Refusal := .next (atsInvalidationCompleteDo tag s)
/-- TRANSLATION_COMPLETION (R52). -/
def execTranslationCompletion (slice : BitVec 8) (page : Nat) (granted : Bool) (writeOk : Bool) (s : State) : Host.Outcome State Fault Refusal := .next (translationCompletionDo slice page granted writeOk s)
/-- DOE_REQUEST (R57). -/
def execDoeRequest (protocol : BitVec 8) (data : Bytes) (s : State) : Host.Outcome State Fault Refusal := .next (doeRequestDo protocol data s)
/-- DOE_ABORT (R58). -/
def execDoeAbort (s : State) : Host.Outcome State Fault Refusal := .next (doeAbortDo s)
/-- SPDM_GET_VERSION (R57). -/
def execSpdmGetVersion (s : State) : Host.Outcome State Fault Refusal := .next (spdmGetVersionDo s)
/-- SPDM_GET_CAPABILITIES (R57). -/
def execSpdmGetCapabilities (flags : BitVec 32) (s : State) : Host.Outcome State Fault Refusal := .next (spdmGetCapabilitiesDo flags s)
/-- SPDM_NEGOTIATE_ALGORITHMS (R57). -/
def execSpdmNegotiateAlgorithms (base : BitVec 32) (hash : BitVec 32) (s : State) : Host.Outcome State Fault Refusal := .next (spdmNegotiateAlgorithmsDo base hash s)
/-- SPDM_GET_DIGESTS (R57). -/
def execSpdmGetDigests (s : State) : Host.Outcome State Fault Refusal := .next (spdmGetDigestsDo s)
/-- SPDM_GET_CERTIFICATE (R57). -/
def execSpdmGetCertificate (slot : BitVec 3) (offset : BitVec 16) (length : BitVec 16) (s : State) : Host.Outcome State Fault Refusal := .next (spdmGetCertificateDo slot offset length s)
/-- SPDM_CHALLENGE (R57). -/
def execSpdmChallenge (slot : BitVec 3) (nonce : Bytes) (s : State) : Host.Outcome State Fault Refusal := .next (spdmChallengeDo slot nonce s)
/-- SPDM_GET_MEASUREMENTS (R57). -/
def execSpdmGetMeasurements (index : BitVec 8) (sign : Bool) (nonce : Bytes) (s : State) : Host.Outcome State Fault Refusal := .next (spdmGetMeasurementsDo index sign nonce s)
/-- SPDM_KEY_EXCHANGE (R57). -/
def execSpdmKeyExchange (slot : BitVec 3) (random : Bytes) (exchange : Bytes) (s : State) : Host.Outcome State Fault Refusal := .next (spdmKeyExchangeDo slot random exchange s)
/-- SPDM_FINISH (R57). -/
def execSpdmFinish (verify : Bytes) (s : State) : Host.Outcome State Fault Refusal := .next (spdmFinishDo verify s)
/-- SPDM_KEY_UPDATE (R57). -/
def execSpdmKeyUpdate (s : State) : Host.Outcome State Fault Refusal := .next (spdmKeyUpdateDo s)
/-- SPDM_HEARTBEAT (R57). -/
def execSpdmHeartbeat (s : State) : Host.Outcome State Fault Refusal := .next (spdmHeartbeatDo s)
/-- SPDM_END_SESSION (R57). -/
def execSpdmEndSession (s : State) : Host.Outcome State Fault Refusal := .next (spdmEndSessionDo s)
/-- IDE_STREAM_SECURE (R60). -/
def execIdeStreamSecure (stream : BitVec 6) (link : Bool) (s : State) : Host.Outcome State Fault Refusal := .next (ideStreamSecureDo stream link s)
/-- IDE_INTEGRITY_FAILURE (R61). -/
def execIdeIntegrityFailure (stream : BitVec 6) (s : State) : Host.Outcome State Fault Refusal := .next (ideIntegrityFailureDo stream s)

end Sys2Proof.Machine
end

