-- ==== Sys2Proof/Machine/Pattern.lean ====
section
/-! DEFINITION. The Pattern microcode store: microwords, sequencing, datapath, machine checks and patches
(06_pattern_store.md). -/
namespace Sys2Proof.Machine

/-! ## Microword fields (R159) -/

abbrev MWord := BitVec 160

def MWord.safe (w : MWord) : Bool := bit w 158
def MWord.endBit (w : MWord) : Bool := bit w 157
def MWord.pr (w : MWord) : Bool := bit w 156
def MWord.kport (w : MWord) : BitVec 3 := fld w 153 3
def MWord.fab (w : MWord) : BitVec 2 := fld w 151 2
def MWord.mg (w : MWord) : BitVec 2 := fld w 149 2
def MWord.unmask (w : MWord) : BitVec 2 := fld w 147 2
def MWord.attOp (w : MWord) : BitVec 2 := fld w 145 2
def MWord.kecOp (w : MWord) : BitVec 3 := fld w 124 3
def MWord.filt (w : MWord) : BitVec 3 := fld w 121 3
def MWord.scOp (w : MWord) : BitVec 2 := fld w 119 2
def MWord.agOp (w : MWord) (g : Nat) : BitVec 2 := fld w (87 + 2 * g) 2
def MWord.ldReg (w : MWord) : BitVec 2 := fld w 85 2
def MWord.agImm (w : MWord) : BitVec 11 := fld w 74 11
def MWord.bfOp (w : MWord) : BitVec 3 := fld w 60 3
def MWord.modSel (w : MWord) : BitVec 2 := fld w 58 2
def MWord.shr (w : MWord) : BitVec 2 := fld w 56 2
def MWord.twCtl (w : MWord) : BitVec 2 := fld w 54 2
def MWord.srcA (w : MWord) : Nat := (fld w 52 2).toNat
def MWord.srcB (w : MWord) : Nat := (fld w 50 2).toNat
def MWord.dstA (w : MWord) : Nat := (fld w 48 2).toNat
def MWord.dstB (w : MWord) : Nat := (fld w 46 2).toNat
def MWord.twImm (w : MWord) : BitVec 10 := fld w 36 10
def MWord.next (w : MWord) : BitVec 13 := fld w 18 13
def MWord.cond (w : MWord) : BitVec 5 := fld w 13 5
def MWord.cinv (w : MWord) : Bool := bit w 12
def MWord.lcSel (w : MWord) : Nat := (fld w 10 2).toNat
def MWord.lcOp (w : MWord) : BitVec 2 := fld w 8 2
def MWord.lcImm (w : MWord) : BitVec 8 := fld w 0 8

/-- Number of ones in the low `n` bits. -/
def ones : Nat → BitVec 32 → Nat
  | 0, _ => 0
  | n + 1, v => flag (v.getLsbD n) + ones n v

/-- The slices of a word whose parity is not odd (R165), bit k for slice k. -/
def MWord.parFail (w : MWord) : BitVec 5 :=
  BitVec.ofNat 5 ((List.range 5).foldl (fun a k => a + flag (ones 32 (fld w (32 * k) 32) % 2 == 0) * 2 ^ k) 0)

/-- A word is illegal (R156, R160): a reserved bit is set, a used field holds a reserved value, or a patch target has high
bits. A field that the word's operations do not use is ignored. -/
def MWord.illegal (w : MWord) : Bool :=
  decide (fld w 128 17 ≠ 0) || decide (fld w 96 23 ≠ 0) || decide (fld w 64 10 ≠ 0) || decide (fld w 32 4 ≠ 0) ||
  decide (0x10 ≤ w.cond.toNat) || w.lcOp == 3 || w.bfOp == 7 ||
  (w.bfOp != 0 && (w.shr == 3 || (w.bfOp != 6 && w.modSel == 3))) ||
  w.twCtl == 3 || decide (6 ≤ w.kecOp.toNat) || (w.kecOp == 3 && w.filt == 7) || w.scOp == 3 ||
  decide (4 ≤ w.kport.toNat) || w.fab == 3 || w.mg == 3 || w.unmask == 3 || w.attOp == 3 ||
  (w.pr && decide ((w.next.toNat / 256) ≠ 0))

/-- A patch set is refused at staging (R168): word parity or legality, or two enabled match registers with one address, or
too many words or matches. -/
def patchSetOk (ws : List MWord) (ms : List MatchEntry) : Bool :=
  decide (ws.length ≤ 256) && decide (ms.length ≤ 32) && ws.all (fun w => w.parFail == 0 && !w.illegal) &&
  ((ms.filter (·.en)).map (·.addr)).eraseDups.length == (ms.filter (·.en)).length

/-! ## Sequencing -/

/-- Number of the last share of the job (R157): its masking order, and 0 for an unmasked job (log 105). -/
def Mangle.lastShare (m : Mangle) : Nat := if m.unmasked then 0 else if m.order2 then 2 else 1

/-- Value of a condition at the start of the cycle (R157). -/
def Mangle.condValue (m : Mangle) (order : Nat) : Nat → Bool
  | 0x01 => tget m.lc 0 0 == 0
  | 0x02 => tget m.lc 0 1 == 0
  | 0x03 => tget m.lc 0 2 == 0
  | 0x04 => tget m.lc 0 3 == 0
  | 0x05 => m.reject
  | 0x06 => decide (m.target ≤ m.accepted)
  | 0x07 => decide (m.kecLeft ≠ 0)
  | 0x08 => m.keyReady
  | 0x09 => m.fabBusy
  | 0x0A => m.share.toNat == order
  | 0x0B => m.order2
  | 0x0C => m.att == 814
  | 0x0D => bit m.flags 0
  | 0x0E => bit m.flags 1
  | 0x0F => bit m.flags 2
  | _ => false

/-- Where the next word comes from (R156): a patch index, or a ROM address that a match register may redirect. -/
def nextWord (s : State) (k : Nat) (m : Mangle) (w : MWord) : Bool × BitVec 13 :=
  let order := m.lastShare
  let a : BitVec 13 :=
    if w.cond = 0 then w.next
    else (w.next &&& 0x1FFE) ||| (if (m.condValue order w.cond.toNat) ^^ w.cinv then 1 else 0)
  if w.pr then (true, a &&& 0xFF)
  else s.redirect k a

/-- The word a Mangle is about to execute (R154, R158). -/
def State.mword (s : State) (k : Nat) : MWord :=
  let m := s.mangle k
  if m.inPatch then tget s.eng.patch 0 (256 * k + (m.addr.toNat % 256)) else romWord m.addr.toNat

/-! ## Datapath (R159 to R163) -/

/-- The modulus a word selects (R160). -/
def modulus : BitVec 2 → Nat
  | 0 => 3329 | 1 => 8380417 | _ => 12289

def lane (r : Row) (i : Nat) : Nat := (r.getD i 0).toNat
def mkRow (f : Nat → Nat) : Row := (List.range 16).map (fun i => BitVec.ofNat 32 (f i))

/-- The two result rows of a butterfly-lane operation (R160). -/
def butterfly (op : BitVec 3) (q z : Nat) (a b : Row) : Row × Row :=
  match op with
  | 1 => (mkRow (fun i => (lane a i + z * lane b i) % q), mkRow (fun i => (lane a i + q * (z * lane b i / q + 1) - z * lane b i) % q))
  | 2 => (mkRow (fun i => (lane a i + lane b i) % q), mkRow (fun i => z * ((lane a i + (q - lane b i % q)) % q) % q))
  | 3 => (mkRow (fun i => lane a i * lane b i % q), [])
  | 4 => (mkRow (fun i => (lane a i + lane b i) % q), [])
  | 5 => (mkRow (fun i => (lane a i + (q - lane b i % q)) % q), [])
  | _ => (a, [])

def Mangle.agAddr (m : Mangle) (g : Nat) : BitVec 11 := (tget m.ag {} g).addr
def Mangle.row (m : Mangle) (a : BitVec 11) : Row := tget m.rows [] a.toNat
def Mangle.tagOf (m : Mangle) (a : BitVec 11) : Bool := tget m.tags false a.toNat
def Mangle.setRow (m : Mangle) (a : BitVec 11) (r : Row) (t : Bool) : Mangle :=
  { m with rows := tput m.rows [] a.toNat r, tags := tput m.tags false a.toNat t }

/-- Butterfly results whose cycle has ended land before the next word reads (R161). -/
def Mangle.land (m : Mangle) : Mangle :=
  let due := m.pend.filter (fun p => decide (p.due < m.cycle))
  { due.foldl (fun m p => m.setRow p.row p.val p.tagged) m with pend := m.pend.filter (fun p => !decide (p.due < m.cycle)) }

/-- The butterfly lanes of a word: results written at the end of cycle c + 4 (R161), tagged by R162. A masked gadget's
shares are free values (log 14). -/
def Mangle.lanes (m : Mangle) (w : MWord) (free : Nat → Row) : Mangle :=
  if w.bfOp = 0 then m
  else
    let ra := m.agAddr w.srcA
    let rb := m.agAddr w.srcB
    let z := Config.zeta w.modSel.toNat m.tp.toNat
    let two := w.bfOp == 1 || w.bfOp == 2
    let (x, y) := if w.shr = 2 then (free 0, free 1) else butterfly w.bfOp (modulus w.modSel) z (m.row ra) (m.row rb)
    let t := w.shr == 1 || w.shr == 2 || m.tagOf ra || (w.bfOp != 6 && m.tagOf rb)
    let p := [{ due := m.cycle + 4, row := m.agAddr w.dstA, val := x, tagged := t : PendWrite }]
    { m with pend := m.pend ++ p ++ (if two then [{ due := m.cycle + 4, row := m.agAddr w.dstB, val := y, tagged := t }] else []) }

/-- One address generator after a word (R160). -/
def Ag.step (a : Ag) (op : BitVec 2) (reg : BitVec 2) (imm : BitVec 11) : Ag :=
  match op with
  | 1 => { a with addr := a.addr + a.stride }
  | 2 =>
    if a.count + 1 = a.group then { a with addr := a.addr + a.stride + a.skip, count := 0 }
    else { a with addr := a.addr + a.stride, count := a.count + 1 }
  | 3 => match reg with
    | 0 => { a with addr := imm } | 1 => { a with stride := imm } | 2 => { a with skip := imm } | _ => { a with group := imm }
  | _ => a

/-- Bytes of a row, and the row of 64 bytes of a string from byte `n` on. -/
def rowBytes (r : Row) : Bytes := ((List.range 16).map (fun i => leBytes 4 (lane r i))).flatten
def rowOf (bs : Bytes) (n : Nat) : Row := mkRow (fun i => fieldLE bs (n + 4 * i) 4)

/-- Writes a string into consecutive rows from `a` on, all with one share tag (log 92). -/
def Mangle.setRows (m : Mangle) (a : BitVec 11) (bs : Bytes) (tag : Bool) : Mangle :=
  (List.range (ceilDiv bs.length 64)).foldl (fun m i => m.setRow (a + BitVec.ofNat 11 i) (rowOf bs (64 * i)) tag) m

/-- Values of `n` bits that a block holds, low bits first within it (FIPS 203, FIPS 204). -/
def valuesOf (n : Nat) (bs : Bytes) : List Nat :=
  let v := ofLE bs
  (List.range (8 * bs.length / n)).map (fun i => v / 2 ^ (n * i) % 2 ^ n)

/-- How many values of a squeezed block a filter accepts (R160): those below its limit. The 23-bit values stand in 3 bytes each, the
16-bit values most significant byte first (FIPS 204, FIPS 206); what SampleInBall takes is the standard's. -/
def accepts (filt : Nat) (bs : Bytes) : Nat :=
  let below (lim : Nat) (l : List Nat) : Nat := (l.filter (· < lim)).length
  match filt with
  | 1 => below 3329 (valuesOf 12 bs)
  | 2 => below 8380417 ((valuesOf 24 bs).map (· % 2 ^ 23))
  | 3 => below 15 (valuesOf 4 bs)
  | 4 => below 9 (valuesOf 4 bs)
  | 5 => below 61445 ((valuesOf 16 bs).map (fun v => v % 256 * 256 + v / 256))
  | 6 => Config.measure .sampler [bs]
  | _ => 0

/-- Sampler Keccak core and rejection filter (R160): 24 cycles to permute. `rate` is the length of a squeezed block. A squeezed row is
tagged where the word works on shares or the state has taken in a tagged row (R162; log 92). -/
def Mangle.keccak (m : Mangle) (w : MWord) (rate : Nat) : Mangle :=
  let shared := w.shr == 1 || w.shr == 2
  let m := { m with kecLeft := m.kecLeft - 1 }
  match w.kecOp with
  | 1 => { m with
      kec := alg .keccakAbsorb 200 [m.kec, rowBytes (m.row (m.agAddr 2))], kecLeft := 24
      kecTag := m.kecTag || shared || m.tagOf (m.agAddr 2) }
  | 2 => { m with kec := alg .keccakF 200 [m.kec], kecLeft := 24 }
  | 3 => { m with accepted := m.accepted + accepts w.filt.toNat (fit rate m.kec) }
  | 4 => m.setRows (m.agAddr 3) (fit rate m.kec) (shared || m.kecTag)
  | 5 => { m with kec := [], kecTag := false, accepted := 0 }
  | _ => m

/-- Counters, flags and pointers of a word (R155, R157, R160). -/
def Mangle.counters (m : Mangle) (w : MWord) : Mangle :=
  let lc := tget m.lc 0 w.lcSel
  let m := match w.lcOp with
    | 1 => { m with lc := tput m.lc 0 w.lcSel (if lc = 0 then 0 else lc - 1) }
    | 2 => { m with lc := tput m.lc 0 w.lcSel w.lcImm }
    | _ => m
  let m := match w.twCtl with
    | 1 => { m with tp := m.tp + 1 } | 2 => { m with tp := w.twImm } | _ => m
  let m := match w.scOp with
    | 1 => { m with share := if m.share.toNat = m.lastShare then 0 else m.share + 1 } | 2 => { m with share := 0 } | _ => m
  let m := match w.attOp with
    | 1 => { m with att := m.att + 1 } | 2 => { m with att := 0 } | _ => m
  { m with ag := (List.range 4).foldl (fun t g => tmod t {} g (fun a => a.step (w.agOp g) w.ldReg w.agImm)) m.ag }

/-- Key port, fabric, refresh and unmasking of a word (R160, R162), which read the rows as they stood before it (`o`). Key port and fabric
transfers complete later (R161). A delivery of seed shares takes one row for each share, and the shares at SRC_A stand in that row and the
next ones (log 92); refreshed shares and the unmasked bit are free values (log 14). -/
def Mangle.ports (m o : Mangle) (w : MWord) (free : Nat → Row) (freeBit : Bool) : Mangle :=
  let m := match w.kport with
    | 1 => { m with keyTo := some (o.agAddr 2, o.lastShare + 1), keyReady := false }
    | 2 => { m with keyTo := some (o.agAddr 2, 1), keyReady := false }
    | 3 => { m with filled := m.filled ++ [o.row (o.agAddr 3)], keyTo := some (o.agAddr 3, 0), keyReady := false }
    | _ => m
  let m := match w.fab with
    | 1 => { m with fabTo := some (o.agAddr 2), fabBusy := true }
    | 2 => { m with staged := m.staged ++ [o.row (o.agAddr 3)], fabBusy := true }
    | _ => m
  let m := match w.unmask with
    | 1 => { m with reject := freeBit }
    | 2 =>
      let shares := (List.range (o.lastShare + 1)).map (fun i => rowBytes (o.row (o.agAddr w.srcA + BitVec.ofNat 11 i)))
      m.setRow (m.agAddr w.dstA) (rowOf (alg .unmask 64 (num w.modSel.toNat :: shares)) 0) false
    | _ => m
  if w.mg = 2 then m.setRow (m.agAddr w.dstA) (free 4) true else m

/-- Transfers that complete in this cycle (R161): an input row, once the job's inputs are there, and a key-port operation, whose shares are
free values (log 14). -/
def Mangle.transfers (m : Mangle) (inRow : Option Row) (free : Nat → Row) (fabDone keyDone : Bool) : Mangle :=
  let m := match m.fabTo, inRow with
    | some r, some x => if fabDone then { m.setRow r x false with fabTo := none, fabBusy := false, fabIn := m.fabIn + 1 } else m
    | some _, none => m
    | none, _ => { m with fabBusy := m.fabBusy && !fabDone }
  match m.keyTo with
  | some (r, n) =>
    if keyDone then
      { (List.range n).foldl (fun m i => m.setRow (r + BitVec.ofNat 11 i) (free (5 + i)) true) m with keyTo := none, keyReady := true }
    else m
  | none => m

/-! ## Machine checks (R166, R167) -/

/-- A machine check: captured, the running job ends with ENGINE_FAULT, the Mangle is fenced: for a parity fault in a patch
word until the reload, else until PORST# or a different patch set (R166, R167). -/
def machineCheck (k : Nat) (cause : BitVec 2) (parFail : BitVec 5) (s : State) : State :=
  let m := s.mangle k
  let cap : MCheck := { valid := true, cause := cause, inPatch := m.inPatch, parFail := parFail, addr := m.addr }
  let s := { s with eng.mchk := tmod s.eng.mchk {} k (fun c => if c.valid then c else cap) }
  let s := s.modMangle k (fun m => { m with halted := true })
  let s := (s.jobs.filter (fun j => j.engine == k && j.faulted)).foldl (fun s j => endWiping j.id stEngineFault s) s
  raiseEvent 0x30 k (.engine k) (if cause = 0 ∧ m.inPatch then .patch else .check) s

/-- The job on a Mangle. -/
def State.onMangle (s : State) (k : Nat) : Option Job := s.jobs.find? (fun j => j.engine == k && j.stoppable)

/-- One row of a job's inputs, 64 bytes from place `n` on, once they are read. -/
def inputRow (j : Option Job) (n : Nat) : Option Row :=
  match j with
  | some j => if j.read then some (rowOf (j.inputs.map (·.2)).flatten (64 * n)) else none
  | none => some []

/-- Free rows of a Mangle's cycle. -/
def State.freeRow (s : State) (n : Nat) : Row := mkRow (fun i => Config.freeNat (s.freeCtr + 16 * n + i))

/-- A cycle in which the sequencer executes no word: at a wait or at an END that has not taken effect, the Keccak core goes on (R161). -/
def Mangle.pause (m : Mangle) : Mangle := { m with cycle := m.cycle + 1, kecLeft := m.kecLeft - 1 }

/-- Executes a legal word on Mangle `k` (R155, R156). -/
def runWord (k : Nat) (w : MWord) (s : State) : State :=
  let m := s.mangle k
  let j := s.onMangle k
  let nxt := nextWord s k m w
  let bitFree := Config.freeBool s.freeCtr
  let m' := (m.lanes w s.freeRow).keccak w (if Config.freeBool (s.freeCtr + 1) then 168 else 136)
  let m' := m'.ports m w s.freeRow bitFree
  let m' := m'.counters w
  let m' := { m' with
    inPatch := if w.endBit then false else nxt.1, addr := if w.endBit then 0 else nxt.2, cycle := m.cycle + 1
    sinceSafe := if w.safe then 0 else m.sinceSafe + 1, ending := m.ending || w.endBit }
  let s := fresh (s.modMangle k (fun _ => m'))
  let s := if w.mg = 0 then s else s.modGen k (fun g => { g with draws := g.draws + 1 })
  match j with
  | some j => if w.safe && j.stop.isSome then safePoint j.id (s.modMangle k (fun m => { m with halted := true })) else s
  | none => s

/-- One ECLK cycle of a Mangle's sequencer (R155 to R166). Asynchronous transfers complete at an instant that a free value
decides (log 22). A word with MG = 1 on a stalled generator waits, which is a safe point (R163, R164). On a halted Mangle only the
butterfly writes already issued land (R166). -/
def microwordExecuteDo (mangle : BitVec 5) (s : State) : State :=
  let k := mangle.toNat
  if (s.mangle k).halted || s.fence k ≠ .none then s.modMangle k (fun m => m.land.pause)
  else
    let landed := (s.mangle k).land
    let landed := landed.transfers (inputRow (s.onMangle k) landed.fabIn) s.freeRow (Config.freeBool s.freeCtr) (Config.freeBool (s.freeCtr + 1))
    let s := fresh (fresh (s.modMangle k (fun _ => landed)))
    let m := s.mangle k
    if 14000 ≤ m.sinceSafe then machineCheck k 2 0 s
    else if m.ending then
      s.modMangle k (fun m =>
        if m.pend = [] ∧ !m.fabBusy then { m.pause with ending := false, sinceSafe := 0 } else { m.pause with sinceSafe := m.sinceSafe + 1 })
    else
      let w := s.mword k
      if w.parFail ≠ 0 then machineCheck k 0 w.parFail s
      else if w.illegal then machineCheck k 1 0 s
      else if w.fab = 2 ∧ m.tagOf (m.agAddr 3) then machineCheck k 3 0 s
      else if w.mg = 1 ∧ s.stalled k then
        let s := s.modMangle k (fun m => { m.pause with sinceSafe := 0 })
        match s.onMangle k with
        | some j => if j.stop.isSome then safePoint j.id (s.modMangle k (fun m => { m with halted := true })) else s
        | none => s
      else runWord k w s

/-- The count of cycles since the last safe point reaches 14,000 (R164). -/
def safePointWatchdogDo (mangle : BitVec 5) (s : State) : State :=
  let k := mangle.toNat
  if (s.onMangle k).isSome ∧ s.fence k = .none then
    machineCheck k 2 0 (s.modMangle k (fun m => { m with sinceSafe := 14000 }))
  else s

/-- Thimble reloads the patch RAM of a Mangle fenced by a parity fault in a patch word and returns it to service (R167). -/
def patchReloadDo (mangle : BitVec 5) (s : State) : State :=
  let k := mangle.toNat
  if s.fence k = .patch ∧ !s.thm.restarting then
    let b := s.activeBank
    (loadPatch k b.pattern b.matchSet s).setFence k .none |>.modMangle k (fun _ => {})
  else s

/-- During the activation pause Thimble loads an idle Mangle with the patch set of the image that becomes active (R169); a
different patch set ends a fence of R167. The load of the last Mangle is followed by the bank swap (R503, step 4). -/
def patternPatchLoadDo (mangle : BitVec 5) (s : State) : State :=
  let k := mangle.toNat
  match s.svc.paused, s.activatingBank with
  | true, some b =>
    if s.jobs.any (fun j => j.engine == k && j.onEngine) then s
    else
      let s := loadPatch k b.pattern b.matchSet s
      let s := if s.fence k = .check ∧ s.eng.patSetId ≠ b.setId then
          (s.setFence k .none).modMangle k (fun _ => {})
        else s
      let l := if s.svc.loaded.contains k then s.svc.loaded else k :: s.svc.loaded
      let s := { s with svc.loaded := l }
      if l.length = 32 then swapBanks s else s
  | _, _ => s

/-! ## The meanings of the commands -/

/-- MICROWORD_EXECUTE (R156). -/
def execMicrowordExecute (mangle : BitVec 5) (s : State) : Host.Outcome State Fault Refusal := .next (powered (microwordExecuteDo mangle) s)
/-- SAFE_POINT_WATCHDOG (R164). -/
def execSafePointWatchdog (mangle : BitVec 5) (s : State) : Host.Outcome State Fault Refusal := .next (powered (safePointWatchdogDo mangle) s)
/-- PATCH_RELOAD (R167). -/
def execPatchReload (mangle : BitVec 5) (s : State) : Host.Outcome State Fault Refusal := .next (patchReloadDo mangle s)
/-- PATTERN_PATCH_LOAD (R169). -/
def execPatternPatchLoad (mangle : BitVec 5) (s : State) : Host.Outcome State Fault Refusal := .next (patternPatchLoadDo mangle s)

end Sys2Proof.Machine
end

