-- ==== Sys2Proof/Machine/Service.lean ====
section
/-! DEFINITION. The Rohoul Service Link: link, session set-up, firmware images, activation, event and pattern read-out
(21_service_firmware_events.md, R494 to R511; 06_pattern_store.md, R170). -/
namespace Sys2Proof.Machine

/-! ## Link and session (R494 to R498) -/

/-- RSL_LINK_UP. -/
def rslLinkUpDo (s : State) : State := if s.pwr.inReset then s else { s with svc.linkUp := true }

/-- RSL_LINK_DOWN: the session ends. -/
def rslLinkDownDo (s : State) : State := endRsl 4 { s with svc.linkUp := false }

/-- RSL_CLOSE. -/
def rslCloseDo (s : State) : State := endRsl 3 s

/-- RSL_SESSION_TIMEOUT. -/
def rslSessionTimeoutDo (s : State) : State := endRsl 2 s

/-- SVC_FRAME_ERROR (R496). -/
def svcFrameErrorDo (s : State) : State := { s with svc.frameErrors := satInc s.svc.frameErrors }

/-- The device can answer on the link. -/
def State.rslServes (s : State) : Bool := s.svc.linkUp && s.thimbleUp

/-- RSL_HELLO (R497, steps 1 and 2): a session that is open stays open until a KEX. -/
def rslHelloDo (seq : BitVec 16) (s : State) : State :=
  if !s.rslServes then s
  else
    let p := serialBytes ++ leBytes 1 s.lcs.state.code ++ leBytes 4 s.otp.lcsA.toNat ++ leBytes 4 s.otp.lcsB.toNat ++
      leBytes 4 s.otp.lcsC.toNat ++ leBytes 4 s.activeBank.version.toNat
    emit (.rsl 0x01 (clearFrame 0x01 seq.toNat p)) { s with
      svc.transcript := clearFrame 0x01 seq.toNat [] ++ clearFrame 0x01 seq.toNat p
      svc.stage := if s.svc.stage = .isOpen then .isOpen else .hello }

/-- RSL_KEX (R497, steps 3 and 4): fresh keys from the DRBG, the identity signature over every frame so far. It ends an open session. -/
def rslKexDo (seq : BitVec 16) (point : Bytes) (s : State) : State :=
  if !s.rslServes ∨ s.svc.transcript = [] ∨ point.length ≠ 32 ∨ s.rng.state ≠ .ready then s
  else
    let t := s.svc.transcript ++ clearFrame 0x02 seq.toNat point
    let d := freeBytes s 144
    let ek := alg .mlKemEk 1568 [num 3, d.take 64]
    let x := alg .ecPk 32 [num 0x12, [], cut d 64 32]
    let h := frameHead 0x02 0 seq.toNat (1568 + 32 + 96)
    let sig := identitySign (t ++ h ++ ek ++ x) (d.drop 96)
    let p := ek ++ x ++ sig
    let s := if s.svc.stage = .isOpen then endRsl 5 s else s
    fresh (emit (.rsl 0x02 (clearFrame 0x02 seq.toNat p)) { s with
      svc.stage := .kex, svc.transcript := t ++ clearFrame 0x02 seq.toNat p, svc.kex := d.take 96 ++ point })

/-- RSL_KEX_DONE (R497, steps 5 and 6): the session keys, the session open, NOTICE 0x0000 with SECURE. -/
def rslKexDoneDo (seq : BitVec 16) (ciphertext : Bytes) (s : State) : State :=
  if !s.rslServes ∨ s.svc.stage ≠ .kex ∨ ciphertext.length ≠ 1568 then s
  else
    let kq := alg .mlKemDecaps 32 [num 3, s.svc.kex.take 64, ciphertext]
    let kx := alg .ecdh 32 [num 0x12, [], cut s.svc.kex 64 32, cut s.svc.kex 96 32]
    let keys := kmac256 (kq ++ kx) (sha384 (s.svc.transcript ++ clearFrame 0x03 seq.toNat ciphertext)) 64 (ascii "EQX-RSL")
    let s := { s with svc.stage := .isOpen, svc.keys := keys, svc.kex := [], svc.transcript := [], svc.lastSeq := none, svc.lastReply := [], svc.txSeq := 0 }
    sendFrame 0x12 0 false (leBytes 2 0) (logRecord 0x0103 [] s)

/-! ## Firmware images (R500 to R502) -/

/-- The life-cycle state is one of MAKER to ANALYSIS. -/
def State.serviceLife (s : State) : Bool := match s.lcs.state with | .scrapped | .locked => false | _ => true

/-- IMAGE_BEGIN: the inactive bank is INVALID and erased. -/
def imageBeginDo (seq : BitVec 16) (s : State) : State :=
  rslRequest seq (fun s => s.serviceLife) (fun s =>
    if s.activatingBank.isSome then rslAnswer seq stSessionUnavailable [] s
    else rslAnswer seq stSuccess [] (s.modInactive (fun _ => {}))) s

/-- IMAGE_DATA: consecutive bytes into the inactive bank; an image that outgrows the bank by then fails check 1 of IMAGE_END. -/
def imageDataDo (seq : BitVec 16) (data : Bytes) (s : State) : State :=
  rslRequest seq (fun s => s.serviceLife && s.inactive.st == .invalid) (fun s =>
    rslAnswer seq stSuccess [] (s.modInactive (fun b => { b with image := (b.image ++ data).take 8388609 }))) s

/-- A section of an image (R500): type, setting version, offset, length, tag, digest. -/
structure Section where
  kind : Nat
  sver : Nat
  offset : Nat
  len : Nat
  tag : Bytes
  digest : Bytes
deriving DecidableEq, Repr

/-- The section table of an image. -/
def sectionsOf (im : Bytes) : List Section :=
  (List.range (min 16 (fieldLE im 16 4))).map (fun k =>
    let o := 80 + 80 * k
    { kind := fieldLE im o 1, sver := fieldLE im (o + 1) 1, offset := fieldLE im (o + 4) 4, len := fieldLE im (o + 8) 4
      tag := cut im (o + 16) 16, digest := cut im (o + 32) 48 })

/-- Where the bodies of an image begin. -/
def bodyStart (im : Bytes) : Nat := 80 + 80 * fieldLE im 16 4 + 4727 + 2693

/-- Check 1 of R502: form, length, sections inside the image and not overlapping. -/
def imageForm (im : Bytes) : Bool :=
  let l := sectionsOf im
  fieldLE im 0 4 == 0x46515845 && fieldLE im 4 2 == 0x0501 && decide (1 ≤ fieldLE im 16 4) && decide (fieldLE im 16 4 ≤ 16) &&
  fieldLE im 20 4 == im.length && decide (im.length ≤ 8388608) &&
  l.all (fun x => decide (bodyStart im ≤ x.offset) && decide (x.offset + x.len ≤ im.length)) &&
  (List.range l.length).all (fun i => (List.range i).all (fun k =>
    match l[i]?, l[k]? with
    | some a, some b => decide (a.offset + a.len ≤ b.offset) || decide (b.offset + b.len ≤ a.offset)
    | _, _ => true))

/-- A composite signature of the vendor, laid out as ALG 0x03 (R341, R465): key hash and both signatures. -/
def vendorSigned (pk sig ctx m : Bytes) : Bool :=
  let mc := compositeMsg 3 ctx m
  sha384 pk == vendorHash && compositeHead 3 2592 pk && compositeHead 3 4627 sig && sig.length == 4727 && pk.length == 2693 &&
  Config.check .mlDsaVerify [num 0x13, cut pk 4 2592, cut sig 4 4627, num 0, num 0, [], mc] &&
  Config.check .ecdsaVerify [num 0x02, [], cut pk 2596 97, cut sig 4631 96, phDigest (compositeHash 3) mc, num (compositeHash 3)]

/-- Check 2 of R502. -/
def imageSigned (im : Bytes) : Bool :=
  let n := 80 + 80 * fieldLE im 16 4
  vendorSigned (cut im (n + 4727) 2693) (cut im n 4727) (ascii "EQX-FW") (im.take n)

/-- Ciphertext of a section. -/
def sectionBody (im : Bytes) (x : Section) : Bytes := cut im x.offset x.len

/-- The image key IK (R501). -/
def imageIk (im : Bytes) : Bytes := alg .kwUnwrap 32 [(List.range 32).map Config.imageKey, cut im 36 40]

/-- IV of section `k` (R501). -/
def sectionIv (im : Bytes) (k : Nat) : Bytes := cut im 28 8 ++ leBytes 4 k

/-- Plaintext of the first section of a type, empty where the image has none. -/
def sectionPlain (im : Bytes) (kind : Nat) : Bytes :=
  match (sectionsOf im).findIdx? (fun x => x.kind == kind) with
  | some k => ((sectionsOf im)[k]?).elim [] (fun x => gcmData 3 (imageIk im) (sectionIv im k) (sectionBody im x))
  | none => []

/-- Checks 4 and 5 of R502. -/
def imageDigests (im : Bytes) : Bool := (sectionsOf im).all (fun x => sha384 (sectionBody im x) == x.digest)
def imageTags (im : Bytes) : Bool :=
  (List.range (sectionsOf im).length).all (fun k => ((sectionsOf im)[k]?).elim true (fun x =>
    alg .gcmTag 16 [num 3, imageIk im, sectionIv im k, [], sectionBody im x] == x.tag))

/-- The patch words and match entries of an image. The form of the section's plaintext is not stated: a named reader gives 20 bytes a
word and 4 bytes an entry (enable in bit 31, index in bits 23:16, address in bits 12:0). -/
def patchWords (im : Bytes) : List (BitVec 160) :=
  let b := Config.crypto .patchParse [num 0, sectionPlain im 4]
  (List.range (b.length / 20)).map (fun k => BitVec.ofNat 160 (fieldLE b (20 * k) 20))
def patchMatches (im : Bytes) : List MatchEntry :=
  let b := Config.crypto .patchParse [num 1, sectionPlain im 4]
  (List.range (b.length / 4)).map (fun k =>
    let v := BitVec.ofNat 32 (fieldLE b (4 * k) 4)
    { en := bit v 31, addr := fld v 0 13, index := fld v 16 8 })

/-- Check 6 of R502: patch set, Needle segment, versioned settings covered (R505). -/
def imageContent (im : Bytes) : Bool :=
  patchSetOk (patchWords im) (patchMatches im) && (sectionsOf im).all (fun x => x.kind != 2 || decide (x.len ≤ 1048576)) &&
  Config.check .imageParse [num 6, sectionPlain im 6]

/-- The first check of R502 that fails decides; 0 when all pass. -/
def imageStatus (floor : BitVec 32) (im : Bytes) : Nat :=
  if !imageForm im then stInputMalformed
  else if !imageSigned im then stSignatureInvalid
  else if fieldLE im 12 4 < floor.toNat then stKeyPolicyDenied
  else if !imageDigests im then stInputMalformed
  else if !imageTags im then stAuthFailed
  else if !imageContent im then stBadParameter
  else 0

/-- The bank as IMAGE_END leaves it when every check passes. -/
def stagedBank (im : Bytes) : Bank :=
  { st := .staged, image := im, version := BitVec.ofNat 32 (fieldLE im 8 4), svn := BitVec.ofNat 32 (fieldLE im 12 4)
    setId := BitVec.ofNat 32 (fieldLE im 24 4), pattern := patchWords im, matchSet := patchMatches im }

/-- IMAGE_END: the bank is STAGED with record 0x0101, or stays INVALID with record 0x0102. -/
def imageEndDo (seq : BitVec 16) (s : State) : State :=
  rslRequest seq (fun s => s.serviceLife && s.inactive.st == .invalid) (fun s =>
    let im := s.inactive.image
    match imageStatus s.svc.svnFloor im with
    | 0 => rslAnswer seq stSuccess [] (logRecord 0x0101 (leBytes 4 (stagedBank im).version.toNat) (s.modInactive (fun _ => stagedBank im)))
    | st => rslAnswer seq st [] (logRecord 0x0102 (leBytes 2 st) s)) s

/-! ## Activation (R503) -/

/-- A composite job that Thimble has started and that is not over. -/
def State.compositeRunning (s : State) : Bool :=
  s.jobs.any (fun j => j.composite && (j.onEngine || (match j.phase with | .held .cards | .held .drain => true | _ => false)))

/-- What R503 asks before an activation. -/
def State.mayActivate (s : State) : Bool :=
  s.serviceLife && s.svc.actEn && s.inactive.st == .staged && s.crd.run.isNone && s.mig.contexts.isEmpty &&
  s.lcs.burning.isNone && !s.vent.halt && s.svc.activating.isNone

/-- ACTIVATE (step 1): composite jobs stop starting, a running QUORUM_OPEN ends with ABORTED; the answer waits for the outcome. -/
def activateDo (seq : BitVec 16) (s : State) : State :=
  rslRequest seq (·.mayActivate) (fun s =>
    let s := { s.modInactive (fun b => { b with st := .activating }) with svc.activating := some seq }
    match s.thm.run with
    | some r => endNow r.job stAborted engThimble { s with thm.run := none }
    | none => s) s

/-- ACTIVATION_DRAIN_COMPLETE (steps 2 and 3): once no composite job runs, the pause starts; the patch loads, the swap, the restart
and the end of the pause follow (PATTERN_PATCH_LOAD, THIMBLE_RESTART_COMPLETE). -/
def activationDrainCompleteDo (s : State) : State :=
  if s.svc.activating.isSome ∧ !s.svc.paused ∧ !s.compositeRunning then { s with svc.paused := true, svc.loaded := [] } else s

/-- ACTIVATION_DRAIN_TIMEOUT: the activation ends with ABORTED and nothing has changed. -/
def activationDrainTimeoutDo (s : State) : State :=
  match s.svc.activating with
  | some seq =>
    if s.svc.paused then s
    else
      let s := { s.modInactive (fun b => { b with st := .staged }) with svc.activating := none }
      if s.svc.stage = .isOpen then rslAnswer seq stAborted [] s else s
  | none => s

/-! ## Reading and clearing (R170, R510, R511) -/

/-- RSL_EVENT_READ. -/
def rslEventReadDo (seq : BitVec 16) (first : BitVec 64) (count : BitVec 32) (s : State) : State :=
  rslRequest seq (·.rslOpen false) (fun s => rslAnswer seq stSuccess (eventRead first.toNat count.toNat s) s) s

/-- RSL_EVENT_CLEAR: under the right EVENT_CLEAR or a quorum. -/
def rslEventClearDo (seq : BitVec 16) (s : State) : State :=
  rslRequest seq (fun s => s.rslOpen false && (s.right 4 || s.quorumInForce)) (fun s =>
    rslAnswer seq stSuccess [] (eventClear (if s.right 4 then 2 else 1) s)) s

/-- RSL_PATTERN_READ: the ROM, patch RAM and match registers of one Mangle (R170), once its job has ended; meanwhile nothing is
dispatched to it. The read of an idle Mangle is one step. -/
def rslPatternReadDo (seq : BitVec 16) (mangle : BitVec 5) (s : State) : State :=
  rslRequest seq (fun s => s.rslOpen false && s.right 3) (fun s =>
    servePatRead { s with svc.patRead := some (seq, mangle.toNat) }) s

/-! ## The meanings of the commands -/

/-- RSL_LINK_UP (R494). -/
def execRslLinkUp (s : State) : Host.Outcome State Fault Refusal := .next (rslLinkUpDo s)
/-- RSL_LINK_DOWN (R494). -/
def execRslLinkDown (s : State) : Host.Outcome State Fault Refusal := .next (rslLinkDownDo s)
/-- RSL_HELLO (R497). -/
def execRslHello (seq : BitVec 16) (s : State) : Host.Outcome State Fault Refusal := .next (rslHelloDo seq s)
/-- RSL_KEX (R497). -/
def execRslKex (seq : BitVec 16) (point : Bytes) (s : State) : Host.Outcome State Fault Refusal := .next (rslKexDo seq point s)
/-- RSL_KEX_DONE (R497). -/
def execRslKexDone (seq : BitVec 16) (ciphertext : Bytes) (s : State) : Host.Outcome State Fault Refusal := .next (rslKexDoneDo seq ciphertext s)
/-- RSL_CLOSE (R498). -/
def execRslClose (s : State) : Host.Outcome State Fault Refusal := .next (rslCloseDo s)
/-- RSL_SESSION_TIMEOUT (R498). -/
def execRslSessionTimeout (s : State) : Host.Outcome State Fault Refusal := .next (rslSessionTimeoutDo s)
/-- IMAGE_BEGIN (R502). -/
def execImageBegin (seq : BitVec 16) (s : State) : Host.Outcome State Fault Refusal := .next (imageBeginDo seq s)
/-- IMAGE_DATA (R502). -/
def execImageData (seq : BitVec 16) (data : Bytes) (s : State) : Host.Outcome State Fault Refusal := .next (imageDataDo seq data s)
/-- IMAGE_END (R502). -/
def execImageEnd (seq : BitVec 16) (s : State) : Host.Outcome State Fault Refusal := .next (imageEndDo seq s)
/-- ACTIVATE (R503). -/
def execActivate (seq : BitVec 16) (s : State) : Host.Outcome State Fault Refusal := .next (activateDo seq s)
/-- ACTIVATION_DRAIN_COMPLETE (R503). -/
def execActivationDrainComplete (s : State) : Host.Outcome State Fault Refusal := .next (activationDrainCompleteDo s)
/-- ACTIVATION_DRAIN_TIMEOUT (R503). -/
def execActivationDrainTimeout (s : State) : Host.Outcome State Fault Refusal := .next (activationDrainTimeoutDo s)
/-- RSL_EVENT_READ (R510). -/
def execRslEventRead (seq : BitVec 16) (first : BitVec 64) (count : BitVec 32) (s : State) : Host.Outcome State Fault Refusal := .next (rslEventReadDo seq first count s)
/-- RSL_EVENT_CLEAR (R511). -/
def execRslEventClear (seq : BitVec 16) (s : State) : Host.Outcome State Fault Refusal := .next (rslEventClearDo seq s)
/-- RSL_PATTERN_READ (R170). -/
def execRslPatternRead (seq : BitVec 16) (mangle : BitVec 5) (s : State) : Host.Outcome State Fault Refusal := .next (rslPatternReadDo seq mangle s)
/-- SVC_FRAME_ERROR (R496). -/
def execSvcFrameError (s : State) : Host.Outcome State Fault Refusal := .next (svcFrameErrorDo s)

end Sys2Proof.Machine
end

