-- ==== Sys2Proof/Machine/Tamper.lean ====
section
/-! DEFINITION. Tamper sources and their configuration, shadow mismatches, Thimble lockstep, the Vent's control
(18_tamper_and_faults.md). -/
namespace Sys2Proof.Machine

/-! ## Alarms (R436 to R439, R442 to R444) -/

/-- Both fuses of a source's pair are burned (R439). -/
def State.sourceOff (s : State) (n : Nat) : Bool := bit s.otp.tdis (2 * n) && bit s.otp.tdis (2 * n + 1)

/-- A tamper alarm: the Vent's event, whose response is RINSE; in reset the Vent does not run, and RINSE alone follows (R444). -/
def tamperAlarm (code detail : Nat) (s : State) : State :=
  if s.pwr.inReset then rinse code detail s else raiseNote code detail s

/-- An external source alarms: nothing when it is disabled; otherwise its ALARM bit and the event (R437, R438, R456). -/
def sourceAlarm (n code detail : Nat) (s : State) : State :=
  if s.sourceOff n then s
  else tamperAlarm code detail (if s.pwr.inReset then s else { s with tmp.alarm := s.tmp.alarm ||| (1 <<< n) })

/-- TLOOP_ALARM; `bit` is the loop bit number (R437, R445). -/
def tloopAlarmDo (loop : BitVec 3) (bit : BitVec 8) (s : State) : State := sourceAlarm loop.toNat (0x60 + loop.toNat) bit.toNat s

/-- CASE_SW_ALARM (R438). -/
def caseSwAlarmDo (switch : BitVec 2) (s : State) : State := sourceAlarm (8 + switch.toNat) (0x68 + switch.toNat) 0 s

/-- Code of a detector (R436). -/
def detectorCode : Detector → Nat
  | .dieMesh => 0x6C | .substrateMesh => 0x6D | .vbat => 0x70 | .temperature => 0x71 | .supply => 0x72 | .clock => 0x73 | .light => 0x74

/-- A detector works now (R436, R516): VBAT only without main power; supply, clock and light only with it, and the supply monitor
not while internal reset is asserted. -/
def State.detects (s : State) : Detector → Bool
  | .vbat => !s.pwr.mainPower
  | .supply => s.pwr.mainPower && !s.pwr.inReset
  | .clock | .light => s.pwr.mainPower
  | _ => true

/-- TAMPER_ALARM (R436). -/
def tamperAlarmDo (detector : Detector) (detail : BitVec 8) (s : State) : State :=
  if s.detects detector then tamperAlarm (detectorCode detector) detail.toNat s else s

/-- VBAT_LOW_WARNING: VBAT is measured; below 2.3 V while main-powered it is event 0x05 (R448, R456). -/
def vbatLowWarningDo (mv : BitVec 16) (s : State) : State :=
  let s := { s with tmp.vbat := mv }
  if s.pwr.mainPower && !s.pwr.inReset && decide (mv < 2300) then raiseOpen 0x05 s else s

/-! ## Tamper configuration (R439, R440) -/

/-- The life-cycle state is MAKER or INTEGRATOR. -/
def State.earlyLife (s : State) : Bool := match s.lcs.state with | .maker | .integrator => true | _ => false

/-- A configuration that a commit takes: no PRBS loop with SEED 0, no two enabled PRBS loops with one SEED (R440). -/
def State.configOk (s : State) (c : TamperCfg) : Bool :=
  let l (n : Nat) : LoopCfg := tget c.loops {} n
  (List.range 8).all (fun n => !(l n).prbs || ((l n).seed != 0 &&
    (s.sourceOff n || (List.range n).all (fun m => !(l m).prbs || s.sourceOff m || (l m).seed != (l n).seed))))

/-- TAMPER_COMMIT: a write of TMP_CTRL. The mirror in BBRAM follows the active configuration (R440). -/
def tamperCommitDo (value : BitVec 32) (s : State) : State :=
  if !bit value 0 then s
  else if (s.earlyLife || s.quorumInForce) && s.configOk s.tmp.stage then
    { s with tmp.active := s.tmp.stage, tmp.mirror := s.tmp.stage, tmp.mirrorGood := true }
  else raiseOpen 0x06 { s with tmp.cfgReject := true }

/-- Both fuses of each source named. -/
def fusePairs (v : BitVec 12) : BitVec 24 :=
  BitVec.ofNat 24 (((List.range 12).filter (fun n => bit v n)).foldl (fun a n => a + 3 * 4 ^ n) 0)

/-- TDIS_BURN: a write of TMP_TDIS_BURN, ignored outside MAKER and INTEGRATOR; fuses only go from 0 to 1 (R439). -/
def tdisBurnDo (value : BitVec 32) (s : State) : State :=
  if s.earlyLife then { s with otp.tdis := s.otp.tdis ||| fusePairs (fld value 0 12) } else s

/-! ## Shadow registers and lockstep (R452, R453) -/

/-- The unit that an event of class DEVICE or SECURITY fences, `d` naming the slice where it is one (R447, R452). -/
def setUnit (code d : Nat) : FenceUnit :=
  if code = 0x40 then .thimble else if code = 0x42 then .engine engRandom else if code = 0x52 ∨ code = 0x53 then .slice d else .none

/-- SHADOW_MISMATCH: with code 0x51 the job whose key was in flight, on the engine that DETAIL names, ends with ENGINE_FAULT
(R314, R452). -/
def shadowMismatchDo (code detail : BitVec 8) (s : State) : State :=
  let c := code.toNat
  let d := detail.toNat
  if c < 0x51 ∨ 0x56 < c ∨ s.pwr.inReset then s
  else
    let s := if c = 0x51 then
        ((s.jobs.find? (fun j => j.engine == d && j.faulted && !s.suspended j && !j.bound.isEmpty)).elim s (fun j => endWiping j.id stEngineFault s))
      else s
    raiseEvent c d (setUnit c d) .own s

/-- LOCKSTEP_MISMATCH (R453). -/
def lockstepMismatchDo (s : State) : State := if s.pwr.inReset then s else raiseEvent 0x40 engThimble .thimble .own s

/-- THIMBLE_RESTART_COMPLETE: the journal is replayed, records go on, composite jobs start again; after a RINSE the restart ends
in the restricted state, with the alarm's record written and its battery log entry moved; after the swap of an activation its pause
ends (R442, R453, R503). -/
def thimbleRestartCompleteDo (s : State) : State :=
  if !s.thm.restarting ∨ s.pwr.inReset then s
  else
    let s := { s with thm.restarting := false, thm.fenced := false }
    if s.tmp.rinse then drainRecords (takeHeldRecords { s with tmp.battLog := [], tmp.battOver := 0 })
    else
      let s := drainRecords (takeHeldRecords (replayJournal s))
      if s.svc.paused && s.activatingBank.isNone then endActivation s else s

/-! ## The Vent's control (R449 to R451, R454, R455) -/

/-- Acknowledges a class; the intake of slices that this releases resumes at each SQ's HEAD (R447). -/
def acknowledgeClass (c : Nat) (s : State) : State :=
  let back := (s.slices.filter (fun e => e.2.fence == .escalation c)).map (·.1)
  back.foldl (fun s i => refetchSlice i s) (acknowledge c s)

/-- VENT_ACKNOWLEDGE: a write of VNT_STATUS_LO, or of VNT_STATUS_HI with `high`; a 1 in a PENDING bit acknowledges its class. -/
def ventAcknowledgeDo (high : Bool) (value : BitVec 32) (s : State) : State :=
  let lo := if high then 4 else 0
  (below (if high then 2 else 4) (fun k => bit value (8 * k + 7))).foldl (fun s k => acknowledgeClass (lo + k) s) s

/-- VENT_AUTO_ACKNOWLEDGE: Thimble acknowledges a class whose AUTO_ACK bit is set, once its records are written; never SECURITY. -/
def ventAutoAcknowledgeDo (cls : BitVec 3) (s : State) : State :=
  let c := cls.toNat
  if c < 5 ∧ bit s.vent.autoAck c ∧ s.canRecord ∧ s.vent.held = [] ∧ !s.pwr.inReset then acknowledgeClass c s else s

/-- No class is pending. -/
def State.nonePending (s : State) : Bool := (List.range 6).all (fun c => !(s.ventClass c).pending)

/-- VENT_RESUME: a write of VNT_CTRL. VEC and AUTO_ACK are RWL; RESUME leaves a HALT that no SECURITY event, RINSE or thermal trip
decided, while nothing is pending (R451). -/
def ventResumeDo (value : BitVec 32) (s : State) : State :=
  let s := writeRwl 4 (fld value 8 3 != s.vent.vec || fld value 0 5 != s.vent.autoAck)
    (fun s => { s with vent.vec := fld value 8 3, vent.autoAck := fld value 0 5 }) s
  if bit value 11 && s.vent.halt && !s.vent.haltSec && s.nonePending then
    refetchAll (updateAttn { s with vent.halt := false })
  else s

/-- The unit that an injected event fences (R454). -/
def injectUnit (cls code d : Nat) : FenceUnit :=
  if cls = 0 ∨ cls = 1 ∨ cls = 3 then
    (if d = engThimble then .thimble else if d ≤ engMailbox then .engine d else .none)
  else if cls = 2 then .slice d
  else setUnit code d

/-- VENT_INJECT: a write of VNT_INJECT (R454). Without factory test mode or the right, and for a code that names no event, only
event 0x07 follows. -/
def ventInjectDo (value : BitVec 32) (s : State) : State :=
  let code := (fld value 8 8).toNat
  let d := (fld value 16 8).toNat
  if !bit value 0 then s
  else if s.lcs.ftm || (s.lcs.state == .maker && s.right 6) then
    match eventInfo code with
    | none => raiseOpen 0x07 s
    | some (cls, _) => raiseEvent code d (injectUnit cls code d) (.escalation cls) { s with vent.fi := true }
  else raiseOpen 0x07 s

/-! ## The meanings of the commands -/

/-- TLOOP_ALARM (R437). -/
def execTloopAlarm (loop : BitVec 3) (bit : BitVec 8) (s : State) : Host.Outcome State Fault Refusal := .next (tloopAlarmDo loop bit s)
/-- CASE_SW_ALARM (R438). -/
def execCaseSwAlarm (switch : BitVec 2) (s : State) : Host.Outcome State Fault Refusal := .next (caseSwAlarmDo switch s)
/-- TAMPER_ALARM (R436). -/
def execTamperAlarm (detector : Detector) (detail : BitVec 8) (s : State) : Host.Outcome State Fault Refusal := .next (tamperAlarmDo detector detail s)
/-- VBAT_LOW_WARNING (R543). -/
def execVbatLowWarning (mv : BitVec 16) (s : State) : Host.Outcome State Fault Refusal := .next (vbatLowWarningDo mv s)
/-- TAMPER_COMMIT (R440). -/
def execTamperCommit (value : BitVec 32) (s : State) : Host.Outcome State Fault Refusal := .next (atBar (tamperCommitDo value) s)
/-- TDIS_BURN (R439). -/
def execTdisBurn (value : BitVec 32) (s : State) : Host.Outcome State Fault Refusal := .next (atBar (tdisBurnDo value) s)
/-- SHADOW_MISMATCH (R452). -/
def execShadowMismatch (code : BitVec 8) (detail : BitVec 8) (s : State) : Host.Outcome State Fault Refusal := .next (shadowMismatchDo code detail s)
/-- LOCKSTEP_MISMATCH (R453). -/
def execLockstepMismatch (s : State) : Host.Outcome State Fault Refusal := .next (lockstepMismatchDo s)
/-- THIMBLE_RESTART_COMPLETE (R453). -/
def execThimbleRestartComplete (s : State) : Host.Outcome State Fault Refusal := .next (thimbleRestartCompleteDo s)
/-- VENT_ACKNOWLEDGE (R449). -/
def execVentAcknowledge (high : Bool) (value : BitVec 32) (s : State) : Host.Outcome State Fault Refusal := .next (atBar (ventAcknowledgeDo high value) s)
/-- VENT_AUTO_ACKNOWLEDGE (R449). -/
def execVentAutoAcknowledge (cls : BitVec 3) (s : State) : Host.Outcome State Fault Refusal := .next (ventAutoAcknowledgeDo cls s)
/-- VENT_RESUME (R451). -/
def execVentResume (value : BitVec 32) (s : State) : Host.Outcome State Fault Refusal := .next (atBar (ventResumeDo value) s)
/-- VENT_INJECT (R454). -/
def execVentInject (value : BitVec 32) (s : State) : Host.Outcome State Fault Refusal := .next (atBar (ventInjectDo value) s)

end Sys2Proof.Machine
end

