-- ==== Sys2Proof/Machine/LifeCycle.lean ====
section
/-! DEFINITION. The LCS Unit, debug authorisation, factory test mode and the boundary-scan TAP
(19_lifecycle_debug_test.md). -/
namespace Sys2Proof.Machine

/-! ## Fuse words (R459, R460) -/

/-- Codeword of a state; LOCKED has none. -/
def LcsSt.codeword : LcsSt → Option (BitVec 32)
  | .maker => some 0x00000000
  | .integrator => some 0x000000FF
  | .fielded => some 0x0000FFFF
  | .analysis => some 0x00FFFFFF
  | .scrapped => some 0xFFFFFFFF
  | .locked => none

/-- The state that a codeword names. -/
def stateOf (w : BitVec 32) : Option LcsSt :=
  [LcsSt.maker, .integrator, .fielded, .analysis, .scrapped].find? (fun x => x.codeword == some w)

/-- The three copies. -/
def Otp.lcsWords (o : Otp) : List (BitVec 32) := [o.lcsA, o.lcsB, o.lcsC]

/-- The decode of R460: two copies with one codeword give its state, otherwise LOCKED. -/
def decodeLcs (o : Otp) : LcsSt :=
  if o.lcsA = o.lcsB ∨ o.lcsA = o.lcsC then (stateOf o.lcsA).getD (if o.lcsB = o.lcsC then (stateOf o.lcsB).getD .locked else .locked)
  else if o.lcsB = o.lcsC then (stateOf o.lcsB).getD .locked
  else .locked

/-- The lowest `n` missing bits of a target burned into a word, one at a time from the lowest upward (R459). -/
def burnBits (target : BitVec 32) : Nat → BitVec 32 → BitVec 32
  | 0, w => w
  | n + 1, w =>
    match (List.range 32).find? (fun i => bit target i && !bit w i) with
    | some i => burnBits target n (w ||| (1 <<< i))
    | none => w

/-- Bits of a target that a word still lacks. -/
def lacking (target w : BitVec 32) : Nat := popCount 32 (target &&& ~~~w).toNat

/-- A burn that has got `n` bits far, word after word (R459). -/
def burnUpTo (target : BitVec 32) (n : Nat) (o : Otp) : Otp :=
  let a := lacking target o.lcsA
  let b := lacking target o.lcsB
  { o with lcsA := burnBits target n o.lcsA, lcsB := burnBits target (n - a) o.lcsB, lcsC := burnBits target (n - a - b) o.lcsC }

/-- Bits that a burn of all three words takes. -/
def burnLength (target : BitVec 32) (o : Otp) : Nat := (o.lcsWords.map (lacking target)).foldl (· + ·) 0

/-! ## Transitions (R461 to R464) -/

/-- A transition that R461 lists. -/
def listed : LcsSt → LcsSt → Bool
  | .maker, .integrator | .integrator, .fielded | .fielded, .analysis => true
  | .maker, .scrapped | .integrator, .scrapped | .fielded, .scrapped | .analysis, .scrapped => true
  | _, _ => false

/-- A transition that R461 lists, with its authority; `cert` tells that a transition certificate asks for it. -/
def State.mayMove (s : State) (cert : Bool) (dst : LcsSt) : Bool :=
  match s.lcs.state, dst with
  | .maker, .integrator => cert
  | .integrator, .fielded => !s.thm.custodians.isEmpty && s.quorumInForce
  | .fielded, .analysis => cert && s.quorumInForce
  | .maker, .scrapped | .integrator, .scrapped => true
  | .fielded, .scrapped => s.quorumInForce
  | .analysis, .scrapped => cert
  | _, _ => false

/-- The erasure of R327, steps 2 to 4, without a tamper record (R463, R468). Accepted jobs lose what they hold and end with ABORTED. -/
def eraseAll (s : State) : State :=
  let s := abortAll (eraseKeys s)
  s.jobs.foldl (fun s j => complete j.id s) s

/-- The wipe of R463. -/
def wipe (s : State) : State :=
  let s := eraseAll s
  logRecord 0x0203 [] { s with
    kv.ps := [], kv.journal := [], kv.replacing := [], kv.dying := [], kv.hbs := [], kv.pairs := [], kv.pairNext := 0
    thm.custodians := [], thm.m := 0, thm.curves := [], thm.templates := [], thm.payPolicy := 0, svc.svnFloor := 0
    met.stored := none, met.key := [], met.pubKey := [], met.sources := [], met.intervals := [], lcs.dac := none, mig.imageSeq := 0 }

/-- Steps 1 and 2 of a transition (R462): the wipe where the target asks for it, then the burn. -/
def startBurn (target : BitVec 32) (seq : Option (BitVec 16)) (repair : Bool) (s : State) : State :=
  let s := if target = 0x00FFFFFF ∨ target = 0xFFFFFFFF then wipe s else s
  { s with lcs.burning := some { target := target, seq := seq, repair := repair } }

/-- R464: every copy is a run of ones from bit 0 within the codeword of TARGET, and TARGET is listed from the highest state whose
codeword every copy contains. -/
def State.repairOk (s : State) (target : BitVec 32) : Bool :=
  let ws := s.otp.lcsWords
  let has (x : LcsSt) : Bool := x.codeword.elim false (fun c => ws.all (fun w => c &&& ~~~w == 0))
  s.lcs.state == .locked && ws.all thermometer && ws.all (fun w => w &&& ~~~target == 0) &&
  (match [LcsSt.scrapped, .analysis, .fielded, .integrator, .maker].find? has, stateOf target with
    | some a, some b => listed a b
    | _, _ => false)

/-! ## Certificates (R465 to R467) -/

/-- KIND of a certificate. -/
def certKind (c : Bytes) : Nat := fieldLE c 2 1

/-- A right that a certificate may grant in a state (R467). -/
def grantable (x : LcsSt) (b : Nat) : Bool :=
  match x with
  | .maker => true
  | .integrator | .fielded => b != 6
  | _ => false

/-- RESULT of a certificate (R466): the first check of the table that fails; 0 when it is accepted. -/
def State.certResult (s : State) (c : Bytes) : Nat :=
  let kind := certKind c
  let body := c.take 64
  let target := BitVec.ofNat 32 (fieldLE c 48 4)
  let rights := fieldLE c 46 2
  if c.length ≠ 7484 ∨ fieldLE c 0 2 ≠ 0x0301 ∨ kind = 0 ∨ 3 < kind ∨
      !vendorSigned (cut c 4791 2693) (cut c 64 4727) (ascii "EQX-DAC") body then 1
  else if cut c 4 8 ≠ serialBytes then 2
  else if !(if kind = 3 then fieldLE c 12 4 == s.otp.lcsA.toNat && fieldLE c 16 4 == s.otp.lcsB.toNat && fieldLE c 20 4 == s.otp.lcsC.toNat
      else s.lcs.state.codeword == some (BitVec.ofNat 32 (fieldLE c 12 4))) then 3
  else if s.lcs.nonce ≠ some (cut c 24 16) then 4
  else if kind = 1 ∧ !(below 7 (fun b => rights.testBit b)).all (grantable s.lcs.state) then 5
  else if kind = 2 ∧ !(stateOf target).elim false (s.mayMove true) then 5
  else if fieldLE c 3 1 ≠ 0 ∨ fieldLE c 45 1 ≠ 0 ∨ !isZero c 52 12 ∨ (kind ≠ 3 ∧ !isZero c 16 8) ∨
      (kind = 1 ∧ (128 ≤ rights ∨ fieldLE c 40 4 = 0 ∨ 2592000 < fieldLE c 40 4)) then 6
  else if kind = 3 ∧ !s.repairOk target then 7
  else 0

/-- What an accepted certificate does (R464, R467). -/
def applyCert (c : Bytes) (s : State) : State :=
  let target := BitVec.ofNat 32 (fieldLE c 48 4)
  match certKind c with
  | 1 => { s with lcs.dac := some {
      rights := BitVec.ofNat 7 (fieldLE c 46 2), ends := s.evr.opTicks + 16384 * fieldLE c 40 4, cycles := fieldLE c 44 1 } }
  | 2 => startBurn target none false s
  | _ => startBurn target none true s

/-- A certificate's turn: the check consumes the nonce, and the response carries RESULT (R466). -/
def takeCert (seq : BitVec 16) (c : Bytes) (s : State) : State :=
  let r := s.certResult c
  let k := certKind c
  let s := logRecord 0x0202 (leBytes 1 k ++ leBytes 1 r)
    { s with lcs.nonce := none, lcs.lastKind := BitVec.ofNat 8 k, lcs.lastResult := BitVec.ofNat 4 r }
  rslAnswer seq stSuccess (leBytes 1 r) (if r = 0 then applyCert c s else s)

/-- A transition request's turn (R461): refused without effect, or the burn starts and the answer follows its end. -/
def takeTransition (seq : BitVec 16) (target : BitVec 32) (s : State) : State :=
  if (stateOf target).elim false (s.mayMove false) then startBurn target (some seq) false s
  else rslAnswer seq stKeyPolicyDenied [] s

/-- Life-cycle requests are handled one at a time, in order of arrival (R462). -/
def takeLcsReq (r : LcsReq) (s : State) : State :=
  if s.lcs.burning.isSome then { s with lcs.waiting := s.lcs.waiting ++ [r] }
  else match r with
    | .cert seq c => takeCert seq c s
    | .transition seq t => takeTransition seq t s

/-- RSL_NONCE: 16 bytes of the DRBG; without a READY Random Unit the statuses of R367 answer. -/
def rslNonceDo (seq : BitVec 16) (s : State) : State :=
  rslRequest seq (·.rslOpen true) (fun s =>
    match s.rng.state with
    | .ready =>
      let n := freeBytes s 16
      fresh (rslAnswer seq stSuccess n { s with lcs.nonce := some n })
    | .startup => rslAnswer seq stRngNotReady [] s
    | .failed => rslAnswer seq stRngFailed [] s) s

/-- RSL_CERT: in LOCKED only KIND 3 is served (R457). -/
def rslCertDo (seq : BitVec 16) (cert : Bytes) (s : State) : State :=
  rslRequest seq (fun s => s.rslOpen true && (s.lcs.state != .locked || certKind cert == 3)) (takeLcsReq (.cert seq cert)) s

/-- RSL_DEACTIVATE. -/
def rslDeactivateDo (seq : BitVec 16) (s : State) : State :=
  rslRequest seq (·.rslOpen false) (fun s => rslAnswer seq stSuccess [] { s with lcs.dac := none }) s

/-- RSL_LCS_TRANSITION. -/
def rslLcsTransitionDo (seq : BitVec 16) (target : BitVec 32) (s : State) : State :=
  rslRequest seq (·.rslOpen false) (takeLcsReq (.transition seq target)) s

/-- LCS_BURN_COMPLETE (R462): the three words hold the target, the decode takes effect, the certificate and the quorum end; the
requests that waited follow (log 99). -/
def lcsBurnCompleteDo (s : State) : State :=
  match s.lcs.burning with
  | none => s
  | some b =>
    let old := s.lcs.state
    let s := { s with otp.lcsA := s.otp.lcsA ||| b.target, otp.lcsB := s.otp.lcsB ||| b.target, otp.lcsC := s.otp.lcsC ||| b.target }
    let s := endQuorum { s with lcs.state := decodeLcs s.otp, lcs.burning := none, lcs.dac := none }
    let s := logRecord (if b.repair then 0x0204 else 0x0201) (leBytes 1 old.code ++ leBytes 1 s.lcs.state.code) (updateAttn s)
    let s := match b.seq with | some q => rslAnswer q stSuccess [] s | none => s
    let s := if old = .locked then refetchAll s else s
    s.lcs.waiting.foldl (fun s r => takeLcsReq r s) { s with lcs.waiting := [] }

/-- DAC_EXPIRY. -/
def dacExpiryDo (s : State) : State := { s with lcs.dac := none }

/-! ## Debug rights (R467) -/

/-- Every slice other than 0 is DISABLED. -/
def State.onlySlice0 (s : State) : Bool := s.slices.all (fun e => e.1 == 0 || s.sliceState e.1 == .disabled)

/-- Thimble halts: its composite-job working memory is zeroised first, so running composite jobs end with ABORTED. -/
def haltThimble (s : State) : State := abortStarted { s with thm.halted := true, thm.run := none }

/-- THIMBLE_HALT, step and read-out: 16 registers of 8 bytes are free values, and so is what a step does to them. -/
def thimbleHaltDo (seq : BitVec 16) (sub : ThimbleDebug) (s : State) : State :=
  rslRequest seq (fun s => s.rslOpen false && s.right 1 && s.onlySlice0 && (s.thm.halted || sub == .halt)) (fun s =>
    match sub with
    | .halt => rslAnswer seq stSuccess [] (haltThimble s)
    | .step => rslAnswer seq stSuccess [] s
    | .readOut => fresh (rslAnswer seq stSuccess (freeBytes s 128) s)) s

/-- NEEDLE_TRACE: halts a Needle that runs a task at its next instruction and returns PC and instruction word. The next instruction of
that Needle is its resumption (R289). -/
def needleTraceDo (seq : BitVec 16) (needle : BitVec 5) (s : State) : State :=
  let n := s.needle needle.toNat
  rslRequest seq (fun s => s.rslOpen false && s.right 2 && n.running) (fun s =>
    rslAnswer seq stSuccess (leBytes 8 n.pc.toNat ++ leBytes 4 (Config.needleCode n.image.toNat n.pc.toNat).toNat)
      (s.modNeedle needle.toNat (fun n => { n with halted := true }))) s

/-! ## Boundary scan and factory test mode (R468 to R471) -/

/-- Selects an instruction of the TAP. -/
def selectIr (ir : BitVec 8) (s : State) : State := { s with tap.ir := ir }

/-- TAP_RESET: Test-Logic-Reset with IDCODE selected. -/
def tapResetDo (s : State) : State := selectIr 0x02 { s with tap.left := s.tap.driving }

/-- BYPASS. -/
def bypassDo (s : State) : State := selectIr 0xFF s

/-- The pin-driving instructions act (R470); in reset no state is decoded. -/
def State.mayDrive (s : State) : Bool := !s.pwr.inReset && (s.earlyLife || s.right 0)

/-- A pin-driving instruction (R471): HALT, then the pins belong to the boundary register and the link is down. -/
def drivePins (ir : BitVec 8) (s : State) : State :=
  if s.mayDrive then
    let s := haltNow false s
    let s := linkDown s
    selectIr ir (emit (.pin .boundary true) { s with tap.driving := true, tap.left := false })
  else bypassDo s

/-- EXTEST. -/
def extestDo (s : State) : State := drivePins 0x00 s
/-- EXTEST_PULSE. -/
def extestPulseDo (s : State) : State := drivePins 0x03 s
/-- EXTEST_TRAIN. -/
def extestTrainDo (s : State) : State := drivePins 0x04 s
/-- CLAMP. -/
def clampDo (s : State) : State := drivePins 0x05 s
/-- HIGHZ. -/
def highzDo (s : State) : State := drivePins 0x06 s

/-- SAMPLE/PRELOAD: the sampled pins are shifted out while the preload is shifted in. -/
def samplePreloadDo (pins : Bytes) (preload : Bytes) (s : State) : State :=
  selectIr 0x01 (emit (.tdo 1 pins) { s with tap.boundary := preload })

/-- The IDCODE register (R469). -/
def idcodeValue : Word := word [(1, 28), (0x6480, 12), (Config.jedec.toNat, 1), (1, 0)]

/-- IDCODE. -/
def idcodeDo (s : State) : State := selectIr 0x02 (emit (.tdo 2 (leBytes 4 idcodeValue.toNat)) s)

/-- FTM_ENTER: in MAKER the erasure, then factory test mode until PORST#; in any other state BYPASS (R468). -/
def ftmEnterDo (s : State) : State :=
  if s.lcs.state = .maker ∧ !s.pwr.inReset then selectIr 0x3C { eraseAll s with lcs.ftm := true } else bypassDo s

/-! ## The meanings of the commands -/

/-- RSL_NONCE (R466). -/
def execRslNonce (seq : BitVec 16) (s : State) : Host.Outcome State Fault Refusal := .next (rslNonceDo seq s)
/-- RSL_CERT (R465). -/
def execRslCert (seq : BitVec 16) (cert : Bytes) (s : State) : Host.Outcome State Fault Refusal := .next (rslCertDo seq cert s)
/-- RSL_DEACTIVATE (R467). -/
def execRslDeactivate (seq : BitVec 16) (s : State) : Host.Outcome State Fault Refusal := .next (rslDeactivateDo seq s)
/-- RSL_LCS_TRANSITION (R462). -/
def execRslLcsTransition (seq : BitVec 16) (target : BitVec 32) (s : State) : Host.Outcome State Fault Refusal := .next (rslLcsTransitionDo seq target s)
/-- LCS_BURN_COMPLETE (R462). -/
def execLcsBurnComplete (s : State) : Host.Outcome State Fault Refusal := .next (lcsBurnCompleteDo s)
/-- DAC_EXPIRY (R467). -/
def execDacExpiry (s : State) : Host.Outcome State Fault Refusal := .next (dacExpiryDo s)
/-- THIMBLE_HALT (R467). -/
def execThimbleHalt (seq : BitVec 16) (sub : ThimbleDebug) (s : State) : Host.Outcome State Fault Refusal := .next (thimbleHaltDo seq sub s)
/-- NEEDLE_TRACE (R467). -/
def execNeedleTrace (seq : BitVec 16) (needle : BitVec 5) (s : State) : Host.Outcome State Fault Refusal := .next (needleTraceDo seq needle s)
/-- TAP_RESET (R469). -/
def execTapReset (s : State) : Host.Outcome State Fault Refusal := .next (tapResetDo s)
/-- EXTEST (R471). -/
def execExtest (s : State) : Host.Outcome State Fault Refusal := .next (extestDo s)
/-- SAMPLE_PRELOAD (R470). -/
def execSamplePreload (pins : Bytes) (preload : Bytes) (s : State) : Host.Outcome State Fault Refusal := .next (samplePreloadDo pins preload s)
/-- IDCODE (R469). -/
def execIdcode (s : State) : Host.Outcome State Fault Refusal := .next (idcodeDo s)
/-- EXTEST_PULSE (R471). -/
def execExtestPulse (s : State) : Host.Outcome State Fault Refusal := .next (extestPulseDo s)
/-- EXTEST_TRAIN (R471). -/
def execExtestTrain (s : State) : Host.Outcome State Fault Refusal := .next (extestTrainDo s)
/-- CLAMP (R471). -/
def execClamp (s : State) : Host.Outcome State Fault Refusal := .next (clampDo s)
/-- HIGHZ (R471). -/
def execHighz (s : State) : Host.Outcome State Fault Refusal := .next (highzDo s)
/-- FTM_ENTER (R468). -/
def execFtmEnter (s : State) : Host.Outcome State Fault Refusal := .next (ftmEnterDo s)
/-- BYPASS (R470). -/
def execBypass (s : State) : Host.Outcome State Fault Refusal := .next (bypassDo s)

end Sys2Proof.Machine
end

