-- ==== Sys2Proof/Machine/Power.lean ====
section
/-! DEFINITION. Resets and start-up, clocks, temperature, Start Credits, efficiency, the SMBus target, the SRAM scrub
(22_power_clock_reset.md; 02_host_link.md, R62, R63; 18_tamper_and_faults.md, R441, R444, R445; 23_pins_electrical.md, R540). -/
namespace Sys2Proof.Machine

/-! ## Internal reset (R515 to R520) -/

/-- Drives a pin to its level in reset where it stands at another. -/
def pinTo (was : Bool) (p : Pin) (level : Bool) (s : State) : State := if was then emit (.pin p level) s else s

/-- The card pins go off, as reset leaves them (R520). -/
def cardsOff (s : State) : State :=
  let s := pinTo s.crd.powered .sdPower false s
  (List.range 2).foldl (fun s k => pinTo (s.ocPort k).active (ocPin k) false s) s

/-- Pins in reset (R520). -/
def pinsInReset (s : State) : State :=
  let s := cardsOff s
  let s := pinTo s.vent.alert .alert true s
  let s := pinTo s.svc.attn .svcAttn true s
  let s := pinTo s.pwr.thermtrip .thermtrip true s
  pinTo s.tap.driving .boundary false s

/-- Every enabled bank that an interrupted activation left unfinished is STAGED again. -/
def Bank.settled (b : Bank) : Bank := if b.st = .activating then { b with st := .staged } else b

/-- A burn that power loss interrupts has got a free number of bits far (R459). -/
def interruptBurn (s : State) : State :=
  match s.lcs.burning with
  | none => s
  | some b => fresh { s with otp := burnUpTo b.target (Config.freeNat s.freeCtr % (burnLength b.target s.otp + 1)) s.otp }

/-- Internal reset is asserted (R519): every domain but the battery domain; OTP and eMRAM contents stay. `cause` is what the next
start-up shows. -/
def internalReset (cause : BitVec 2) (s : State) : State :=
  let s := interruptBurn (pinsInReset s)
  let s := tornCommits s
  { s with
    pwr := { mainPower := s.pwr.mainPower, perst := s.pwr.perst, cause := cause }
    locks := 0, hold := [], hif := {}, ring := {}, sqs := [], cqs := [], jobs := []
    slices := [(0, { enable := true, state := .active })], freezeLimit := 0x1388
    mig := { imageSeq := s.mig.imageSeq }
    time := {}, sched := {}, eng := {}, ctxs := []
    kv := { s.kv with kt := [], tmk := 0, tmkOld := 0, sweep := false, tmkWaiting := false, exportDis := false, rinsed := false,
                      journalReplayed := false, rotations := 0, replacing := [] }
    rng := {}
    thm := { custodians := s.thm.custodians, m := s.thm.m, payPolicy := s.thm.payPolicy, templates := s.thm.templates, curves := s.thm.curves }
    met := { s.met with mailbox := [], maxQueue := 0x40 }
    vent := {}
    tmp := { s.tmp with stage := {}, cfgReject := false, alarm := 0, vbat := 0, rinse := false }
    lcs := { state := s.lcs.state, dac := s.lcs.dac, powerCycles := s.lcs.powerCycles }
    tap := {}, crd := {}
    svc := { bank0 := s.svc.bank0.settled, bank1 := s.svc.bank1.settled, svnFloor := s.svc.svnFloor }
    evr := { records := s.evr.records, nextSeq := s.evr.nextSeq, lastMac := s.evr.lastMac, chainStart := s.evr.chainStart,
             opTicks := s.evr.opTicks } }

/-- PORST_ASSERT: by power-on or by the pin; a brown-out before it stays the cause of the next start-up. -/
def porstAssertDo (powerOn : Bool) (s : State) : State :=
  internalReset (if powerOn then 0 else if s.pwr.inReset && s.pwr.cause == 2 then 2 else 1) s

/-- BROWN_OUT (R516, R517): a slow fall is a reset; a fall too fast is an alarm of the core supply monitor, which does not work in the
sequencing windows. -/
def brownOutDo (fast : Bool) (s : State) : State :=
  if fast then (if s.pwr.inReset ∨ !s.pwr.mainPower then s else tamperAlarm 0x72 0 s)
  else internalReset 2 s

/-- MAIN_POWER_LOSS: battery rates (R437, R444); the rails' fall asserts internal reset as a brown-out (R517). -/
def mainPowerLossDo (s : State) : State :=
  let s := internalReset (if s.pwr.inReset then s.pwr.cause else 2) s
  { s with pwr.mainPower := false, tmp.mainRates := false }

/-- MAIN_POWER_RETURN (R437). -/
def mainPowerReturnDo (s : State) : State := { s with pwr.mainPower := true, tmp.mainRates := true }

/-! ## Start-up (R518) -/

/-- The boot checks on a bank (R504): what stands in a staged bank passed checks 1, 2, 4 and 5 of R502 and has not changed since, so
check 3 against the SVN floor decides. -/
def State.bootOk (s : State) (b : Bank) : Bool := (b.st == .active || b.st == .staged) && decide (s.svc.svnFloor ≤ b.svn)

/-- The boot ROM starts the selected bank, or the other one with record 0x0112, or none. -/
def bootBank (s : State) : State :=
  if s.bootOk s.activeBank then s
  else if s.bootOk s.inactive then logRecord 0x0112 [] (selectOther .invalid s)
  else { s with svc.bootFailed := true }

/-- Step 5 of R327: a new VRK, every persistent slot free with generation 0, the journal clear, the keys of R310 that a RINSE destroys
made afresh, a new chain (R509), record 0x0303; the metrology key is made again where there was one (R424). -/
def freshRoot (s : State) : State :=
  let v := freeBytes s 192
  let s := fresh { s with
    kv.vrk0 := BitVec.ofNat 256 (ofLE (v.take 32)), kv.vrk1 := BitVec.ofNat 256 (ofLE (cut v 32 32))
    kv.ps := [], kv.journal := [], kv.dying := [], kv.hbs := []
    kv.pairs := tmap s.kv.pairs {} (fun _ p => if p.unusable then { p with used := false } else {})
    kv.migKey := cut v 64 64, kv.chainKey := cut v 128 64, evr.lastMac := zeros 8, evr.chainStart := true }
  let s := logRecord 0x0303 [] s
  if s.met.key = [] then s else newMetKey s

/-- USED of a persistent key with a limit restarts at the reserved mark (R313). -/
def restartUses (s : State) : State :=
  { s with kv.ps := tmap s.kv.ps {} (fun _ b => if b.isKey && decide (aLimit b.attr ≠ 0) then { b with used := b.reserved } else b) }

/-- One entry of the battery log becomes a record and shows in VENT_STATUS as a SECURITY event at level RINSE; an entry whose CRC
fails has SOURCE 0x81 (R445). -/
def moveEntry (e : BattEntry) (s : State) : State :=
  let code := if e.good then e.source.toNat else 0x81
  let s := s.modVentClass 5 (ventArrive 4)
  queueRecord { code := code, level := 4, data := leBytes 1 e.detail.toNat ++ leBytes 1 4 } s

/-- The battery log moves into the Event Recorder; TAMPER_OUT# is released (R443, R445). -/
def moveBattLog (s : State) : State :=
  let l := s.tmp.battLog
  let s := l.foldl (fun s e => moveEntry e s) s
  let s := pinTo s.tmp.tamperOut .tamperOut true { s with
    tmp.battLog := [], tmp.battOver := 0, vent.batt := s.vent.batt || !l.isEmpty }
  updateAlert { s with tmp.tamperOut := false }

/-- The BBRAM mirror is loaded into the TMP registers; with a CRC failure their reset values are, event 0x80 (R441). -/
def loadMirror (s : State) : State :=
  if s.tmp.mirrorGood then { s with tmp.stage := s.tmp.mirror, tmp.active := s.tmp.mirror }
  else raiseOpen 0x80 { s with tmp.stage := {}, tmp.active := {}, tmp.mirror := {}, tmp.mirrorGood := true }

/-- Every Mangle's patch RAM and match registers are loaded from the active bank (R167, R169). -/
def loadPatches (s : State) : State :=
  let b := s.activeBank
  (List.range 32).foldl (fun s k => loadPatch k b.pattern b.matchSet s) { s with eng.patSetId := b.setId }

/-- A start-up takes one of the start-ups an active certificate survives, and ends it when none is left (R467). -/
def Dac.startUp (d : Dac) : Option Dac := if d.cycles = 0 then none else some { d with cycles := d.cycles - 1 }

/-- What Thimble does at a start-up before ring intake opens. -/
def thimbleStart (s : State) : State :=
  let s := if (s.kv.vrk0 = 0 ∧ s.kv.vrk1 = 0) ∨ !s.tmp.mirrorGood then freshRoot s else s
  let s := pairScan (restartUses (replayJournal s))
  let s := moveBattLog (loadMirror s)
  let s := loadPatches s
  let s := fresh { s with kv.tmk := BitVec.ofNat 512 (ofLE (freeBytes s 64)) }
  { s with met.maxQueue := s.met.stored.getD 0x40, pwr.intake := true }

/-- START_UP: the end of internal reset, once the rails are in range. -/
def startUpDo (s : State) : State :=
  if !s.pwr.inReset ∨ !s.pwr.mainPower then s
  else
    let s := { s with
      pwr.inReset := false, lcs.state := decodeLcs s.otp, lcs.powerCycles := s.lcs.powerCycles + 1
      lcs.dac := s.lcs.dac.bind Dac.startUp, met.marks := s.met.marks + 1 }
    let s := metStartup (bootBank s)
    updateAttn (if s.svc.bootFailed then s else thimbleStart s)

/-! ## PERST#, Function Level Reset (R62, R63, R519) -/

/-- Fences that a conventional reset leaves (R519): those that last until PORST# (R153, R167, R245). -/
def keepFences (t : Tbl Fence) : Tbl Fence := tmap t .none (fun _ f => if f = .porst ∨ f = .check then f else .none)

/-- CONVENTIONAL_RESET: PERST# low with PORST# high. -/
def conventionalResetDo (s : State) : State :=
  if s.pwr.inReset then { s with pwr.perst := true }
  else
    let s := cardsOff (tornCommits (bkpEnd stAborted 0 none s))
    let back := s.tap.driving && s.tap.left
    let s := { s with
      pwr.perst := true, pwr.hifReady := false, locks := 0, hold := [], hif := {}, ring := {}, sqs := [], cqs := [], jobs := []
      slices := [(0, { enable := true, state := .active })], freezeLimit := 0x1388
      mig := { imageSeq := s.mig.imageSeq }
      eng := { fence := keepFences s.eng.fence }, ctxs := tmap s.ctxs {} (fun _ x => { sgen := if x.isOpen then x.sgen + 1 else x.sgen }), pwr.creditQueue := []
      kv.kt := [], kv.rotations := 0, kv.tmk := BitVec.ofNat 512 (ofLE (freeBytes s 64)), kv.tmkOld := 0, kv.sweep := false
      rng.queue := s.rng.queue.filter (fun d => match d with | .job _ _ => false | _ => true)
      thm.run := none, met.mailbox := [], crd := {}
      svc.bank0 := s.svc.bank0.settled, svc.bank1 := s.svc.bank1.settled, svc.activating := none, svc.paused := false, svc.loaded := [], svc.patRead := none
      tap.driving := s.tap.driving && !back }
    let s := fresh (pinTo back .boundary false s)
    if s.svc.bootFailed then s
    else if s.tmp.rinse then { s with kv.tmk := 0 }
    else
      let s := { s with thm.restarting := false, thm.fenced := false, thm.halted := false }
      drainRecords (takeHeldRecords (loadPatches (pairScan (replayJournal s))))

/-- PERST_DEASSERT: the HIF starts and answers with Retry Status until it is ready. -/
def perstDeassertDo (s : State) : State := { s with pwr.perst := false, pwr.hifReady := false }

/-- HIF_READY. -/
def hifReadyDo (s : State) : State := if s.pwr.inReset ∨ s.pwr.perst then s else { s with pwr.hifReady := true }

/-- FUNCTION_LEVEL_RESET: every slice is reset at once and no job accepted before is seen again; MSI-X table, PBA, ATC and IDE streams
are cleared, with the two DMA registers (R64) and the enables of the configuration space (log 9). -/
def functionLevelResetDo (s : State) : State :=
  atConfig (fun s =>
    let s := suppressJobs (fun _ => true) s
    let s := (List.range 256).foldl (fun s i => sliceReset i s) s
    { s with
      hif.vectors := [], hif.pba := [], hif.atc := [], hif.translating := [], hif.invals := [], hif.streams := [], hif.dmaStatus := 0, hif.dmaFaults := 0
      hif.bme := false, hif.mse := false, hif.atsEn := false, hif.msixEn := false, hif.fnMask := false, hif.d3hot := false
      kv.rotations := 0 }) s

/-! ## Clocks and temperature (R521 to R523) -/

/-- THERM_HOLD as it acts (R529). -/
def State.thermLimit (s : State) : Int := if 60 ≤ s.pwr.thermHold.toNat ∧ s.pwr.thermHold.toNat ≤ 110 then s.pwr.thermHold.toNat else 105

/-- ECLK is held at 1.4 GHz. -/
def State.eclkHeld (s : State) : Bool := s.pwr.eclkSel || s.pwr.thermHeld

/-- PWR_STATUS.ECLK (R521). -/
def State.eclk (s : State) : Nat := if s.eclkHeld then 2 else if s.pwr.droop then 1 else 0

/-- DROOP_TRIP: counted; NOMINAL becomes STRETCHED. -/
def droopTripDo (s : State) : State :=
  if s.pwr.inReset then s
  else { s with pwr.droopEvents := satInc s.pwr.droopEvents, pwr.droop := s.pwr.droop || !s.eclkHeld }

/-- DROOP_CLEAR. -/
def droopClearDo (s : State) : State := { s with pwr.droop := false }

/-- THERMAL_HOLD at a junction temperature. -/
def thermalHoldDo (tj : BitVec 8) (s : State) : State :=
  if s.pwr.inReset then s
  else { s with pwr.tj := tj, pwr.thermHeld := s.pwr.thermHeld || decide (s.thermLimit < tj.toInt) }

/-- THERMAL_HOLD_RELEASE: at least 5 °C below the limit for 10 ms. -/
def thermalHoldReleaseDo (tj : BitVec 8) (s : State) : State :=
  if s.pwr.inReset then s
  else { s with pwr.tj := tj, pwr.thermHeld := s.pwr.thermHeld && decide (s.thermLimit < tj.toInt + 5) }

/-- THERMTRIP: THERMTRIP# low and event 0x44 with the temperature in DETAIL; once until PORST#. -/
def thermtripDo (tj : BitVec 8) (s : State) : State :=
  if s.pwr.inReset ∨ tj.toInt < 120 ∨ s.pwr.thermtrip then s
  else raiseNote 0x44 tj.toNat (emit (.pin .thermtrip false) { s with pwr.tj := tj, pwr.thermtrip := true })

/-! ## Start Credits (R524, R525) -/

/-- START_CREDIT_TICK: one credit more, at most 16; queued requests are granted in order. -/
def startCreditTickDo (s : State) : State :=
  if s.pwr.inReset then s
  else grantCredits s.pwr.creditQueue { s with pwr.credits := min 16 (s.pwr.credits + 1) }

/-- No job is on an engine; a lane has no requester either. -/
def State.idleEngine (s : State) (c : Nat) : Bool := !s.busy c && (!isLane c || s.held c == 0)

/-- ENGINE_POWER_GATE. -/
def enginePowerGateDo (engine : BitVec 7) (s : State) : State :=
  let c := engine.toNat
  if s.pwr.gateIdle ≠ 0 ∧ c < 0x70 ∧ s.idleEngine c then { s with pwr.gated := tput s.pwr.gated false c true } else s

/-! ## Efficiency (R526, R527, R530) -/

/-- EREF_MEASUREMENT, in attojoules: the floors of the reference operations in fJ. -/
def erefMeasurementDo (eref : Nat) (s : State) : State :=
  if s.pwr.inReset then s
  else { s with
    pwr.eref := eref
    pwr.eff := (List.range 5).foldl (fun t k =>
      tmod t {} k (fun e => { e with floor := BitVec.ofNat 32 (min (2 ^ 32 - 1) (Config.nOpRef k * eref / 1000)) })) s.pwr.eff }

/-- The ratio of a window, × 256, at most what 16 bits hold. -/
def effRatio (energy floorSum : Nat) : BitVec 16 := BitVec.ofNat 16 (min 65535 (energy * 256 / max 1 floorSum))

/-- EFF_WINDOW_END of a class, with the energy measured in attojoules. -/
def effWindowEndDo (cls : BitVec 3) (energy : Nat) (s : State) : State :=
  if s.pwr.inReset ∨ 5 ≤ cls.toNat then s
  else { s with pwr.eff := tmod s.pwr.eff {} cls.toNat (fun e =>
    let r := effRatio energy (e.runNops * s.pwr.eref)
    let full := decide (1000 ≤ e.runOps)
    { e with
      ops := BitVec.ofNat 32 (min (2 ^ 32 - 1) e.runOps), runOps := 0, runNops := 0
      last := if full then r else 0, worst := if full && decide (e.worst < r) then r else e.worst }) }

/-! ## SMBus target (R540) -/

/-- Answers a read; in reset nothing is acknowledged. -/
def smbAnswer (data : Bytes) (s : State) : State := if s.pwr.inReset then s else emit (.smbus data) s

/-- SMB_TEMPERATURE. -/
def smbTemperatureDo (s : State) : State := smbAnswer [s.pwr.tj] s
/-- SMB_STATUS. -/
def smbStatusDo (s : State) : State :=
  smbAnswer (leBytes 1 (flag s.pwr.thermtrip + 2 * flag s.vent.halt + 4 * flag s.tmp.rinse + 16 * s.lcs.state.code)) s
/-- SMB_VBAT. -/
def smbVbatDo (s : State) : State := smbAnswer (leBytes 2 s.tmp.vbat.toNat) s
/-- SMB_SERIAL. -/
def smbSerialDo (s : State) : State := smbAnswer serialBytes s
/-- SMB_SUFFIX. -/
def smbSuffixDo (s : State) : State := smbAnswer [if s.otp.variantL then 0x4C else 0x53] s
/-- SMB_DEVICE_ID. -/
def smbDeviceIdDo (s : State) : State := smbAnswer (leBytes 2 0x6480) s
/-- SMB_REVISION. -/
def smbRevisionDo (s : State) : State := smbAnswer [Config.revision] s

/-! ## SRAM scrub (R26, R528) -/

/-- Engine code of a region that belongs to one engine. -/
def regionEngine : SramRegion → Option Nat
  | .needle n => some (engNeedle n.toNat)
  | .darner n => some (engDarner n.toNat)
  | .mangle n => some n.toNat
  | _ => none

/-- An uncorrectable error in a session context: the job that uses it ends with ENGINE_FAULT and the session is freed (R184). -/
def sessionError (c : Nat) (s : State) : State :=
  let users := s.jobs.filter (fun j => (j.session == some c || (isStep j.opcode && j.ctxOf == c)) && j.faulted)
  let s := users.foldl (fun s j => endWiping j.id stEngineFault s) s
  raiseNote 0x13 0 (if (s.ctx c).isOpen then freeCtx c s else s)

/-- An uncorrectable error outside every engine and session: which of the listed events of an uncorrectable error reports it is not
stated, so a free value chooses (log 20). -/
def otherError (codes : List Nat) (s : State) : State :=
  let n := Config.freeNat s.freeCtr
  raiseOpen (codes.getD (n % codes.length) 0x43) (fresh s)

/-- SRAM_SCRUB_ERROR; an error of the BCH code of eMRAM comes with it too (R27, log 83). -/
def sramScrubErrorDo (region : SramRegion) (uncorrectable : Bool) (s : State) : State :=
  if s.pwr.inReset then s
  else if !uncorrectable then
    match regionEngine region with
    | some c => raiseEvent 0x04 c (.engine c) .own s
    | none => raiseOpen 0x04 s
  else match region with
    | .needle n => engineFault (engNeedle n.toNat) 0x31 .memTest s
    | .darner n => engineFault (engDarner n.toNat) 0x32 .memTest s
    | .mangle n => engineFault n.toNat 0x32 .memTest s
    | .session c => sessionError c.toNat s
    | .emram => raiseOpen 0x43 s
    | .thimble | .metrology => otherError [0x41, 0x43] s
    | _ => otherError [0x32, 0x41, 0x43] s

/-! ## The meanings of the commands -/

/-- PORST_ASSERT (R519). -/
def execPorstAssert (powerOn : Bool) (s : State) : Host.Outcome State Fault Refusal := .next (porstAssertDo powerOn s)
/-- START_UP (R518). -/
def execStartUp (s : State) : Host.Outcome State Fault Refusal := .next (startUpDo s)
/-- BROWN_OUT (R517). -/
def execBrownOut (fast : Bool) (s : State) : Host.Outcome State Fault Refusal := .next (brownOutDo fast s)
/-- MAIN_POWER_LOSS (R444). -/
def execMainPowerLoss (s : State) : Host.Outcome State Fault Refusal := .next (mainPowerLossDo s)
/-- CONVENTIONAL_RESET (R519). -/
def execConventionalReset (s : State) : Host.Outcome State Fault Refusal := .next (conventionalResetDo s)
/-- PERST_DEASSERT (R62). -/
def execPerstDeassert (s : State) : Host.Outcome State Fault Refusal := .next (perstDeassertDo s)
/-- FUNCTION_LEVEL_RESET (R63). -/
def execFunctionLevelReset (s : State) : Host.Outcome State Fault Refusal := .next (functionLevelResetDo s)
/-- DROOP_TRIP (R522). -/
def execDroopTrip (s : State) : Host.Outcome State Fault Refusal := .next (droopTripDo s)
/-- DROOP_CLEAR (R522). -/
def execDroopClear (s : State) : Host.Outcome State Fault Refusal := .next (droopClearDo s)
/-- THERMAL_HOLD (R523). -/
def execThermalHold (tj : BitVec 8) (s : State) : Host.Outcome State Fault Refusal := .next (thermalHoldDo tj s)
/-- THERMAL_HOLD_RELEASE (R523). -/
def execThermalHoldRelease (tj : BitVec 8) (s : State) : Host.Outcome State Fault Refusal := .next (thermalHoldReleaseDo tj s)
/-- THERMTRIP (R523). -/
def execThermtrip (tj : BitVec 8) (s : State) : Host.Outcome State Fault Refusal := .next (thermtripDo tj s)
/-- START_CREDIT_TICK (R524). -/
def execStartCreditTick (s : State) : Host.Outcome State Fault Refusal := .next (startCreditTickDo s)
/-- ENGINE_POWER_GATE (R524). -/
def execEnginePowerGate (engine : BitVec 7) (s : State) : Host.Outcome State Fault Refusal := .next (powered (enginePowerGateDo engine) s)
/-- EREF_MEASUREMENT (R526). -/
def execErefMeasurement (eref : Nat) (s : State) : Host.Outcome State Fault Refusal := .next (erefMeasurementDo eref s)
/-- EFF_WINDOW_END (R527). -/
def execEffWindowEnd (cls : BitVec 3) (energy : Nat) (s : State) : Host.Outcome State Fault Refusal := .next (effWindowEndDo cls energy s)
/-- SMB_TEMPERATURE (R540). -/
def execSmbTemperature (s : State) : Host.Outcome State Fault Refusal := .next (smbTemperatureDo s)
/-- SMB_STATUS (R540). -/
def execSmbStatus (s : State) : Host.Outcome State Fault Refusal := .next (smbStatusDo s)
/-- SMB_VBAT (R540). -/
def execSmbVbat (s : State) : Host.Outcome State Fault Refusal := .next (smbVbatDo s)
/-- SMB_SERIAL (R540). -/
def execSmbSerial (s : State) : Host.Outcome State Fault Refusal := .next (smbSerialDo s)
/-- SMB_SUFFIX (R540). -/
def execSmbSuffix (s : State) : Host.Outcome State Fault Refusal := .next (smbSuffixDo s)
/-- SMB_DEVICE_ID (R540). -/
def execSmbDeviceId (s : State) : Host.Outcome State Fault Refusal := .next (smbDeviceIdDo s)
/-- SMB_REVISION (R540). -/
def execSmbRevision (s : State) : Host.Outcome State Fault Refusal := .next (smbRevisionDo s)
/-- MAIN_POWER_RETURN (R437). -/
def execMainPowerReturn (s : State) : Host.Outcome State Fault Refusal := .next (mainPowerReturnDo s)
/-- HIF_READY (R62). -/
def execHifReady (s : State) : Host.Outcome State Fault Refusal := .next (hifReadyDo s)
/-- SRAM_SCRUB_ERROR (R26). -/
def execSramScrubError (region : SramRegion) (uncorrectable : Bool) (s : State) : Host.Outcome State Fault Refusal := .next (sramScrubErrorDo region uncorrectable s)

end Sys2Proof.Machine
end

