-- ==== Sys2Proof/Machine/Press.lean ====
section
/-! DEFINITION. The Press of a Needle (11_stitch_isa.md, R299; 10_classical.md, R247, R249). -/
namespace Sys2Proof.Machine

/-- A load of `b` bytes from local memory, aligned to `al`, that goes on with the number read. -/
def Needle.pressLoad (n : Needle) (rs1 : BitVec 5) (b al : Nat) (f : Nat → Needle) : NRes :=
  match accessTrap true (n.gx rs1) b al with
  | some t => .error t
  | none => go (f (n.load (n.gx rs1).toNat b))

/-- PLDA: a safe point, where a stop request takes effect once PA is loaded. -/
def pldaDo (k rd rs1 rs2 : BitVec 5) (s : State) : State :=
  onNeedle k (fun j n s =>
    safePoint j.id (settle k.toNat j s (unused [rd, rs2] (n.pressLoad rs1 64 64 (fun v => { n with pa := BitVec.ofNat 512 v }))))) s

/-- PMAC. -/
def pmacDo (k rd rs1 rs2 : BitVec 5) (s : State) : State :=
  stitch k (fun n => unused [rd, rs1] (go { n with acc := n.acc + BitVec.ofNat 640 (n.pa.toNat * (n.gx rs2).toNat) })) s

/-- PSHR. -/
def pshrDo (k rd rs1 rs2 : BitVec 5) (s : State) : State :=
  stitch k (fun n => unused [rs1, rs2] (go { n.px rd (fld n.acc 0 64) with acc := n.acc >>> 64 })) s

/-- PRD. -/
def prdDo (k rd rs1 rs2 : BitVec 5) (s : State) : State :=
  stitch k (fun n => unused [rs1] (if 9 < (n.gx rs2).toNat then .error .access else go (n.px rd (fld n.acc (64 * (n.gx rs2).toNat) 64)))) s

/-- PCLR. -/
def pclrDo (k rd rs1 rs2 : BitVec 5) (s : State) : State := stitch k (fun n => unused [rd, rs1, rs2] (go { n with acc := 0 })) s

/-- PLDACC. -/
def pldaccDo (k rd rs1 rs2 : BitVec 5) (s : State) : State :=
  stitch k (fun n => unused [rd, rs2] (n.pressLoad rs1 80 16 (fun v => { n with acc := BitVec.ofNat 640 v }))) s

/-! ## The meanings of the commands -/

/-- PLDA (R299). -/
def execPlda (needle : BitVec 5) (rd : BitVec 5) (rs1 : BitVec 5) (rs2 : BitVec 5) (s : State) : Host.Outcome State Fault Refusal := .next (pldaDo needle rd rs1 rs2 s)
/-- PMAC (R299). -/
def execPmac (needle : BitVec 5) (rd : BitVec 5) (rs1 : BitVec 5) (rs2 : BitVec 5) (s : State) : Host.Outcome State Fault Refusal := .next (pmacDo needle rd rs1 rs2 s)
/-- PSHR (R299). -/
def execPshr (needle : BitVec 5) (rd : BitVec 5) (rs1 : BitVec 5) (rs2 : BitVec 5) (s : State) : Host.Outcome State Fault Refusal := .next (pshrDo needle rd rs1 rs2 s)
/-- PRD (R299). -/
def execPrd (needle : BitVec 5) (rd : BitVec 5) (rs1 : BitVec 5) (rs2 : BitVec 5) (s : State) : Host.Outcome State Fault Refusal := .next (prdDo needle rd rs1 rs2 s)
/-- PCLR (R299). -/
def execPclr (needle : BitVec 5) (rd : BitVec 5) (rs1 : BitVec 5) (rs2 : BitVec 5) (s : State) : Host.Outcome State Fault Refusal := .next (pclrDo needle rd rs1 rs2 s)
/-- PLDACC (R299). -/
def execPldacc (needle : BitVec 5) (rd : BitVec 5) (rs1 : BitVec 5) (rs2 : BitVec 5) (s : State) : Host.Outcome State Fault Refusal := .next (pldaccDo needle rd rs1 rs2 s)

end Sys2Proof.Machine
end

