-- ==== Sys2Proof/Machine/Registers.lean ====
section
/-! DEFINITION. The registers of BAR0: what each reads as, what a write of it does, the captured high words (R9 to R16, R32 to
R34; the register sections of every chapter). An offset is a byte offset into BAR0; block n begins at n * 0x1_0000. -/
namespace Sys2Proof.Machine

/-! ## Engine status (R151, R193, R221, R244, R271) -/

/-- The job or task that an engine runs or wipes. -/
def State.onEngineJob (s : State) (c : Nat) : Option Job :=
  if isLane c then
    match (s.lane c).running with
    | some { who := .job id, .. } => s.job? id
    | some _ => none
    | none => s.jobs.find? (fun j => j.engine == c && j.phase == .wiping)
  else s.jobs.find? (fun j => j.engine == c && j.holds)

/-- A Tree Sequencer computes a masked step on a lane whose masking generator stalls (R196, R221, R373). -/
def State.treeWaits (s : State) (t : Nat) : Bool :=
  (List.range 32).any (fun k => (s.lane (engWringer k)).running.any (fun r => r.who == .tree t) && s.laneWaits (engWringer k))

/-- STATE of an engine: 4 FENCED, 3 WIPE, 5 STALLED on a masking generator (R373), `run` while it works, else 0 IDLE (log 82). -/
def State.engineState (s : State) (c run : Nat) : Nat :=
  if s.fence c ≠ .none ∨ (s.svc.patRead.any (fun r => r.2 == c) ∧ !s.mangleBusy c) then 4
  else if (s.onEngineJob c).any (·.phase == .wiping) ∨ ((s.onEngineJob c).isNone ∧ s.eng.wipes.any (fun w => w.1 == c)) then 3
  else if s.stalled c ∨ (0x64 ≤ c ∧ c < 0x68 ∧ s.treeWaits (c - 0x64)) then 5
  else if (s.onEngineJob c).isSome ∨ (isLane c ∧ (s.lane c).running.isSome) then run
  else 0

/-- A field of the job that an engine runs, 0 when it is idle. -/
def State.jobField (s : State) (c : Nat) (f : Job → Nat) : Nat := (s.onEngineJob c).elim 0 f

/-- RUN or EXPAND of a Mangle (R151): a job that missed its lookup expands the key before it runs on, and how far it has come is left
open (log 82). -/
def State.mangleRun (s : State) (c : Nat) : Nat :=
  (s.onEngineJob c).elim 2 (fun j =>
    if j.phase == .running && (j.cacheRes == 1 || j.cacheRes == 2) && Config.expanding j.id s.freeCtr then 1 else 2)

/-- FUNC or ALG of a lane's running requester (R193, R271): that of its session, of the key, or of its own block; a Tree Sequencer's
reads 0. -/
def State.laneFunc (s : State) (c : Nat) : Nat :=
  s.jobField c (fun j =>
    if isStep j.opcode then (s.ctx j.ctxOf).func
    else if c < 0x40 then j.pb 0
    else if j.bound.isEmpty then j.pb 0 else j.keyB.alg)

/-- ORDER2 of a Tumbler's running requester (R271). -/
def State.laneOrder2 (s : State) (c : Nat) : Bool :=
  (s.onEngineJob c).elim false (fun j => if isStep j.opcode then (s.ctx j.ctxOf).order2 else aOrder2 j.keyB.attr)

/-- Turn contexts in use (R178, R193). -/
def State.turnUsed (s : State) : Nat :=
  ((List.range 32).map (fun k => ((s.lane (engWringer k)).waiting.filter (·.turnCtx.isSome)).length)).sum

/-- The slice of a lane's running requester; a Tree Sequencer's is that of a job it holds. -/
def State.laneSlice (s : State) (c : Nat) : Nat :=
  match (s.lane c).running with
  | some { who := .tree t, .. } => ((s.jobs.find? (fun j => j.engine == engTree t && j.holds)).elim 0 (·.slice))
  | _ => s.jobField c (·.slice)

/-- Lanes a Tree Sequencer has joined. -/
def State.lanesOfTree (s : State) (t : Nat) : Nat :=
  (below 32 (fun k =>
    let l := s.lane (engWringer k)
    l.running.any (fun r => r.who == .tree t) || l.waiting.any (fun r => r.who == .tree t))).length

/-- Cost of an opcode and variant (R412, R420): the charge, or the deadline bound, of a job that names them and carries nothing else. -/
def State.cost (s : State) : Nat :=
  let sel := s.sched.costSel
  let j : Job := { id := 0, slice := 0, opcode := (fld sel 16 16).toNat, body := (fld sel 8 8) :: zeros 63 }
  match opReq s j with
  | none => 0
  | some r => if bit sel 0 then r.bound.getD 0xFFFFFFFF else r.charge

/-! ## Reads, by block -/

/-- Address words of a queue: bits 31:12, and 63:32. -/
def baseLo (b : BitVec 64) : Word := fld b 0 32
def baseHi (b : BitVec 64) : Word := fld b 32 32

/-- Words of an indexed register: the index of offset `o` among `n` words from `lo`. -/
def indexAt (o lo n : Nat) : Option Nat := if lo ≤ o ∧ o < lo + 4 * n then some ((o - lo) / 4) else none

/-- HIF (R64, R95). -/
def readHif (o : Nat) (s : State) : Word :=
  let q := s.sq s.sel.1 s.sel.2
  let c := s.cq s.sel.1 s.sel.2
  match indexAt o 0x100 256 with
  | some i => let b := tget s.hif.ideBind {} i; word [(flag b.required, 8), (b.stream, 0)]
  | none =>
  match o with
  | 0x0010 => word [(flag (s.hif.streams.any (fun e => e.2.link && e.2.secure)), 11), (flag s.degraded, 10), (flag s.hif.flit, 9),
      (flag s.hif.dlActive, 8), (s.hif.width.toNat, 3), (s.hif.speed.toNat, 0)]
  | 0x0014 => word [(s.hif.minWidth.toNat, 3), (s.hif.minSpeed.toNat, 0)]
  | 0x0020 => word [(flag s.hif.readIdo, 2), (flag s.hif.readRo, 1), (flag s.hif.dataRo, 0)]
  | 0x0024 => s.hif.dmaStatus.zeroExtend 32
  | 0x0028 => s.hif.dmaFaults
  | 0x0800 => word [(s.ring.qselSlice.toNat, 8), (s.ring.qselQueue.toNat, 0)]
  | 0x0810 => baseLo q.base
  | 0x0814 => baseHi q.base
  | 0x0818 => word [(q.wdog.toNat, 16), (q.errCq.toNat, 12), (q.log2.toNat, 4), (flag q.enable, 0)]
  | 0x081C => word [(flag q.fault, 19), (flag q.stalled, 18), (flag (s.sqActive s.sel.1 s.sel.2), 17), (flag q.phase, 16), (q.head, 0)]
  | 0x0820 => baseLo c.base
  | 0x0824 => baseHi c.base
  | 0x0828 => word [(c.timer.toNat, 24), (c.thresh.toNat, 16), (flag c.ien, 15), (c.vec.toNat, 12), (c.log2.toNat, 4), (flag c.enable, 0)]
  | 0x082C => word [(flag c.phase, 16), (c.tail, 0)]
  | 0x0830 => word [(c.resv + c.written, 0)]
  | _ => 0

/-- Code of a slice state (R390). -/
def SliceSt.code : SliceSt → Nat
  | .disabled => 0 | .active => 1 | .freezing => 2 | .frozen => 3 | .saved => 4 | .restoring => 5

/-- SLC (R403). -/
def readSlc (o : Nat) (s : State) : Word :=
  if o = 0x10 then s.freezeLimit.zeroExtend 32
  else match indexAt o 0x400 256 with
  | some i => word [(flag (s.slice i).enable, 31), ((s.slice i).pasid.toNat, 0)]
  | none => match indexAt o 0x800 256 with
  | some i => word [(flag (s.slice i).resetPending, 31), (flag (s.oldJobs i), 30), ((s.sliceState i).code, 27), ((s.slice i).gen.toNat, 16),
      ((s.hostJobs.filter (fun j => j.slice == i && j.gen == (s.slice i).gen)).length, 0)]
  | none => match indexAt o 0x1000 256 with
  | some i => (s.slice i).quotaKt.zeroExtend 32
  | none => match indexAt o 0x1400 256 with
  | some i => (s.slice i).quotaPs.zeroExtend 32
  | none => match indexAt o 0x1800 256 with
  | some i => word [((s.slice i).quotaJobs.toNat, 16), ((s.slice i).quotaSessions.toNat, 0)]
  | none => 0

/-- SCH (R420). -/
def readSch (o : Nat) (s : State) : Word :=
  match indexAt o 0x100 7 with
  | some c => let g := s.classCfg c; word [(g.longMax.toNat, 24), (g.block.toNat, 0)]
  | none => match indexAt o 0x140 7 with
  | some c => word [(flag (s.guaranteed c), 31), (s.rateSum c none % 2 ^ 28, 0)]
  | none => match indexAt o 0x400 256 with
  | some i => tget s.sched.misses 0 i
  | none =>
  match o with
  | 0x0008 => word [(s.time.ptmMs.toNat, 8), (s.time.source.toNat, 0)]
  | 0x000C => word [(flag s.time.set, 7), (flag s.time.stepped, 6), (flag s.time.lost, 5), (s.time.state.code, 0)]
  | 0x0010 => fld s.time.epoch 0 32
  | 0x0014 => fld s.time.epoch 32 32
  | 0x001C => s.tick
  | 0x0020 => fld s.time.ptmOffset 0 32
  | 0x0024 => fld s.time.ptmOffset 32 32
  | 0x0028 => s.time.holdoverSecs
  | 0x002C => s.sched.admitLast.zeroExtend 32
  | 0x0030 => s.sched.costSel
  | 0x0034 => BitVec.ofNat 32 s.cost
  | _ => 0

/-- Longest free run of the Key Table, at most 128. -/
def State.longestRun (s : State) : Nat := ((List.range 129).reverse.find? (fun n => n == 0 || (s.freeRun true n).isSome)).getD 0

/-- KVT (R333). The daily rewrite is one step, so PS_REFRESH reads 0. -/
def readKvt (o : Nat) (s : State) : Word :=
  match o with
  | 0x0008 => word [(flag s.kv.exportDis, 0)]
  | 0x0010 => word [(flag s.kv.rinsed, 7), (flag s.kv.journalReplayed, 6), (flag s.kv.sweep, 4), (flag (s.kv.vrk0 != 0 || s.kv.vrk1 != 0), 0)]
  | 0x0014 => word [(s.slotsUsed true, 0)]
  | 0x0018 => word [(s.longestRun, 0)]
  | 0x001C => word [(s.slotsUsed false, 0)]
  | 0x0020 => s.kv.rotations
  | 0x0024 => word [((s.evr.opTicks - s.kv.refreshAt) / 983040 % 2 ^ 32, 0)]
  | _ => 0

/-- VENT_STATUS (R455), 64 bits. -/
def State.ventStatus (s : State) : BitVec 64 :=
  BitVec.ofNat 64 ((List.range 6).foldl (fun a c =>
    let v := s.ventClass c
    a + (flag v.pending * 128 + v.level.toNat * 16 + v.count.toNat) * 256 ^ c)
    (flag s.vent.fi * 2 ^ 51 + flag s.vent.batt * 2 ^ 50 + flag s.vent.haltSec * 2 ^ 49 + flag s.vent.halt * 2 ^ 48))

/-- VNT (R455). -/
def readVnt (o : Nat) (s : State) : Word :=
  match indexAt o 0x40 6 with
  | some c => (s.ventClass c).events
  | none =>
  match o with
  | 0x0008 => word [(s.vent.vec.toNat, 8), (s.vent.autoAck.toNat, 0)]
  | 0x0010 => fld s.ventStatus 0 32
  | 0x0014 => fld s.ventStatus 32 32
  | 0x0018 => word [(s.vent.lastCode.toNat, 24), (s.vent.lastDetail.toNat, 16), (s.vent.lastLevel.toNat, 8), (s.vent.lastClass.toNat, 0)]
  | 0x001C => s.vent.recDropped
  | _ => 0

/-- TMP (R456): the staging fields. -/
def readTmp (o : Nat) (s : State) : Word :=
  match indexAt o 0x100 8 with
  | some n => let l := tget s.tmp.stage.loops {} n; word [(flag l.delay, 25), (flag l.prbs, 24), (l.seed.toNat, 0)]
  | none =>
  match o with
  | 0x000C => word [(flag s.tmp.cfgReject, 16), (flag s.tmp.mainRates, 15), (s.tmp.alarm.toNat, 0)]
  | 0x0010 => s.otp.tdis.zeroExtend 32
  | 0x0020 => s.tmp.stage.casePol.zeroExtend 32
  | 0x0028 => s.tmp.vbat.zeroExtend 32
  | _ => 0

/-- LCS (R472). The wipe is part of the step that asks for it, so WIPING reads 0. -/
def readLcs (o : Nat) (s : State) : Word :=
  let valid (w : BitVec 32) : Nat := flag (stateOf w).isSome
  match o with
  | 0x0008 => word [(flag (s.lcs.state == .locked), 15), (flag s.lcs.ftm, 14), (flag s.lcs.burning.isSome, 13), (valid s.otp.lcsC, 11),
      (valid s.otp.lcsB, 10), (valid s.otp.lcsA, 9), (s.lcs.state.code, 0)]
  | 0x0010 => s.otp.lcsA
  | 0x0014 => s.otp.lcsB
  | 0x0018 => s.otp.lcsC
  | 0x0020 => word [(flag (s.lcs.dac.isSome || s.lcs.state == .analysis), 31), (s.rights.toNat, 0)]
  | 0x0024 => word [(s.lcs.dac.elim 0 (fun d => ceilDiv (d.ends - s.evr.opTicks) 16384) % 2 ^ 32, 0)]
  | 0x0028 => word [(s.lcs.dac.elim 0 (fun d => d.cycles % 256), 0)]
  | 0x002C => s.lcs.powerCycles
  | 0x0030 => word [(s.lcs.lastKind.toNat, 24), (s.lcs.lastResult.toNat, 0)]
  | _ => 0

/-- Code of a Random Unit state. -/
def RngSt.code : RngSt → Nat
  | .startup => 1 | .ready => 2 | .failed => 3

/-- RNG (R377). -/
def readRng (o : Nat) (s : State) : Word :=
  match o with
  | 0x000C => word [(flag s.rng.prAll, 1), (flag s.rng.autoReset, 0)]
  | 0x0010 => word [(s.rng.autoLeft.toNat, 12), (s.rng.cause.toNat, 8), (flag s.rng.aFailed, 5), (flag s.rng.sourceB, 4), (s.rng.state.code, 0)]
  | 0x0014 => word [(s.rng.apt.toNat, 16), (s.rng.rct.toNat, 0)]
  | 0x0018 => word [(s.rng.aptMax.toNat, 16), (s.rng.rctMax.toNat, 0)]
  | 0x001C => word [(s.rng.autoResets.toNat, 16), (s.rng.hostResets.toNat, 0)]
  | 0x0020 => word [((s.rng.gens.filter (fun e => e.2.stalled)).length, 0)]
  | 0x0024 => s.rng.reseeds
  | _ => 0

/-- PWR (R529). -/
def readPwr (o : Nat) (s : State) : Word :=
  match o with
  | 0x0008 => word [(s.pwr.gateIdle.toNat, 16), (s.pwr.thermHold.toNat, 8), (flag s.pwr.eclkSel, 0)]
  | 0x000C => word [(s.pwr.cause.toNat, 24), (s.pwr.credits, 16), (s.pwr.tj.toNat, 8), (s.eclk, 0)]
  | 0x0010 => s.pwr.droopEvents
  | 0x0014 => s.pwr.creditWaits
  | _ => 0

/-- ENG: status of the engines (R151, R193, R221, R244, R271, R530). -/
def readEngStatus (o : Nat) (s : State) : Word :=
  match indexAt o 0x1100 32 with
  | some k => word [(s.jobField k (·.slice), 16), (s.jobField k (·.pb 0), 8), (s.engineState k (s.mangleRun k), 0)]
  | none => match indexAt o 0x1400 256 with
  | some i => word [(tget s.eng.ekc.quota 0 i, 0)]
  | none => match indexAt o 0x1800 32 with
  | some k =>
    let m := tget s.eng.mchk {} k
    word [(flag m.valid, 31), (m.cause.toNat, 29), (flag m.inPatch, 28), (m.parFail.toNat, 23), (m.addr.toNat, 0)]
  | none => match indexAt o 0x2100 32 with
  | some k =>
    let c := engWringer k
    word [(s.laneSlice c, 16), (s.laneFunc c, 8), ((s.lane c).waiting.length, 4), (flag (s.laneMasked c), 3), (s.engineState c 1, 0)]
  | none => match indexAt o 0x2810 4 with
  | some t =>
    let js := s.jobs.filter (fun j => j.engine == engTree t && j.holds)
    word [(js.length, 12), (flag (js.any (·.long)), 11), (s.lanesOfTree t, 7), (s.engineState (engTree t) 1, 0)]
  | none => match indexAt o 0x3100 4 with
  | some k =>
    let c := engDarner k
    word [(s.jobField c (·.slice), 16), (s.jobField c (·.pb 0), 8), (s.jobField c (fun j => flag (j.opcode == 0x0301)), 7),
      (s.engineState c (s.jobField c (fun j => if j.phase = .reading then 1 else 2)), 0)]
  | none => match indexAt o 0x3400 256 with
  | some i => word [(tget s.eng.dpk.quota 0 i, 0)]
  | none => match indexAt o 0x3800 32 with
  | some k =>
    let c := engNeedle k
    word [(s.jobField c (fun j => j.opcode / 256), 24), (s.jobField c (·.slice), 16), (s.engineState c 1, 0)]
  | none => match indexAt o 0x3910 8 with
  | some k =>
    let c := engTumbler k
    word [(s.laneSlice c, 16), (s.laneFunc c, 8), ((s.lane c).waiting.length, 4),
      (flag (s.laneOrder2 c), 3), (s.engineState c 1, 0)]
  | none => match indexAt o 0x4000 5 with
  | some k => (tget s.pwr.eff {} k).floor
  | none => match indexAt o 0x4040 5 with
  | some k => let e := tget s.pwr.eff {} k; word [(e.worst.toNat, 16), (e.last.toNat, 0)]
  | none => match indexAt o 0x4080 5 with
  | some k => (tget s.pwr.eff {} k).ops
  | none => 0

/-- Match registers that one Mangle's loaded patch set enables. -/
def State.matches (s : State) : Nat := (below 32 (fun m => (s.matchReg 0 m).en)).length

/-- ENG (R151, R171, R193, R221, R244, R271). -/
def readEng (o : Nat) (s : State) : Word :=
  match o with
  | 0x1000 => word [(flag s.eng.ekcEnable, 0)]
  | 0x1004 => word [(s.eng.ekc.quotaSum, 16), (s.eng.ekc.used, 0)]
  | 0x1008 => s.eng.ekc.hits
  | 0x100C => s.eng.ekc.misses
  | 0x1010 => s.eng.ekc.other
  | 0x1880 => word [(Config.romId, 16), (s.matches, 0)]
  | 0x1884 => s.eng.patSetId
  | 0x2000 => s.eng.wrgTurn.zeroExtend 32
  | 0x2004 => word [((s.ctxs.filter (fun e => e.2.isOpen)).length, 16), (s.turnUsed, 0)]
  | 0x2008 => s.eng.switches
  | 0x2800 => s.eng.tsqLanes.zeroExtend 32
  | 0x2820 => s.eng.hbsCommits
  | 0x2824 => word [((s.kv.pairs.filter (fun e => e.2.unusable)).length, 15), ((s.kv.pairs.filter (fun e => e.2.used)).length, 0)]
  | 0x3000 => word [(flag s.eng.drnSpill, 4), (s.eng.drnKgMax.toNat, 0)]
  | 0x3004 => word [(s.eng.dpk.quotaSum, 16), (s.eng.dpk.used, 0)]
  | 0x3008 => s.eng.dpk.hits
  | 0x300C => s.eng.dpk.misses
  | 0x3010 => s.eng.dpk.other
  | 0x3900 => s.eng.tmbTurn.zeroExtend 32
  | 0x3940 => word [((below 16 (fun m => (tget s.thm.curves none m).isSome)).foldl (fun a m => a + 2 ^ m) 0, 0)]
  | 0x3944 => s.eng.crtFaults
  | _ => readEngStatus o s

/-- CRD (R493). -/
def readCrd (o : Nat) (s : State) : Word :=
  match indexAt o 0x50 2 with
  | some k =>
    let p := s.ocPort k
    word [(flag p.present, 15), (flag p.active, 14), (p.cls.toNat, 12), (flag p.proto, 11), (p.last.toNat % 16, 0)]
  | none =>
  match o with
  | 0x0008 => word [(flag s.crd.hsEn, 1), (flag s.crd.wideEn, 0)]
  | 0x000C => word [(flag s.crd.removed, 16), (s.crd.phase.toNat, 8), (flag s.crd.hs, 6), (flag s.crd.wide, 5), (flag s.crd.powered, 4),
      (flag s.crd.wp, 1), (flag s.crd.present, 0)]
  | 0x0010 => word [(s.crd.wait.toNat, 8)]
  | 0x0014 => s.crd.gen
  | 0x0018 => word [(flag s.crd.busy, 31), (s.crd.op.toNat, 28), (s.crd.detail.toNat, 24), (s.crd.code.toNat, 0)]
  | 0x001C => s.crd.block
  | 0x0020 => s.crd.done
  | 0x0024 => s.crd.keys
  | 0x0040 => word [(s.crd.classes1.toNat, 4), (s.crd.classes0.toNat, 0)]
  | _ => 0

/-- MET (R435); on EQX-6480-S the block is fused off and reads 0. -/
def readMet (o : Nat) (s : State) : Word :=
  match indexAt o 0x10 8 with
  | some k => BitVec.ofNat 32 (fieldLE s.met.swSum (4 * k) 4)
  | none =>
  match o with
  | 0x0008 => word [(s.met.st.code, 30), (s.breaks, 24), (s.met.keyEpoch.toNat, 16), (s.met.intervals.length, 0)]
  | 0x000C => s.met.swId
  | 0x0030 => BitVec.ofNat 32 s.met.recordSeq
  | 0x0034 => BitVec.ofNat 32 (s.met.recordSeq / 2 ^ 32)
  | 0x0040 => word [(s.met.maxQueue.toNat, 0)]
  | _ => 0

/-- SEQ of the newest and of the oldest record held; 0 where none is. -/
def State.newestSeq (s : State) : Nat := match lastN 1 s.evr.records with | [r] => r.seq | _ => 0
def State.oldestSeq (s : State) : Nat := s.evr.records.head?.elim 0 (·.seq)

/-- EVR (R514). -/
def readEvr (o : Nat) (s : State) : Word :=
  match o with
  | 0x0008 => BitVec.ofNat 32 s.newestSeq
  | 0x000C => BitVec.ofNat 32 (s.newestSeq / 2 ^ 32)
  | 0x0010 => BitVec.ofNat 32 s.oldestSeq
  | 0x0014 => BitVec.ofNat 32 (s.oldestSeq / 2 ^ 32)
  | 0x0018 => word [(s.evr.queue.length, 8), (1, 0)]
  | 0x001C => s.evr.dropped
  | _ => 0

/-- SVC (R513). -/
def readSvc (o : Nat) (s : State) : Word :=
  match o with
  | 0x0008 => word [(s.svc.bank1.st.code, 6), (s.svc.bank0.st.code, 4), (flag s.svc.paused, 3), (flag s.svc.attn, 2),
      (flag (s.svc.stage == .isOpen), 1), (flag s.svc.linkUp, 0)]
  | 0x000C => word [(flag s.svc.actEn, 16), (s.svc.drain.toNat, 0)]
  | 0x0010 => s.activeBank.version
  | 0x0014 => if s.inactive.st = .staged then s.inactive.version else 0
  | 0x0018 => s.svc.svnFloor
  | 0x001C => s.svc.frameErrors
  | _ => 0

/-- The live value of a register; every reserved offset reads 0 (R15, R32, R33, R34). -/
def readReg (off : Nat) (s : State) : Word :=
  let b := off / 0x10000
  let o := off % 0x10000
  if 14 ≤ b ∨ o % 4 ≠ 0 then 0
  else if b = 0xB ∧ !s.otp.variantL then (if o = 0 then word [(0x0B, 24), (1, 16)] else 0)
  else if o = 0 then word [(b, 24), (1, 16), (1, 0)]
  else if o = 4 then word [(flag (s.locks.getLsbD b), 0)]
  else match b with
    | 0 => readHif o s | 1 => readSlc o s | 2 => readSch o s | 3 => readKvt o s | 4 => readVnt o s | 5 => readTmp o s | 6 => readLcs o s
    | 7 => readRng o s | 8 => readPwr o s | 9 => readEng o s | 10 => readCrd o s | 11 => readMet o s | 12 => readEvr o s | _ => readSvc o s

/-! ## RC registers (R11, R13) -/

/-- What a read clears: the RC fields of the register at an offset. -/
def clearRc (off : Nat) (s : State) : State :=
  match off with
  | 0x000028 => { s with hif.dmaFaults := 0 }
  | 0x030020 => { s with kv.rotations := 0 }
  | 0x04001C => { s with vent.recDropped := 0 }
  | 0x070014 => { s with rng.apt := 0, rng.rct := 0 }
  | 0x07001C => { s with rng.autoResets := 0, rng.hostResets := 0 }
  | 0x070024 => { s with rng.reseeds := 0 }
  | 0x080010 => { s with pwr.droopEvents := 0 }
  | 0x080014 => { s with pwr.creditWaits := 0 }
  | 0x091008 => { s with eng.ekc := { s.eng.ekc with hits := 0 } }
  | 0x09100C => { s with eng.ekc := { s.eng.ekc with misses := 0 } }
  | 0x091010 => { s with eng.ekc := { s.eng.ekc with other := 0 } }
  | 0x092008 => { s with eng.switches := 0 }
  | 0x092820 => { s with eng.hbsCommits := 0 }
  | 0x093008 => { s with eng.dpk := { s.eng.dpk with hits := 0 } }
  | 0x09300C => { s with eng.dpk := { s.eng.dpk with misses := 0 } }
  | 0x093010 => { s with eng.dpk := { s.eng.dpk with other := 0 } }
  | 0x093944 => { s with eng.crtFaults := 0 }
  | 0x0C001C => { s with evr.dropped := 0 }
  | 0x0D001C => { s with svc.frameErrors := 0 }
  | _ =>
    match indexAt off 0x020400 256 with
    | some i => { s with sched.misses := tput s.sched.misses 0 i 0 }
    | none => match indexAt off 0x040040 6 with
    | some c => s.modVentClass c (fun v => { v with events := 0 })
    | none => s

/-! ## Captured high words (R10) -/

/-- Low words of the 64-bit counters and time values. -/
def pairLows : List Nat := [0x020010, 0x020020, 0x040010, 0x0B0030, 0x0C0008, 0x0C0010]

/-- One 32-bit read: a low word captures its high word; the first read of that high word takes the capture. -/
def readWord (off : Nat) (s : State) : State × Word :=
  if pairLows.contains off then ({ s with hold := tput s.hold none off (some (readReg (off + 4) s)) }, readReg off s)
  else if pairLows.contains (off - 4) then
    match tget s.hold none (off - 4) with
    | some v => ({ s with hold := tput s.hold none (off - 4) none }, v)
    | none => (s, readReg off s)
  else (clearRc off s, readReg off s)

/-- An aligned read of BAR0, low word first. -/
def readBar (wide : Bool) (off : Nat) (s : State) : State :=
  if off % (if wide then 8 else 4) ≠ 0 then emit .unsupported s
  else
    let (s, lo) := readWord off s
    if wide then
      let (s, hi) := readWord (off + 4) s
      emit (.readData (hi ++ lo)) s
    else emit (.readData (lo.zeroExtend 64)) s

/-- RC_REGISTER_READ: returned, then cleared. -/
def rcRegisterReadDo (offset : BitVec 24) (s : State) : State := readBar false offset.toNat s

/-- COUNTER_LOW_READ. -/
def counterLowReadDo (offset : BitVec 24) (wide : Bool) (s : State) : State := readBar wide offset.toNat s

/-! ## BAR2, BAR4 and the configuration header (R31, R44, R46, R75) -/

/-- A 32-bit word of BAR4 (R31): the MSI-X table, then the pending-bit array; every other offset reads 0. -/
def State.readTable (s : State) (o : Nat) : Word :=
  if o < 0x8000 then
    let m := tget s.hif.vectors {} (o / 16)
    match o % 16 / 4 with
    | 0 => fld m.addr 0 32 | 1 => fld m.addr 32 32 | 2 => m.data | _ => word [(flag m.mask, 0)]
  else if o < 0x8100 then
    word ((List.range 32).map (fun k => (flag (tget s.hif.pba false (8 * (o - 0x8000) + k)), k)))
  else 0

/-- A 32-bit word of the configuration header at the offset that the base specification gives its registers (R44, R46; log 85): Vendor
and Device ID, command, Revision ID and class code, header type, the subsystem IDs, Interrupt Pin; the rest reads 0. -/
def State.readHeader (s : State) (o : Nat) : Word :=
  match o with
  | 0x00 => (0x6480 : BitVec 16) ++ Config.vendorId
  | 0x04 => word [(1, 20), (flag s.hif.bme, 2), (flag s.hif.mse, 1)]
  | 0x08 => (0x108000 : BitVec 24) ++ Config.revision
  | 0x2C => s.otp.subDevice ++ s.otp.subVendor
  | _ => 0

/-- A naturally aligned read of 32 or 64 bits, low word first: BAR0, BAR2, which reads 0 (R75), BAR4; number 7 stands for the
configuration space (log 85). -/
def hostRead (bar offset size : Nat) (s : State) : State :=
  let both (f : Nat → Word) : State := emit (.readData (if size = 8 then f (offset + 4) ++ f offset else (f offset).zeroExtend 64)) s
  match bar with
  | 0 => readBar (decide (size = 8)) offset s
  | 2 => both (fun _ => 0)
  | 4 => both s.readTable
  | 7 => both s.readHeader
  | _ => emit .unsupported s

/-- BAR_ACCESS_UNSUPPORTED: an access that is not naturally aligned, or not of 32 or 64 bits (R16, R31, R75), is an Unsupported Request
and has no effect; so is every access while the function answers no memory request (R54). One that is naturally aligned is a read
(log 85). -/
def barAccessUnsupportedDo (bar : BitVec 3) (offset size : Nat) (s : State) : State :=
  if bar = 7 then (if s.pwr.inReset ∨ s.pwr.perst then s else if !s.pwr.hifReady then emit .retryStatus s else hostRead 7 offset size s)
  else if !s.barOn || s.svc.bootFailed || !((size == 4 || size == 8) && offset % size == 0) then emit .unsupported s
  else hostRead bar.toNat offset size s

/-! ## Writes, by block -/

/-- BLOCK_LOCK: LOCK only ever goes to 1 here (R34). -/
def writeLock (b : Nat) (value : Word) (s : State) : State :=
  if b < 14 ∧ bit value 0 then { s with locks := s.locks ||| (1 <<< b) } else s

/-- A write of HIF_IDE_BIND[i]; requests that it lets pass resume (R60). -/
def writeIdeBind (i : Nat) (v : Word) (s : State) : State :=
  let n : IdeBind := { required := bit v 8, stream := (fld v 0 6).toNat }
  writeRwl 0 (decide (n ≠ tget s.hif.ideBind {} i))
    (fun s => refetchSlice i (resumeHeld { s with hif.ideBind := tput s.hif.ideBind {} i n })) s

/-- A queue base with one of its words written. -/
def setBase (hi : Bool) (v : Word) (b : BitVec 64) : BitVec 64 := if hi then v ++ fld b 0 32 else fld b 32 32 ++ (v &&& 0xFFFFF000)

/-- HIF. -/
def writeHif (o : Nat) (v : Word) (s : State) : State :=
  let (i, k) := s.sel
  match indexAt o 0x100 256 with
  | some n => writeIdeBind n v s
  | none =>
  match o with
  | 0x0014 => writeLinkCtrl v s
  | 0x0020 => writeRwl 0 (bit v 2 != s.hif.readIdo || bit v 1 != s.hif.readRo || bit v 0 != s.hif.dataRo)
      (fun s => { s with hif.readIdo := bit v 2, hif.readRo := bit v 1, hif.dataRo := bit v 0 }) s
  | 0x0024 => { s with hif.dmaStatus := s.hif.dmaStatus &&& ~~~(fld v 0 5) }
  | 0x0800 => { s with ring.qselSlice := fld v 8 8, ring.qselQueue := fld v 0 4 }
  | 0x0810 => if (s.sq i k).enable then s else s.modSq i k (fun q => { q with base := setBase false v q.base })
  | 0x0814 => if (s.sq i k).enable then s else s.modSq i k (fun q => { q with base := setBase true v q.base })
  | 0x0818 => writeSqCfg v s
  | 0x081C => sqFaultClearDo v s
  | 0x0820 => if (s.cq i k).enable then s else s.modCq i k (fun c => { c with base := setBase false v c.base })
  | 0x0824 => if (s.cq i k).enable then s else s.modCq i k (fun c => { c with base := setBase true v c.base })
  | 0x0828 => writeCqCfg v s
  | _ => s

/-- SLC. -/
def writeSlc (o : Nat) (v : Word) (s : State) : State :=
  if o = 0x10 then writeRwl 1 (fld v 0 16 != s.freezeLimit) (fun s => { s with freezeLimit := fld v 0 16 }) s
  else match indexAt o 0x400 256 with
  | some i => writeSliceCfg i v s
  | none => match indexAt o 0xC00 256 with
  | some i => if bit v 0 then requestReset i s else s
  | none => match indexAt o 0x1000 256 with
  | some i => s.modSlice i (fun sl => { sl with quotaKt := fld v 0 21 })
  | none => match indexAt o 0x1400 256 with
  | some i => s.modSlice i (fun sl => { sl with quotaPs := fld v 0 17 })
  | none => match indexAt o 0x1800 256 with
  | some i => s.modSlice i (fun sl => { sl with quotaJobs := fld v 16 13, quotaSessions := fld v 0 12 })
  | none => s

/-- SCH. -/
def writeSch (o : Nat) (v : Word) (s : State) : State :=
  match indexAt o 0x100 7 with
  | some c => classCfgWriteDo (BitVec.ofNat 3 c) v s
  | none =>
  match o with
  | 0x0008 => timeSourceWriteDo v s
  | 0x000C => { s with time.stepped := s.time.stepped && !bit v 6, time.lost := s.time.lost && !bit v 5 }
  | 0x0018 => taiSetDo v s
  | 0x0020 => { s with time.ptmOffset := fld s.time.ptmOffset 32 32 ++ v }
  | 0x0024 => { s with time.ptmOffset := v ++ fld s.time.ptmOffset 0 32 }
  | 0x0030 => { s with sched.costSel := v &&& 0xFFFFFF01 }
  | _ => s

/-- TMP: the staging fields (R440) and the two actions. -/
def writeTmp (o : Nat) (v : Word) (s : State) : State :=
  match indexAt o 0x100 8 with
  | some n => { s with tmp.stage := { s.tmp.stage with
      loops := tput s.tmp.stage.loops {} n { delay := bit v 25, prbs := bit v 24, seed := fld v 0 23 } } }
  | none =>
  match o with
  | 0x0008 => tamperCommitDo v s
  | 0x000C => { s with tmp.cfgReject := s.tmp.cfgReject && !bit v 16 }
  | 0x0014 => tdisBurnDo v s
  | 0x0020 => { s with tmp.stage := { s.tmp.stage with casePol := fld v 0 4 } }
  | _ => s

/-- ENG. -/
def writeEng (o : Nat) (v : Word) (s : State) : State :=
  match indexAt o 0x1400 256 with
  | some i => ekcQuotaWriteDo (BitVec.ofNat 8 i) v s
  | none => match indexAt o 0x1800 32 with
  | some k => if bit v 31 then { s with eng.mchk := tmod s.eng.mchk {} k (fun m => { m with valid := false }) } else s
  | none => match indexAt o 0x3400 256 with
  | some i => dpkQuotaWriteDo (BitVec.ofNat 8 i) v s
  | none =>
  match o with
  | 0x1000 => writeEkcCtrl v s
  | 0x2000 => writeRwl 9 (fld v 0 13 != s.eng.wrgTurn) (fun s => { s with eng.wrgTurn := fld v 0 13 }) s
  | 0x2800 => writeRwl 9 (fld v 0 4 != s.eng.tsqLanes) (fun s => { s with eng.tsqLanes := fld v 0 4 }) s
  | 0x3000 => writeDrnCtrl v s
  | 0x3900 => writeRwl 9 (fld v 0 13 != s.eng.tmbTurn) (fun s => { s with eng.tmbTurn := fld v 0 13 }) s
  | _ => s

/-- CRD. -/
def writeCrd (o : Nat) (v : Word) (s : State) : State :=
  match o with
  | 0x0008 => writeRwl 10 (bit v 1 != s.crd.hsEn || bit v 0 != s.crd.wideEn) (fun s => { s with crd.hsEn := bit v 1, crd.wideEn := bit v 0 }) s
  | 0x000C => { s with crd.removed := s.crd.removed && !bit v 16 }
  | 0x0010 => writeBkpCtrl v s
  | 0x0014 => { s with crd.gen := v }
  | 0x0040 => writeRwl 10 (fld v 4 3 != s.crd.classes1 || fld v 0 3 != s.crd.classes0)
      (fun s => { s with crd.classes1 := fld v 4 3, crd.classes0 := fld v 0 3 }) s
  | _ => s

/-- One 32-bit write, by the access codes of R11; a reserved or read-only offset ignores it. -/
def writeReg (off : Nat) (v : Word) (s : State) : State :=
  let b := off / 0x10000
  let o := off % 0x10000
  if 14 ≤ b ∨ o % 4 ≠ 0 ∨ (b = 0xB ∧ !s.otp.variantL) then s
  else if o = 4 then writeLock b v s
  else match b with
    | 0 => writeHif o v s
    | 1 => writeSlc o v s
    | 2 => writeSch o v s
    | 3 =>
      if o = 8 then writeRwl 3 (bit v 0 != s.kv.exportDis) (fun s => { s with kv.exportDis := bit v 0 }) s
      else if o = 0x10 then { s with kv.journalReplayed := s.kv.journalReplayed && !bit v 6 } else s
    | 4 =>
      if o = 8 then ventResumeDo v s else if o = 0x10 then ventAcknowledgeDo false v s else if o = 0x14 then ventAcknowledgeDo true v s
      else if o = 0x80 then ventInjectDo v s else s
    | 5 => writeTmp o v s
    | 7 =>
      if o = 8 then rngDomainResetDo v s
      else if o = 0xC then writeRwl 7 (bit v 1 != s.rng.prAll || bit v 0 != s.rng.autoReset)
        (fun s => { s with rng.prAll := bit v 1, rng.autoReset := bit v 0 }) s
      else s
    | 8 =>
      if o = 8 then writeRwl 8 (fld v 16 8 != s.pwr.gateIdle || fld v 8 8 != s.pwr.thermHold || bit v 0 != s.pwr.eclkSel)
        (fun s => { s with pwr.gateIdle := fld v 16 8, pwr.thermHold := fld v 8 8, pwr.eclkSel := bit v 0 }) s
      else s
    | 9 => writeEng o v s
    | 10 => writeCrd o v s
    | 11 => if o = 0x40 then metCtrlWriteDo v s else s
    | 13 =>
      if o = 0xC then writeRwl 13 (bit v 16 != s.svc.actEn || fld v 0 16 != s.svc.drain)
        (fun s => { s with svc.actEn := bit v 16, svc.drain := fld v 0 16 }) s
      else s
    | _ => s

/-- BLOCK_LOCK: a write of a block's lock register. -/
def blockLockDo (block : BitVec 4) (value : BitVec 32) (s : State) : State := writeReg (0x10000 * block.toNat + 4) value s

/-- REGISTER_WRITE: an aligned write, low word first; another one is an Unsupported Request (R16). -/
def registerWriteDo (offset : BitVec 24) (wide : Bool) (value : BitVec 64) (s : State) : State :=
  if offset.toNat % (if wide then 8 else 4) ≠ 0 then emit .unsupported s
  else
    let s := writeReg offset.toNat (fld value 0 32) s
    if wide then writeReg (offset.toNat + 4) (fld value 32 32) s else s

/-! ## The meanings of the commands -/

/-- BLOCK_LOCK (R34). -/
def execBlockLock (block : BitVec 4) (value : BitVec 32) (s : State) : Host.Outcome State Fault Refusal := .next (atBar (blockLockDo block value) s)
/-- BAR_ACCESS_UNSUPPORTED (R16). -/
def execBarAccessUnsupported (bar : BitVec 3) (offset : Nat) (size : Nat) (s : State) : Host.Outcome State Fault Refusal := .next (barAccessUnsupportedDo bar offset size s)
/-- REGISTER_WRITE (R11). -/
def execRegisterWrite (offset : BitVec 24) (wide : Bool) (value : BitVec 64) (s : State) : Host.Outcome State Fault Refusal := .next (atBar (registerWriteDo offset wide value) s)
/-- RC_REGISTER_READ (R13). -/
def execRcRegisterRead (offset : BitVec 24) (s : State) : Host.Outcome State Fault Refusal := .next (atBar (rcRegisterReadDo offset) s)
/-- COUNTER_LOW_READ (R10). -/
def execCounterLowRead (offset : BitVec 24) (wide : Bool) (s : State) : Host.Outcome State Fault Refusal := .next (atBar (counterLowReadDo offset wide) s)

end Sys2Proof.Machine
end

