-- ==== Sys2Proof/Machine/Stitch.lean ====
section
/-! DEFINITION. The scalar instructions of a Needle (11_stitch_isa.md, R281, R282, R285, R286, R290, R291). -/
namespace Sys2Proof.Machine

/-! ## Forms -/

/-- An integer instruction of format A. -/
def intOp (k rd rs1 rs2 : BitVec 5) (f : BitVec 64 → BitVec 64 → BitVec 64) (s : State) : State :=
  stitch k (fun n => go (n.px rd (f (n.gx rs1) (n.gx rs2)))) s

/-- An immediate instruction; the immediate is already extended. -/
def immOp (k rd rs1 : BitVec 5) (imm : BitVec 64) (f : BitVec 64 → BitVec 64 → BitVec 64) (s : State) : State :=
  stitch k (fun n => go (n.px rd (f (n.gx rs1) imm))) s

/-- A shift by immediate; bits 15:8 of the immediate are not used. -/
def shiftImm (k rd rs1 : BitVec 5) (high : BitVec 8) (amount : BitVec 6) (f : BitVec 64 → BitVec 64 → BitVec 64) (s : State) : State :=
  stitch k (fun n => unused [high] (go (n.px rd (f (n.gx rs1) (amount.zeroExtend 64))))) s

/-- A load into x[rd] of `b` bytes, extended by `f`. -/
def loadOp (k rd rs1 : BitVec 5) (imm : BitVec 16) (b : Nat) (f : Nat → BitVec 64) (s : State) : State :=
  stitch k (fun n => n.loadThen rs1 imm b (fun v => n.px rd (f v))) s

/-- A store of the low `b` bytes of x[src]. -/
def storeOp (k src rs1 : BitVec 5) (imm : BitVec 16) (b : Nat) (s : State) : State :=
  stitch k (fun n => n.storeReg rs1 imm b (n.gx src)) s

/-- A floating-point instruction that writes f[rd]. -/
def fpOp (k rd rs1 rs2 : BitVec 5) (f : BitVec 3 → BitVec 64 → BitVec 64 → FRes) (s : State) : State :=
  stitch k (fun n => let r := f n.rm (n.gf rs1) (n.gf rs2); go ((n.pf rd r.val).raise r.flags)) s

/-- A comparison of f[rs1] and f[rs2] into x[rd]. -/
def fpCmp (k rd rs1 rs2 : BitVec 5) (c : FCmp) (s : State) : State :=
  stitch k (fun n => let r := fcmp c (n.gf rs1) (n.gf rs2); go ((n.px rd r.val).raise r.flags)) s

/-! ## Integer arithmetic (R281, R282) -/

def shl (a b : BitVec 64) : BitVec 64 := a <<< (b.toNat % 64)
def shr (a b : BitVec 64) : BitVec 64 := a >>> (b.toNat % 64)
def sar (a b : BitVec 64) : BitVec 64 := a.sshiftRight (b.toNat % 64)

/-- Unsigned quotient; all ones for a zero divisor. -/
def divu (a b : BitVec 64) : BitVec 64 := if b = 0 then BitVec.allOnes 64 else a / b
/-- Unsigned remainder; the dividend for a zero divisor. -/
def remu (a b : BitVec 64) : BitVec 64 := if b = 0 then a else a % b
/-- Signed quotient, rounded toward zero. -/
def divs (a b : BitVec 64) : BitVec 64 := if b = 0 then BitVec.allOnes 64 else BitVec.ofInt 64 (a.toInt.tdiv b.toInt)
/-- Signed remainder. -/
def rems (a b : BitVec 64) : BitVec 64 := if b = 0 then a else BitVec.ofInt 64 (a.toInt.tmod b.toInt)

def addDo (k rd rs1 rs2 : BitVec 5) (s : State) : State := intOp k rd rs1 rs2 (· + ·) s
def subDo (k rd rs1 rs2 : BitVec 5) (s : State) : State := intOp k rd rs1 rs2 (· - ·) s
def andDo (k rd rs1 rs2 : BitVec 5) (s : State) : State := intOp k rd rs1 rs2 (· &&& ·) s
def orDo (k rd rs1 rs2 : BitVec 5) (s : State) : State := intOp k rd rs1 rs2 (· ||| ·) s
def xorDo (k rd rs1 rs2 : BitVec 5) (s : State) : State := intOp k rd rs1 rs2 (· ^^^ ·) s
def sllDo (k rd rs1 rs2 : BitVec 5) (s : State) : State := intOp k rd rs1 rs2 shl s
def srlDo (k rd rs1 rs2 : BitVec 5) (s : State) : State := intOp k rd rs1 rs2 shr s
def sraDo (k rd rs1 rs2 : BitVec 5) (s : State) : State := intOp k rd rs1 rs2 sar s
def sltDo (k rd rs1 rs2 : BitVec 5) (s : State) : State := intOp k rd rs1 rs2 (fun a b => if a.toInt < b.toInt then 1 else 0) s
def sltuDo (k rd rs1 rs2 : BitVec 5) (s : State) : State := intOp k rd rs1 rs2 (fun a b => if a.toNat < b.toNat then 1 else 0) s
def mulDo (k rd rs1 rs2 : BitVec 5) (s : State) : State := intOp k rd rs1 rs2 (· * ·) s
def mulhDo (k rd rs1 rs2 : BitVec 5) (s : State) : State := intOp k rd rs1 rs2 (fun a b => BitVec.ofInt 64 (a.toInt * b.toInt / 2 ^ 64)) s
def mulhuDo (k rd rs1 rs2 : BitVec 5) (s : State) : State := intOp k rd rs1 rs2 (fun a b => BitVec.ofNat 64 (a.toNat * b.toNat / 2 ^ 64)) s
def divsDo (k rd rs1 rs2 : BitVec 5) (s : State) : State := intOp k rd rs1 rs2 divs s
def divuDo (k rd rs1 rs2 : BitVec 5) (s : State) : State := intOp k rd rs1 rs2 divu s
def remsDo (k rd rs1 rs2 : BitVec 5) (s : State) : State := intOp k rd rs1 rs2 rems s
def remuDo (k rd rs1 rs2 : BitVec 5) (s : State) : State := intOp k rd rs1 rs2 remu s
def movnzDo (k rd rs1 rs2 : BitVec 5) (s : State) : State :=
  stitch k (fun n => go (if n.gx rs2 = 0 then n else n.px rd (n.gx rs1))) s

def addiDo (k rd rs1 : BitVec 5) (imm : BitVec 16) (s : State) : State := immOp k rd rs1 (imm.signExtend 64) (· + ·) s
def andiDo (k rd rs1 : BitVec 5) (imm : BitVec 16) (s : State) : State := immOp k rd rs1 (imm.zeroExtend 64) (· &&& ·) s
def oriDo (k rd rs1 : BitVec 5) (imm : BitVec 16) (s : State) : State := immOp k rd rs1 (imm.zeroExtend 64) (· ||| ·) s
def xoriDo (k rd rs1 : BitVec 5) (imm : BitVec 16) (s : State) : State := immOp k rd rs1 (imm.zeroExtend 64) (· ^^^ ·) s
def slliDo (k rd rs1 : BitVec 5) (high : BitVec 8) (amount : BitVec 6) (s : State) : State := shiftImm k rd rs1 high amount shl s
def srliDo (k rd rs1 : BitVec 5) (high : BitVec 8) (amount : BitVec 6) (s : State) : State := shiftImm k rd rs1 high amount shr s
def sraiDo (k rd rs1 : BitVec 5) (high : BitVec 8) (amount : BitVec 6) (s : State) : State := shiftImm k rd rs1 high amount sar s
def luiDo (k rd rs1 : BitVec 5) (imm : BitVec 16) (s : State) : State :=
  stitch k (fun n => unused [rs1] (go (n.px rd (imm.signExtend 64 <<< 16)))) s

/-! ## Loads and stores (R278, R279, R281) -/

def ld8uDo (k rd rs1 : BitVec 5) (imm : BitVec 16) (s : State) : State := loadOp k rd rs1 imm 1 (BitVec.ofNat 64) s
def ld16uDo (k rd rs1 : BitVec 5) (imm : BitVec 16) (s : State) : State := loadOp k rd rs1 imm 2 (BitVec.ofNat 64) s
def ld32uDo (k rd rs1 : BitVec 5) (imm : BitVec 16) (s : State) : State := loadOp k rd rs1 imm 4 (BitVec.ofNat 64) s
def ld64Do (k rd rs1 : BitVec 5) (imm : BitVec 16) (s : State) : State := loadOp k rd rs1 imm 8 (BitVec.ofNat 64) s
def ld8sDo (k rd rs1 : BitVec 5) (imm : BitVec 16) (s : State) : State := loadOp k rd rs1 imm 1 (fun v => (BitVec.ofNat 8 v).signExtend 64) s
def ld16sDo (k rd rs1 : BitVec 5) (imm : BitVec 16) (s : State) : State := loadOp k rd rs1 imm 2 (fun v => (BitVec.ofNat 16 v).signExtend 64) s
def ld32sDo (k rd rs1 : BitVec 5) (imm : BitVec 16) (s : State) : State := loadOp k rd rs1 imm 4 (fun v => (BitVec.ofNat 32 v).signExtend 64) s
def st8Do (k src rs1 : BitVec 5) (imm : BitVec 16) (s : State) : State := storeOp k src rs1 imm 1 s
def st16Do (k src rs1 : BitVec 5) (imm : BitVec 16) (s : State) : State := storeOp k src rs1 imm 2 s
def st32Do (k src rs1 : BitVec 5) (imm : BitVec 16) (s : State) : State := storeOp k src rs1 imm 4 s
def st64Do (k src rs1 : BitVec 5) (imm : BitVec 16) (s : State) : State := storeOp k src rs1 imm 8 s
def fldDo (k rd rs1 : BitVec 5) (imm : BitVec 16) (s : State) : State :=
  stitch k (fun n => n.loadThen rs1 imm 8 (fun v => n.pf rd (BitVec.ofNat 64 v))) s
def fstDo (k src rs1 : BitVec 5) (imm : BitVec 16) (s : State) : State :=
  stitch k (fun n => n.storeReg rs1 imm 8 (n.gf src)) s

/-! ## Branches and calls (R285, R286) -/

/-- Whether a branch condition holds; none for 7 to 15. -/
def condHolds (cond : BitVec 4) (a b : BitVec 64) : Option Bool :=
  match cond with
  | 0 => some (a == b)
  | 1 => some (a != b)
  | 2 => some (decide (a.toInt < b.toInt))
  | 3 => some (decide (b.toInt ≤ a.toInt))
  | 4 => some (decide (a.toNat < b.toNat))
  | 5 => some (decide (b.toNat ≤ a.toNat))
  | 6 => some true
  | _ => none

/-- Where a word offset leads from the instruction itself (R280). -/
def Needle.rel {w : Nat} (n : Needle) (off : BitVec w) : BitVec 64 := n.pc + off.signExtend 64 <<< 2

def cbrDo (k : BitVec 5) (cond : BitVec 4) (rs1 rs2 : BitVec 5) (off : BitVec 12) (s : State) : State :=
  stitch k (fun n => match condHolds cond (n.gx rs1) (n.gx rs2) with
    | none => .error .illegal
    | some b => if cond = 6 ∧ (rs1 ≠ 0 ∨ rs2 ≠ 0) then .error .illegal else if b then n.jump (n.rel off) else go n) s

def jrDo (k rs1 : BitVec 5) (mask : BitVec 16) (s : State) : State := stitch k (fun n => unused [mask] (n.jump (n.gx rs1))) s
def callrDo (k rs1 : BitVec 5) (mask : BitVec 16) (s : State) : State := stitch k (fun n => n.call (n.gx rs1) mask) s
def retDo (k rs1 : BitVec 5) (mask : BitVec 16) (s : State) : State := stitch k (fun n => unused [mask] (unused [rs1] n.ret)) s
def callDo (k : BitVec 5) (mask : BitVec 16) (off : BitVec 14) (s : State) : State := stitch k (fun n => n.call (n.rel off) mask) s

/-! ## Floating point (R281, R290, R291) -/

def faddDo (k rd rs1 rs2 : BitVec 5) (s : State) : State := fpOp k rd rs1 rs2 fadd s
def fsubDo (k rd rs1 rs2 : BitVec 5) (s : State) : State := fpOp k rd rs1 rs2 fsub s
def fmulDo (k rd rs1 rs2 : BitVec 5) (s : State) : State := fpOp k rd rs1 rs2 fmul s
def fdivDo (k rd rs1 rs2 : BitVec 5) (s : State) : State := fpOp k rd rs1 rs2 fdiv s
def fsqrtDo (k rd rs1 rs2 : BitVec 5) (s : State) : State :=
  stitch k (fun n => let r := fsqrt n.rm (n.gf rs1); unused [rs2] (go ((n.pf rd r.val).raise r.flags))) s
def fmaDo (k rd rs1 rs2 : BitVec 5) (s : State) : State :=
  stitch k (fun n => let r := fma n.rm (n.gf rs1) (n.gf rs2) (n.gf rd); go ((n.pf rd r.val).raise r.flags)) s
def fminDo (k rd rs1 rs2 : BitVec 5) (s : State) : State := fpOp k rd rs1 rs2 (fun _ => fminmax false) s
def fmaxDo (k rd rs1 rs2 : BitVec 5) (s : State) : State := fpOp k rd rs1 rs2 (fun _ => fminmax true) s
def fcmpEqDo (k rd rs1 rs2 : BitVec 5) (s : State) : State := fpCmp k rd rs1 rs2 .eq s
def fcmpLtDo (k rd rs1 rs2 : BitVec 5) (s : State) : State := fpCmp k rd rs1 rs2 .lt s
def fcmpLeDo (k rd rs1 rs2 : BitVec 5) (s : State) : State := fpCmp k rd rs1 rs2 .le s
def fcvtDLDo (k rd rs1 rs2 : BitVec 5) (s : State) : State :=
  stitch k (fun n => let r := fcvtDL n.rm (n.gx rs1); unused [rs2] (go ((n.pf rd r.val).raise r.flags))) s
def fcvtLDDo (k rd rs1 rs2 : BitVec 5) (s : State) : State :=
  stitch k (fun n => let r := fcvtLD n.rm (n.gf rs1); unused [rs2] (go ((n.px rd r.val).raise r.flags))) s
def fmvXDDo (k rd rs1 rs2 : BitVec 5) (s : State) : State := stitch k (fun n => unused [rs2] (go (n.px rd (n.gf rs1)))) s
def fmvDXDo (k rd rs1 rs2 : BitVec 5) (s : State) : State := stitch k (fun n => unused [rs2] (go (n.pf rd (n.gx rs1)))) s

/-- FCSR: RM in bits 7:5, the sticky flags below, zero above. -/
def Needle.fcsr (n : Needle) : BitVec 64 := BitVec.ofNat 64 (n.rm.toNat * 32 + n.fflags.toNat)

def fcsrRDo (k rd rs1 rs2 : BitVec 5) (s : State) : State := stitch k (fun n => unused [rs1, rs2] (go (n.px rd n.fcsr))) s
def fcsrWDo (k rd rs1 rs2 : BitVec 5) (s : State) : State :=
  stitch k (fun n =>
    let v := n.gx rs1
    unused [rd, rs2] (go { n with rm := if (fld v 5 3).toNat < 4 then fld v 5 3 else n.rm, fflags := fld v 0 5 })) s

/-! ## The meanings of the commands -/

/-- ADD (R282). -/
def execAdd (needle : BitVec 5) (rd : BitVec 5) (rs1 : BitVec 5) (rs2 : BitVec 5) (s : State) : Host.Outcome State Fault Refusal := .next (addDo needle rd rs1 rs2 s)
/-- SUB (R282). -/
def execSub (needle : BitVec 5) (rd : BitVec 5) (rs1 : BitVec 5) (rs2 : BitVec 5) (s : State) : Host.Outcome State Fault Refusal := .next (subDo needle rd rs1 rs2 s)
/-- AND (R282). -/
def execAnd (needle : BitVec 5) (rd : BitVec 5) (rs1 : BitVec 5) (rs2 : BitVec 5) (s : State) : Host.Outcome State Fault Refusal := .next (andDo needle rd rs1 rs2 s)
/-- OR (R282). -/
def execOr (needle : BitVec 5) (rd : BitVec 5) (rs1 : BitVec 5) (rs2 : BitVec 5) (s : State) : Host.Outcome State Fault Refusal := .next (orDo needle rd rs1 rs2 s)
/-- XOR (R282). -/
def execXor (needle : BitVec 5) (rd : BitVec 5) (rs1 : BitVec 5) (rs2 : BitVec 5) (s : State) : Host.Outcome State Fault Refusal := .next (xorDo needle rd rs1 rs2 s)
/-- SLL (R282). -/
def execSll (needle : BitVec 5) (rd : BitVec 5) (rs1 : BitVec 5) (rs2 : BitVec 5) (s : State) : Host.Outcome State Fault Refusal := .next (sllDo needle rd rs1 rs2 s)
/-- SRL (R282). -/
def execSrl (needle : BitVec 5) (rd : BitVec 5) (rs1 : BitVec 5) (rs2 : BitVec 5) (s : State) : Host.Outcome State Fault Refusal := .next (srlDo needle rd rs1 rs2 s)
/-- SRA (R282). -/
def execSra (needle : BitVec 5) (rd : BitVec 5) (rs1 : BitVec 5) (rs2 : BitVec 5) (s : State) : Host.Outcome State Fault Refusal := .next (sraDo needle rd rs1 rs2 s)
/-- SLT (R281). -/
def execSlt (needle : BitVec 5) (rd : BitVec 5) (rs1 : BitVec 5) (rs2 : BitVec 5) (s : State) : Host.Outcome State Fault Refusal := .next (sltDo needle rd rs1 rs2 s)
/-- SLTU (R281). -/
def execSltu (needle : BitVec 5) (rd : BitVec 5) (rs1 : BitVec 5) (rs2 : BitVec 5) (s : State) : Host.Outcome State Fault Refusal := .next (sltuDo needle rd rs1 rs2 s)
/-- MUL (R282). -/
def execMul (needle : BitVec 5) (rd : BitVec 5) (rs1 : BitVec 5) (rs2 : BitVec 5) (s : State) : Host.Outcome State Fault Refusal := .next (mulDo needle rd rs1 rs2 s)
/-- MULH (R281). -/
def execMulh (needle : BitVec 5) (rd : BitVec 5) (rs1 : BitVec 5) (rs2 : BitVec 5) (s : State) : Host.Outcome State Fault Refusal := .next (mulhDo needle rd rs1 rs2 s)
/-- MULHU (R281). -/
def execMulhu (needle : BitVec 5) (rd : BitVec 5) (rs1 : BitVec 5) (rs2 : BitVec 5) (s : State) : Host.Outcome State Fault Refusal := .next (mulhuDo needle rd rs1 rs2 s)
/-- DIVS (R282). -/
def execDivs (needle : BitVec 5) (rd : BitVec 5) (rs1 : BitVec 5) (rs2 : BitVec 5) (s : State) : Host.Outcome State Fault Refusal := .next (divsDo needle rd rs1 rs2 s)
/-- DIVU (R282). -/
def execDivu (needle : BitVec 5) (rd : BitVec 5) (rs1 : BitVec 5) (rs2 : BitVec 5) (s : State) : Host.Outcome State Fault Refusal := .next (divuDo needle rd rs1 rs2 s)
/-- REMS (R282). -/
def execRems (needle : BitVec 5) (rd : BitVec 5) (rs1 : BitVec 5) (rs2 : BitVec 5) (s : State) : Host.Outcome State Fault Refusal := .next (remsDo needle rd rs1 rs2 s)
/-- REMU (R282). -/
def execRemu (needle : BitVec 5) (rd : BitVec 5) (rs1 : BitVec 5) (rs2 : BitVec 5) (s : State) : Host.Outcome State Fault Refusal := .next (remuDo needle rd rs1 rs2 s)
/-- MOVNZ (R282). -/
def execMovnz (needle : BitVec 5) (rd : BitVec 5) (rs1 : BitVec 5) (rs2 : BitVec 5) (s : State) : Host.Outcome State Fault Refusal := .next (movnzDo needle rd rs1 rs2 s)
/-- ADDI (R281). -/
def execAddi (needle : BitVec 5) (rd : BitVec 5) (rs1 : BitVec 5) (imm : BitVec 16) (s : State) : Host.Outcome State Fault Refusal := .next (addiDo needle rd rs1 imm s)
/-- ANDI (R281). -/
def execAndi (needle : BitVec 5) (rd : BitVec 5) (rs1 : BitVec 5) (imm : BitVec 16) (s : State) : Host.Outcome State Fault Refusal := .next (andiDo needle rd rs1 imm s)
/-- ORI (R281). -/
def execOri (needle : BitVec 5) (rd : BitVec 5) (rs1 : BitVec 5) (imm : BitVec 16) (s : State) : Host.Outcome State Fault Refusal := .next (oriDo needle rd rs1 imm s)
/-- XORI (R281). -/
def execXori (needle : BitVec 5) (rd : BitVec 5) (rs1 : BitVec 5) (imm : BitVec 16) (s : State) : Host.Outcome State Fault Refusal := .next (xoriDo needle rd rs1 imm s)
/-- SLLI (R281). -/
def execSlli (needle : BitVec 5) (rd : BitVec 5) (rs1 : BitVec 5) (high : BitVec 8) (amount : BitVec 6) (s : State) : Host.Outcome State Fault Refusal := .next (slliDo needle rd rs1 high amount s)
/-- SRLI (R281). -/
def execSrli (needle : BitVec 5) (rd : BitVec 5) (rs1 : BitVec 5) (high : BitVec 8) (amount : BitVec 6) (s : State) : Host.Outcome State Fault Refusal := .next (srliDo needle rd rs1 high amount s)
/-- SRAI (R281). -/
def execSrai (needle : BitVec 5) (rd : BitVec 5) (rs1 : BitVec 5) (high : BitVec 8) (amount : BitVec 6) (s : State) : Host.Outcome State Fault Refusal := .next (sraiDo needle rd rs1 high amount s)
/-- LUI (R281). -/
def execLui (needle : BitVec 5) (rd : BitVec 5) (rs1 : BitVec 5) (imm : BitVec 16) (s : State) : Host.Outcome State Fault Refusal := .next (luiDo needle rd rs1 imm s)
/-- LD8U (R281). -/
def execLd8u (needle : BitVec 5) (rd : BitVec 5) (rs1 : BitVec 5) (imm : BitVec 16) (s : State) : Host.Outcome State Fault Refusal := .next (ld8uDo needle rd rs1 imm s)
/-- LD16U (R281). -/
def execLd16u (needle : BitVec 5) (rd : BitVec 5) (rs1 : BitVec 5) (imm : BitVec 16) (s : State) : Host.Outcome State Fault Refusal := .next (ld16uDo needle rd rs1 imm s)
/-- LD32U (R281). -/
def execLd32u (needle : BitVec 5) (rd : BitVec 5) (rs1 : BitVec 5) (imm : BitVec 16) (s : State) : Host.Outcome State Fault Refusal := .next (ld32uDo needle rd rs1 imm s)
/-- LD64 (R281). -/
def execLd64 (needle : BitVec 5) (rd : BitVec 5) (rs1 : BitVec 5) (imm : BitVec 16) (s : State) : Host.Outcome State Fault Refusal := .next (ld64Do needle rd rs1 imm s)
/-- LD8S (R281). -/
def execLd8s (needle : BitVec 5) (rd : BitVec 5) (rs1 : BitVec 5) (imm : BitVec 16) (s : State) : Host.Outcome State Fault Refusal := .next (ld8sDo needle rd rs1 imm s)
/-- LD16S (R281). -/
def execLd16s (needle : BitVec 5) (rd : BitVec 5) (rs1 : BitVec 5) (imm : BitVec 16) (s : State) : Host.Outcome State Fault Refusal := .next (ld16sDo needle rd rs1 imm s)
/-- LD32S (R281). -/
def execLd32s (needle : BitVec 5) (rd : BitVec 5) (rs1 : BitVec 5) (imm : BitVec 16) (s : State) : Host.Outcome State Fault Refusal := .next (ld32sDo needle rd rs1 imm s)
/-- ST8 (R281). -/
def execSt8 (needle : BitVec 5) (src : BitVec 5) (rs1 : BitVec 5) (imm : BitVec 16) (s : State) : Host.Outcome State Fault Refusal := .next (st8Do needle src rs1 imm s)
/-- ST16 (R281). -/
def execSt16 (needle : BitVec 5) (src : BitVec 5) (rs1 : BitVec 5) (imm : BitVec 16) (s : State) : Host.Outcome State Fault Refusal := .next (st16Do needle src rs1 imm s)
/-- ST32 (R281). -/
def execSt32 (needle : BitVec 5) (src : BitVec 5) (rs1 : BitVec 5) (imm : BitVec 16) (s : State) : Host.Outcome State Fault Refusal := .next (st32Do needle src rs1 imm s)
/-- ST64 (R281). -/
def execSt64 (needle : BitVec 5) (src : BitVec 5) (rs1 : BitVec 5) (imm : BitVec 16) (s : State) : Host.Outcome State Fault Refusal := .next (st64Do needle src rs1 imm s)
/-- FLD (R281). -/
def execFld (needle : BitVec 5) (rd : BitVec 5) (rs1 : BitVec 5) (imm : BitVec 16) (s : State) : Host.Outcome State Fault Refusal := .next (fldDo needle rd rs1 imm s)
/-- FST (R281). -/
def execFst (needle : BitVec 5) (src : BitVec 5) (rs1 : BitVec 5) (imm : BitVec 16) (s : State) : Host.Outcome State Fault Refusal := .next (fstDo needle src rs1 imm s)
/-- CBR (R285). -/
def execCbr (needle : BitVec 5) (cond : BitVec 4) (rs1 : BitVec 5) (rs2 : BitVec 5) (off : BitVec 12) (s : State) : Host.Outcome State Fault Refusal := .next (cbrDo needle cond rs1 rs2 off s)
/-- JR (R280). -/
def execJr (needle : BitVec 5) (rs1 : BitVec 5) (mask : BitVec 16) (s : State) : Host.Outcome State Fault Refusal := .next (jrDo needle rs1 mask s)
/-- CALLR (R286). -/
def execCallr (needle : BitVec 5) (rs1 : BitVec 5) (mask : BitVec 16) (s : State) : Host.Outcome State Fault Refusal := .next (callrDo needle rs1 mask s)
/-- RET (R286). -/
def execRet (needle : BitVec 5) (rs1 : BitVec 5) (mask : BitVec 16) (s : State) : Host.Outcome State Fault Refusal := .next (retDo needle rs1 mask s)
/-- CALL (R286). -/
def execCall (needle : BitVec 5) (mask : BitVec 16) (off : BitVec 14) (s : State) : Host.Outcome State Fault Refusal := .next (callDo needle mask off s)
/-- FADD (R290). -/
def execFadd (needle : BitVec 5) (rd : BitVec 5) (rs1 : BitVec 5) (rs2 : BitVec 5) (s : State) : Host.Outcome State Fault Refusal := .next (faddDo needle rd rs1 rs2 s)
/-- FSUB (R290). -/
def execFsub (needle : BitVec 5) (rd : BitVec 5) (rs1 : BitVec 5) (rs2 : BitVec 5) (s : State) : Host.Outcome State Fault Refusal := .next (fsubDo needle rd rs1 rs2 s)
/-- FMUL (R290). -/
def execFmul (needle : BitVec 5) (rd : BitVec 5) (rs1 : BitVec 5) (rs2 : BitVec 5) (s : State) : Host.Outcome State Fault Refusal := .next (fmulDo needle rd rs1 rs2 s)
/-- FDIV (R290). -/
def execFdiv (needle : BitVec 5) (rd : BitVec 5) (rs1 : BitVec 5) (rs2 : BitVec 5) (s : State) : Host.Outcome State Fault Refusal := .next (fdivDo needle rd rs1 rs2 s)
/-- FSQRT (R290). -/
def execFsqrt (needle : BitVec 5) (rd : BitVec 5) (rs1 : BitVec 5) (rs2 : BitVec 5) (s : State) : Host.Outcome State Fault Refusal := .next (fsqrtDo needle rd rs1 rs2 s)
/-- FMA (R281). -/
def execFma (needle : BitVec 5) (rd : BitVec 5) (rs1 : BitVec 5) (rs2 : BitVec 5) (s : State) : Host.Outcome State Fault Refusal := .next (fmaDo needle rd rs1 rs2 s)
/-- FMIN (R290). -/
def execFmin (needle : BitVec 5) (rd : BitVec 5) (rs1 : BitVec 5) (rs2 : BitVec 5) (s : State) : Host.Outcome State Fault Refusal := .next (fminDo needle rd rs1 rs2 s)
/-- FMAX (R290). -/
def execFmax (needle : BitVec 5) (rd : BitVec 5) (rs1 : BitVec 5) (rs2 : BitVec 5) (s : State) : Host.Outcome State Fault Refusal := .next (fmaxDo needle rd rs1 rs2 s)
/-- FCMP_EQ (R290). -/
def execFcmpEq (needle : BitVec 5) (rd : BitVec 5) (rs1 : BitVec 5) (rs2 : BitVec 5) (s : State) : Host.Outcome State Fault Refusal := .next (fcmpEqDo needle rd rs1 rs2 s)
/-- FCMP_LT (R290). -/
def execFcmpLt (needle : BitVec 5) (rd : BitVec 5) (rs1 : BitVec 5) (rs2 : BitVec 5) (s : State) : Host.Outcome State Fault Refusal := .next (fcmpLtDo needle rd rs1 rs2 s)
/-- FCMP_LE (R290). -/
def execFcmpLe (needle : BitVec 5) (rd : BitVec 5) (rs1 : BitVec 5) (rs2 : BitVec 5) (s : State) : Host.Outcome State Fault Refusal := .next (fcmpLeDo needle rd rs1 rs2 s)
/-- FCVT_D_L (R290). -/
def execFcvtDL (needle : BitVec 5) (rd : BitVec 5) (rs1 : BitVec 5) (rs2 : BitVec 5) (s : State) : Host.Outcome State Fault Refusal := .next (fcvtDLDo needle rd rs1 rs2 s)
/-- FCVT_L_D (R290). -/
def execFcvtLD (needle : BitVec 5) (rd : BitVec 5) (rs1 : BitVec 5) (rs2 : BitVec 5) (s : State) : Host.Outcome State Fault Refusal := .next (fcvtLDDo needle rd rs1 rs2 s)
/-- FMV_X_D (R290). -/
def execFmvXD (needle : BitVec 5) (rd : BitVec 5) (rs1 : BitVec 5) (rs2 : BitVec 5) (s : State) : Host.Outcome State Fault Refusal := .next (fmvXDDo needle rd rs1 rs2 s)
/-- FMV_D_X (R290). -/
def execFmvDX (needle : BitVec 5) (rd : BitVec 5) (rs1 : BitVec 5) (rs2 : BitVec 5) (s : State) : Host.Outcome State Fault Refusal := .next (fmvDXDo needle rd rs1 rs2 s)
/-- FCSR_R (R291). -/
def execFcsrR (needle : BitVec 5) (rd : BitVec 5) (rs1 : BitVec 5) (rs2 : BitVec 5) (s : State) : Host.Outcome State Fault Refusal := .next (fcsrRDo needle rd rs1 rs2 s)
/-- FCSR_W (R291). -/
def execFcsrW (needle : BitVec 5) (rd : BitVec 5) (rs1 : BitVec 5) (rs2 : BitVec 5) (s : State) : Host.Outcome State Fault Refusal := .next (fcsrWDo needle rd rs1 rs2 s)

end Sys2Proof.Machine
end

