-- ==== Sys2Proof/Machine/Task.lean ====
section
/-! DEFINITION. The task instructions of a Needle (11_stitch_isa.md, R300, R301; 14_random.md, R373). -/
namespace Sys2Proof.Machine

/-- Status codes that R117 lists. -/
def knownStatus : List Nat := [
  stSuccess, stNotEqual, stSignatureInvalid, stAuthFailed, stLengthMismatch, stBadOpcode, stBadChain, stBadCq, stBadDescriptor,
  stBadFlags, stBadParameter, stKeyNotFound, stKeyPolicyDenied, stKeyStaleGeneration, stKeyOutsideValidity, stKeyLimitReached,
  stKeyAlgorithmMismatch, stKeyStateExhausted, stQuorumRequired, stInvalidScalar, stNoncanonicalInput, stPointInvalid,
  stMsgOutOfRange, stInputKeyInvalid, stCurveInvalid, stInputMalformed, stOutputTooLarge, stSessionUnavailable, stKeyTableFull,
  stPersistentStoreFull, stSliceQuotaExceeded, stConfigInfeasible, stAborted, stEngineFault, stDmaFault, stTagReused,
  stMigratedResubmit, stSliceNotPermitted, stRngNotReady, stRngFailed, stRngUnavailable, stTimeUntraceable, stHoldover,
  stCardRemovedBusy, stCardWriteProtected, stCardAbsent, stCardTimeout]

/-- Declared length of an input argument: what its buffers hold. -/
def Job.inputLength (j : Job) (arg : Nat) : Nat := (j.input arg).length

/-- Maximum length of an output argument. -/
def State.outputMax (s : State) (j : Job) (arg : Nat) : Nat :=
  (((opReq s j).getD {}).outs.find? (fun o => o.1 == arg)).elim 0 (·.2)

/-- The local range leaves local memory. -/
def leavesLocal (a len : BitVec 64) : Bool := decide (0x40000 < a.toNat + len.toNat)

/-- FXIN. -/
def fxinDo (k rd rs1 rs2 : BitVec 5) (arg : BitVec 4) (s : State) : State :=
  onNeedle k (fun j n s => settle k.toNat j s (
    if j.inputLength arg.toNat < (n.gx rs1).toNat + (n.gx rs2).toNat ∨ leavesLocal (n.gx rd) (n.gx rs2) then .error .access
    else go (n.storeBytes (n.gx rd).toNat (((j.input arg.toNat).drop (n.gx rs1).toNat).take (n.gx rs2).toNat)))) s

/-- Staging with bytes put at an offset; what no FXOUT has written below it is `gap`. -/
def stageAt (old : Bytes) (off : Nat) (new gap : Bytes) : Bytes :=
  if new = [] then old
  else (old ++ (gap.take (off - old.length))).take off ++ new ++ old.drop (off + new.length)

/-- FXOUT. The bytes of a gap are free (log 43). -/
def fxoutDo (k rd rs1 rs2 : BitVec 5) (arg : BitVec 4) (s : State) : State :=
  onNeedle k (fun j n s =>
    if s.outputMax j arg.toNat < (n.gx rs1).toNat + (n.gx rs2).toNat ∨ leavesLocal (n.gx rd) (n.gx rs2) then needleTrap k.toNat j s
    else
      let new := n.bytes (n.gx rd).toNat (n.gx rs2).toNat
      let staged := stageAt (tget n.fxout [] arg.toNat) (n.gx rs1).toNat new (freeBytes s (n.gx rs1).toNat)
      fresh (settle k.toNat j s (go { n with fxout := tput n.fxout [] arg.toNat staged }))) s

/-- The two shares of a key, drawn once per task (R300): a free mask, and the material under it. -/
def drawShares (s : State) (material : Bytes) : Bytes × Bytes :=
  let mask := freeBytes s (min material.length 2048)
  (mask, xorBytes mask (material.take 2048))

/-- KRECV. Where the job has no key, nothing is delivered and the length is a free value (log 43). -/
def krecvDo (k rd rs1 rs2 : BitVec 5) (arg : BitVec 4) (s : State) : State :=
  onNeedle k (fun j n s =>
    if rs1 ≠ 0 ∨ rs2 ≠ 0 ∨ arg ≠ 0 then needleTrap k.toNat j s
    else match j.bound with
      | [] => fresh (settle k.toNat j s (go (n.px rd (BitVec.ofNat 64 (Config.freeNat s.freeCtr)))))
      | b :: _ =>
        let sh := n.shares.getD (drawShares s b.material)
        fresh (settle k.toNat j s (go { n.px rd (BitVec.ofNat 64 sh.1.length) with
          shares := some sh, window := cellsOf 0 (fit 2048 sh.1) ++ cellsOf 2048 (fit 2048 sh.2) }))) s

/-- RAND: waits while the Needle's generator is stalled (R300, R373). -/
def randDo (k rd rs1 rs2 : BitVec 5) (arg : BitVec 4) (s : State) : State :=
  onNeedle k (fun j n s =>
    if rs1 ≠ 0 ∨ rs2 ≠ 0 ∨ arg ≠ 0 then needleTrap k.toNat j s
    else if s.stalled (engNeedle k.toNat) then s
    else
      let t := s.modGen (68 + k.toNat) (fun g => { g with draws := g.draws + 1 })
      fresh (settle k.toNat j t (go (n.px rd (BitVec.ofNat 64 (Config.freeNat s.freeCtr)))))) s

/-- END: with SUCCESS the staged outputs are committed for release; a status that R117 does not list gives ENGINE_FAULT; the
Needle is wiped (R301). -/
def endTaskDo (k rd rs1 rs2 : BitVec 5) (arg : BitVec 4) (s : State) : State :=
  onNeedle k (fun j n s =>
    if rd ≠ 0 ∨ rs2 ≠ 0 ∨ arg ≠ 0 then needleTrap k.toNat j s
    else
      let st := (n.gx rs1).toNat % 65536
      let s := s.modNeedle k.toNat (fun _ => {})
      decideJob j.id (if knownStatus.contains st then st else stEngineFault) n.fxout s) s

/-! ## The meanings of the commands -/

/-- FXIN (R300). -/
def execFxin (needle : BitVec 5) (rd : BitVec 5) (rs1 : BitVec 5) (rs2 : BitVec 5) (arg : BitVec 4) (s : State) : Host.Outcome State Fault Refusal := .next (fxinDo needle rd rs1 rs2 arg s)
/-- FXOUT (R300). -/
def execFxout (needle : BitVec 5) (rd : BitVec 5) (rs1 : BitVec 5) (rs2 : BitVec 5) (arg : BitVec 4) (s : State) : Host.Outcome State Fault Refusal := .next (fxoutDo needle rd rs1 rs2 arg s)
/-- KRECV (R300). -/
def execKrecv (needle : BitVec 5) (rd : BitVec 5) (rs1 : BitVec 5) (rs2 : BitVec 5) (arg : BitVec 4) (s : State) : Host.Outcome State Fault Refusal := .next (krecvDo needle rd rs1 rs2 arg s)
/-- RAND (R300). -/
def execRand (needle : BitVec 5) (rd : BitVec 5) (rs1 : BitVec 5) (rs2 : BitVec 5) (arg : BitVec 4) (s : State) : Host.Outcome State Fault Refusal := .next (randDo needle rd rs1 rs2 arg s)
/-- END (R301). -/
def execEndTask (needle : BitVec 5) (rd : BitVec 5) (rs1 : BitVec 5) (rs2 : BitVec 5) (arg : BitVec 4) (s : State) : Host.Outcome State Fault Refusal := .next (endTaskDo needle rd rs1 rs2 arg s)

end Sys2Proof.Machine
end

