-- ==== Sys2Proof/Machine/Vault.lean ====
section
/-! DEFINITION. The Key Vault's own events: use reservations, TMK rotation, share refresh, retention refresh, RINSE
(12_key_vault.md, R313, R324 to R327; 18_tamper_and_faults.md, R442). -/
namespace Sys2Proof.Machine

/-- Jobs whose every bound key lies within its reserved uses go on (R313). -/
def wakeUses (s : State) : State :=
  { s with
    jobs := mapIf (fun j => j.phase == .held .useCommit && !(j.bound.any (fun b => s.overMark b.kt b.index)))
      (fun j => { j with phase := .ready }) s.jobs }

/-- USE_RESERVATION_COMMIT: the reserved mark of a persistent key with a limit rises by a block of 1,024, through the journal
(R313, R319). -/
def useReservationCommitDo (key : BitVec 16) (s : State) : State :=
  let i := key.toNat
  let limit := aLimit (s.keyData false i).attr
  if (s.slot false i).isKey ∧ limit ≠ 0 ∧ !s.kv.rinsed then
    let b := s.slot false i
    wakeUses (commitSlot false i { b with reserved := min limit (max b.reserved (b.used - 1) + 1024) } s)
  else s

/-- TMK_ROTATION: a new TMK is asked of the DRBG; it waits for the previous sweep and for the DRBG (R324). -/
def tmkRotationDo (s : State) : State :=
  if s.kv.sweep ∨ s.kv.tmkWaiting ∨ s.kv.rinsed ∨ s.pwr.inReset then s
  else { s with kv.tmkWaiting := true, rng.queue := s.rng.queue ++ [.tmk] }

/-- TMK_SWEEP_COMPLETE (R324). -/
def tmkSweepCompleteDo (s : State) : State :=
  if s.kv.sweep then { s with kv.sweep := false, kv.tmkOld := 0, kv.rotations := satInc s.kv.rotations } else s

/-- VRK_SHARE_REFRESH: both shares take the same random value, so they join to the same key; the battery oscillator counts one
second (R325, R445). Shares that a RINSE has zeroed stay zero (R327). -/
def vrkShareRefreshDo (s : State) : State :=
  let s := { s with tmp.bsecs := s.tmp.bsecs + 1 }
  if s.kv.vrk0 = 0 ∧ s.kv.vrk1 = 0 then s
  else
    let v : BitVec 256 := BitVec.ofNat 256 (ofLE (freeBytes s 32))
    fresh { s with kv.vrk0 := s.kv.vrk0 ^^^ v, kv.vrk1 := s.kv.vrk1 ^^^ v }

/-- A record pair after the rewrite: the valid copy with the higher SEQ in both places (R214). -/
def Pair.refresh (p : Pair) : Pair :=
  if p.used && !p.unusable then p.best.elim p (fun c => { p with a := c, b := c }) else p

/-- PS_RETENTION_REFRESH: every word keeps its value; pairs agree afterwards; the age starts again (R326, R333). -/
def psRetentionRefreshDo (s : State) : State :=
  { s with kv.pairs := tmap s.kv.pairs {} (fun _ p => p.refresh), kv.refreshAt := s.evr.opTicks }

/-- RINSE_ASSERT (R327, R442). -/
def rinseAssertDo (source : BitVec 8) (detail : BitVec 8) (s : State) : State := rinse source.toNat detail.toNat s

/-- SRAM_CLEAR_COMPLETE: the completions of every accepted job are written with ABORTED (R442). -/
def sramClearCompleteDo (s : State) : State :=
  if s.tmp.rinse then (s.jobs.filter (fun j => j.phase == .wiping)).foldl (fun s j => complete j.id s) s else s

/-! ## The meanings of the commands -/

/-- USE_RESERVATION_COMMIT (R313). -/
def execUseReservationCommit (key : BitVec 16) (s : State) : Host.Outcome State Fault Refusal := .next (useReservationCommitDo key s)
/-- TMK_ROTATION (R324). -/
def execTmkRotation (s : State) : Host.Outcome State Fault Refusal := .next (tmkRotationDo s)
/-- TMK_SWEEP_COMPLETE (R324). -/
def execTmkSweepComplete (s : State) : Host.Outcome State Fault Refusal := .next (tmkSweepCompleteDo s)
/-- VRK_SHARE_REFRESH (R325). -/
def execVrkShareRefresh (s : State) : Host.Outcome State Fault Refusal := .next (vrkShareRefreshDo s)
/-- PS_RETENTION_REFRESH (R326). -/
def execPsRetentionRefresh (s : State) : Host.Outcome State Fault Refusal := .next (psRetentionRefreshDo s)
/-- RINSE_ASSERT (R327). -/
def execRinseAssert (source : BitVec 8) (detail : BitVec 8) (s : State) : Host.Outcome State Fault Refusal := .next (rinseAssertDo source detail s)
/-- SRAM_CLEAR_COMPLETE (R442). -/
def execSramClearComplete (s : State) : Host.Outcome State Fault Refusal := .next (sramClearCompleteDo s)

end Sys2Proof.Machine
end

