-- ==== Sys2Proof/Machine/Dispatch.lean ====
section
/-! DEFINITION. One arm per command: the meaning it has. -/
namespace Sys2Proof.Machine

def exec (i : Instr) (s : State) : Host.Outcome State Fault Refusal :=
  match i with
  | .porstAssert powerOn => Sys2Proof.Machine.execPorstAssert powerOn s
  | .startUp => Sys2Proof.Machine.execStartUp s
  | .brownOut fast => Sys2Proof.Machine.execBrownOut fast s
  | .mainPowerLoss => Sys2Proof.Machine.execMainPowerLoss s
  | .conventionalReset => Sys2Proof.Machine.execConventionalReset s
  | .perstDeassert => Sys2Proof.Machine.execPerstDeassert s
  | .functionLevelReset => Sys2Proof.Machine.execFunctionLevelReset s
  | .linkStateChange speed width flit dlActive => Sys2Proof.Machine.execLinkStateChange speed width flit dlActive s
  | .retrain value => Sys2Proof.Machine.execRetrain value s
  | .busMasterEnableWrite bme mse more => Sys2Proof.Machine.execBusMasterEnableWrite bme mse more s
  | .msixControlWrite enable mask => Sys2Proof.Machine.execMsixControlWrite enable mask s
  | .msixTableWrite offset wide value => Sys2Proof.Machine.execMsixTableWrite offset wide value s
  | .barAccessUnsupported bar offset size => Sys2Proof.Machine.execBarAccessUnsupported bar offset size s
  | .atsInvalidationRequest tag glob slice page count => Sys2Proof.Machine.execAtsInvalidationRequest tag glob slice page count s
  | .atsInvalidationComplete tag => Sys2Proof.Machine.execAtsInvalidationComplete tag s
  | .translationCompletion slice page granted writeOk => Sys2Proof.Machine.execTranslationCompletion slice page granted writeOk s
  | .dmaReadCompletion tag offset data err => Sys2Proof.Machine.execDmaReadCompletion tag offset data err s
  | .completionTimeout tag => Sys2Proof.Machine.execCompletionTimeout tag s
  | .doeRequest protocol data => Sys2Proof.Machine.execDoeRequest protocol data s
  | .doeAbort => Sys2Proof.Machine.execDoeAbort s
  | .spdmGetVersion => Sys2Proof.Machine.execSpdmGetVersion s
  | .spdmGetCapabilities flags => Sys2Proof.Machine.execSpdmGetCapabilities flags s
  | .spdmNegotiateAlgorithms base hash => Sys2Proof.Machine.execSpdmNegotiateAlgorithms base hash s
  | .spdmGetDigests => Sys2Proof.Machine.execSpdmGetDigests s
  | .spdmGetCertificate slot offset length => Sys2Proof.Machine.execSpdmGetCertificate slot offset length s
  | .spdmChallenge slot nonce => Sys2Proof.Machine.execSpdmChallenge slot nonce s
  | .spdmGetMeasurements index sign nonce => Sys2Proof.Machine.execSpdmGetMeasurements index sign nonce s
  | .spdmKeyExchange slot random exchange => Sys2Proof.Machine.execSpdmKeyExchange slot random exchange s
  | .spdmFinish verify => Sys2Proof.Machine.execSpdmFinish verify s
  | .spdmKeyUpdate => Sys2Proof.Machine.execSpdmKeyUpdate s
  | .spdmHeartbeat => Sys2Proof.Machine.execSpdmHeartbeat s
  | .spdmEndSession => Sys2Proof.Machine.execSpdmEndSession s
  | .ideStreamSecure stream link => Sys2Proof.Machine.execIdeStreamSecure stream link s
  | .ideIntegrityFailure stream => Sys2Proof.Machine.execIdeIntegrityFailure stream s
  | .ptmExchange master good => Sys2Proof.Machine.execPtmExchange master good s
  | .sqTailDoorbell slice queue value => Sys2Proof.Machine.execSqTailDoorbell slice queue value s
  | .cqHeadDoorbell slice queue value => Sys2Proof.Machine.execCqHeadDoorbell slice queue value s
  | .cellFetchReturn slice queue cells err => Sys2Proof.Machine.execCellFetchReturn slice queue cells err s
  | .cellRefetchTimer slice queue => Sys2Proof.Machine.execCellRefetchTimer slice queue s
  | .sqStallWatchdog slice queue => Sys2Proof.Machine.execSqStallWatchdog slice queue s
  | .jobIntake slice => Sys2Proof.Machine.execJobIntake slice s
  | .sqEnable value => Sys2Proof.Machine.execSqEnable value s
  | .sqDisable value => Sys2Proof.Machine.execSqDisable value s
  | .cqEnable value => Sys2Proof.Machine.execCqEnable value s
  | .cqDisable value => Sys2Proof.Machine.execCqDisable value s
  | .sqFaultClear value => Sys2Proof.Machine.execSqFaultClear value s
  | .cqModerationTimer slice queue => Sys2Proof.Machine.execCqModerationTimer slice queue s
  | .jobDispatch cls => Sys2Proof.Machine.execJobDispatch cls s
  | .engineComputationComplete job => Sys2Proof.Machine.execEngineComputationComplete job s
  | .safePointStop job => Sys2Proof.Machine.execSafePointStop job s
  | .engineWipeComplete job => Sys2Proof.Machine.execEngineWipeComplete job s
  | .microwordExecute mangle => Sys2Proof.Machine.execMicrowordExecute mangle s
  | .safePointWatchdog mangle => Sys2Proof.Machine.execSafePointWatchdog mangle s
  | .patchReload mangle => Sys2Proof.Machine.execPatchReload mangle s
  | .patternPatchLoad mangle => Sys2Proof.Machine.execPatternPatchLoad mangle s
  | .mangleFault mangle => Sys2Proof.Machine.execMangleFault mangle s
  | .darnerFault darner => Sys2Proof.Machine.execDarnerFault darner s
  | .engineMemoryTestDone engine passed => Sys2Proof.Machine.execEngineMemoryTestDone engine passed s
  | .correctedMemoryError engine => Sys2Proof.Machine.execCorrectedMemoryError engine s
  | .ekcFillComplete job => Sys2Proof.Machine.execEkcFillComplete job s
  | .ekcFlush value => Sys2Proof.Machine.execEkcFlush value s
  | .ekcEnableWrite value => Sys2Proof.Machine.execEkcEnableWrite value s
  | .ekcQuotaWrite slice value => Sys2Proof.Machine.execEkcQuotaWrite slice value s
  | .dpkFlush value => Sys2Proof.Machine.execDpkFlush value s
  | .dpkQuotaWrite slice value => Sys2Proof.Machine.execDpkQuotaWrite slice value s
  | .dpkFillComplete job => Sys2Proof.Machine.execDpkFillComplete job s
  | .wringerBlockBoundary engine => Sys2Proof.Machine.execWringerBlockBoundary engine s
  | .indexCommitComplete key good => Sys2Proof.Machine.execIndexCommitComplete key good s
  | .useReservationCommit key => Sys2Proof.Machine.execUseReservationCommit key s
  | .tmkRotation => Sys2Proof.Machine.execTmkRotation s
  | .tmkSweepComplete => Sys2Proof.Machine.execTmkSweepComplete s
  | .vrkShareRefresh => Sys2Proof.Machine.execVrkShareRefresh s
  | .psRetentionRefresh => Sys2Proof.Machine.execPsRetentionRefresh s
  | .rinseAssert source detail => Sys2Proof.Machine.execRinseAssert source detail s
  | .sramClearComplete => Sys2Proof.Machine.execSramClearComplete s
  | .tloopAlarm loop bit => Sys2Proof.Machine.execTloopAlarm loop bit s
  | .caseSwAlarm switch => Sys2Proof.Machine.execCaseSwAlarm switch s
  | .tamperAlarm detector detail => Sys2Proof.Machine.execTamperAlarm detector detail s
  | .vbatLowWarning mv => Sys2Proof.Machine.execVbatLowWarning mv s
  | .tamperCommit value => Sys2Proof.Machine.execTamperCommit value s
  | .tdisBurn value => Sys2Proof.Machine.execTdisBurn value s
  | .shadowMismatch code detail => Sys2Proof.Machine.execShadowMismatch code detail s
  | .lockstepMismatch => Sys2Proof.Machine.execLockstepMismatch s
  | .thimbleRestartComplete => Sys2Proof.Machine.execThimbleRestartComplete s
  | .ventAcknowledge high value => Sys2Proof.Machine.execVentAcknowledge high value s
  | .ventAutoAcknowledge cls => Sys2Proof.Machine.execVentAutoAcknowledge cls s
  | .ventResume value => Sys2Proof.Machine.execVentResume value s
  | .ventInject value => Sys2Proof.Machine.execVentInject value s
  | .noiseStartupTestComplete aOk bOk kat rct apt aptMax rctMax => Sys2Proof.Machine.execNoiseStartupTestComplete aOk bOk kat rct apt aptMax rctMax s
  | .healthTestFailure apt => Sys2Proof.Machine.execHealthTestFailure apt s
  | .drbgReseed => Sys2Proof.Machine.execDrbgReseed s
  | .drbgRequestServed => Sys2Proof.Machine.execDrbgRequestServed s
  | .rngRequestTimeout job => Sys2Proof.Machine.execRngRequestTimeout job s
  | .rngDomainReset value => Sys2Proof.Machine.execRngDomainReset value s
  | .rngAutoReset => Sys2Proof.Machine.execRngAutoReset s
  | .mgReseedRequest gen => Sys2Proof.Machine.execMgReseedRequest gen s
  | .mgSeedArrival gen => Sys2Proof.Machine.execMgSeedArrival gen s
  | .mgStall gen => Sys2Proof.Machine.execMgStall gen s
  | .mgStallTimeout job => Sys2Proof.Machine.execMgStallTimeout job s
  | .sliceEnable slice value => Sys2Proof.Machine.execSliceEnable slice value s
  | .sliceDisable slice value => Sys2Proof.Machine.execSliceDisable slice value s
  | .sliceReset slice value => Sys2Proof.Machine.execSliceReset slice value s
  | .sliceResetPendingAct slice => Sys2Proof.Machine.execSliceResetPendingAct slice s
  | .freezeDrainLimit slice => Sys2Proof.Machine.execFreezeDrainLimit slice s
  | .migNonceExpiry => Sys2Proof.Machine.execMigNonceExpiry s
  | .tickBoundary => Sys2Proof.Machine.execTickBoundary s
  | .timeSourceWrite value => Sys2Proof.Machine.execTimeSourceWrite value s
  | .taiSet value => Sys2Proof.Machine.execTaiSet value s
  | .ppsEdge cycles => Sys2Proof.Machine.execPpsEdge cycles s
  | .referenceLoss cause => Sys2Proof.Machine.execReferenceLoss cause s
  | .classCfgWrite cls value => Sys2Proof.Machine.execClassCfgWrite cls value s
  | .metCtrlWrite value => Sys2Proof.Machine.execMetCtrlWrite value s
  | .quorumWaitExpiry => Sys2Proof.Machine.execQuorumWaitExpiry s
  | .quorumTtlExpiry => Sys2Proof.Machine.execQuorumTtlExpiry s
  | .ocCardInsert port => Sys2Proof.Machine.execOcCardInsert port s
  | .ocCardRemoval port => Sys2Proof.Machine.execOcCardRemoval port s
  | .ocAtrReceived port atr => Sys2Proof.Machine.execOcAtrReceived port atr s
  | .ocPpsResponse port good => Sys2Proof.Machine.execOcPpsResponse port good s
  | .ocApduResponse port answer sw => Sys2Proof.Machine.execOcApduResponse port answer sw s
  | .ocWaitingTimeExpiry port => Sys2Proof.Machine.execOcWaitingTimeExpiry port s
  | .sdCardInsert wp => Sys2Proof.Machine.execSdCardInsert wp s
  | .sdCardRemoval => Sys2Proof.Machine.execSdCardRemoval s
  | .sdResponse answer wp => Sys2Proof.Machine.execSdResponse answer wp s
  | .sdTimeout => Sys2Proof.Machine.execSdTimeout s
  | .bkpFormat value => Sys2Proof.Machine.execBkpFormat value s
  | .bkpWrite value => Sys2Proof.Machine.execBkpWrite value s
  | .bkpRestore value => Sys2Proof.Machine.execBkpRestore value s
  | .bkpAbort value => Sys2Proof.Machine.execBkpAbort value s
  | .bkpWaitExpiry => Sys2Proof.Machine.execBkpWaitExpiry s
  | .droopTrip => Sys2Proof.Machine.execDroopTrip s
  | .droopClear => Sys2Proof.Machine.execDroopClear s
  | .thermalHold tj => Sys2Proof.Machine.execThermalHold tj s
  | .thermalHoldRelease tj => Sys2Proof.Machine.execThermalHoldRelease tj s
  | .thermtrip tj => Sys2Proof.Machine.execThermtrip tj s
  | .startCreditTick => Sys2Proof.Machine.execStartCreditTick s
  | .enginePowerGate engine => Sys2Proof.Machine.execEnginePowerGate engine s
  | .erefMeasurement eref => Sys2Proof.Machine.execErefMeasurement eref s
  | .effWindowEnd cls energy => Sys2Proof.Machine.execEffWindowEnd cls energy s
  | .blockLock block value => Sys2Proof.Machine.execBlockLock block value s
  | .registerWrite offset wide value => Sys2Proof.Machine.execRegisterWrite offset wide value s
  | .rcRegisterRead offset => Sys2Proof.Machine.execRcRegisterRead offset s
  | .counterLowRead offset wide => Sys2Proof.Machine.execCounterLowRead offset wide s
  | .smbTemperature => Sys2Proof.Machine.execSmbTemperature s
  | .smbStatus => Sys2Proof.Machine.execSmbStatus s
  | .smbVbat => Sys2Proof.Machine.execSmbVbat s
  | .smbSerial => Sys2Proof.Machine.execSmbSerial s
  | .smbSuffix => Sys2Proof.Machine.execSmbSuffix s
  | .smbDeviceId => Sys2Proof.Machine.execSmbDeviceId s
  | .smbRevision => Sys2Proof.Machine.execSmbRevision s
  | .rslLinkUp => Sys2Proof.Machine.execRslLinkUp s
  | .rslLinkDown => Sys2Proof.Machine.execRslLinkDown s
  | .rslHello seq => Sys2Proof.Machine.execRslHello seq s
  | .rslKex seq point => Sys2Proof.Machine.execRslKex seq point s
  | .rslKexDone seq ciphertext => Sys2Proof.Machine.execRslKexDone seq ciphertext s
  | .rslClose => Sys2Proof.Machine.execRslClose s
  | .rslSessionTimeout => Sys2Proof.Machine.execRslSessionTimeout s
  | .rslNonce seq => Sys2Proof.Machine.execRslNonce seq s
  | .rslCert seq cert => Sys2Proof.Machine.execRslCert seq cert s
  | .rslDeactivate seq => Sys2Proof.Machine.execRslDeactivate seq s
  | .rslLcsTransition seq target => Sys2Proof.Machine.execRslLcsTransition seq target s
  | .lcsBurnComplete => Sys2Proof.Machine.execLcsBurnComplete s
  | .dacExpiry => Sys2Proof.Machine.execDacExpiry s
  | .imageBegin seq => Sys2Proof.Machine.execImageBegin seq s
  | .imageData seq data => Sys2Proof.Machine.execImageData seq data s
  | .imageEnd seq => Sys2Proof.Machine.execImageEnd seq s
  | .activate seq => Sys2Proof.Machine.execActivate seq s
  | .activationDrainComplete => Sys2Proof.Machine.execActivationDrainComplete s
  | .activationDrainTimeout => Sys2Proof.Machine.execActivationDrainTimeout s
  | .rslEventRead seq first count => Sys2Proof.Machine.execRslEventRead seq first count s
  | .rslEventClear seq => Sys2Proof.Machine.execRslEventClear seq s
  | .rslPatternRead seq mangle => Sys2Proof.Machine.execRslPatternRead seq mangle s
  | .thimbleHalt seq sub => Sys2Proof.Machine.execThimbleHalt seq sub s
  | .needleTrace seq needle => Sys2Proof.Machine.execNeedleTrace seq needle s
  | .metroUnseal seq => Sys2Proof.Machine.execMetroUnseal seq s
  | .metroLoad seq image data => Sys2Proof.Machine.execMetroLoad seq image data s
  | .metroReseal seq => Sys2Proof.Machine.execMetroReseal seq s
  | .tapReset => Sys2Proof.Machine.execTapReset s
  | .extest => Sys2Proof.Machine.execExtest s
  | .samplePreload pins preload => Sys2Proof.Machine.execSamplePreload pins preload s
  | .idcode => Sys2Proof.Machine.execIdcode s
  | .extestPulse => Sys2Proof.Machine.execExtestPulse s
  | .extestTrain => Sys2Proof.Machine.execExtestTrain s
  | .clamp => Sys2Proof.Machine.execClamp s
  | .highz => Sys2Proof.Machine.execHighz s
  | .ftmEnter => Sys2Proof.Machine.execFtmEnter s
  | .bypass => Sys2Proof.Machine.execBypass s
  | .mlKemKeygen job => Sys2Proof.Machine.execMlKemKeygen job s
  | .mlKemEncaps job => Sys2Proof.Machine.execMlKemEncaps job s
  | .mlKemDecaps job => Sys2Proof.Machine.execMlKemDecaps job s
  | .mlDsaKeygen job => Sys2Proof.Machine.execMlDsaKeygen job s
  | .mlDsaSign job => Sys2Proof.Machine.execMlDsaSign job s
  | .mlDsaVerify job => Sys2Proof.Machine.execMlDsaVerify job s
  | .fnDsaKeygen job => Sys2Proof.Machine.execFnDsaKeygen job s
  | .fnDsaSign job => Sys2Proof.Machine.execFnDsaSign job s
  | .fnDsaVerify job => Sys2Proof.Machine.execFnDsaVerify job s
  | .latPublicKey job => Sys2Proof.Machine.execLatPublicKey job s
  | .latPreload job => Sys2Proof.Machine.execLatPreload job s
  | .slhDsaKeygen job => Sys2Proof.Machine.execSlhDsaKeygen job s
  | .slhDsaSign job => Sys2Proof.Machine.execSlhDsaSign job s
  | .slhDsaVerify job => Sys2Proof.Machine.execSlhDsaVerify job s
  | .hbsKeygen job => Sys2Proof.Machine.execHbsKeygen job s
  | .hbsTreeBuild job => Sys2Proof.Machine.execHbsTreeBuild job s
  | .hbsSign job => Sys2Proof.Machine.execHbsSign job s
  | .hbsVerify job => Sys2Proof.Machine.execHbsVerify job s
  | .hbsState job => Sys2Proof.Machine.execHbsState job s
  | .hbsPublicKey job => Sys2Proof.Machine.execHbsPublicKey job s
  | .cmeKeygen job => Sys2Proof.Machine.execCmeKeygen job s
  | .cmeEncaps job => Sys2Proof.Machine.execCmeEncaps job s
  | .cmeDecaps job => Sys2Proof.Machine.execCmeDecaps job s
  | .hqcKeygen job => Sys2Proof.Machine.execHqcKeygen job s
  | .hqcEncaps job => Sys2Proof.Machine.execHqcEncaps job s
  | .hqcDecaps job => Sys2Proof.Machine.execHqcDecaps job s
  | .cbPublicKey job => Sys2Proof.Machine.execCbPublicKey job s
  | .cbPreload job => Sys2Proof.Machine.execCbPreload job s
  | .pkKeygen job => Sys2Proof.Machine.execPkKeygen job s
  | .ecdsaSign job => Sys2Proof.Machine.execEcdsaSign job s
  | .ecdsaVerify job => Sys2Proof.Machine.execEcdsaVerify job s
  | .keyAgree job => Sys2Proof.Machine.execKeyAgree job s
  | .eddsaSign job => Sys2Proof.Machine.execEddsaSign job s
  | .eddsaVerify job => Sys2Proof.Machine.execEddsaVerify job s
  | .rsaSign job => Sys2Proof.Machine.execRsaSign job s
  | .rsaVerify job => Sys2Proof.Machine.execRsaVerify job s
  | .rsaOaepEncrypt job => Sys2Proof.Machine.execRsaOaepEncrypt job s
  | .rsaOaepDecrypt job => Sys2Proof.Machine.execRsaOaepDecrypt job s
  | .ecCurveLoad job => Sys2Proof.Machine.execEcCurveLoad job s
  | .ecCurveClear job => Sys2Proof.Machine.execEcCurveClear job s
  | .pkPublicKey job => Sys2Proof.Machine.execPkPublicKey job s
  | .cipherEncrypt job => Sys2Proof.Machine.execCipherEncrypt job s
  | .cipherDecrypt job => Sys2Proof.Machine.execCipherDecrypt job s
  | .gcmEncrypt job => Sys2Proof.Machine.execGcmEncrypt job s
  | .gcmDecrypt job => Sys2Proof.Machine.execGcmDecrypt job s
  | .gcmSessionOpen job => Sys2Proof.Machine.execGcmSessionOpen job s
  | .gcmSessionUpdate job => Sys2Proof.Machine.execGcmSessionUpdate job s
  | .gcmSessionFinal job => Sys2Proof.Machine.execGcmSessionFinal job s
  | .gcmSessionClose job => Sys2Proof.Machine.execGcmSessionClose job s
  | .cmacGenerate job => Sys2Proof.Machine.execCmacGenerate job s
  | .cmacVerify job => Sys2Proof.Machine.execCmacVerify job s
  | .kwWrap job => Sys2Proof.Machine.execKwWrap job s
  | .kwUnwrap job => Sys2Proof.Machine.execKwUnwrap job s
  | .digest job => Sys2Proof.Machine.execDigest job s
  | .sessionOpen job => Sys2Proof.Machine.execSessionOpen job s
  | .sessionUpdate job => Sys2Proof.Machine.execSessionUpdate job s
  | .sessionFinal job => Sys2Proof.Machine.execSessionFinal job s
  | .sessionClose job => Sys2Proof.Machine.execSessionClose job s
  | .keyGenerate job => Sys2Proof.Machine.execKeyGenerate job s
  | .keyDelete job => Sys2Proof.Machine.execKeyDelete job s
  | .keyGetAttr job => Sys2Proof.Machine.execKeyGetAttr job s
  | .keySetAttr job => Sys2Proof.Machine.execKeySetAttr job s
  | .keyPersist job => Sys2Proof.Machine.execKeyPersist job s
  | .keyReplace job => Sys2Proof.Machine.execKeyReplace job s
  | .keyExportWrapped job => Sys2Proof.Machine.execKeyExportWrapped job s
  | .keyImportWrapped job => Sys2Proof.Machine.execKeyImportWrapped job s
  | .keyDerive job => Sys2Proof.Machine.execKeyDerive job s
  | .keyProve job => Sys2Proof.Machine.execKeyProve job s
  | .rngGenerate job => Sys2Proof.Machine.execRngGenerate job s
  | .pinTranslate job => Sys2Proof.Machine.execPinTranslate job s
  | .pinVerify job => Sys2Proof.Machine.execPinVerify job s
  | .emvArqcVerify job => Sys2Proof.Machine.execEmvArqcVerify job s
  | .emvArpcGenerate job => Sys2Proof.Machine.execEmvArpcGenerate job s
  | .bdkGenerate job => Sys2Proof.Machine.execBdkGenerate job s
  | .dukptDeriveIk job => Sys2Proof.Machine.execDukptDeriveIk job s
  | .kbImport job => Sys2Proof.Machine.execKbImport job s
  | .kbExport job => Sys2Proof.Machine.execKbExport job s
  | .paySetPolicy job => Sys2Proof.Machine.execPaySetPolicy job s
  | .compositeBind job => Sys2Proof.Machine.execCompositeBind job s
  | .hybSign job => Sys2Proof.Machine.execHybSign job s
  | .hybVerify job => Sys2Proof.Machine.execHybVerify job s
  | .hybKemEncaps job => Sys2Proof.Machine.execHybKemEncaps job s
  | .hybKemDecaps job => Sys2Proof.Machine.execHybKemDecaps job s
  | .certIssue job => Sys2Proof.Machine.execCertIssue job s
  | .mdocIssue job => Sys2Proof.Machine.execMdocIssue job s
  | .tplLoad job => Sys2Proof.Machine.execTplLoad job s
  | .tplDelete job => Sys2Proof.Machine.execTplDelete job s
  | .credIssue job => Sys2Proof.Machine.execCredIssue job s
  | .quorumOpen job => Sys2Proof.Machine.execQuorumOpen job s
  | .quorumClose job => Sys2Proof.Machine.execQuorumClose job s
  | .quorumStatus job => Sys2Proof.Machine.execQuorumStatus job s
  | .quorumEnroll job => Sys2Proof.Machine.execQuorumEnroll job s
  | .hybPublicKey job => Sys2Proof.Machine.execHybPublicKey job s
  | .metSourceAdd job => Sys2Proof.Machine.execMetSourceAdd job s
  | .metEvent job => Sys2Proof.Machine.execMetEvent job s
  | .metInfo job => Sys2Proof.Machine.execMetInfo job s
  | .metRecordGet job => Sys2Proof.Machine.execMetRecordGet job s
  | .sliceFreeze job => Sys2Proof.Machine.execSliceFreeze job s
  | .sliceSave job => Sys2Proof.Machine.execSliceSave job s
  | .sliceThaw job => Sys2Proof.Machine.execSliceThaw job s
  | .sliceRelease job => Sys2Proof.Machine.execSliceRelease job s
  | .migPrepare job => Sys2Proof.Machine.execMigPrepare job s
  | .sliceRestore job => Sys2Proof.Machine.execSliceRestore job s
  | .contractSet job => Sys2Proof.Machine.execContractSet job s
  | .contractGet job => Sys2Proof.Machine.execContractGet job s
  | .timeRead job => Sys2Proof.Machine.execTimeRead job s
  | .eventRead job => Sys2Proof.Machine.execEventRead job s
  | .eventVerify job => Sys2Proof.Machine.execEventVerify job s
  | .eventClear job => Sys2Proof.Machine.execEventClear job s
  | .fwInfo job => Sys2Proof.Machine.execFwInfo job s
  | .add needle rd rs1 rs2 => Sys2Proof.Machine.execAdd needle rd rs1 rs2 s
  | .sub needle rd rs1 rs2 => Sys2Proof.Machine.execSub needle rd rs1 rs2 s
  | .and needle rd rs1 rs2 => Sys2Proof.Machine.execAnd needle rd rs1 rs2 s
  | .or needle rd rs1 rs2 => Sys2Proof.Machine.execOr needle rd rs1 rs2 s
  | .xor needle rd rs1 rs2 => Sys2Proof.Machine.execXor needle rd rs1 rs2 s
  | .sll needle rd rs1 rs2 => Sys2Proof.Machine.execSll needle rd rs1 rs2 s
  | .srl needle rd rs1 rs2 => Sys2Proof.Machine.execSrl needle rd rs1 rs2 s
  | .sra needle rd rs1 rs2 => Sys2Proof.Machine.execSra needle rd rs1 rs2 s
  | .slt needle rd rs1 rs2 => Sys2Proof.Machine.execSlt needle rd rs1 rs2 s
  | .sltu needle rd rs1 rs2 => Sys2Proof.Machine.execSltu needle rd rs1 rs2 s
  | .mul needle rd rs1 rs2 => Sys2Proof.Machine.execMul needle rd rs1 rs2 s
  | .mulh needle rd rs1 rs2 => Sys2Proof.Machine.execMulh needle rd rs1 rs2 s
  | .mulhu needle rd rs1 rs2 => Sys2Proof.Machine.execMulhu needle rd rs1 rs2 s
  | .divs needle rd rs1 rs2 => Sys2Proof.Machine.execDivs needle rd rs1 rs2 s
  | .divu needle rd rs1 rs2 => Sys2Proof.Machine.execDivu needle rd rs1 rs2 s
  | .rems needle rd rs1 rs2 => Sys2Proof.Machine.execRems needle rd rs1 rs2 s
  | .remu needle rd rs1 rs2 => Sys2Proof.Machine.execRemu needle rd rs1 rs2 s
  | .movnz needle rd rs1 rs2 => Sys2Proof.Machine.execMovnz needle rd rs1 rs2 s
  | .addi needle rd rs1 imm => Sys2Proof.Machine.execAddi needle rd rs1 imm s
  | .andi needle rd rs1 imm => Sys2Proof.Machine.execAndi needle rd rs1 imm s
  | .ori needle rd rs1 imm => Sys2Proof.Machine.execOri needle rd rs1 imm s
  | .xori needle rd rs1 imm => Sys2Proof.Machine.execXori needle rd rs1 imm s
  | .slli needle rd rs1 high amount => Sys2Proof.Machine.execSlli needle rd rs1 high amount s
  | .srli needle rd rs1 high amount => Sys2Proof.Machine.execSrli needle rd rs1 high amount s
  | .srai needle rd rs1 high amount => Sys2Proof.Machine.execSrai needle rd rs1 high amount s
  | .lui needle rd rs1 imm => Sys2Proof.Machine.execLui needle rd rs1 imm s
  | .ld8u needle rd rs1 imm => Sys2Proof.Machine.execLd8u needle rd rs1 imm s
  | .ld16u needle rd rs1 imm => Sys2Proof.Machine.execLd16u needle rd rs1 imm s
  | .ld32u needle rd rs1 imm => Sys2Proof.Machine.execLd32u needle rd rs1 imm s
  | .ld64 needle rd rs1 imm => Sys2Proof.Machine.execLd64 needle rd rs1 imm s
  | .ld8s needle rd rs1 imm => Sys2Proof.Machine.execLd8s needle rd rs1 imm s
  | .ld16s needle rd rs1 imm => Sys2Proof.Machine.execLd16s needle rd rs1 imm s
  | .ld32s needle rd rs1 imm => Sys2Proof.Machine.execLd32s needle rd rs1 imm s
  | .st8 needle src rs1 imm => Sys2Proof.Machine.execSt8 needle src rs1 imm s
  | .st16 needle src rs1 imm => Sys2Proof.Machine.execSt16 needle src rs1 imm s
  | .st32 needle src rs1 imm => Sys2Proof.Machine.execSt32 needle src rs1 imm s
  | .st64 needle src rs1 imm => Sys2Proof.Machine.execSt64 needle src rs1 imm s
  | .fld needle rd rs1 imm => Sys2Proof.Machine.execFld needle rd rs1 imm s
  | .fst needle src rs1 imm => Sys2Proof.Machine.execFst needle src rs1 imm s
  | .cbr needle cond rs1 rs2 off => Sys2Proof.Machine.execCbr needle cond rs1 rs2 off s
  | .jr needle rs1 mask => Sys2Proof.Machine.execJr needle rs1 mask s
  | .callr needle rs1 mask => Sys2Proof.Machine.execCallr needle rs1 mask s
  | .ret needle rs1 mask => Sys2Proof.Machine.execRet needle rs1 mask s
  | .call needle mask off => Sys2Proof.Machine.execCall needle mask off s
  | .fadd needle rd rs1 rs2 => Sys2Proof.Machine.execFadd needle rd rs1 rs2 s
  | .fsub needle rd rs1 rs2 => Sys2Proof.Machine.execFsub needle rd rs1 rs2 s
  | .fmul needle rd rs1 rs2 => Sys2Proof.Machine.execFmul needle rd rs1 rs2 s
  | .fdiv needle rd rs1 rs2 => Sys2Proof.Machine.execFdiv needle rd rs1 rs2 s
  | .fsqrt needle rd rs1 rs2 => Sys2Proof.Machine.execFsqrt needle rd rs1 rs2 s
  | .fma needle rd rs1 rs2 => Sys2Proof.Machine.execFma needle rd rs1 rs2 s
  | .fmin needle rd rs1 rs2 => Sys2Proof.Machine.execFmin needle rd rs1 rs2 s
  | .fmax needle rd rs1 rs2 => Sys2Proof.Machine.execFmax needle rd rs1 rs2 s
  | .fcmpEq needle rd rs1 rs2 => Sys2Proof.Machine.execFcmpEq needle rd rs1 rs2 s
  | .fcmpLt needle rd rs1 rs2 => Sys2Proof.Machine.execFcmpLt needle rd rs1 rs2 s
  | .fcmpLe needle rd rs1 rs2 => Sys2Proof.Machine.execFcmpLe needle rd rs1 rs2 s
  | .fcvtDL needle rd rs1 rs2 => Sys2Proof.Machine.execFcvtDL needle rd rs1 rs2 s
  | .fcvtLD needle rd rs1 rs2 => Sys2Proof.Machine.execFcvtLD needle rd rs1 rs2 s
  | .fmvXD needle rd rs1 rs2 => Sys2Proof.Machine.execFmvXD needle rd rs1 rs2 s
  | .fmvDX needle rd rs1 rs2 => Sys2Proof.Machine.execFmvDX needle rd rs1 rs2 s
  | .fcsrR needle rd rs1 rs2 => Sys2Proof.Machine.execFcsrR needle rd rs1 rs2 s
  | .fcsrW needle rd rs1 rs2 => Sys2Proof.Machine.execFcsrW needle rd rs1 rs2 s
  | .vsetvl needle m vd vs1 vs2 => Sys2Proof.Machine.execVsetvl needle m vd vs1 vs2 s
  | .vadd needle m vd vs1 vs2 => Sys2Proof.Machine.execVadd needle m vd vs1 vs2 s
  | .vsub needle m vd vs1 vs2 => Sys2Proof.Machine.execVsub needle m vd vs1 vs2 s
  | .vand needle m vd vs1 vs2 => Sys2Proof.Machine.execVand needle m vd vs1 vs2 s
  | .vor needle m vd vs1 vs2 => Sys2Proof.Machine.execVor needle m vd vs1 vs2 s
  | .vxor needle m vd vs1 vs2 => Sys2Proof.Machine.execVxor needle m vd vs1 vs2 s
  | .vmul needle m vd vs1 vs2 => Sys2Proof.Machine.execVmul needle m vd vs1 vs2 s
  | .vmulhu needle m vd vs1 vs2 => Sys2Proof.Machine.execVmulhu needle m vd vs1 vs2 s
  | .vsll needle m vd vs1 vs2 => Sys2Proof.Machine.execVsll needle m vd vs1 vs2 s
  | .vsrl needle m vd vs1 vs2 => Sys2Proof.Machine.execVsrl needle m vd vs1 vs2 s
  | .vsra needle m vd vs1 vs2 => Sys2Proof.Machine.execVsra needle m vd vs1 vs2 s
  | .vmin needle m vd vs1 vs2 => Sys2Proof.Machine.execVmin needle m vd vs1 vs2 s
  | .vmax needle m vd vs1 vs2 => Sys2Proof.Machine.execVmax needle m vd vs1 vs2 s
  | .vminu needle m vd vs1 vs2 => Sys2Proof.Machine.execVminu needle m vd vs1 vs2 s
  | .vmaxu needle m vd vs1 vs2 => Sys2Proof.Machine.execVmaxu needle m vd vs1 vs2 s
  | .vcmpEq needle m vd vs1 vs2 => Sys2Proof.Machine.execVcmpEq needle m vd vs1 vs2 s
  | .vcmpLt needle m vd vs1 vs2 => Sys2Proof.Machine.execVcmpLt needle m vd vs1 vs2 s
  | .vcmpLtu needle m vd vs1 vs2 => Sys2Proof.Machine.execVcmpLtu needle m vd vs1 vs2 s
  | .vbcast needle m vd vs1 vs2 => Sys2Proof.Machine.execVbcast needle m vd vs1 vs2 s
  | .vext needle m vd vs1 vs2 => Sys2Proof.Machine.execVext needle m vd vs1 vs2 s
  | .vredAdd needle m vd vs1 vs2 => Sys2Proof.Machine.execVredAdd needle m vd vs1 vs2 s
  | .vsad needle m sg vd vs1 vs2 => Sys2Proof.Machine.execVsad needle m sg vd vs1 vs2 s
  | .vfadd needle m vd vs1 vs2 => Sys2Proof.Machine.execVfadd needle m vd vs1 vs2 s
  | .vfsub needle m vd vs1 vs2 => Sys2Proof.Machine.execVfsub needle m vd vs1 vs2 s
  | .vfmul needle m vd vs1 vs2 => Sys2Proof.Machine.execVfmul needle m vd vs1 vs2 s
  | .vfma needle m vd vs1 vs2 => Sys2Proof.Machine.execVfma needle m vd vs1 vs2 s
  | .vfdiv needle m vd vs1 vs2 => Sys2Proof.Machine.execVfdiv needle m vd vs1 vs2 s
  | .vfsqrt needle m vd vs1 vs2 => Sys2Proof.Machine.execVfsqrt needle m vd vs1 vs2 s
  | .vfcvtDL needle m vd vs1 vs2 => Sys2Proof.Machine.execVfcvtDL needle m vd vs1 vs2 s
  | .vfcvtLD needle m vd vs1 vs2 => Sys2Proof.Machine.execVfcvtLD needle m vd vs1 vs2 s
  | .vld needle m vd vs1 vs2 => Sys2Proof.Machine.execVld needle m vd vs1 vs2 s
  | .vlds needle m vd vs1 vs2 => Sys2Proof.Machine.execVlds needle m vd vs1 vs2 s
  | .vgather needle m vd vs1 vs2 => Sys2Proof.Machine.execVgather needle m vd vs1 vs2 s
  | .vst needle m vd vs1 vs2 => Sys2Proof.Machine.execVst needle m vd vs1 vs2 s
  | .vsts needle m vd vs1 vs2 => Sys2Proof.Machine.execVsts needle m vd vs1 vs2 s
  | .vscatter needle m vd vs1 vs2 => Sys2Proof.Machine.execVscatter needle m vd vs1 vs2 s
  | .plda needle rd rs1 rs2 => Sys2Proof.Machine.execPlda needle rd rs1 rs2 s
  | .pmac needle rd rs1 rs2 => Sys2Proof.Machine.execPmac needle rd rs1 rs2 s
  | .pshr needle rd rs1 rs2 => Sys2Proof.Machine.execPshr needle rd rs1 rs2 s
  | .prd needle rd rs1 rs2 => Sys2Proof.Machine.execPrd needle rd rs1 rs2 s
  | .pclr needle rd rs1 rs2 => Sys2Proof.Machine.execPclr needle rd rs1 rs2 s
  | .pldacc needle rd rs1 rs2 => Sys2Proof.Machine.execPldacc needle rd rs1 rs2 s
  | .fxin needle rd rs1 rs2 arg => Sys2Proof.Machine.execFxin needle rd rs1 rs2 arg s
  | .fxout needle rd rs1 rs2 arg => Sys2Proof.Machine.execFxout needle rd rs1 rs2 arg s
  | .krecv needle rd rs1 rs2 arg => Sys2Proof.Machine.execKrecv needle rd rs1 rs2 arg s
  | .rand needle rd rs1 rs2 arg => Sys2Proof.Machine.execRand needle rd rs1 rs2 arg s
  | .endTask needle rd rs1 rs2 arg => Sys2Proof.Machine.execEndTask needle rd rs1 rs2 arg s
  | .mainPowerReturn => Sys2Proof.Machine.execMainPowerReturn s
  | .hifReady => Sys2Proof.Machine.execHifReady s
  | .autoResetWindowExpiry => Sys2Proof.Machine.execAutoResetWindowExpiry s
  | .sramScrubError region uncorrectable => Sys2Proof.Machine.execSramScrubError region uncorrectable s
  | .needleMemUncorr needle => Sys2Proof.Machine.execNeedleMemUncorr needle s
  | .wringerLaneError engine job => Sys2Proof.Machine.execWringerLaneError engine job s
  | .svcFrameError => Sys2Proof.Machine.execSvcFrameError s

end Sys2Proof.Machine
end

