-- ==== Sys2Proof/Safety.lean ====
section
/-! DEFINITION. The terms that statements use: when a Needle or a register access can act, what a step leaves, the invariants. -/
namespace Sys2Proof
open Sys2Proof.Machine

/-! ## Needles (11_stitch_isa.md) -/

/-- Needle `k` runs the task of job `j` and its next instruction lies in the code segment (R277). -/
abbrev runsTask (s : State) (k : BitVec 5) (j : Job) : Prop :=
  s.task k.toNat = some j ∧ (s.needle k.toNat).pc.toNat < 0x100000

/-- The vector unit of Needle `k` has its credits, or the units are never gated (R524). -/
abbrev boltReady (s : State) (k : BitVec 5) : Prop := (s.needle k.toNat).bolt = true ∨ s.pwr.gateIdle = 0

/-- The state in which Needle `k` is `n` and nothing else differs; a trace halt has ended (R289). -/
def withNeedle (s : State) (k : BitVec 5) (n : Needle) : State := s.modNeedle k.toNat (fun _ => { n with halted := false })

/-- The state after an instruction of Needle `k` that leaves it as `n` and goes on in order. -/
def ran (s : State) (k : BitVec 5) (n : Needle) : State := withNeedle s k { n with pc := n.pc + 4 }

/-- The address of a scalar access may be read for `b` bytes (R278, R279). -/
abbrev readable (a : BitVec 64) (b : Nat) : Prop := a.toNat % b = 0 ∧ a.toNat + b ≤ 0x41000

/-- The address of a scalar access may be written for `b` bytes (R278, R279). -/
abbrev writable (a : BitVec 64) (b : Nat) : Prop := a.toNat % b = 0 ∧ a.toNat + b ≤ 0x40000

/-- A transfer to this code address is allowed (R277). -/
abbrev codeTarget (t : BitVec 64) : Prop := t.toNat % 4 = 0 ∧ t.toNat < 0x100000

/-! ## Jobs -/

/-- Job `id` is `j`, computes opcode `op`, has its lane, and none of its engine tasks is left (R35 step 7; R106, step 12; R177). -/
abbrev computes (s : State) (id op : Nat) (j : Job) : Prop := s.job? id = some j ∧ j.opcode = op ∧ s.canCommit j = true

/-- The result of job `id` is committed: its status and its staged outputs (R107, R108). -/
abbrev decidedAs (t : State) (id status : Nat) (outs : List (Nat × Bytes)) : Prop :=
  ∃ j, t.job? id = some j ∧ j.phase = .decided ∧ j.status = status ∧ j.outs = outs

/-- From `s` to `t` nothing differs but job `id`, the miss counters and the session contexts. -/
def onlyJob (s t : State) (id : Nat) : Prop :=
  t = { s with jobs := t.jobs, sched := { s.sched with misses := t.sched.misses }, ctxs := t.ctxs } ∧
  ∀ i, i ≠ id → t.job? i = s.job? i

/-- From `s` to `t` job `id` creates a key of its slice and returns `outs` of the state and base slot that creation gives, or ends with the
status that refuses the key (R316, R547); no other job differs. -/
def keyMade (s t : State) (id slice cls : Nat) (attr : Bytes) (origin : BitVec 8) (material : Bytes) (outs : State → Nat → List (Nat × Bytes)) : Prop :=
  (match createKey cls slice attr origin material s with
   | .inr st => decidedAs t id st [] ∧ t.kv = s.kv
   | .inl (s', i) => decidedAs t id 0 (outs s' i) ∧ t.kv = s'.kv) ∧
  ∀ i, i ≠ id → t.job? i = s.job? i

/-- Job `id` ends its computation as `decidedAs` says in the state `u`, which holds the job's other effects, and nothing else differs from `u`. -/
def ends (u t : State) (id status : Nat) (outs : List (Nat × Bytes)) : Prop := decidedAs t id status outs ∧ onlyJob u t id

/-! ## Registers -/

/-- BAR0 answers: Memory Space Enable is 1, the function is not in D3hot, and Thimble started (R16, R54, R504). -/
abbrev barOpen (s : State) : Prop := s.barOn = true ∧ s.svc.bootFailed = false

/-! ## One-time fuses (01_architecture.md, R28; 17_metrology.md, R425; 18_tamper_and_faults.md, R439; 19_lifecycle_debug_test.md, R459) -/

/-- Every bit of `a` is a bit of `b`. -/
abbrev within {n : Nat} (a b : BitVec n) : Prop := a &&& b = a

/-- From `o` to `p` no fuse goes back to 0, and the ordering suffix stays (R28, R439, R459). -/
def fusesKept (o p : Otp) : Prop :=
  within o.lcsA p.lcsA ∧ within o.lcsB p.lcsB ∧ within o.lcsC p.lcsC ∧ within o.msealA p.msealA ∧ within o.msealB p.msealB ∧
  within o.msealC p.msealC ∧ within o.tdis p.tdis ∧ p.variantL = o.variantL

/-- The three break-count words are thermometer codes, unless the Metrology Domain says FUSE_INVALID (R425). -/
def sealOk (s : State) : Prop :=
  s.met.st = .fuseInvalid ∨ (thermometer s.otp.msealA = true ∧ thermometer s.otp.msealB = true ∧ thermometer s.otp.msealC = true)

end Sys2Proof
end

