-- ==== Sys2Proof/WellFormed.lean ====
section
/-! DEFINITION. Which commands a sender can send: the operands that the interface carrying a command can hold. The meanings are total,
so an ill-formed command still answers; statements that need a form name it. -/
namespace Sys2Proof

/-- A block of an SD data token holds 512 bytes (R476). -/
def SdAnswer.ok : SdAnswer → Bool
  | .data block => block.length == 512
  | .ready .. | .unsupported | .accepted | .writeProtected | .error => true

/-- Engine codes of lanes: Wringers and Tumblers (R89). -/
def laneCode (c : Nat) : Bool := (decide (0x20 ≤ c) && decide (c < 0x40)) || (decide (0x68 ≤ c) && decide (c < 0x70))

/-- The operands lie in the ranges of the interface: cells of 64 bytes (R68), pages of a 64-bit address (R52), table writes aligned to their
size (R9), nonces and random fields of SPDM 1.2 (R57), data only with a read that succeeded (R49, R50), numbers of classes, generators and
blocks that exist (R32, R372, R410, R448, R527). -/
def Instr.wellFormed : Instr → Bool
  | .msixTableWrite offset wide _ => offset % (if wide then 8 else 4) == 0
  | .barAccessUnsupported bar _ size => (decide (bar.toNat < 6) || bar == 7 && size == 4) && decide (0 < size)
  | .atsInvalidationRequest _ _ _ page count => decide (page < 2 ^ 52) && decide (0 < count)
  | .translationCompletion _ page _ _ => decide (page < 2 ^ 52)
  | .dmaReadCompletion _ _ data err => err.isNone || data.isEmpty
  | .spdmChallenge _ nonce => nonce.length == 32
  | .spdmGetMeasurements _ sign nonce => !sign || nonce.length == 32
  | .spdmKeyExchange _ random _ => random.length == 32
  | .cellFetchReturn _ _ cells _ => cells.all (fun c => c.2.length == 64)
  | .jobDispatch cls => decide (cls.toNat < 10)
  | .wringerBlockBoundary engine => laneCode engine.toNat
  | .ventAutoAcknowledge cls => decide (cls.toNat < 6)
  | .mgReseedRequest gen => decide (gen.toNat < 109)
  | .mgSeedArrival gen => decide (gen.toNat < 109)
  | .mgStall gen => decide (gen.toNat < 109)
  | .classCfgWrite cls _ => decide (cls.toNat < 7)
  | .sdResponse answer _ => answer.ok
  | .effWindowEnd cls _ => decide (cls.toNat < 5)
  | .blockLock block _ => decide (block.toNat < 14)
  | .wringerLaneError engine _ => laneCode engine.toNat || (decide (0x40 ≤ engine.toNat) && decide (engine.toNat < 0x60)) ||
    (decide (0x64 ≤ engine.toNat) && decide (engine.toNat < 0x68))
  | .porstAssert .. | .startUp | .brownOut .. | .mainPowerLoss | .conventionalReset | .perstDeassert | .functionLevelReset
  | .linkStateChange .. | .retrain .. | .busMasterEnableWrite .. | .msixControlWrite .. | .atsInvalidationComplete ..
  | .completionTimeout .. | .doeRequest .. | .doeAbort | .spdmGetVersion | .spdmGetCapabilities .. | .spdmNegotiateAlgorithms ..
  | .spdmGetDigests | .spdmGetCertificate .. | .spdmFinish .. | .spdmKeyUpdate | .spdmHeartbeat | .spdmEndSession | .ideStreamSecure ..
  | .ideIntegrityFailure .. | .ptmExchange .. | .sqTailDoorbell .. | .cqHeadDoorbell .. | .cellRefetchTimer .. | .sqStallWatchdog ..
  | .jobIntake .. | .sqEnable .. | .sqDisable .. | .cqEnable .. | .cqDisable .. | .sqFaultClear .. | .cqModerationTimer ..
  | .engineComputationComplete .. | .safePointStop .. | .engineWipeComplete .. | .microwordExecute .. | .safePointWatchdog ..
  | .patchReload .. | .patternPatchLoad .. | .mangleFault .. | .darnerFault .. | .engineMemoryTestDone .. | .correctedMemoryError ..
  | .ekcFillComplete .. | .ekcFlush .. | .ekcEnableWrite .. | .ekcQuotaWrite .. | .dpkFlush .. | .dpkQuotaWrite .. | .dpkFillComplete ..
  | .indexCommitComplete .. | .useReservationCommit .. | .tmkRotation | .tmkSweepComplete | .vrkShareRefresh | .psRetentionRefresh
  | .rinseAssert .. | .sramClearComplete | .tloopAlarm .. | .caseSwAlarm .. | .tamperAlarm .. | .vbatLowWarning .. | .tamperCommit ..
  | .tdisBurn .. | .shadowMismatch .. | .lockstepMismatch | .thimbleRestartComplete | .ventAcknowledge .. | .ventResume .. | .ventInject ..
  | .noiseStartupTestComplete .. | .healthTestFailure .. | .drbgReseed | .drbgRequestServed | .rngRequestTimeout .. | .rngDomainReset ..
  | .rngAutoReset | .mgStallTimeout .. | .sliceEnable .. | .sliceDisable .. | .sliceReset .. | .sliceResetPendingAct ..
  | .freezeDrainLimit .. | .migNonceExpiry | .tickBoundary | .timeSourceWrite .. | .taiSet .. | .ppsEdge .. | .referenceLoss ..
  | .metCtrlWrite .. | .quorumWaitExpiry | .quorumTtlExpiry | .ocCardInsert .. | .ocCardRemoval .. | .ocAtrReceived .. | .ocPpsResponse ..
  | .ocApduResponse .. | .ocWaitingTimeExpiry .. | .sdCardInsert .. | .sdCardRemoval | .sdTimeout | .bkpFormat .. | .bkpWrite ..
  | .bkpRestore .. | .bkpAbort .. | .bkpWaitExpiry | .droopTrip | .droopClear | .thermalHold .. | .thermalHoldRelease .. | .thermtrip ..
  | .startCreditTick | .enginePowerGate .. | .erefMeasurement .. | .registerWrite .. | .rcRegisterRead .. | .counterLowRead ..
  | .smbTemperature | .smbStatus | .smbVbat | .smbSerial | .smbSuffix | .smbDeviceId | .smbRevision | .rslLinkUp | .rslLinkDown
  | .rslHello .. | .rslKex .. | .rslKexDone .. | .rslClose | .rslSessionTimeout | .rslNonce .. | .rslCert .. | .rslDeactivate ..
  | .rslLcsTransition .. | .lcsBurnComplete | .dacExpiry | .imageBegin .. | .imageData .. | .imageEnd .. | .activate ..
  | .activationDrainComplete | .activationDrainTimeout | .rslEventRead .. | .rslEventClear .. | .rslPatternRead .. | .thimbleHalt ..
  | .needleTrace .. | .metroUnseal .. | .metroLoad .. | .metroReseal .. | .tapReset | .extest | .samplePreload .. | .idcode | .extestPulse
  | .extestTrain | .clamp | .highz | .ftmEnter | .bypass | .mlKemKeygen .. | .mlKemEncaps .. | .mlKemDecaps .. | .mlDsaKeygen ..
  | .mlDsaSign .. | .mlDsaVerify .. | .fnDsaKeygen .. | .fnDsaSign .. | .fnDsaVerify .. | .latPublicKey .. | .latPreload ..
  | .slhDsaKeygen .. | .slhDsaSign .. | .slhDsaVerify .. | .hbsKeygen .. | .hbsTreeBuild .. | .hbsSign .. | .hbsVerify .. | .hbsState ..
  | .hbsPublicKey .. | .cmeKeygen .. | .cmeEncaps .. | .cmeDecaps .. | .hqcKeygen .. | .hqcEncaps .. | .hqcDecaps .. | .cbPublicKey ..
  | .cbPreload .. | .pkKeygen .. | .ecdsaSign .. | .ecdsaVerify .. | .keyAgree .. | .eddsaSign .. | .eddsaVerify .. | .rsaSign ..
  | .rsaVerify .. | .rsaOaepEncrypt .. | .rsaOaepDecrypt .. | .ecCurveLoad .. | .ecCurveClear .. | .pkPublicKey .. | .cipherEncrypt ..
  | .cipherDecrypt .. | .gcmEncrypt .. | .gcmDecrypt .. | .gcmSessionOpen .. | .gcmSessionUpdate .. | .gcmSessionFinal ..
  | .gcmSessionClose .. | .cmacGenerate .. | .cmacVerify .. | .kwWrap .. | .kwUnwrap .. | .digest .. | .sessionOpen .. | .sessionUpdate ..
  | .sessionFinal .. | .sessionClose .. | .keyGenerate .. | .keyDelete .. | .keyGetAttr .. | .keySetAttr .. | .keyPersist ..
  | .keyReplace .. | .keyExportWrapped .. | .keyImportWrapped .. | .keyDerive .. | .keyProve .. | .rngGenerate .. | .pinTranslate ..
  | .pinVerify .. | .emvArqcVerify .. | .emvArpcGenerate .. | .bdkGenerate .. | .dukptDeriveIk .. | .kbImport .. | .kbExport ..
  | .paySetPolicy .. | .compositeBind .. | .hybSign .. | .hybVerify .. | .hybKemEncaps .. | .hybKemDecaps .. | .certIssue ..
  | .mdocIssue .. | .tplLoad .. | .tplDelete .. | .credIssue .. | .quorumOpen .. | .quorumClose .. | .quorumStatus .. | .quorumEnroll ..
  | .hybPublicKey .. | .metSourceAdd .. | .metEvent .. | .metInfo .. | .metRecordGet .. | .sliceFreeze .. | .sliceSave .. | .sliceThaw ..
  | .sliceRelease .. | .migPrepare .. | .sliceRestore .. | .contractSet .. | .contractGet .. | .timeRead .. | .eventRead ..
  | .eventVerify .. | .eventClear .. | .fwInfo .. | .add .. | .sub .. | .and .. | .or .. | .xor .. | .sll .. | .srl .. | .sra .. | .slt ..
  | .sltu .. | .mul .. | .mulh .. | .mulhu .. | .divs .. | .divu .. | .rems .. | .remu .. | .movnz .. | .addi .. | .andi .. | .ori ..
  | .xori .. | .slli .. | .srli .. | .srai .. | .lui .. | .ld8u .. | .ld16u .. | .ld32u .. | .ld64 .. | .ld8s .. | .ld16s .. | .ld32s ..
  | .st8 .. | .st16 .. | .st32 .. | .st64 .. | .fld .. | .fst .. | .cbr .. | .jr .. | .callr .. | .ret .. | .call .. | .fadd .. | .fsub ..
  | .fmul .. | .fdiv .. | .fsqrt .. | .fma .. | .fmin .. | .fmax .. | .fcmpEq .. | .fcmpLt .. | .fcmpLe .. | .fcvtDL .. | .fcvtLD ..
  | .fmvXD .. | .fmvDX .. | .fcsrR .. | .fcsrW .. | .vsetvl .. | .vadd .. | .vsub .. | .vand .. | .vor .. | .vxor .. | .vmul ..
  | .vmulhu .. | .vsll .. | .vsrl .. | .vsra .. | .vmin .. | .vmax .. | .vminu .. | .vmaxu .. | .vcmpEq .. | .vcmpLt .. | .vcmpLtu ..
  | .vbcast .. | .vext .. | .vredAdd .. | .vsad .. | .vfadd .. | .vfsub .. | .vfmul .. | .vfma .. | .vfdiv .. | .vfsqrt .. | .vfcvtDL ..
  | .vfcvtLD .. | .vld .. | .vlds .. | .vgather .. | .vst .. | .vsts .. | .vscatter .. | .plda .. | .pmac .. | .pshr .. | .prd ..
  | .pclr .. | .pldacc .. | .fxin .. | .fxout .. | .krecv .. | .rand .. | .endTask .. | .mainPowerReturn | .hifReady
  | .autoResetWindowExpiry | .sramScrubError .. | .needleMemUncorr .. | .svcFrameError => true

end Sys2Proof
end

