-- ==== Sys2Proof/Certificates/Slice0/Obligations.lean ====
section
/-! DEFINITION. The statements for the provers. -/
open Sys2Proof Sys2Proof.Machine

/-- The integer and immediate instructions write their result and nothing else. For each of the 26 integer, immediate and shift instructions, on a Needle that runs a task: exec answers the next state in which x[rd] holds the value of R282 (wrapping arithmetic, shifts by bits 5:0, division corners, MOVNZ), the pc is 4 further and nothing else differs; unused fields are zero in the forms that have them.
Formalises R282. -/
def Obligations.IntegerInstructionsWriteTheirResult : Prop :=
  ∀ (s : State) (k rd rs1 rs2 : BitVec 5) (imm : BitVec 16) (amount : BitVec 6) (j : Job), runsTask s k j →
    let n := s.needle k.toNat
    let a := n.gx rs1
    let b := n.gx rs2
    let z : BitVec 64 := imm.zeroExtend 64
    let i : BitVec 64 := imm.signExtend 64
    (∀ c v, (c, v) ∈ [
      (Instr.add k rd rs1 rs2, a + b), (Instr.sub k rd rs1 rs2, a - b), (Instr.and k rd rs1 rs2, a &&& b), (Instr.or k rd rs1 rs2, a ||| b),
      (Instr.xor k rd rs1 rs2, a ^^^ b), (Instr.sll k rd rs1 rs2, a <<< (b.toNat % 64)), (Instr.srl k rd rs1 rs2, a >>> (b.toNat % 64)),
      (Instr.sra k rd rs1 rs2, a.sshiftRight (b.toNat % 64)), (Instr.slt k rd rs1 rs2, if a.slt b then 1 else 0),
      (Instr.sltu k rd rs1 rs2, if a.ult b then 1 else 0), (Instr.mul k rd rs1 rs2, a * b),
      (Instr.mulh k rd rs1 rs2, (a.signExtend 128 * b.signExtend 128).extractLsb' 64 64),
      (Instr.mulhu k rd rs1 rs2, (a.zeroExtend 128 * b.zeroExtend 128).extractLsb' 64 64),
      (Instr.divs k rd rs1 rs2, if b = 0 then BitVec.allOnes 64 else a.sdiv b), (Instr.divu k rd rs1 rs2, if b = 0 then BitVec.allOnes 64 else a.udiv b),
      (Instr.rems k rd rs1 rs2, if b = 0 then a else a.srem b), (Instr.remu k rd rs1 rs2, if b = 0 then a else a.umod b),
      (Instr.addi k rd rs1 imm, a + i), (Instr.andi k rd rs1 imm, a &&& z), (Instr.ori k rd rs1 imm, a ||| z), (Instr.xori k rd rs1 imm, a ^^^ z),
      (Instr.slli k rd rs1 0 amount, a <<< amount.toNat), (Instr.srli k rd rs1 0 amount, a >>> amount.toNat),
      (Instr.srai k rd rs1 0 amount, a.sshiftRight amount.toNat), (Instr.lui k rd 0 imm, i <<< 16)] →
        exec c s = .next (ran s k (n.px rd v))) ∧
    exec (.movnz k rd rs1 rs2) s = .next (ran s k (if b = 0 then n else n.px rd a))

/-- x0 reads zero and ignores writes; other registers read what was written; f[r] is the low word of v[r]. Writing x[r] leaves every other register and, for r = 0, all of them as they were; x0 reads zero; a write of f[r] sets bits 63:0 of v[r] and keeps bits 2047:64, so a Bolt write of v[r] changes f[r] with it.
Formalises R275. -/
def Obligations.RegisterWritesReadBack : Prop :=
  ∀ (n : Needle) (r q : BitVec 5) (v : BitVec 64) (w : BitVec 2048),
    n.gx 0 = 0 ∧ n.px 0 v = n ∧ (n.px r v).gx q = (if q = r ∧ r ≠ 0 then v else n.gx q) ∧
    (n.pv r w).gv q = (if q = r then w else n.gv q) ∧ (n.pv r w).gf r = w.extractLsb' 0 64 ∧
    (n.pf r v).gf q = (if q = r then v else n.gf q) ∧ (n.pf r v).gv r >>> 64 = n.gv r >>> 64 ∧ (q ≠ r → (n.pf r v).gv q = n.gv q) ∧
    (n.px r v).v = n.v ∧ (n.px r v).mem = n.mem ∧ (n.px r v).pc = n.pc ∧ (n.pf r v).x = n.x ∧ (n.pf r v).mem = n.mem ∧ (n.pf r v).pc = n.pc

/-- Scalar loads write the extended little-endian number at the address and nothing else. For each scalar load whose address is naturally aligned and in the data space: exec answers the next state in which the destination holds the bytes read, zero- or sign-extended (FLD: the 64 raw bits in f[rd]), the pc is 4 further and nothing else differs.
Rests on R278, R279, R281. -/
def Obligations.LoadsReadTheDataSpace : Prop :=
  ∀ (s : State) (k rd rs1 : BitVec 5) (imm : BitVec 16) (j : Job), runsTask s k j →
    let n := s.needle k.toNat
    let a := n.gx rs1 + imm.signExtend 64
    (∀ c b v, (c, b, v) ∈ [
      (Instr.ld8u k rd rs1 imm, 1, fun x : Nat => BitVec.ofNat 64 x), (Instr.ld16u k rd rs1 imm, 2, fun x => BitVec.ofNat 64 x),
      (Instr.ld32u k rd rs1 imm, 4, fun x => BitVec.ofNat 64 x), (Instr.ld64 k rd rs1 imm, 8, fun x => BitVec.ofNat 64 x),
      (Instr.ld8s k rd rs1 imm, 1, fun x => (BitVec.ofNat 8 x).signExtend 64), (Instr.ld16s k rd rs1 imm, 2, fun x => (BitVec.ofNat 16 x).signExtend 64),
      (Instr.ld32s k rd rs1 imm, 4, fun x => (BitVec.ofNat 32 x).signExtend 64)] →
        readable a b → exec c s = .next (ran s k (n.px rd (v (ofLE ((List.range b).map (fun i => n.byte (a.toNat + i)))))))) ∧
    (readable a 8 → exec (.fld k rd rs1 imm) s =
      .next (ran s k (n.pf rd (BitVec.ofNat 64 (ofLE ((List.range 8).map (fun i => n.byte (a.toNat + i))))))))

/-- Scalar stores write the bytes of the source at the address and no other byte. For each scalar store whose address is naturally aligned and in local memory: exec answers a next state that differs in the local memory, the pc and the trace halt of that Needle only, and in which every byte of the data space reads as before except the stored bytes, which are the source little-endian.
Rests on R278, R279, R281. -/
def Obligations.StoresWriteExactlyTheirBytes : Prop :=
  ∀ (s : State) (k src rs1 : BitVec 5) (imm : BitVec 16) (j : Job), runsTask s k j →
    let n := s.needle k.toNat
    let a := n.gx rs1 + imm.signExtend 64
    ∀ c b v, (c, b, v) ∈ [(Instr.st8 k src rs1 imm, 1, n.gx src), (Instr.st16 k src rs1 imm, 2, n.gx src), (Instr.st32 k src rs1 imm, 4, n.gx src),
      (Instr.st64 k src rs1 imm, 8, n.gx src), (Instr.fst k src rs1 imm, 8, n.gf src)] → writable a b →
        ∃ m, exec c s = .next (ran s k { n with mem := m }) ∧
          ∀ x, ({ n with mem := m } : Needle).byte x =
            if a.toNat ≤ x ∧ x < a.toNat + b then BitVec.ofNat 8 (v.toNat / 256 ^ (x - a.toNat)) else n.byte x

/-- Every write to local memory keeps its canonical form. Writing bytes to a memory in canonical form (addresses rising, no zero byte listed) gives a memory in canonical form; a parameter block laid out at task start has it (a form the model chose for its data).
Rests on 11_stitch_isa R278, R276. -/
def Obligations.NeedleMemoryKeepsItsForm : Prop :=
  (∀ (m : List Host.Cell) (a : Nat) (bs : Bytes), Memory.wf m = true → Memory.wf (writeBytes m a bs) = true) ∧
  (∀ (a : Nat) (bs : Bytes), Memory.wf (cellsOf a bs) = true) ∧
  (∀ (m : List Host.Cell) (a : Nat) (bs : Bytes) (x : Nat), tget (writeBytes m a bs) 0 x =
    if a ≤ x ∧ x < a + bs.length then byteAt bs (x - a) else tget m 0 x)

/-- CBR branches on its condition and JR jumps; a call or return target outside the code space is an exception. CBR with a condition of 0 to 5, and AL with rs1 and rs2 zero, goes to pc + 4 * off12 where the condition holds and the target is allowed, and on in order where it does not hold; JR goes to x[rs1] where that target is allowed. Nothing but the pc and a trace halt differs.
Rests on R277, R280, R285. -/
def Obligations.BranchesAndJumpsGoToTheirTarget : Prop :=
  ∀ (s : State) (k rs1 rs2 : BitVec 5) (off : BitVec 12) (j : Job), runsTask s k j →
    let n := s.needle k.toNat
    let a := n.gx rs1
    let b := n.gx rs2
    let t := n.pc + (off.signExtend 64) * 4
    (∀ (c : BitVec 4) (h : Bool), (c, h) ∈ [(0, a == b), (1, a != b), (2, a.slt b), (3, !a.slt b), (4, a.ult b), (5, !a.ult b)] →
      (h = true → codeTarget t → exec (.cbr k c rs1 rs2 off) s = .next (withNeedle s k { n with pc := t })) ∧
      (h = false → exec (.cbr k c rs1 rs2 off) s = .next (ran s k n))) ∧
    (codeTarget t → exec (.cbr k 6 0 0 off) s = .next (withNeedle s k { n with pc := t })) ∧
    (codeTarget a → exec (.jr k rs1 0) s = .next (withNeedle s k { n with pc := a }))

/-- CALL and CALLR build the frame of R286 and RET undoes it. With x31 a multiple of 16, the frame inside local memory and an allowed target, CALL and CALLR answer the next state with the return address, the header and the named registers in the frame, zero padding, x31 lowered by the frame size, the pc at the target and no other byte of memory changed. RET on a frame with a consistent header, an allowed return address and x31 a multiple of 16 answers the state with the named registers, the pc and x31 restored from it.
Rests on R286, R287. -/
def Obligations.CallsBuildFramesThatReturnsUndo : Prop :=
  ∀ (s : State) (k rs1 : BitVec 5) (mask : BitVec 16) (off : BitVec 14) (j : Job), runsTask s k j →
    let n := s.needle k.toNat
    let regs := (List.range 16).filter (fun i => mask.getLsbD i)
    let size := (16 + 8 * regs.length + 15) / 16 * 16
    let lo := BitVec.ofNat 32 (mask.toNat + size / 16 * 65536)
    let top := (n.gx 31).toNat
    (∀ c t, (c, t) ∈ [(Instr.call k mask off, n.pc + off.signExtend 64 * 4), (Instr.callr k rs1 mask, n.gx rs1)] →
      codeTarget t → top % 16 = 0 → size ≤ top → top ≤ 0x40000 →
      ∃ m, exec c s = .next (withNeedle s k ({ n with mem := m, pc := t }.px 31 (BitVec.ofNat 64 (top - size)))) ∧
        (let n' : Needle := { n with mem := m }
         n'.load (top - size) 8 = (n.pc + 4).toNat ∧ n'.load (top - size + 8) 8 = ((~~~lo) ++ lo).toNat ∧
         (∀ p (h : p < regs.length), n'.load (top - size + 16 + 8 * p) 8 = (n.gx (BitVec.ofNat 5 (8 + regs[p]))).toNat) ∧
         (∀ x, 16 + 8 * regs.length ≤ x → x < size → n'.byte (top - size + x) = 0) ∧
         (∀ x, (x < top - size ∨ top ≤ x) → n'.byte x = n.byte x))) ∧
    (top % 16 = 0 → top + size ≤ 0x41000 → n.load (top + 8) 8 = ((~~~lo) ++ lo).toNat → codeTarget (BitVec.ofNat 64 (n.load top 8)) →
      ∃ n', exec (.ret k 0 0) s = .next (withNeedle s k n') ∧ n'.pc = BitVec.ofNat 64 (n.load top 8) ∧ n'.mem = n.mem ∧
        n'.gx 31 = BitVec.ofNat 64 (top + size) ∧ n'.v = n.v ∧
        (∀ p (h : p < regs.length), n'.gx (BitVec.ofNat 5 (8 + regs[p])) = BitVec.ofNat 64 (n.load (top + 16 + 8 * p) 8)) ∧
        (∀ r : BitVec 5, r ≠ 31 → ¬(8 ≤ r.toNat ∧ r.toNat < 24 ∧ mask.getLsbD (r.toNat - 8) = true) → n'.gx r = n.gx r))

/-- The scalar floating-point instructions write their result, add their sticky flags and change nothing else. Each scalar floating-point instruction answers the next state in which its destination holds the rounded result under FCSR.RM, the flags it raises are ORed into FCSR and the pc is 4 further. FCSR.R returns FCSR; FCSR.W writes the flags and, for an RM of 0 to 3, RM.
Rests on R281, R290, R291. -/
def Obligations.ScalarFloatsWriteResultAndFlags : Prop :=
  ∀ (s : State) (k rd rs1 rs2 : BitVec 5) (j : Job), runsTask s k j →
    let n := s.needle k.toNat
    let x := n.gf rs1
    let y := n.gf rs2
    (∀ c r, (c, r) ∈ [
      (Instr.fadd k rd rs1 rs2, fadd n.rm x y), (Instr.fsub k rd rs1 rs2, fsub n.rm x y), (Instr.fmul k rd rs1 rs2, fmul n.rm x y),
      (Instr.fdiv k rd rs1 rs2, fdiv n.rm x y), (Instr.fsqrt k rd rs1 0, fsqrt n.rm x), (Instr.fma k rd rs1 rs2, fma n.rm x y (n.gf rd)),
      (Instr.fmin k rd rs1 rs2, fminmax false x y), (Instr.fmax k rd rs1 rs2, fminmax true x y),
      (Instr.fcvtDL k rd rs1 0, fcvtDL n.rm (n.gx rs1)), (Instr.fmvDX k rd rs1 0, { val := n.gx rs1 })] →
        exec c s = .next (ran s k ({ n with fflags := n.fflags ||| r.flags }.pf rd r.val))) ∧
    (∀ c r, (c, r) ∈ [
      (Instr.fcmpEq k rd rs1 rs2, fcmp .eq x y), (Instr.fcmpLt k rd rs1 rs2, fcmp .lt x y), (Instr.fcmpLe k rd rs1 rs2, fcmp .le x y),
      (Instr.fcvtLD k rd rs1 0, fcvtLD n.rm x), (Instr.fmvXD k rd rs1 0, { val := x }),
      (Instr.fcsrR k rd 0 0, { val := (0#56 ++ n.rm ++ n.fflags) })] →
        exec c s = .next (ran s k ({ n with fflags := n.fflags ||| r.flags }.px rd r.val))) ∧
    exec (.fcsrW k 0 rs1 0) s = .next (ran s k { n with
      rm := if (n.gx rs1).extractLsb' 5 3 < 4#3 then (n.gx rs1).extractLsb' 5 3 else n.rm, fflags := (n.gx rs1).extractLsb' 0 5 })

/-- Every NaN result of an arithmetic instruction is the canonical quiet NaN. Whatever the operands and the rounding mode, a NaN that FADD, FSUB, FMUL, FDIV, FSQRT, FMA, FMIN, FMAX or FCVT.D.L gives is 0x7FF8_0000_0000_0000.
Rests on R290. -/
def Obligations.FloatNansAreCanonical : Prop :=
  ∀ (rm : BitVec 3) (x y z : BitVec 64),
    ∀ r ∈ [fadd rm x y, fsub rm x y, fmul rm x y, fdiv rm x y, fsqrt rm x, fma rm x y z, fminmax false x y, fminmax true x y, fcvtDL rm x],
      (fdecode r.val).isNan = true → r.val = 0x7FF8000000000000#64

/-- Comparisons, minima and conversions treat NaNs, signed zeros and range as R290 says. A comparison with a NaN gives 0, NV for a signalling NaN in FCMP.EQ and for any NaN in LT and LE; FMIN and FMAX return the other operand for one NaN and order -0 below +0; FCVT.L.D of a NaN is 2^63 - 1 with NV and saturates with NV.
Rests on R290. -/
def Obligations.FloatCornersFollowTheRules : Prop :=
  (∀ (c : FCmp) (x y : BitVec 64), (fdecode x).isNan = true ∨ (fdecode y).isNan = true →
    (fcmp c x y).val = 0 ∧ ((fcmp c x y).flags = 16 ↔ c ≠ .eq ∨ (fdecode x).isSnan = true ∨ (fdecode y).isSnan = true)) ∧
  (∀ (l : Bool) (x y : BitVec 64), (fdecode x).isNan = true → (fdecode y).isNan = false → (fminmax l x y).val = y ∧ (fminmax l y x).val = y) ∧
  (fminmax false 0 0x8000000000000000).val = 0x8000000000000000 ∧ (fminmax true 0x8000000000000000 0).val = 0 ∧
  (∀ (rm : BitVec 3) (x : BitVec 64), (fdecode x).isNan = true → fcvtLD rm x = { val := 0x7FFFFFFFFFFFFFFF, flags := 16 }) ∧
  (∀ rm : BitVec 3, fcvtLD rm 0x43E0000000000000 = { val := 0x7FFFFFFFFFFFFFFF, flags := 16 } ∧
    fcvtLD rm 0xFFF0000000000000 = { val := 0x8000000000000000, flags := 16 })

/-- Bolt arithmetic computes the active elements below VL, keeps the inactive ones and clears those above. For each element-wise Bolt instruction on a Needle whose vector unit is ready, exec answers the next state in which vd holds, in element i: the result where i is below VL and active, its old value where i is below VL and inactive, zero from VL on; with VL = 0 no register changes; the pc is 4 further. Sources are those before the instruction.
Rests on R293, R294, R295. -/
def Obligations.BoltArithmeticComputesActiveElements : Prop :=
  ∀ (s : State) (k vd vs1 vs2 : BitVec 5) (m : Bool) (j : Job), runsTask s k j → boltReady s k →
    let n := s.needle k.toNat
    let w := n.ew
    let a := fun i => elem (n.gv vs1) w i
    let b := fun i => elem (n.gv vs2) w i
    let sg := fun x : Nat => if 2 ^ (w - 1) ≤ x then (x : Int) - 2 ^ w else x
    let put := fun (e : Nat) (f : Nat → Nat) => if n.vl = 0 then n else
      n.pv vd (BitVec.ofNat 2048 (ofElems e ((List.range n.vl).map (fun i => if !m || (n.gv 0).getLsbD i then f i else elem (n.gv vd) e i))))
    (∀ c f, (c, f) ∈ [
      (Instr.vadd k m vd vs1 vs2, fun i => a i + b i), (Instr.vsub k m vd vs1 vs2, fun i => a i + 2 ^ w - b i),
      (Instr.vand k m vd vs1 vs2, fun i => a i &&& b i), (Instr.vor k m vd vs1 vs2, fun i => a i ||| b i), (Instr.vxor k m vd vs1 vs2, fun i => a i ^^^ b i),
      (Instr.vmul k m vd vs1 vs2, fun i => a i * b i), (Instr.vmulhu k m vd vs1 vs2, fun i => a i * b i / 2 ^ w),
      (Instr.vsll k m vd vs1 vs2, fun i => a i * 2 ^ (b i % w)), (Instr.vsrl k m vd vs1 vs2, fun i => a i / 2 ^ (b i % w)),
      (Instr.vsra k m vd vs1 vs2, fun i => (sg (a i) / 2 ^ (b i % w) % 2 ^ w).toNat),
      (Instr.vmin k m vd vs1 vs2, fun i => if sg (a i) ≤ sg (b i) then a i else b i), (Instr.vmax k m vd vs1 vs2, fun i => if sg (a i) ≤ sg (b i) then b i else a i),
      (Instr.vminu k m vd vs1 vs2, fun i => min (a i) (b i)), (Instr.vmaxu k m vd vs1 vs2, fun i => max (a i) (b i)),
      (Instr.vbcast k m vd vs1 0, fun _ => (n.gx vs1).toNat)] → exec c s = .next (ran s k (put w f))) ∧
    (∀ c f, (c, f) ∈ [
      (Instr.vcmpEq k m vd vs1 vs2, fun i => a i == b i), (Instr.vcmpLt k m vd vs1 vs2, fun i => decide (sg (a i) < sg (b i))),
      (Instr.vcmpLtu k m vd vs1 vs2, fun i => decide (a i < b i))] → exec c s = .next (ran s k (put 1 (fun i => if f i then 1 else 0))))

/-- The elements of a vector that an instruction assembles read back, and those above are zero. Element i of a register assembled from fewer than 2,048 / EW elements is the i-th value modulo 2^EW, and every element from VL on is 0.
Rests on R293. -/
def Obligations.BoltElementsReadBack : Prop :=
  ∀ (w : Nat) (l : List Nat), w ∈ [1, 8, 16, 32, 64] → w * l.length ≤ 2048 →
    (∀ i (h : i < l.length), elem (BitVec.ofNat 2048 (ofElems w l)) w i = l[i] % 2 ^ w) ∧
    (∀ i, l.length ≤ i → elem (BitVec.ofNat 2048 (ofElems w l)) w i = 0)

/-- VSETVL, VEXT, VRED.ADD and VSAD. VSETVL sets EW and VL and writes VL to rd; VEXT gives the zero-extended element, 0 for an index at or above VL, and changes no register with VL = 0; VRED.ADD puts the sum of the active elements into element 0 (the other elements below VL staying is the model's reading, log 42); VSAD puts the saturated sum of absolute differences of the active elements, signed or unsigned, into x[vd].
Rests on R292, R294, R298. -/
def Obligations.BoltScalarsAndSetup : Prop :=
  ∀ (s : State) (k vd vs1 vs2 : BitVec 5) (m sg : Bool) (j : Job), runsTask s k j → boltReady s k →
    let n := s.needle k.toNat
    let w := n.ew
    let e := fun v i => elem (n.gv v) w i
    let act := (List.range n.vl).filter (fun i => !m || (n.gv 0).getLsbD i)
    let sv := fun v i => if sg && decide (2 ^ (w - 1) ≤ e v i) then (e v i : Int) - 2 ^ w else e v i
    (vs2.toNat < 4 →
      let ew := [8, 16, 32, 64].getD vs2.toNat 0
      let vl := min (n.gx vs1).toNat (2048 / ew)
      exec (.vsetvl k false vd vs1 vs2) s = .next (ran s k { n.px vd (BitVec.ofNat 64 vl) with ew := ew, vl := vl })) ∧
    exec (.vext k false vd vs1 vs2) s = .next (ran s k (if n.vl = 0 then n else
      n.px vd (if (n.gx vs2).toNat < n.vl then BitVec.ofNat 64 (e vs1 (n.gx vs2).toNat) else 0))) ∧
    exec (.vredAdd k m vd vs1 0) s = .next (ran s k (if n.vl = 0 then n else n.pv vd (BitVec.ofNat 2048 (ofElems w
      ((List.range n.vl).map (fun i => if i = 0 then (act.map (e vs1)).sum else e vd i)))))) ∧
    exec (.vsad k m sg vd vs1 vs2) s = .next (ran s k (n.px vd (BitVec.ofNat 64
      (min (act.map (fun i => (sv vs1 i - sv vs2 i).natAbs)).sum (2 ^ 64 - 1)))))

/-- Bolt floating point computes the active elements of 64 bits and ORs their flags. With EW = 64 each Bolt floating-point instruction answers the next state in which the active elements of vd below VL hold the results under FCSR.RM, the inactive ones their old value and the elements from VL on zero, and the flags of the active elements are ORed into FCSR; with VL = 0 nothing but the pc changes.
Rests on R293, R294. -/
def Obligations.BoltFloatsComputeActiveElements : Prop :=
  ∀ (s : State) (k vd vs1 vs2 : BitVec 5) (m : Bool) (j : Job), runsTask s k j → boltReady s k → (s.needle k.toNat).ew = 64 →
    let n := s.needle k.toNat
    let a := fun i => BitVec.ofNat 64 (elem (n.gv vs1) 64 i)
    let b := fun i => BitVec.ofNat 64 (elem (n.gv vs2) 64 i)
    let d := fun i => BitVec.ofNat 64 (elem (n.gv vd) 64 i)
    let act := (List.range n.vl).filter (fun i => !m || (n.gv 0).getLsbD i)
    ∀ c f, (c, f) ∈ [
      (Instr.vfadd k m vd vs1 vs2, fun i => fadd n.rm (a i) (b i)), (Instr.vfsub k m vd vs1 vs2, fun i => fsub n.rm (a i) (b i)),
      (Instr.vfmul k m vd vs1 vs2, fun i => fmul n.rm (a i) (b i)), (Instr.vfma k m vd vs1 vs2, fun i => fma n.rm (a i) (b i) (d i)),
      (Instr.vfdiv k m vd vs1 vs2, fun i => fdiv n.rm (a i) (b i)), (Instr.vfsqrt k m vd vs1 0, fun i => fsqrt n.rm (a i)),
      (Instr.vfcvtDL k m vd vs1 0, fun i => fcvtDL n.rm (a i)), (Instr.vfcvtLD k m vd vs1 0, fun i => fcvtLD n.rm (a i))] →
        exec c s = .next (ran s k (if n.vl = 0 then n else
          { n with fflags := n.fflags ||| act.foldl (fun x i => x ||| (f i).flags) 0 }.pv vd (BitVec.ofNat 2048 (ofElems 64
            ((List.range n.vl).map (fun i => if !m || (n.gv 0).getLsbD i then (f i).val.toNat else elem (n.gv vd) 64 i))))))

/-- Vector loads read, and vector stores write, exactly the active elements. Where every active element's address is aligned to EW/8 and in range, each vector load answers the next state with the active elements read from memory as it stood, the inactive ones below VL kept and those from VL on zero; each vector store answers a next state whose local memory is that of storing the active elements in ascending order: a byte that several elements address holds that of the element with the highest index, and no byte outside those elements changes.
Formalises R297. -/
def Obligations.BoltMemoryMovesActiveElements : Prop :=
  ∀ (s : State) (k vd vs1 vs2 : BitVec 5) (m : Bool) (j : Job), runsTask s k j → boltReady s k →
    let n := s.needle k.toNat
    let b := n.ew / 8
    let act := (List.range n.vl).filter (fun i => !m || (n.gv 0).getLsbD i)
    let unit := fun i : Nat => n.gx vs1 + BitVec.ofNat 64 (i * b)
    let stride := fun i : Nat => n.gx vs1 + BitVec.ofNat 64 i * n.gx vs2
    let index := fun i : Nat => n.gx vs1 + BitVec.ofNat 64 (elem (n.gv vs2) n.ew i * b)
    (∀ c f, (c, f) ∈ [(Instr.vld k m vd vs1 0, unit), (Instr.vlds k m vd vs1 vs2, stride), (Instr.vgather k m vd vs1 vs2, index)] →
      (∀ i ∈ act, readable (f i) b) →
        exec c s = .next (ran s k (if n.vl = 0 then n else n.pv vd (BitVec.ofNat 2048 (ofElems n.ew ((List.range n.vl).map (fun i =>
          if !m || (n.gv 0).getLsbD i then ofLE ((List.range b).map (fun x => n.byte ((f i).toNat + x))) else elem (n.gv vd) n.ew i))))))) ∧
    (∀ c f, (c, f) ∈ [(Instr.vst k m vd vs1 0, unit), (Instr.vsts k m vd vs1 vs2, stride), (Instr.vscatter k m vd vs1 vs2, index)] →
      (∀ i ∈ act, writable (f i) b) →
        ∃ mem, exec c s = .next (ran s k { n with mem := mem }) ∧
          (∀ x, (∀ i ∈ act, x < (f i).toNat ∨ (f i).toNat + b ≤ x) → ({ n with mem := mem } : Needle).byte x = n.byte x) ∧
          (∀ i ∈ act, ∀ x < b, (∀ i' ∈ act, i < i' → (f i).toNat + x < (f i').toNat ∨ (f i').toNat + b ≤ (f i).toNat + x) →
            ({ n with mem := mem } : Needle).byte ((f i).toNat + x) = BitVec.ofNat 8 (elem (n.gv vd) n.ew i / 256 ^ x)))

/-- The Press loads, accumulates, shifts, reads and clears as R299 says. PLDA loads PA from 64 aligned bytes of local memory (no stop being requested); PMAC adds PA times x[rs2] to ACC modulo 2^640; PSHR returns the low word and shifts ACC right by 64; PRD reads word j from 0 to 9; PCLR clears ACC; PLDACC loads ACC from 80 bytes aligned to 16. Nothing else differs but the pc.
Rests on R299. -/
def Obligations.PressComputes : Prop :=
  ∀ (s : State) (k rd rs1 rs2 : BitVec 5) (j : Job), runsTask s k j →
    let n := s.needle k.toNat
    let p := (n.gx rs1).toNat
    (p % 64 = 0 → p + 64 ≤ 0x40000 → (∀ i ∈ s.jobs, i.stop = none) → exec (.plda k 0 rs1 0) s =
      .next (ran s k { n with pa := BitVec.ofNat 512 (ofLE ((List.range 64).map (fun i => n.byte (p + i)))) })) ∧
    exec (.pmac k 0 0 rs2) s = .next (ran s k { n with acc := BitVec.ofNat 640 (n.acc.toNat + n.pa.toNat * (n.gx rs2).toNat) }) ∧
    exec (.pshr k rd 0 0) s = .next (ran s k { n.px rd (n.acc.extractLsb' 0 64) with acc := n.acc >>> 64 }) ∧
    ((n.gx rs2).toNat < 10 → exec (.prd k rd 0 rs2) s = .next (ran s k (n.px rd (n.acc.extractLsb' (64 * (n.gx rs2).toNat) 64)))) ∧
    exec (.pclr k 0 0 0) s = .next (ran s k { n with acc := 0 }) ∧
    (p % 16 = 0 → p + 80 ≤ 0x40000 → exec (.pldacc k 0 rs1 0) s =
      .next (ran s k { n with acc := BitVec.ofNat 640 (ofLE ((List.range 80).map (fun i => n.byte (p + i)))) }))

/-- FXIN, FXOUT, KRECV, RAND and END complete, and act as R300 and R301 say. On a Needle that runs a task exec answers a next state for each of them. FXIN within its bounds copies len input bytes into local memory (len may be 0); FXOUT within its bounds puts len local bytes into the staging of the argument and changes nothing else but the count of free values; KRECV puts both shares of the key bound first into the key window, the same ones on every KRECV of a task, and the length of one into rd, and the shares first drawn join to the key (a task without a key gets a free length and nothing else, the reading of log 43); RAND changes rd, the pc, its generator and the count of free values, and on a stalled generator waits, the state as it was; END wipes the Needle and leaves the job decided with the low 16 bits of x[rs1] as status where R117 lists them and ENGINE_FAULT elsewhere, for SUCCESS with the staged outputs.
Rests on R300, R301, R117. -/
def Obligations.TaskInstructionsMoveDataAndEnd : Prop :=
  ∀ (s : State) (k rd rs1 rs2 : BitVec 5) (arg : BitVec 4) (j : Job), runsTask s k j →
    let n := s.needle k.toNat
    let d := (n.gx rd).toNat
    let p := (n.gx rs1).toNat
    let len := (n.gx rs2).toNat
    let input := tget j.inputs [] arg.toNat
    let old := tget n.fxout [] arg.toNat
    let st := if knownStatus.contains (p % 65536) then p % 65536 else 0x0502
    (d + len ≤ 0x40000 → p + len ≤ input.length → ∃ m, exec (.fxin k rd rs1 rs2 arg) s = .next (ran s k { n with mem := m }) ∧
      ∀ x, ({ n with mem := m } : Needle).byte x = if d ≤ x ∧ x < d + len then byteAt input (p + (x - d)) else n.byte x) ∧
    (d + len ≤ 0x40000 → p + len ≤ s.outputMax j arg.toNat → ∃ b, exec (.fxout k rd rs1 rs2 arg) s =
        .next { ran s k { n with fxout := tput n.fxout [] arg.toNat b } with freeCtr := s.freeCtr + 1 } ∧
      b.length = (if len = 0 then old.length else max (p + len) old.length) ∧ (∀ x < len, byteAt b (p + x) = n.byte (d + x)) ∧
      (∀ x < old.length, x < p ∨ p + len ≤ x → byteAt b x = byteAt old x)) ∧
    (∀ b bs, j.bound = b :: bs →
      let sh := n.shares.getD (drawShares s b.material)
      exec (.krecv k rd 0 0 0) s = .next { ran s k { n.px rd (BitVec.ofNat 64 sh.1.length) with
        shares := some sh, window := cellsOf 0 (fit 2048 sh.1) ++ cellsOf 2048 (fit 2048 sh.2) } with freeCtr := s.freeCtr + 1 }) ∧
    (∀ (m : Bytes), m.length ≤ 2048 → (drawShares s m).1.length = m.length ∧
      xorBytes (drawShares s m).1 (drawShares s m).2 = m) ∧
    (j.bound = [] → ∃ v, exec (.krecv k rd 0 0 0) s = .next { ran s k (n.px rd v) with freeCtr := s.freeCtr + 1 }) ∧
    (s.stalled (0x40 + k.toNat) = false → ∃ v g, exec (.rand k rd 0 0 0) s =
        .next { ran s k (n.px rd v) with freeCtr := s.freeCtr + 1, rng := { s.rng with gens := g } }) ∧
    (s.stalled (0x40 + k.toNat) = true → exec (.rand k rd 0 0 0) s = .next s) ∧
    exec (.endTask k 0 rs1 0 0) s = .next (decideJob j.id st n.fxout (s.modNeedle k.toNat (fun _ => {}))) ∧
    (∀ t, exec (.endTask k 0 rs1 0 0) s = .next t → t.needle k.toNat = {} ∧
      ∃ j', t.job? j.id = some j' ∧ j'.phase = .decided ∧ j'.status = st ∧ j'.outs = if st = 0 then n.fxout else [])

/-- ILLEGAL, ALIGN and ACCESS end the task with ENGINE_FAULT and no other effect of the instruction. A misaligned or out-of-range scalar access, JR or CALLR to a target outside the code space or misaligned, RET with a misaligned x31, a branch condition of 7 to 15, a non-zero mask16 in JR or RET, PRD with an index above 9, and VFADD with EW other than 64 all give the one outcome of R288: the Needle is wiped, the job is being wiped with ENGINE_FAULT, and event 0x10 is recorded against the Needle.
Rests on R277, R278, R279, R281, R285, R286, R288. -/
def Obligations.NeedleExceptionsEndTheTask : Prop :=
  ∀ (s : State) (k rd rs1 rs2 : BitVec 5) (imm mask : BitVec 16) (off : BitVec 12) (c : BitVec 4) (m : Bool) (j : Job), runsTask s k j →
    let n := s.needle k.toNat
    let a := n.gx rs1 + imm.signExtend 64
    let out := Host.Outcome.next (φ := Fault) (ρ := Refusal) (raiseEvent 0x10 (0x40 + k.toNat) (.engine (0x40 + k.toNat)) .own
      (endWiping j.id 0x0502 (s.modNeedle k.toNat (fun _ => {}))))
    (∀ i b, (i, b) ∈ [(Instr.ld8u k rd rs1 imm, 1), (Instr.ld8s k rd rs1 imm, 1), (Instr.ld16u k rd rs1 imm, 2), (Instr.ld16s k rd rs1 imm, 2),
      (Instr.ld32u k rd rs1 imm, 4), (Instr.ld32s k rd rs1 imm, 4), (Instr.ld64 k rd rs1 imm, 8), (Instr.fld k rd rs1 imm, 8)] → ¬ readable a b → exec i s = out) ∧
    (∀ i b, (i, b) ∈ [(Instr.st8 k rd rs1 imm, 1), (Instr.st16 k rd rs1 imm, 2), (Instr.st32 k rd rs1 imm, 4), (Instr.st64 k rd rs1 imm, 8),
      (Instr.fst k rd rs1 imm, 8)] → ¬ writable a b → exec i s = out) ∧
    (7 ≤ c.toNat → exec (.cbr k c rs1 rs2 off) s = out) ∧
    (¬ codeTarget (n.gx rs1) → exec (.jr k rs1 0) s = out ∧ exec (.callr k rs1 mask) s = out) ∧
    ((n.gx 31).toNat % 16 ≠ 0 → exec (.ret k 0 0) s = out) ∧
    (mask ≠ 0 → exec (.jr k rs1 mask) s = out ∧ exec (.ret k 0 mask) s = out) ∧
    (9 < (n.gx rs2).toNat → exec (.prd k rd 0 rs2) s = out) ∧
    (boltReady s k → n.ew ≠ 64 → exec (.vfadd k m rd rs1 rs2) s = out)

/-- Digest, cipher, AEAD, CMAC and key-wrap jobs decide with their result. A computing job of each of these opcodes ends its computation with the status and the staged outputs of its rule: the digest or the comparison with input 1; the enciphered or deciphered data; ciphertext, tag and drawn IV; the plaintext, or AUTH_FAILED where the tag differs; the MAC or its verdict; the wrapped or unwrapped data. Nothing else differs but the job, the miss counters and contexts, and for a ciphertext above 1 MiB what streaming the rest of the plaintext leaves. The standards' functions themselves are named, not evaluated (log 5).
Rests on R108, R112, R186, R187, R189, R268, R270. -/
def Obligations.DigestAndSymmetricJobsDecide : Prop :=
  ∀ (s : State) (id : Nat) (j : Job),
    let p := j.params
    let x := j.input 0
    let k := symKey j.keyB
    let f := j.pb 0
    let d := digestOf f (fieldLE p 8 4) (if isKeyed f then macKey j.keyB else []) (cut p 16 (j.pb 12)) (cut p (16 + j.pb 12) (j.pb 13)) x
    let ct := gcmData f k j.iv x
    let kwp : Bool := j.pb 1 == 1
    let cmp : Bool := (j.pb 1).testBit 0
    let good : Bool := gcmTag f (j.pb 2) k j.iv (j.input 1) x == cut p 24 (j.pb 2)
    (∀ c op cond st outs, (c, op, cond, st, outs) ∈ [
      (Instr.digest id, 0x0601, !cmp, 0, [(0, d)]),
      (Instr.digest id, 0x0601, cmp, if d.take (fieldLE p 2 2) = j.input 1 then 0 else 0x0001, []),
      (Instr.cipherEncrypt id, 0x0501, true, 0, [(0, cipher true f (j.pb 1) k (cut p 8 16) x)]),
      (Instr.cipherDecrypt id, 0x0502, true, 0, [(0, cipher false f (j.pb 1) k (cut p 8 16) x)]),
      (Instr.gcmEncrypt id, 0x0511, j.pb 1 == 1, 0, [(0, ct), (1, gcmTag f (j.pb 2) k j.iv (j.input 1) ct), (2, fit 12 j.seed)]),
      (Instr.gcmEncrypt id, 0x0511, j.pb 1 != 1, 0, [(0, ct), (1, gcmTag f (j.pb 2) k (cut p 12 12) (j.input 1) ct)]),
      (Instr.gcmDecrypt id, 0x0512, decide (x.length ≤ 1048576) && good, 0, [(0, ct)]),
      (Instr.gcmDecrypt id, 0x0512, decide (x.length ≤ 1048576) && !good, 0x0003, []),
      (Instr.cmacGenerate id, 0x0521, true, 0, [(0, cmacOf f (j.pb 2) k x)]),
      (Instr.cmacVerify id, 0x0522, true, if cmacOf f (j.pb 2) k x = j.input 1 then 0 else 0x0003, []),
      (Instr.kwWrap id, 0x0531, !kwp, 0, [(0, alg .kw (x.length + 8) [k, x])]),
      (Instr.kwWrap id, 0x0531, kwp, 0, [(0, alg .kwp (roundUp x.length 8 + 8) [k, x])]),
      (Instr.kwUnwrap id, 0x0532, kwp && Config.check .kwpOk [k, x], 0, [(0, (Config.crypto .kwpUnwrap [k, x]).take (x.length - 8))]),
      (Instr.kwUnwrap id, 0x0532, !kwp && Config.check .kwOk [k, x], 0, [(0, alg .kwUnwrap (x.length - 8) [k, x])]),
      (Instr.kwUnwrap id, 0x0532, !Config.check (if kwp then .kwpOk else .kwOk) [k, x], 0x0003, [])] →
      computes s id op j → ∃ t, exec c s = .next t ∧ (cond = true → decidedAs t id st outs ∧ onlyJob s t id)) ∧
    (∀ u, 1048576 < x.length → streamOut j (ct.drop j.streamed) s = (u, true) → computes s id 0x0512 j →
      ∃ t, exec (.gcmDecrypt id) s = .next t ∧ ends u t id (if good then 0 else 0x0003) (if good then [(0, ct)] else []))

/-- Session steps extend, finish, free and leave their context as R180 to R184 say. UPDATE appends its message part to the context named; a FINAL that succeeds frees the context under its next generation, one whose comparison differs leaves it as it was; CLOSE frees it; the opening job gives the reference of the context allocated at dispatch and binds function and key to it. Nothing else differs but the job, where no other job refers to a context that is freed.
Rests on R180, R183, R184, R187, R270. -/
def Obligations.SessionStepsKeepTheirContext : Prop :=
  ∀ (s : State) (id : Nat) (j : Job),
    let c := j.ctxOf
    let x := s.ctx c
    let free : Ctx := { sgen := x.sgen + 1 }
    let more : Ctx := { x with absorbed := x.absorbed ++ j.input 0 }
    let dig := digestOf x.func (fieldLE j.params 20 4) x.key (x.custom.take x.nlen) (x.custom.drop x.nlen) (x.absorbed ++ j.input 0)
    let cmp : Bool := (j.pb 4).testBit 0
    let alone : Prop := ∀ k ∈ s.jobs, k.id ≠ id → k.session ≠ some c ∧ k.ctxOld.any (fun o => o.1 == c) = false
    let differs := cmp && decide (dig.take (fieldLE j.params 6 2) ≠ j.input 1)
    (∀ i op cond st outs ctx, (i, op, cond, st, outs, ctx) ∈ [
      (Instr.sessionUpdate id, 0x0611, true, 0, [], more),
      (Instr.sessionFinal id, 0x0612, !cmp, 0, [(0, dig)], free),
      (Instr.sessionFinal id, 0x0612, cmp && !differs, 0, [], free),
      (Instr.sessionClose id, 0x0613, true, 0, [], free),
      (Instr.gcmSessionUpdate id, 0x0519, true, 0, [(0, gcmPart x (j.input 0))], more),
      (Instr.gcmSessionFinal id, 0x051A, true, 0,
        [(0, gcmPart x (j.input 0)), (1, gcmTag x.func x.dlen x.key x.iv x.aad (gcmData x.func x.key x.iv (x.absorbed ++ j.input 0)))], free),
      (Instr.gcmSessionClose id, 0x051B, true, 0, [], free)] →
        computes s id op j → ∃ t, exec i s = .next t ∧ (cond = true → decidedAs t id st outs ∧ t.ctx c = ctx ∧ (alone → onlyJob s t id))) ∧
    (j.session = none → computes s id 0x0612 j → ∃ t, exec (.sessionFinal id) s = .next t ∧
      (differs = true → decidedAs t id 0x0001 [] ∧ t.ctx c = x ∧ onlyJob s t id)) ∧
    (∀ n, j.session = some n → computes s id 0x0610 j →
      ∃ t, exec (.sessionOpen id) s = .next t ∧ decidedAs t id 0 [(0, leBytes 4 ((s.ctx n).sgen.toNat * 65536 + n))] ∧
        (t.ctx n).func = j.pb 0 ∧ (t.ctx n).key = (if isKeyed (j.pb 0) then macKey j.keyB else []) ∧ onlyJob s t id) ∧
    (∀ n, j.session = some n → computes s id 0x0518 j →
      ∃ t, exec (.gcmSessionOpen id) s = .next t ∧
        decidedAs t id 0 ((0, leBytes 4 ((s.ctx n).sgen.toNat * 65536 + n)) :: (if j.pb 1 = 1 then [(1, j.iv)] else [])) ∧
        (t.ctx n).key = symKey j.keyB ∧ (t.ctx n).iv = j.iv ∧ (t.ctx n).aad = j.input 0 ∧ onlyJob s t id)

/-- Lattice and code-based jobs that create no key decide with their result. A computing job of ML-KEM, ML-DSA, FN-DSA, Classic McEliece or HQC that keeps no key (KOUT = 0) decides with the result of its rule: ciphertext and secret, or INPUT_KEY_INVALID for a supplied key that fails its check; the decapsulated secret; the signature; SUCCESS or SIGNATURE_INVALID; the public key or its window; the preload result. Nothing else differs but the job, miss counters and contexts, and for a streamed Classic McEliece key the cache entry being filled, which takes the key or is discarded with the digest failure counted. An FN-DSA signature that is not at its last stage is chained on to the next one (R139).
Rests on R139, R144, R145, R146, R147, R148, R228, R239, R240, R241, R242. -/
def Obligations.LatticeAndCodeJobsDecide : Prop :=
  ∀ (s : State) (id : Nat) (j : Job),
    let set := j.pb 0
    let f := j.pb 1
    let x := j.input 0
    let key := publicKey s j.keyB
    let ek := if f.testBit 0 then x else key
    let vk := if f.testBit 4 then j.input 1 else key
    let m := fit 32 j.seed
    let msg := [num (f % 4), num (j.pb 3), cut j.params 12 (j.pb 2), x]
    let rnd := if f.testBit 2 then zeros 32 else m
    let short := !f.testBit 1
    let cpk := encapsPk j s
    let refused := f.testBit 0 && !cbPkOk set cpk
    let wpk := if j.cacheRes = 0 then x else key
    let again := isCme set && decide (j.cacheRes ≠ 0)
    let stream := !f.testBit 0 && decide (j.cacheRes ≠ 0) && pkDigest cpk != j.keyB.digest
    let sizes := cbSizes set
    (∀ c op cond st outs, (c, op, cond, st, outs) ∈ [
      (Instr.mlKemEncaps id, 0x0102, short && !(f.testBit 0 && !Config.check .mlKemEkOk [num set, ek]), 0,
        [(0, alg .mlKemCt (latSizes set).2.1 [num set, ek, m]), (1, alg .mlKemSs 32 [num set, ek, m])]),
      (Instr.mlKemEncaps id, 0x0102, f.testBit 0 && !Config.check .mlKemEkOk [num set, ek], 0x0305, []),
      (Instr.mlKemDecaps id, 0x0103, short, 0, [(0, alg .mlKemDecaps 32 [num set, j.keyB.material, x])]),
      (Instr.mlDsaSign id, 0x0112, decide (Config.measure .mlDsaAttempts (num set :: j.keyB.material :: rnd :: msg) ≤ 814), 0,
        [(0, alg .mlDsaSign (latSizes set).2.2 (num set :: j.keyB.material :: rnd :: msg))]),
      (Instr.mlDsaVerify id, 0x0113, true,
        if (j.input 2).length = (latSizes set).2.2 ∧ Config.check .mlDsaVerify (num set :: vk :: j.input 2 :: msg) = true then 0 else 0x0002, []),
      (Instr.fnDsaSign id, 0x0122, fnDsaLast j, 0, [(0, alg .fnDsaSign (latSizes set).2.2 (num set :: j.keyB.material :: j.seed :: msg))]),
      (Instr.fnDsaVerify id, 0x0123, f.testBit 4 && !fnDsaPkOk set vk, 0x0305, []),
      (Instr.fnDsaVerify id, 0x0123, !(f.testBit 4 && !fnDsaPkOk set vk),
        if 41 ≤ (j.input 2).length ∧ (j.input 2).length ≤ (latSizes set).2.2 ∧ byteAt (j.input 2) 0 = (if set = 0x21 then 0x39 else 0x3A) ∧
          Config.check .fnDsaVerify (num set :: vk :: j.input 2 :: msg) = true then 0 else 0x0002, []),
      (Instr.latPublicKey id, 0x01F0, true, 0, [(0, key)]),
      (Instr.latPreload id, 0x01F1, true, 0, [(0, leBytes 4 (min j.cacheRes 2))]),
      (Instr.cmeEncaps id, 0x0302, refused, 0x0305, []),
      (Instr.cmeDecaps id, 0x0303, short, 0, [(0, alg .cmeDecaps 32 [num set, j.keyB.material, x])]),
      (Instr.hqcEncaps id, 0x0312, refused, 0x0305, []),
      (Instr.hqcEncaps id, 0x0312, !refused && short, 0,
        [(0, alg .hqcCt sizes.2.1 [num set, cpk, j.seed]), (1, alg .hqcSs 64 [num set, cpk, j.seed])]),
      (Instr.hqcDecaps id, 0x0313, short, 0, [(0, alg .hqcDecaps 64 [num set, j.keyB.material, x])]),
      (Instr.cbPublicKey id, 0x03F0, !(again && pkDigest wpk != j.keyB.digest), 0, [(0, cut wpk (fieldLE j.params 4 4) (fieldLE j.params 8 4))])] →
      computes s id op j → ∃ t, exec c s = .next t ∧ (cond = true → decidedAs t id st outs ∧ onlyJob s t id)) ∧
    (∀ c op cond u st outs, (c, op, cond, u, st, outs) ∈ [
      (Instr.cmeEncaps id, 0x0302, !refused && !stream && short, keepStreamed j s, 0,
        [(0, alg .cmeEncaps sizes.2.1 [num set, cpk, j.seed]), (1, alg .cmeEncaps sizes.2.2.1 [num set, cpk, j.seed, num 1])]),
      (Instr.cmeEncaps id, 0x0302, !refused && stream, dropFills j.id { s with eng.dpk.other := satInc s.eng.dpk.other }, 0x0305, []),
      (Instr.cbPreload id, 0x03F1, !(again && pkDigest x != j.keyB.digest), keepStreamed j s, 0, [(0, leBytes 4 (min j.cacheRes 2))]),
      (Instr.cbPreload id, 0x03F1, again && pkDigest x != j.keyB.digest, dropFills j.id { s with eng.dpk.other := satInc s.eng.dpk.other }, 0x0305, [])] →
      computes s id op j → ∃ t, exec c s = .next t ∧ (cond = true → ends u t id st outs)) ∧
    (computes s id 0x0122 j → fnDsaLast j = false → exec (.fnDsaSign id) s = .next (nextStage j s) ∧
      ∃ j', (nextStage j s).job? id = some j' ∧ j'.phase = .ready ∧ j'.stage = j.stage + 1 ∧
        (∀ o, j.other = some o → j'.cls = o.1 ∧ j'.charge = o.2.1))

/-- Classical public-key jobs decide with their result or the status of the first failing check. A computing ECDSA, EdDSA, RSA, KEY_AGREE (KOUT = 0), PK_PUBLIC_KEY or curve job decides with its result: the signature, the verdict after the checks on a supplied key, the shared secret, the ciphertext or plaintext, the public key; a curve is loaded or cleared only while no key names its slot. RSA private-key results here are those whose check passed; the parameters of the set are those the job was bound to at key resolution (R253).
Rests on R252, R253, R254, R255, R256, R257, R258, R259, R261, R262. -/
def Obligations.ClassicalJobsDecide : Prop :=
  ∀ (s : State) (id : Nat) (j : Job),
    let set := j.pb 0
    let f := j.pb 1
    let x := j.input 0
    let v := s.curvesOf j
    let cv := [num set, (v.curve set).getD []]
    let pk := j.pubKey s
    let bad := if f.testBit 0 then pkStatus v set pk else 0
    let fits := (j.input 2).length == v.sigLen set && sigRange v set pk (j.input 2)
    let ed := [num (f / 16 % 4), cut j.params 16 (j.pb 3)]
    let z := alg .ecdh (v.curveLen set) (cv ++ [j.keyB.material, x])
    let off := (isMont set && z.all (· == 0)) || decide (Config.measure .pointStatus (cv ++ [x, j.keyB.material]) ≠ 0)
    let rs := [num set, j.keyB.material, num (j.pb 2), num (f / 8 % 2), x, if f.testBit 3 then fit (phLen (j.pb 2)) j.seed else []]
    let rd := [num set, j.keyB.material, num (j.pb 2), cut j.params 16 (j.pb 3), x]
    let high := decide (ofBE (j.keyB.material.take (rsaLen set)) ≤ ofBE x)
    (∀ c op cond st outs, (c, op, cond, st, outs) ∈ [
      (Instr.ecdsaSign id, 0x0402, true, 0,
        [(0, alg .ecdsaSign (v.sigLen set) (cv ++ [j.keyB.material, num (j.pb 2), x, if f.testBit 2 then [] else j.seed]))]),
      (Instr.ecdsaVerify id, 0x0403, bad == 0,
        if fits = true ∧ Config.check .ecdsaVerify (cv ++ [pk, j.input 2, x, num (j.pb 2)]) = true then 0 else 0x0002, []),
      (Instr.ecdsaVerify id, 0x0403, bad != 0, bad, []),
      (Instr.keyAgree id, 0x0404, pkStatus v set x != 0, pkStatus v set x, []),
      (Instr.keyAgree id, 0x0404, pkStatus v set x == 0 && off, 0x0303, []),
      (Instr.keyAgree id, 0x0404, pkStatus v set x == 0 && !off && !f.testBit 1, 0, [(0, z)]),
      (Instr.eddsaSign id, 0x0411, true, 0, [(0, alg .eddsaSign (s.sigLen set) (num set :: j.keyB.material :: x :: ed))]),
      (Instr.eddsaVerify id, 0x0412, bad == 0,
        if fits = true ∧ Config.check .eddsaVerify (cv ++ [pk, j.input 2, x] ++ ed) = true then 0 else 0x0002, []),
      (Instr.eddsaVerify id, 0x0412, bad != 0, bad, []),
      (Instr.rsaSign id, 0x0421, Config.check .rsaCheck rs, 0, [(0, alg .rsaSign (rsaLen set) rs)]),
      (Instr.rsaVerify id, 0x0422, bad == 0,
        if fits = true ∧ Config.check .rsaVerify (cv ++ [pk, j.input 2, x, num (j.pb 2), num (f / 8 % 2)]) = true then 0 else 0x0002, []),
      (Instr.rsaVerify id, 0x0422, bad != 0, bad, []),
      (Instr.rsaOaepEncrypt id, 0x0423, bad == 0, 0,
        [(0, alg .rsaEncrypt (rsaLen set) [num set, pk, num (j.pb 2), cut j.params 16 (j.pb 3), x, fit (phLen (j.pb 2)) j.seed])]),
      (Instr.rsaOaepEncrypt id, 0x0423, bad != 0, bad, []),
      (Instr.rsaOaepDecrypt id, 0x0424, high, 0x0304, []),
      (Instr.rsaOaepDecrypt id, 0x0424, Config.check .rsaCheck rd && !high && decide (Config.measure .rsaDecryptStatus rd ≠ 0), 0x0307, []),
      (Instr.rsaOaepDecrypt id, 0x0424, Config.check .rsaCheck rd && !high && decide (Config.measure .rsaDecryptStatus rd = 0), 0,
        [(0, (Config.crypto .rsaDecrypt rd).take (rsaLen set - 2 * phLen (j.pb 2) - 2))]),
      (Instr.pkPublicKey id, 0x04F0, true, 0, [(0, publicKey v j.keyB)]),
      (Instr.ecCurveLoad id, 0x04E0, s.curveNamed set, 0x0107, []),
      (Instr.ecCurveLoad id, 0x04E0, !s.curveNamed set && !curveGood x j.seed, 0x0306, []),
      (Instr.ecCurveClear id, 0x04E1, s.curveNamed set, 0x0107, [])] →
      computes s id op j → ∃ t, exec c s = .next t ∧ (cond = true → decidedAs t id st outs ∧ onlyJob s t id)) ∧
    (∀ c op cond v, (c, op, cond, v) ∈ [(Instr.ecCurveLoad id, 0x04E0, curveGood x j.seed, some x), (Instr.ecCurveClear id, 0x04E1, true, none)] →
      s.curveNamed set = false → computes s id op j → ∃ t, exec c s = .next t ∧ (cond = true → decidedAs t id 0 [] ∧
        t.thm = { s.thm with curves := tput s.thm.curves none (set - 0x80) v }))

/-- Every job that generates, derives, persists or imports a key stores it and returns its handle. A computing job of each opcode that creates a key, once its own checks pass, lays the key down as R306 and R316 place it (or ends with the status that refuses room or quota), with the class, attributes, ORIGIN and material of its rule, and returns the handle and what else its rule returns. An attribute block that R309 refuses ends the job with BAD_PARAMETER. Shared secrets kept with KOUT become session-ephemeral keys. (PK.seed of a derived SLH-DSA key and the refusal of a derived seed that gives no key are the model's choices, logs 90 and 94.)
Rests on R143, R144, R199, R225, R257, R306, R316, R322, R329, R332, R340, R348. -/
def Obligations.KeyCreationStoresTheKey : Prop :=
  ∀ (s : State) (id : Nat) (j : Job),
    let a := j.input 0
    let set := j.pb 0
    let f := j.pb 1
    let src := f.testBit 0
    let x := j.input 0
    let key := publicKey s j.keyB
    let kb := j.keyB.attr
    let hOut := fun (kt : Bool) (t : State) (i : Nat) => [(0, handleBytes t kt i)]
    let pkOut := fun (t : State) (i : Nat) => [(0, publicKey t (t.bind true i)), (1, handleBytes t true i)]
    let hOf : Nat → State → Nat → List (Nat × Bytes) := fun cls => hOut (cls != 1)
    let attrGood := s.attrOk j.slice a
    let named := fun (fam : Nat) => attrGood && aFam a == fam && aAlg a == set && !aStateful a
    let latSeed := fit (if isKem set then 64 else 32) j.seed
    let kept := fun (alg_ : Nat) => koutAttr (if src then none else some kb) (if src then f.testBit 2 else aOrder2 kb) alg_ 0
    let keptBack := fun (alg_ : Nat) => koutAttr (some kb) (aOrder2 kb) alg_ 0
    let ek := if src then x else key
    let m := fit 32 j.seed
    let cpk := encapsPk j s
    let sizes := cbSizes set
    let v := s.curvesOf j
    let namedV := v.attrOk j.slice a && aFam a == 4 && aAlg a == set && !aStateful a
    let pkOutV := fun (t : State) (i : Nat) => [(0, publicKey (t.curvesOf j) (t.bind true i)), (1, handleBytes t true i)]
    let drawn (fam : Nat) : Bool := decide (j.seed ≠ []) && seedFits fam set j.seed
    let cv := [num set, (v.curve set).getD []]
    let z := alg .ecdh (v.curveLen set) (cv ++ [j.keyB.material, x])
    let off := (isMont set && z.all (· == 0)) || decide (Config.measure .pointStatus (cv ++ [x, j.keyB.material]) ≠ 0)
    let ksn := cut j.params 1 12
    let k := secretOf s j.keyB
    let info := j.input 1
    let p := fieldLE info 0 2
    let hash := if f = 2 then 32 else 48
    let derived := if f = 1 then kmac256 k (info.drop (2 + p)) (s.secretLen a) (cut info 2 p)
      else alg .hkdf (s.secretLen a) [num hash, if p = 0 then zeros hash else cut info 2 p, k, info.drop (2 + p)]
    (∀ c op cond cls attr origin mat outs, (c, op, cond, cls, attr, origin, mat, outs) ∈ [
      (Instr.mlKemKeygen id, 0x0101, named 1, f, a, 0#8, latSeed, pkOut),
      (Instr.mlDsaKeygen id, 0x0111, named 1, f, a, 0, latSeed, pkOut),
      (Instr.fnDsaKeygen id, 0x0121, named 1 && drawn 1, f, a, 0, latSeed, pkOut),
      (Instr.slhDsaKeygen id, 0x0201, named 2, f, a, 0, genMaterial s a j.seed, pkOut),
      (Instr.cmeKeygen id, 0x0301, named 3 && drawn 3, f, a, 0, genMaterial s a j.seed,
        fun t i => [(0, handleBytes t true i), (1, (t.bind true i).digest)]),
      (Instr.hqcKeygen id, 0x0311, named 3, f, a, 0, genMaterial s a j.seed, pkOut),
      (Instr.pkKeygen id, 0x0401, namedV, f, a, 0, genMaterial v a j.seed, pkOutV),
      (Instr.keyGenerate id, 0x0701, attrGood && (aFam a == 5 || aFam a == 6 || aFam a == 7), set, a, 0, genMaterial s a j.seed, hOf set),
      (Instr.keyPersist id, 0x0705, true, 1, kb, (s.slot j.keyB.kt j.keyB.index).origin, j.keyB.material, hOut false),
      (Instr.bdkGenerate id, 0x0920, attrGood && aFam a == 9 && !aStateful a, set, a, 0, genMaterial s a j.seed, hOf set),
      (Instr.dukptDeriveIk id, 0x0921, attrGood && aFam a == 5 && aAlg a == j.keyB.alg && (aUsage a &&& (uDerive + uExport)) == aUsage a &&
        ksnOk ksn && !aStateful a, 0, a, 2, alg .dukpt k.length [k, cut ksn 0 8, ascii "initial key"], hOut true),
      (Instr.mlKemEncaps id, 0x0102, f.testBit 1 && !(src && !Config.check .mlKemEkOk [num set, ek]), 2, kept 1, 0, alg .mlKemSs 32 [num set, ek, m],
        fun t i => [(0, alg .mlKemCt (latSizes set).2.1 [num set, ek, m]), (1, handleBytes t true i)]),
      (Instr.mlKemDecaps id, 0x0103, f.testBit 1, 2, keptBack 1, 0, alg .mlKemDecaps 32 [num set, j.keyB.material, x], hOut true),
      (Instr.cmeEncaps id, 0x0302, f.testBit 1 && !(src && !cbPkOk set cpk) && !(!src && decide (j.cacheRes ≠ 0) && pkDigest cpk != j.keyB.digest),
        2, kept 1, 0, alg .cmeEncaps sizes.2.2.1 [num set, cpk, j.seed, num 1],
        fun t i => [(0, alg .cmeEncaps sizes.2.1 [num set, cpk, j.seed]), (1, handleBytes t true i)]),
      (Instr.cmeDecaps id, 0x0303, f.testBit 1, 2, keptBack 1, 0, alg .cmeDecaps 32 [num set, j.keyB.material, x], hOut true),
      (Instr.hqcEncaps id, 0x0312, f.testBit 1 && !(src && !cbPkOk set cpk), 2, kept 2, 0, alg .hqcSs 64 [num set, cpk, j.seed],
        fun t i => [(0, alg .hqcCt sizes.2.1 [num set, cpk, j.seed]), (1, handleBytes t true i)]),
      (Instr.hqcDecaps id, 0x0313, f.testBit 1, 2, keptBack 2, 0, alg .hqcDecaps 64 [num set, j.keyB.material, x], hOut true),
      (Instr.keyAgree id, 0x0404, f.testBit 1 && pkStatus v set x == 0 && !off, 2,
        mkAttr 7 3 (aMasters kb) (aWorlds kb) (aLcs kb) 0 uDerive (v.curveLen set), 0, z, hOut true)] →
      computes s id op j → ∃ t, exec c s = .next t ∧ (cond = true → keyMade s t id j.slice cls attr origin mat outs)) ∧
    (∀ c op cond, (c, op, cond) ∈ [
      (Instr.mlKemKeygen id, 0x0101, named 1), (Instr.mlDsaKeygen id, 0x0111, named 1), (Instr.fnDsaKeygen id, 0x0121, named 1 || !drawn 1),
      (Instr.slhDsaKeygen id, 0x0201, named 2), (Instr.cmeKeygen id, 0x0301, named 3), (Instr.hqcKeygen id, 0x0311, named 3),
      (Instr.pkKeygen id, 0x0401, namedV), (Instr.keyGenerate id, 0x0701, attrGood && (aFam a == 5 || aFam a == 6 || aFam a == 7)),
      (Instr.keyDerive id, 0x0709, attrGood), (Instr.bdkGenerate id, 0x0920, attrGood && aFam a == 9),
      (Instr.dukptDeriveIk id, 0x0921, attrGood && aFam a == 5 && aAlg a == j.keyB.alg), (Instr.compositeBind id, 0x0A01, attrGood && aFam a == 0x0A),
      (Instr.hbsKeygen id, 0x0211, attrGood && aFam a == 2 && aAlg a == set && aStateful a && hbsHeight a == j.pb 2 && hbsW a == j.pb 3 &&
        hbsLevels a == j.pb 4)] →
      computes s id op j → ∃ t, exec c s = .next t ∧ (cond = false → decidedAs t id 0x0107 [] ∧ onlyJob s t id)) ∧
    (computes s id 0x0709 j → ∃ t, exec (.keyDerive id) s = .next t ∧
      ((attrGood && decide (p ≤ 256) && decide (p + 2 ≤ info.length) && !aStateful a && seedFits (aFam a) (aAlg a) derived) = true →
        keyMade (fresh s) t id j.slice set a 2
          (if aFam a = 2 then genMaterial s a (derived ++ Config.freeBytes s.freeCtr 32)
           else if aFam a = 3 ∨ (isRsa (aAlg a) && aFam a == 4) = true then genMaterial s a derived else derived) (hOf set))) ∧
    (computes s id 0x0708 j → ∃ t, exec (.keyImportWrapped id) s = .next t ∧
      (match openBlob s j.slice 1 (j.keyB.material.take 32) x with
       | .inr st => st ≠ 0 → decidedAs t id st [] ∧ onlyJob s t id
       | .inl (b, mat) => aStateful b = false → keyMade s t id j.slice set b 1 mat (hOf set))) ∧
    (computes s id 0x0211 j → ∃ t, exec (.hbsKeygen id) s = .next t ∧
      ((attrGood && aFam a == 2 && aAlg a == set && aStateful a && hbsHeight a == j.pb 2 && hbsW a == j.pb 3 && hbsLevels a == j.pb 4) = true →
        match s.freePair, createKey 1 j.slice a 0 (genMaterial s a j.seed) s with
        | none, _ => decidedAs t id 0x0404 []
        | some _, .inr st => decidedAs t id st []
        | some n, .inl (s', i) => decidedAs t id 0 [(0, handleBytes s' false i)] ∧ t.hbs i = { pair := n } ∧ (t.pair n).used = true))

/-- COMPOSITE_BIND and KB_IMPORT store their key after the checks in the order the manual lists. COMPOSITE_BIND with parts of the algorithms its ALG names, whose usages cover the new key's, in masking order 1 and with persistent parts for a persistent key, stores the two handles; KB_IMPORT whose syntax, CMAC, usage, attributes and key pass stores the key with ORIGIN imported. Parts of other algorithms give KEY_ALGORITHM_MISMATCH.
Rests on R339, R340, R350, R351. -/
def Obligations.BoundKeysAreComposedAndImported : Prop :=
  ∀ (s : State) (id : Nat) (j : Job),
    let a := j.input 0
    let b0 := j.keyN 0
    let b1 := j.keyN 1
    let u := aUsage a &&& (uSign + uVerify + uEncaps + uDecaps)
    let parts := compositeParts (aAlg a)
    let attrGood := s.attrOk j.slice a && aFam a == 0x0A
    let partsGood := parts.any (fun p => b0.fam == p.1.1 && b0.alg == p.1.2 && b1.fam == p.2.1 && b1.alg == p.2.2)
    let rest := (aUsage b0.attr &&& u) == u && (aUsage b1.attr &&& u) == u &&
      (aUsage a &&& (if aAlg a < 0x10 then uSign + uVerify else uEncaps + uDecaps)) == aUsage a && !aOrder2 a && !(j.pb 0 == 1 && (b0.kt || b1.kt))
    let blk := j.input 0
    let ka := j.input 1
    let kbpk := secretOf s j.keyB
    let args := [num j.keyB.alg, kbpk, blk]
    let kb := fit (s.secretLen ka) (Config.crypto .keyBlockOpen args)
    let blockGood := cut blk 0 1 == ascii (if isTdes j.keyB.alg then "B" else "D") && Config.check .keyBlockOk [num j.keyB.alg, blk] &&
      Config.check .keyBlock args && (kbRow blk).any (fun r => aFam ka == r.2.2.1 && (aUsage ka &&& kbUsage blk r.2.2.2) == aUsage ka) &&
      s.attrOk j.slice ka && ascii (kbLetter (aFam ka) (aAlg ka)) == cut blk 7 1 && decide (Config.measure .keyBlockOpen args = s.secretLen ka) &&
      importStatus s ka kb == 0 && !aStateful ka
    (computes s id 0x0A01 j → ∃ t, exec (.compositeBind id) s = .next t ∧
      ((attrGood && partsGood && rest) = true → keyMade s t id j.slice (j.pb 0) a 0 (leBytes 8 b0.handle ++ leBytes 8 b1.handle)
        (fun t i => [(0, handleBytes t (j.pb 0 != 1) i)])) ∧
      ((attrGood && parts.isSome && !partsGood) = true → decidedAs t id 0x0206 [] ∧ onlyJob s t id)) ∧
    (computes s id 0x0931 j → ∃ t, exec (.kbImport id) s = .next t ∧
      (blockGood = true → keyMade s t id j.slice (j.pb 0) ka 1 kb (fun t i => [(0, handleBytes t (j.pb 0 != 1) i)])) ∧
      ((cut blk 0 1 == ascii (if isTdes j.keyB.alg then "B" else "D") && Config.check .keyBlockOk [num j.keyB.alg, blk] &&
        !Config.check .keyBlock args) = true → decidedAs t id 0x0003 [] ∧ onlyJob s t id))

/-- Hash-based signature jobs decide with their signature, verdict, key, record state or built nodes. SLH-DSA and HBS signing, verification and public-key jobs and HBS_STATE decide with the result of their rule and change nothing else. HBS_SIGN signs with the index assigned at dispatch once its path is read and hashes to the root held; a path that does not gives INPUT_MALFORMED. A stateful key of which no record can be kept ends each of these with ENGINE_FAULT (R210). A tree build in the order of R206 returns its nodes and stores the segment root or the tree's top part; one out of order gives BAD_PARAMETER.
Rests on R205, R206, R210, R215, R216, R217, R218, R219. -/
def Obligations.HashSignatureJobsDecide : Prop :=
  ∀ (s : State) (id : Nat) (j : Job),
    let set := j.pb 0
    let x := j.input 0
    let b := j.keyB
    let key := publicKey s b
    let f := j.pb 1
    let n := (slhSizes set).1
    let rnd := if f.testBit 2 then cut b.material 64 n else fit n j.seed
    let msg := [num (f % 4), num (j.pb 3), cut j.params 12 (j.pb 2), x]
    let vk := if f.testBit 4 then j.input 1 else key
    let pk := if f.testBit 0 then j.input 1 else key
    let dims := [num set, num (j.pb 2), num (j.pb 3), num (j.pb 4)]
    let head := hbsPkHead set (j.pb 2) (j.pb 3) (j.pb 4)
    let badHead : Bool := f.testBit 0 && pk.take head.length != head
    let k := s.hbs b.index
    let noRecord : Bool := aStateful b.attr && k.noPair
    let h := hbsHeight b.attr
    let lv := hbsLevels b.attr
    let q := k.settle b.attr
    let cur := q.current b.attr
    let under := if lv = 2 ∧ (q.root? 1 0).isNone then (q.tree? 1 0).getD ((q.tree? 0 (q.building b.attr)).getD { level := 0, tree := 0 })
      else (q.tree? 0 (q.building b.attr)).getD { level := 0, tree := 0 }
    let bits := flag (q.next < q.limit b.attr && !q.spent && !q.noPair) + 2 * flag ((q.installedTrees lv).any (fun t => decide (cur < t))) +
      4 * flag (!q.abandoned.isEmpty)
    let seg := fieldLE j.params 2 2
    let t0 := fieldLE j.params 4 4
    let nodes := buildNodes b set t0 seg
    let one := decide (h ≤ 14)
    let top := one || seg == 0xFFFF
    let out := decide (lv ≤ set) || !(seg == 0xFFFF || decide (seg < hbsSegs h)) || !k.mayBuild b.attr set t0 ||
      (seg == 0xFFFF && !one && ((k.tree? set t0).getD { level := set, tree := t0 }).segs.length != hbsSegs h)
    let kept := if seg = 0xFFFF then (if one then some 0 else none) else some seg
    (∀ c op cond st outs, (c, op, cond, st, outs) ∈ [
      (Instr.slhDsaSign id, 0x0202, true, 0, [(0, alg .slhSign (slhSizes set).2.2.1 (num set :: b.material :: rnd :: msg))]),
      (Instr.slhDsaVerify id, 0x0203, true,
        if (j.input 2).length = (slhSizes set).2.2.1 ∧ Config.check .slhVerify (num set :: vk :: j.input 2 :: msg) = true then 0 else 0x0002, []),
      (Instr.hbsVerify id, 0x0214, !noRecord && badHead, 0x0305, []),
      (Instr.hbsVerify id, 0x0214, !noRecord && !badHead,
        if (j.input 2).length = hbsSigLen set (j.pb 2) (j.pb 3) (j.pb 4) ∧ Config.check .hbsVerify (dims ++ [pk, j.input 2, x]) = true then 0
        else 0x0002, []),
      (Instr.hbsState id, 0x0215, !noRecord, 0, [(0, leBytes 8 q.next ++ leBytes 8 q.high ++ leBytes 8 (2 ^ (lv * h)) ++ leBytes 4 cur ++ leBytes 1 bits ++
        leBytes 3 under.segs.length)]),
      (Instr.hbsPublicKey id, 0x02F0, !noRecord, 0, [(0, key)]),
      (Instr.hbsTreeBuild id, 0x0212, !noRecord && out, 0x0107, []),
      (Instr.hbsTreeBuild id, 0x0212, noRecord, 0x0502, []), (Instr.hbsSign id, 0x0213, noRecord, 0x0502, []),
      (Instr.hbsVerify id, 0x0214, noRecord, 0x0502, []), (Instr.hbsState id, 0x0215, noRecord, 0x0502, []),
      (Instr.hbsPublicKey id, 0x02F0, noRecord, 0x0502, [])] →
      computes s id op j → ∃ t, exec c s = .next t ∧ (cond = true → decidedAs t id st outs ∧ onlyJob s t id)) ∧
    (∀ q path, j.index = some q → s.pathRead j h = some path → computes s id 0x0213 j → noRecord = false →
      let good := Config.check .hbsPath ([b.attr, num (q % 2 ^ h)] ++ path ++ [(k.root? 0 (q / 2 ^ h)).getD []])
      let up := if lv = 2 then ((k.upSigs.find? (fun u => u.1 == q / 2 ^ h)).map (·.2)).getD [] else []
      ∃ t, exec (.hbsSign id) s = .next t ∧ onlyJob s t id ∧
        (good = true → decidedAs t id 0 [(0, alg .hbsSign (hbsSigLen b.alg h (hbsW b.attr) lv)
          ([num b.alg, b.material, b.attr, num 0, num q, x, j.seed, up] ++ path))]) ∧
        (good = false → decidedAs t id 0x0307 [])) ∧
    (computes s id 0x0212 j → noRecord = false → out = false → ∃ t, exec (.hbsTreeBuild id) s = .next t ∧
      ((!top || set == 1) = true → decidedAs t id 0 [(0, nodes)] ∧
        t.hbs b.index = k.built set t0 kept (nodes.take (hbsN b.alg)) top) ∧
      ((top && set == 0 && lv == 1) = true → decidedAs t id 0 [(0, nodes)] ∧
        (t.hbs b.index).trees = (k.built 0 t0 kept (nodes.take (hbsN b.alg)) true).trees))

/-- Key deletion, attributes, replacement, export, proof and random output do what their rules say. KEY_DELETE frees the key's run, KEY_SET_ATTR writes a block that only narrows (KEY_POLICY_DENIED otherwise), KEY_GET_ATTR, KEY_EXPORT_WRAPPED, KEY_PROVE and RNG_GENERATE return their bytes; a commit whose handle no longer names the key ends with the status of that check. KEY_REPLACE lays a shadow run, once it has a seed that key generation keeps where it draws one, and at its swap returns the public key and the handle of the next generation.
Rests on R126, R233, R317, R318, R321, R323, R328, R332, R376. -/
def Obligations.KeyManagementJobsDecide : Prop :=
  ∀ (s : State) (id : Nat) (j : Job),
    let k := j.keyB
    let b := s.slot k.kt k.index
    let p := j.keyN 1
    let here := j.still s == 0
    let fits := narrows b.used (s.keyData k.kt k.index).attr (j.input 0)
    let ch := cut j.params 16 (j.pb 8)
    let pd := provenDigest s j.slice p ch
    let proof := fun d => kmac256 (secretOf s k) (ch ++ leBytes 8 p.handle ++ fit 48 p.attr ++ leBytes 8 (s.slot p.kt p.index).used ++ d) 16
      (ascii "EQX-KEY-PROVE")
    (∀ c op cond st outs u, (c, op, cond, st, outs, u) ∈ [
      (Instr.keyDelete id, 0x0702, here, 0, [], deleteKey k.kt k.index s),
      (Instr.keyDelete id, 0x0702, !here, j.still s, [], s),
      (Instr.keyGetAttr id, 0x0703, true, 0, [(0, fit 48 k.attr ++ leBytes 8 b.used ++ leBytes 1 b.count ++ leBytes 1 (hClass k.handle) ++
        [b.origin] ++ zeros 5)], s),
      (Instr.keySetAttr id, 0x0704, here && fits, 0, [], setAttr k.kt k.index (j.input 0) s),
      (Instr.keySetAttr id, 0x0704, here && !fits, 0x0202, [], s),
      (Instr.keyExportWrapped id, 0x0707, true, 0, [(0, wrapBlob 1 (p.material.take 32) k.attr k.material)], s),
      (Instr.keyProve id, 0x070A, pd.isLeft, 0, [(0, proof (pd.getLeft?.getD []))], s),
      (Instr.rngGenerate id, 0x0801, true, 0, [(0, fit (fieldLE j.params 4 4) j.seed)], s)] → computes s id op j → ∃ t, exec c s = .next t ∧ (cond = true → ends u t id st outs)) ∧
    (∀ r, s.kv.replacing.find? (fun r => r.job == j.id) = some r → computes s id 0x0706 j →
      let u := replaceSwap j r.shadow s
      ∃ t, exec (.keyReplace id) s = .next t ∧
        (here = true → ends u t id 0 [(0, publicKey u (u.bind k.kt k.index)), (1, handleBytes u k.kt k.index)] ∧
          ((∀ d ∈ s.kv.dying, d.kt = k.kt → k.index < d.first ∨ d.first + d.count ≤ k.index) → (t.slot k.kt k.index).gen = nextGen b.gen ∧ (t.slot k.kt k.index).data = r.shadow ∧ (t.slot k.kt k.index).used = 0))) ∧
    (s.kv.replacing.any (fun r => r.job == j.id || (r.kt == k.kt && r.index == k.index)) = false → computes s id 0x0706 j →
      ∃ t, exec (.keyReplace id) s = .next t ∧
        ((here && (j.pb 0 != 0 || (decide (j.seed ≠ []) && seedFits k.fam k.alg j.seed))) = true → match newKeyOf j s with
          | .inr st => st ≠ 0 → ends s t id st []
          | .inl (a, m, _) =>
            match s.placeRun k.kt j.slice b.count with
            | .inr st => st ≠ 0 → ends s t id st []
            | .inl i =>
              (Config.check .checkValue [a, m] = false → ends s t id 0x0502 []) ∧
              (Config.check .checkValue [a, m] = true → t.jobs = s.jobs ∧ (t.slot k.kt i).kind = .shadow ∧
                t.kv.replacing = s.kv.replacing ++ [{ job := j.id, kt := k.kt, index := k.index, shadow := i }])))

/-- PIN, EMV, key-block export and policy jobs decide with their result. PIN_TRANSLATE seals the digits of a good block under the second key; PIN_VERIFY compares with a reference block or value; a malformed block or KSN gives INPUT_MALFORMED, another PIN NOT_EQUAL. EMV jobs give the verdict or the cryptogram; KB_EXPORT a version D block; PAY_SET_POLICY the two policy bits. Random fill is a free value (log 4).
Rests on R344, R346, R347, R349, R350, R357. -/
def Obligations.PaymentJobsDecide : Prop :=
  ∀ (s : State) (id : Nat) (j : Job),
    let dukpt := j.pb 2 == 1
    let ksn := cut j.params 4 12
    let pan := cut j.params 24 10
    let k := pinKey s j.keyB dukpt ksn
    let ksnBad := dukpt && !ksnOk ksn
    let good := pinGood (j.pb 0) j.keyB.alg k (j.input 0) pan
    let d := pinDigits (j.pb 0) j.keyB.alg k (j.input 0) pan
    let r := secretOf s (j.keyN 1)
    let good1 := pinGood (j.pb 34) (j.keyN 1).alg r (j.input 1) pan
    let ref := j.pb 1 == 0
    let same := if ref then d == pinDigits (j.pb 34) (j.keyN 1).alg r (j.input 1) pan else kmac256 r (pan ++ d) 16 (ascii "EQX-PIN") == j.input 1
    let emv := [num j.keyB.alg, j.keyB.material, cut j.params 0 14]
    let key := secretOf s (j.keyN 1)
    let n := kbLen key.length
    let digits := toString n
    let header := ascii "D" ++ ascii ("".pushn '0' (4 - digits.length) ++ digits) ++
      ascii ((kbExportRow (j.keyN 1).attr).elim "" (fun r => r.1.headD "")) ++ ascii (kbLetter (j.keyN 1).fam (j.keyN 1).alg) ++ ascii "N" ++
      ascii "00" ++ ascii "N" ++ ascii "0000"
    ∀ c op cond st outs u, (c, op, cond, st, outs, u) ∈ [
      (Instr.pinTranslate id, 0x0901, ksnBad || !good, 0x0307, [], s),
      (Instr.pinTranslate id, 0x0901, !ksnBad && good, 0, [(0, pinSeal (j.pb 1) (j.keyN 1).alg r d pan (freeBytes s 16))], fresh s),
      (Instr.pinVerify id, 0x0902, ksnBad || !good || (ref && !good1), 0x0307, [], s),
      (Instr.pinVerify id, 0x0902, !ksnBad && good && (!ref || good1), if same then 0 else 0x0001, [], s),
      (Instr.emvArqcVerify id, 0x0911, true, if alg .emv 8 (num 0 :: emv ++ [j.input 0]) = cut j.params 14 8 then 0 else 0x0001, [], s),
      (Instr.emvArpcGenerate id, 0x0912, true, 0,
        [(0, alg .emv (if j.pb 22 = 1 then 8 else 4) (num (j.pb 22) :: emv ++ [cut j.params 14 8, cut j.params 24 4]))], s),
      (Instr.kbExport id, 0x0932, true, 0, [(0, header ++ alg .keyBlock (n - 16) [secretOf s j.keyB, header, key, freeBytes s 16])], fresh s),
      (Instr.paySetPolicy id, 0x09F0, true, 0, [], { s with thm.payPolicy := BitVec.ofNat 2 (j.pb 0) })] → computes s id op j → ∃ t, exec c s = .next t ∧ (cond = true → ends u t id st outs)

/-- Composite-key, certificate, mdoc, template and credential jobs decide with their result. HYB_SIGN joins both signatures; HYB_VERIFY checks both parts; the hybrid KEM combines both secrets with KMAC256 under EQX-HYBRID-KEM and returns or keeps the result; CERT_ISSUE, MDOC_ISSUE and CRED_ISSUE sign what they assembled; TPL_LOAD binds a template to its issuer handle and TPL_DELETE removes it. A signing cap that is passed is left to the event rules; an RSA signature is one whose check passed (R260).
Rests on R258, R260, R341, R342, R343, R352, R353, R354, R355, R356. -/
def Obligations.CompositeAndIssuingJobsDecide : Prop :=
  ∀ (s : State) (id : Nat) (j : Job),
    let a := j.pb 0
    let f := j.pb 1
    let src := f == 1
    let src0 := f.testBit 0
    let rnd := openRnd s
    let lens := s.compLens a
    let pqPk := lens.1.1
    let pqCt := lens.1.2.1
    let pqSig := lens.1.2.2
    let clPk := lens.2.1
    let set := (compositeParts a).elim 0 (fun c => c.2.2)
    let pset := (compositeParts a).elim 0 (fun c => c.1.2)
    let ctx := cut j.params 12 (j.pb 2)
    let pk := if src then j.input 1 else compositePk s j
    let sg := j.input 2
    let mc := compositeMsg a ctx (j.input 0)
    let pkBad := if src then pkStatus s set (pk.drop (4 + pqPk)) else 0
    let pqOk := Config.check .mlDsaVerify [num pset, cut pk 4 pqPk, cut sg 4 pqSig, num 0, num 0, [], mc]
    let clOk := if isWeier set then sigCheck .ecdsaVerify [num (compositeHash a)] s set (pk.drop (4 + pqPk)) (sg.drop (4 + pqSig))
        (phDigest (compositeHash a) mc)
      else sigCheck .eddsaVerify [num 0, []] s set (pk.drop (4 + pqPk)) (sg.drop (4 + pqSig)) mc
    let ek := if src0 then j.input 0 else compositePk s j
    let ekCl := ek.drop (4 + pqPk)
    let m := j.seed.take 32
    let l := s.curveLen set
    let d := genScalar s set (j.seed.drop 32)
    let eph := alg .ecPk clPk (setArgs s set ++ [d])
    let z := alg .ecdh l (setArgs s set ++ [d, ekCl])
    let ct := alg .mlKemCt pqCt [num pset, cut ek 4 pqPk, m]
    let ekBad := src0 && (!compositeHead a pqPk ek || !Config.check .mlKemEkOk [num pset, cut ek 4 pqPk])
    let ekSt := if src0 then pkStatus s set ekCl else 0
    let zero := isMont set && z.all (· == 0)
    let ks := kmac256 (alg .mlKemSs 32 [num pset, cut ek 4 pqPk, m] ++ z) (ct ++ eph ++ ekCl) 32 (ascii "EQX-HYBRID-KEM")
    let x := j.input 0
    let eph1 := x.drop (4 + pqCt)
    let z1 := alg .ecdh l (setArgs s set ++ [(j.keyN 2).material, eph1])
    let off1 := decide (pkStatus s set eph1 ≠ 0) || (isMont set && z1.all (· == 0))
    let ks1 := kmac256 (alg .mlKemDecaps 32 [num pset, (j.keyN 1).material, cut x 4 pqCt] ++ z1) (cut x 4 pqCt ++ eph1 ++ publicKey s (j.keyN 2)) 32
      (ascii "EQX-HYBRID-KEM")
    let kb := j.keyB
    let mso := j.input 0
    let cose := num (coseAlg kb.alg).1.natAbs
    let tbs := Config.crypto .mdocBuild [num 0, cose, mso]
    let mdocSig := if isWeier kb.alg then ecdsaOf (s.curvesOf j) kb (coseAlg kb.alg).2 tbs j.seed else eddsaOf s kb tbs
    let t0 : Template := {
      cls := hClass (fieldLE j.params 8 8), issuer := hIndex (fieldLE j.params 8 8), text := j.input 0
      fields := tplFields j.params, allowHoldover := j.pb 2 == 1, maxDuration := fieldLE j.params 4 4 }
    let slot := 4 * j.slice + a
    let sn0 := match fit 20 j.seed with | b :: r => (b &&& 0x7F) :: r | [] => []
    let sn := if sn0.all (· == 0) then zeros 19 ++ [1] else sn0
    let cert := if a % 2 = 1 then fit x.length (Config.crypto .certSerial [x, sn]) else x
    let certCap := Config.measure .certBuild [num x.length, kb.attr.take 2, num a]
    let derOk := Config.check .derOk [x, num (a % 2)]
    let salt := if a % 2 = 1 then j.seed.drop 20 else j.seed
    let sound (ph pss : Nat) (m salt : Bytes) : Bool := !(kb.fam == 4 && isRsa kb.alg) || Config.check .rsaCheck (rsaArgs kb ph pss m salt)
    (∀ c op cond st outs u, (c, op, cond, st, outs, u) ∈ [
      (Instr.hybSign id, 0x0A02, !issuerCapped [j.keyN 1] mc rnd, 0, [(0, compositeSig s a (j.keyN 1) (j.keyN 2) ctx (j.input 0) rnd)], fresh s),
      (Instr.hybVerify id, 0x0A03, src && !compositeHead a pqPk pk, 0x0305, [], s),
      (Instr.hybVerify id, 0x0A03, !(src && !compositeHead a pqPk pk) && pkBad != 0, pkBad, [], s),
      (Instr.hybVerify id, 0x0A03, !(src && !compositeHead a pqPk pk) && pkBad == 0,
        if (sg.length == 4 + pqSig + lens.2.2 && compositeHead a pqSig sg && pqOk && clOk) = true then 0 else 0x0002, [], s),
      (Instr.hybKemEncaps id, 0x0A11, ekBad, 0x0305, [], s),
      (Instr.hybKemEncaps id, 0x0A11, !ekBad && ekSt == 0 && zero, 0x0303, [], s),
      (Instr.hybKemEncaps id, 0x0A11, !ekBad && ekSt == 0 && !zero && !f.testBit 1, 0, [(0, compositeJoin a ct eph), (1, ks)], s),
      (Instr.hybKemDecaps id, 0x0A12, !compositeHead a pqCt x, 0x0307, [], s),
      (Instr.hybKemDecaps id, 0x0A12, compositeHead a pqCt x && off1, 0x0303, [], s),
      (Instr.hybKemDecaps id, 0x0A12, compositeHead a pqCt x && !off1 && !f.testBit 1, 0, [(0, ks1)], s),
      (Instr.hybPublicKey id, 0x0AF0, true, 0, [(0, compositePk s j)], s),
      (Instr.certIssue id, 0x0A21, !derOk, 0x0307, [], s),
      (Instr.certIssue id, 0x0A21, derOk && !issuerCapped j.bound cert rnd && sound f (a / 2) cert salt, 0,
        [(0, (Config.crypto .certBuild [cert, issuerSig (s.curvesOf j) j.bound f (a / 2) cert rnd salt]).take certCap)], fresh s),
      (Instr.mdocIssue id, 0x0A22, !Config.check .derOk [num 0x0A22, mso], 0x0307, [], s),
      (Instr.mdocIssue id, 0x0A22, Config.check .derOk [num 0x0A22, mso], 0, [(0, (Config.crypto .mdocBuild [num 1, cose, mso, j.input 1, mdocSig]).take
        (Config.measure .mdocBuild [num mso.length, num (j.input 1).length, kb.attr.take 2]))], s),
      (Instr.tplLoad id, 0x0A31, true, 0, [], { s with thm.templates := tput s.thm.templates none slot (some t0) }),
      (Instr.tplDelete id, 0x0A32, true, 0, [], { s with thm.templates := tput s.thm.templates none slot none }),
      (Instr.credIssue id, 0x0A33, (s.template j.slice a).isNone, 0x0107, [], s)] → computes s id op j → ∃ t, exec c s = .next t ∧ (cond = true → ends u t id st outs)) ∧
    (computes s id 0x0A11 j → ∃ t, exec (.hybKemEncaps id) s = .next t ∧ ((!ekBad && ekSt == 0 && !zero && f.testBit 1) = true →
      keyMade s t id j.slice 2 (koutAttr (if src0 then none else some kb.attr) (src0 && f.testBit 2) 1 0) 0 ks
        (fun t i => [(0, compositeJoin a ct eph), (1, handleBytes t true i)]))) ∧
    (computes s id 0x0A12 j → ∃ t, exec (.hybKemDecaps id) s = .next t ∧ ((compositeHead a pqCt x && !off1 && f.testBit 1) = true →
      keyMade s t id j.slice 2 (koutAttr (some kb.attr) false 1 0) 0 ks1 (fun t i => [(0, handleBytes t true i)]))) ∧
    (∀ tpl, s.template j.slice a = some tpl → computes s id 0x0A33 j →
      let cred := fillFields j.at10 (expiryOf j.at10 (fieldLE j.params 4 4)) tpl.fields (j.input 0) j.seed tpl.text
      let ph := if kb.fam = 4 ∧ isRsa kb.alg = true then [1, 2, 3, 6, 7].getD (Config.freeNat s.freeCtr % 5) 1 else 1 + Config.freeNat s.freeCtr % 7
      let pss := Config.freeNat s.freeCtr / 35 % 2
      ∃ t, exec (.credIssue id) s = .next t ∧ ((!issuerCapped j.bound cred rnd && sound ph pss cred (j.seed.drop 320)) = true →
        ends (fresh s) t id 0 [(0, cred ++ issuerSig (s.curvesOf j) j.bound ph pss cred rnd (j.seed.drop 320))]))

/-- The quorum opens, closes, is read and is enrolled as R334 to R337 say. QUORUM_OPEN starts one card run with its challenge and waits while another runs; QUORUM_CLOSE ends the quorum; QUORUM_STATUS returns its 16 bytes; QUORUM_ENROLL replaces the whole set and ends a quorum in force, and refuses a set whose counts disagree or whose identifiers repeat.
Rests on R334, R335, R336, R337, R357. -/
def Obligations.QuorumJobsDecide : Prop :=
  ∀ (s : State) (id : Nat) (j : Job),
    let b := j.input 0
    let m := (byteAt b 0).toNat
    let set := (List.range ((b.length - 2) / 73)).map (fun k => ({ id := cut b (2 + 73 * k) 8, key := cut b (10 + 73 * k) 65 } : Custodian))
    let off := decide ((byteAt b 1).toNat ≠ set.length ∨ m = 0 ∨ set.length < m) || !decide (set.map (·.id)).Nodup
    let bad := firstBad (set.map (fun c => pkStatus s 1 c.key))
    let busy := s.thm.run.isSome || s.crd.run.any (fun r => r.step == .collect)
    (∀ c op cond st outs u, (c, op, cond, st, outs, u) ∈ [
      (Instr.quorumClose id, 0x0A81, true, 0, [], { s with thm.quorum := none }),
      (Instr.quorumStatus id, 0x0A82, true, 0, [(0, quorumStatus s)], fresh s),
      (Instr.quorumEnroll id, 0x0A83, off, 0x0107, [], s),
      (Instr.quorumEnroll id, 0x0A83, !off && bad != 0, bad, [], s),
      (Instr.quorumEnroll id, 0x0A83, !off && bad == 0, 0, [], { s with thm := { s.thm with custodians := set, m := m, quorum := none } })] →
      computes s id op j → ∃ t, exec c s = .next t ∧ (cond = true → ends u t id st outs)) ∧
    (computes s id 0x0A80 j → busy = true → exec (.quorumOpen id) s = .next s) ∧
    (computes s id 0x0A80 j → busy = false → ∃ t, exec (.quorumOpen id) s = .next t ∧
      t.thm.run = some { job := id, challenge := fit 32 j.seed, ttl := fieldLE j.params 2 4 } ∧
      (t.job? id).map (·.phase) = some (.held .cards) ∧ t.crd = s.crd ∧ t.thm.custodians = s.thm.custodians ∧ t.thm.quorum = s.thm.quorum)

/-- Metrology sources are added, events checked and intervals opened and closed as R425 to R434 say. MET_SOURCE_ADD numbers its source and refuses a 1,025th; MET_EVENT passes the checks in order, takes COUNTER over, opens an interval with START and closes it with END, writing a record when both stamps are traceable; where the domain makes no records an END and a MET_RECORD_GET end with KEY_POLICY_DENIED (the status is the model's choice, log 96); MET_INFO and MET_RECORD_GET return their bytes.
Rests on R425, R427, R428, R429, R432, R433, R434. -/
def Obligations.MetrologyJobsDecide : Prop :=
  ∀ (s : State) (id : Nat) (j : Job),
    let n := s.met.sources.length
    let point := pkStatus s 0x01 (j.input 0)
    let p := j.params
    let num_ := fieldLE p 0 2
    let stamp := s.stampOf j
    let chk := s.eventCheck j (s.met.sources.find? (fun m => m.num == num_ && m.slice == j.slice))
    let s1 : State := { s with met.sources := mapIf (fun m => m.num == num_) (fun m => { m with counter := fieldLE p 4 8 }) s.met.sources }
    let ses := cut p 12 16
    let open_ := s.met.intervals.any (fun o => o.session == ses)
    let room := decide (s.met.intervals.length < 16384)
    let found := s.met.intervals.find? (fun o => o.session == ses && o.slice == j.slice)
    let s2 : State := { s1 with met.intervals := s.met.intervals.filter (fun x => x.session != ses) }
    let start := j.pb 2 == 1
    let rec_ := (s.met.ring.filter (fun r => r.slice == j.slice && cut r.body 48 16 == cut p 0 16)).getLast?
    let mk := s.makesRecords
    let shut := decide (s.met.st = .fuseInvalid) || !mk
    (∀ c op cond st outs u, (c, op, cond, st, outs, u) ∈ [
      (Instr.metSourceAdd id, 0x0B01, point != 0, point, [], s),
      (Instr.metSourceAdd id, 0x0B01, point == 0 && decide (1024 ≤ n), 0x0404, [], s),
      (Instr.metSourceAdd id, 0x0B01, point == 0 && decide (n < 1024), 0, [(0, leBytes 2 n)],
        { s with met.sources := s.met.sources ++ [{ num := n, slice := j.pb 0, key := j.input 0 }] }),
      (Instr.metEvent id, 0x0B02, chk != 0, chk, [], s),
      (Instr.metEvent id, 0x0B02, chk == 0 && start && open_, 0x0307, [], s1),
      (Instr.metEvent id, 0x0B02, chk == 0 && start && !open_ && !room, 0x0402, [], s1),
      (Instr.metEvent id, 0x0B02, chk == 0 && start && !open_ && room && !stamp.ok, 0x0801, [], s1),
      (Instr.metEvent id, 0x0B02, chk == 0 && start && !open_ && room && stamp.ok, 0, [(0, leBytes 8 stamp.epoch.toNat)],
        { s1 with met.intervals := s.met.intervals ++ [{ session := ses, slice := j.slice, source := num_, start := stamp }] }),
      (Instr.metEvent id, 0x0B02, chk == 0 && !start && !mk, 0x0202, [], s1),
      (Instr.metEvent id, 0x0B02, chk == 0 && !start && mk && found.isNone, 0x0307, [], s1),
      (Instr.metInfo id, 0x0B03, true, 0, [(0, leBytes 4 s.met.swId.toNat ++ fit 32 s.met.swSum ++ leBytes 1 s.met.st.code ++ leBytes 1 s.breaks ++
        [s.met.keyEpoch, 0] ++ leBytes 8 s.met.recordSeq ++ fit 2021 s.met.pubKey)], s),
      (Instr.metRecordGet id, 0x0B04, rec_.isNone, 0x0307, [], s),
      (Instr.metRecordGet id, 0x0B04, rec_.isSome && shut, 0x0202, [], s),
      (Instr.metRecordGet id, 0x0B04, rec_.isSome && !shut, 0, [(0, tariffRecord s (rec_.elim [] (·.body)))], fresh s)] → computes s id op j → ∃ t, exec c s = .next t ∧ (cond = true → ends u t id st outs)) ∧
    (∀ o, found = some o → start = false → computes s id 0x0B02 j → ∃ t, exec (.metEvent id) s = .next t ∧
      ((chk == 0 && mk && !traceable o.start stamp) = true → ends s2 t id 0x0801 []) ∧
      ((chk == 0 && mk && traceable o.start stamp) = true →
        let body := tariffBody s2 o stamp.epoch num_
        ends (fresh { s2 with met.ring := lastN 2048 (s.met.ring ++ [{ seq := s.met.recordSeq, slice := j.slice, body := body }]),
                              met.recordSeq := s.met.recordSeq + 1 }) t id 0 [(0, tariffRecord s2 body)]))

/-- Slices freeze, thaw, are saved, restored and released; contracts, time, records and firmware are read or set. SLICE_FREEZE of an enabled ACTIVE slice without jobs gives FROZEN at once and its counts, otherwise FREEZING; SLICE_THAW ends with ACTIVE; SLICE_RELEASE with DISABLED, once no run of its keys waits to be zeroised; a wrong state gives BAD_PARAMETER; a repeated SLICE_SAVE part returns the last part; a part of SLICE_RESTORE that passes the checks of R399 places its keys and returns the handle map, the last one with the commit, which leaves the slice FROZEN, any other with RESTORING; a fifth migration context is refused. MIG_PREPARE keeps at most 16 nonces. CONTRACT_SET admits or says why not; the reading jobs return their bytes.
Rests on R389, R391, R393, R394, R398, R399, R401, R414, R419, R509, R511, R512. -/
def Obligations.ManagementJobsDecide : Prop :=
  ∀ (s : State) (id : Nat) (j : Job),
    let i := j.pb 0
    let sl := s.slice i
    let part := fieldLE j.params 4 4
    let n := fit 16 j.seed
    let con := parseContract (j.input 0)
    let adm := s.admission i con
    let b := s.activeBank
    let free := s.mig.contexts.length
    let held := s.migOf i
    let saveOk := i != 0 && decide (sl.state = .frozen)
    let restOk := i != 0 && sl.enable && !s.pasidTaken i sl.pasid
    (∀ c op cond st outs u, (c, op, cond, st, outs, u) ∈ [
      (Instr.sliceFreeze id, 0x0C01, decide (i = 0 ∨ sl.enable = false ∨ sl.state ≠ .active), 0x0107, [], s),
      (Instr.sliceThaw id, 0x0C03, decide (i = 0 ∨ !(sl.state == .frozen || sl.state == .saved)), 0x0107, [], s),
      (Instr.sliceRelease id, 0x0C04, j.stage != 1 && decide (i = 0 ∨ sl.state = .restoring), 0x0107, [], s),
      (Instr.sliceRelease id, 0x0C04, j.stage == 1 && !s.dyingOf i, 0, [], s),
      (Instr.sliceSave id, 0x0C02, !saveOk || (held.isNone && part != 0), 0x0107, [], s),
      (Instr.sliceSave id, 0x0C02, saveOk && held.isNone && part == 0 && decide (4 ≤ free), 0x0402, [], s),
      (Instr.sliceSave id, 0x0C02, saveOk && held.any (fun m => m.nextPart == part + 1), 0, [(0, held.elim [] (·.lastPart))], s),
      (Instr.sliceRestore id, 0x0C11, !restOk, 0x0107, [], s),
      (Instr.sliceRestore id, 0x0C11, restOk && sl.state != .restoring && (part != 0 || sl.state != .active || !s.sliceEmpty i), 0x0107, [], s),
      (Instr.sliceRestore id, 0x0C11, restOk && decide (sl.state = .active) && part == 0 && s.sliceEmpty i && decide (4 ≤ free), 0x0402, [], s),
      (Instr.migPrepare id, 0x0C10, true, 0, [(0, ticketOf s n)], fresh { s with mig.nonces := lastN 16 (s.mig.nonces ++ [n]) }),
      (Instr.contractSet id, 0x0C20, !contractOk (j.input 0), 0x0107, [], s),
      (Instr.contractSet id, 0x0C20, contractOk (j.input 0) && adm.isNone, 0, [], s.modSlice i (fun sl => { sl with nextContract := some con })),
      (Instr.contractSet id, 0x0C20, contractOk (j.input 0) && adm.isSome, 0x0406, [],
        { s with sched.admitLast := BitVec.ofNat 16 (adm.elim 0 (fun x => i * 256 + x.1 * 16 + x.2)) }),
      (Instr.contractGet id, 0x0C21, true, 0, [(0, contractBytes sl.admitted)], s),
      (Instr.timeRead id, 0x0C22, true, 0, [(0, leBytes 8 s.time.epoch.toNat ++ leBytes 1 (s.time.state.code + 128 * flag s.time.set) ++ zeros 3 ++
        leBytes 4 s.time.holdoverSecs.toNat)], s),
      (Instr.eventRead id, 0x0C30, true, 0, [(0, (((s.evr.records.filter (fun r => fieldLE j.params 0 8 ≤ r.seq)).take (fieldLE j.params 8 4)).map
        (·.bytes)).flatten)], s),
      (Instr.eventVerify id, 0x0C31, true, 0, [(0, leBytes 8 (verifyFrom s.kv.chainKey none s.evr.records))], s),
      (Instr.eventClear id, 0x0C32, true, 0, [], eventClear 1 s),
      (Instr.fwInfo id, 0x0C33, true, 0, [(0, fit 32 (leBytes 4 b.version.toNat ++ leBytes 4 b.svn.toNat ++ leBytes 4 b.setId.toNat ++
        leBytes 4 s.stagedVersion.toNat ++ leBytes 4 s.svc.svnFloor.toNat ++ leBytes 1 (s.svc.bank0.st.code + 4 * s.svc.bank1.st.code)))], s)] →
      computes s id op j → ∃ t, exec c s = .next t ∧ (cond = true → ends u t id st outs)) ∧
    (computes s id 0x0C01 j → i ≠ 0 → sl.enable = true → sl.state = .active → ∃ t, exec (.sliceFreeze id) s = .next t ∧
      (if s.jobs.any (fun k => k.slice == i) then (t.slice i).state = .freezing ∧ (t.job? id).map (·.phase) = some (.held .drain)
       else (t.slice i).state = .frozen ∧ decidedAs t id 0 [(0, leBytes 4 0 ++ leBytes 4 0)])) ∧
    (computes s id 0x0C03 j → i ≠ 0 → (sl.state = .frozen ∨ sl.state = .saved) → ∃ u, exec (.sliceThaw id) s = .next (refetchSlice i u) ∧
      decidedAs u id 0 [] ∧ (u.slice i).state = .active ∧ (u.slice i).freeze = none ∧ ∀ m ∈ u.mig.contexts, m.slice ≠ i) ∧
    (computes s id 0x0C04 j → j.stage = 1 → s.dyingOf i = true → exec (.sliceRelease id) s = .next s) ∧
    (computes s id 0x0C04 j → j.stage ≠ 1 → i ≠ 0 → sl.state ≠ .restoring →
      ((sl.state = .freezing ∨ s.resetClear i = false) → exec (.sliceRelease id) s = .next s) ∧
      (sl.state ≠ .freezing → s.resetClear i = true → ∃ t, exec (.sliceRelease id) s = .next t ∧
        (t.slice i).state = .disabled ∧ (t.slice i).enable = false)) ∧
    (computes s id 0x0C02 j → saveOk = true → held = none → part = 0 → free < 4 → ∃ t, exec (.sliceSave id) s = .next t ∧
      (chainStatus (j.input 1) (cut (j.input 0) 4 8) ((j.input 0).take 1600) ((j.input 0).drop 1600) = 0 →
        t.mig.imageSeq = s.mig.imageSeq + 1 ∧ (t.migOf i).any (fun m => m.saving && m.nextPart == 1) = true)) ∧
    (computes s id 0x0C11 j → restOk = true → (sl.state = .restoring ∨ (part = 0 ∧ sl.state = .active ∧ s.sliceEmpty i = true ∧ free < 4)) →
      let img := j.input 0
      let c := (s.migOf i).getD { slice := i, saving := false }
      let h := img.take 48
      let extra := if part = 0 then 1664 else 0
      let len := fieldLE h 12 4
      let src := cut h 24 8
      let ct := cut img 48 1568
      let seq := fieldLE h 4 4
      let nonce := if part = 0 then fit 16 (Config.crypto .imageParse [s.kv.migKey, img]) else c.nonce
      let keys := if part = 0 then migKeys (alg .mlKemDecaps 32 [num 0x03, s.kv.migKey, ct]) src serialBytes seq nonce else c.secret
      let area := partCrypt (cut keys 0 32) part (cut img (48 + extra) len)
      let tag := img.drop (48 + extra + len)
      ∃ t, exec (.sliceRestore id) s = .next t ∧
        ∀ recs u placed out,
          fieldLE h 0 2 = 0x0102 → cut h 32 8 = serialBytes → byteAt h 2 = 1 → fieldLE h 8 4 = part → part = c.nextPart → (byteAt h 3).toNat < 2 →
          isZero h 18 6 = true → isZero h 40 8 = true → img.length = 48 + extra + len + 32 → parseRecs area.length area = some recs →
          (part ≠ 0 → src = c.peer ∧ seq = c.imageSeq) → (part = 0 → recs.head?.any (fun r => r.1 == 1 && r.2.length == 136) = true) →
          (part = 0 → chainStatus (j.input 1) src (h ++ ct) (cut img 1616 96) = 0) →
          partTag (cut keys 32 32) (if part = 0 then zeros 32 else c.prevTag) (img.take (48 + extra + len)) = tag →
          (part = 0 → s.mig.nonces.contains nonce = true) →
          let st0 := if part = 0 then (recs.headD (1, [])).2 else c.stateRec
          let all := c.rest.map (fun b => ((byteAt b 0).toNat, b.drop 1)) ++ recs
          (part = 0 → s.admission i (parseContract st0) = none) → roomStatus s all (min 4000 (fieldLE st0 124 4)) = 0 →
          placeAll i (fieldLE st0 112 4) (fieldLE st0 116 4) (cut keys 64 32) recs c.placed [] s = .inl (u, placed, out) →
          let c1 : MigContext := { c with
            nextPart := part + 1, prevTag := tag, secret := keys, imageSeq := seq, nonce := nonce, peer := src
            rest := all.map (fun r => leBytes 1 r.1 ++ r.2), placed := placed, stateRec := st0 }
          ends (if byteAt h 3 = 1 then restoreCommit c1 (byteAt h 17) all u
              else (setMig c1 u).modSlice i (fun sl => { sl with state := .restoring })) t id 0 [(0, out)] ∧
            (t.slice i).state = if byteAt h 3 = 1 then .frozen else .restoring)

/-- Link changes, configuration writes, ATS invalidations and DOE objects change what their rules name. Each command leads to the state its rule gives: link status where the link offers the rate and width; Bus Master Enable with what resumes in D0; invalidated translations and the completion once the named reads and fetches are back; a granted translation kept among at most 4,096; a DOE object that makes the mailbox busy until it is answered; an abort that clears it. A configuration request has no effect in reset and gets Retry Status until the HIF is ready; a malformed BAR access is an Unsupported Request, a read of BAR2 returns 0.
Rests on R16, R42, R52, R53, R54, R57, R58, R62, R64. -/
def Obligations.LinkAndConfigurationWrites : Prop :=
  ∀ (s : State) (speed : BitVec 3) (width : BitVec 5) (flit dl bme mse en mask glob granted w : Bool) (more : ConfigBits) (bar : BitVec 3) (offset size page count : Nat)
    (tag : BitVec 5) (slice protocol : BitVec 8) (data : Bytes) (value : BitVec 32),
    let up : Prop := s.pwr.inReset = false ∧ s.pwr.perst = false ∧ s.pwr.hifReady = true
    let bus : State := { s with hif.bme := bme, hif.mse := mse, hif.d3hot := more.d3hot, hif.atsEn := more.ats, hif.atc := if more.ats then s.hif.atc else [] }
    let offered : Prop := 1 ≤ speed.toNat ∧ speed.toNat ≤ 6 ∧ (width = 1 ∨ width = 4 ∨ width = 8 ∨ width = 16) ∧ (flit = true ∨ speed ≠ 6)
    let aligned : Prop := (size = 4 ∨ size = 8) ∧ offset % size = 0
    let drop := fun (u : State) => { u with hif.translating := u.hif.translating.filter (· != (slice.toNat, page)) }
    let named := fun (sl p : Nat) => (glob || sl == slice.toNat) && decide (page ≤ p) && decide (p < page + count)
    let touched := s.hif.reads.filter (fun r => (glob || r.slice == slice.toNat) && r.touches page count)
    (∀ c t, (c, t) ∈ [
      (Instr.linkStateChange speed width flit dl, if offered ∧ s.pwr.inReset = false ∧ s.pwr.perst = false then { s with hif.speed := speed, hif.width := width, hif.flit := flit, hif.dlActive := dl } else s),
      (Instr.barAccessUnsupported bar offset size,
        if bar = 7 then (if s.pwr.inReset = true ∨ s.pwr.perst = true then s else if s.pwr.hifReady = true then emit (.readData (
            if size = 8 then s.readHeader (offset + 4) ++ s.readHeader offset else (s.readHeader offset).zeroExtend 64)) s else emit .retryStatus s)
        else if ¬ barOpen s ∨ ¬ aligned then emit .unsupported s
        else if bar = 0 then readBar (size == 8) offset s else if bar = 2 then emit (.readData 0) s
        else if bar = 4 then emit (.readData (if size = 8 then s.readTable (offset + 4) ++ s.readTable offset else (s.readTable offset).zeroExtend 64)) s
        else emit .unsupported s),
      (Instr.atsInvalidationRequest tag glob slice page count, retranslate { s with
        hif.atc := s.hif.atc.filter (fun a => !named a.slice a.page)
        hif.invals := s.hif.invals ++ [{
          tag := tag.toNat
          reads := touched.map (·.tag)
          cells := (s.sqs.map (fun e => if glob || e.1 / 16 == slice.toNat then e.2.fetching e.1 page count else [])).flatten }] }),
      (Instr.atsInvalidationComplete tag, match s.hif.invals.find? (fun v => v.tag == tag.toNat) with
        | none => s
        | some v => if s.hif.reads.any (fun r => v.reads.contains r.tag) || v.cells.any (fun c => (tget s.sqs {} c.1).outst.contains c.2) then s
          else emit (.invalidationDone tag.toNat) { s with hif.invals := s.hif.invals.filter (fun v => v.tag != tag.toNat) })] →
      exec c s = .next t) ∧
    ((∀ j ∈ s.jobs, j.slice = slice.toNat → j.phase ≠ .release ∧ j.phase ≠ .running) →
      exec (.translationCompletion slice page granted w) s = .next (if granted then
        drop { s with hif.atc := lastN 4096 (s.hif.atc ++ [{ slice := slice.toNat, page := page, writeOk := w }]) } else drop s)) ∧
    (up → ∀ c t, (c, t) ∈ [
      (Instr.busMasterEnableWrite bme mse more, if bme = true ∧ more.d3hot = false then refetchAll (resumeHeld (flushPba bus)) else bus),
      (Instr.msixControlWrite en mask, flushPba { s with hif.msixEn := en, hif.fnMask := mask }),
      (Instr.doeAbort, { s with hif.doeBusy := false, hif.doeReq := none }),
      (Instr.doeRequest protocol data,
        let asked := { s with hif.doeBusy := true, hif.doeReq := some (protocol.toNat, data.take 16384) }
        if protocol = 0 ∧ s.svc.paused = false then doeReady (emit (.spdm [0x00, 0x01, 0x02]) asked) else asked)] → exec c s = .next t) ∧
    (∀ c, c ∈ [Instr.busMasterEnableWrite bme mse more, .msixControlWrite en mask, .doeAbort, .doeRequest protocol data] →
      (s.pwr.inReset = true ∨ s.pwr.perst = true → exec c s = .next s) ∧
      (s.pwr.inReset = false → s.pwr.perst = false → s.pwr.hifReady = false → exec c s = .next (emit .retryStatus s))) ∧
    (barOpen s → s.locks.getLsbD 0 = false → exec (.retrain value) s =
      .next (emit .retrain { s with hif.minSpeed := fld value 0 3, hif.minWidth := fld value 3 5 })) ∧
    (barOpen s → s.locks.getLsbD 0 = true → fld value 0 3 = s.hif.minSpeed → fld value 3 5 = s.hif.minWidth →
      exec (.retrain value) s = .next (emit .retrain s))

/-- A table write sets its MSI-X entry, and no open vector keeps a pending message. A naturally aligned write below offset 0x8000 changes exactly the named fields of its vector; the rest of BAR4 ignores writes; a misaligned one, or one while Memory Space Enable is 0 or the function is in D3hot, is an Unsupported Request. After an accepted table write, or a write of the MSI-X control register, no vector that may send has its pending bit set.
Rests on R16, R31, R54, R56. -/
def Obligations.PendingMessagesGoOutWhenTheirVectorOpens : Prop :=
  ∀ (s : State) (offset : Nat) (wide en mask : Bool) (value : BitVec 64),
    let n := offset / 16
    let lo := fld value 0 32
    let m := tget s.hif.vectors {} n
    (s.barOn = false ∨ offset % (if wide then 8 else 4) ≠ 0 → exec (.msixTableWrite offset wide value) s = .next (emit .unsupported s)) ∧
    (s.barOn = true → offset % (if wide then 8 else 4) = 0 → 0x8000 ≤ offset → exec (.msixTableWrite offset wide value) s = .next s) ∧
    (s.barOn = true → offset % (if wide then 8 else 4) = 0 → offset < 0x8000 → ∃ t, exec (.msixTableWrite offset wide value) s = .next t ∧
      (∀ v, v ≠ n → tget t.hif.vectors {} v = tget s.hif.vectors {} v) ∧ (∀ v, t.vectorOpen v = true → tget t.hif.pba false v = false) ∧
      (∀ b w m', (b, w, m') ∈ [(0, false, { m with addr := fld m.addr 32 32 ++ lo }), (4, false, { m with addr := lo ++ fld m.addr 0 32 }),
        (8, false, { m with data := lo }), (12, false, { m with mask := bit lo 0 }), (0, true, { m with addr := value }),
        (8, true, { m with data := lo, mask := bit (fld value 32 32) 0 })] →
        offset % 16 = b → wide = w → tget t.hif.vectors {} n = m') ∧
      t.kv = s.kv ∧ t.jobs = s.jobs) ∧
    (s.pwr.inReset = false → s.pwr.perst = false → s.pwr.hifReady = true → ∃ t, exec (.msixControlWrite en mask) s = .next t ∧
      t.hif.msixEn = en ∧ t.hif.fnMask = mask ∧ (∀ v, t.vectorOpen v = true → tget t.hif.pba false v = false) ∧
      t.hif.vectors = s.hif.vectors ∧ t.kv = s.kv ∧ t.jobs = s.jobs)

/-- While Thimble serves an SPDM request in the mailbox, one at its stage gets its response, and any other UnexpectedRequest. Each request that stands at the stage of SPDM 1.2 (log 21) is answered with its response code and content, sealed in a session, and moves the connection or session on; the mailbox is free and a message on its vector due (log 87); out of order it gets ERROR UnexpectedRequest, an empty certificate slot or measurement InvalidRequest, a false FINISH DecryptError with the handshake over. Random values are free values.
Rests on R57, R58. -/
def Obligations.SpdmRequestsAreAnsweredInOrder : Prop :=
  ∀ (s : State) (flags base hash : BitVec 32) (slot : BitVec 3) (off len : BitVec 16) (nonce random exchange verify : Bytes) (index : BitVec 8) (sign : Bool),
    s.svc.paused = false → s.thm.restarting = false → s.thm.halted = false → s.svc.bootFailed = false → s.pwr.hifReady = true → s.spdmAsked = true →
    let h := s.hif
    let said := fun (u : State) (code : BitVec 8) (x : Bytes) =>
      doeReady (emit (.spdm (u.spdmSeal (0x12 :: code :: x))) { u with
        hif.spdmSeq := if u.hif.session = .none then u.hif.spdmSeq else u.hif.spdmSeq + 1, hif.transcript := u.hif.transcript ++ code :: x })
    let error := fun (code : Nat) (u : State) => doeReady (emit (.spdmError code) u)
    let chain := Config.certChain slot.toNat
    let n := freeBytes s 32
    let all := (List.range 7).filterMap s.measurement
    let body := if index = 0 then some (leBytes 1 all.length) else if index = 0xFF then some all.flatten else s.measurement index.toNat
    let b := body.getD []
    let d := freeBytes s 48
    let share := alg .ecPk 96 [num 0x02, d]
    let th := h.transcript ++ random ++ exchange ++ share
    let good := verify == alg .hmac 48 [h.spdmKeys, h.transcript]
    let agreed := h.spdm == .algorithms
    ∀ c ok cond t, (c, ok, cond, t) ∈ [
      (Instr.spdmGetVersion, true, true, said { s with hif.spdm := .version, hif.transcript := [] } 0x04 [0x12]),
      (Instr.spdmGetCapabilities flags, h.spdm != .none, true, said { s with hif.spdm := .capabilities } 0x61 (leBytes 4 0x62D6)),
      (Instr.spdmNegotiateAlgorithms base hash, h.spdm == .capabilities || agreed, true,
        said { s with hif.spdm := .algorithms } 0x63 ([0x02, 0x02, 0x02, 0x02] ++ leBytes 4 base.toNat ++ leBytes 4 hash.toNat)),
      (Instr.spdmGetDigests, agreed, true, said s 0x01 (((List.range 2).filterMap Config.certChain).map sha384).flatten),
      (Instr.spdmGetCertificate slot off len, agreed, chain.isNone, error 0x01 s),
      (Instr.spdmGetCertificate slot off len, agreed, chain.isSome, said s 0x02 (((chain.getD []).drop off.toNat).take len.toNat)),
      (Instr.spdmChallenge slot nonce, agreed, chain.isNone, error 0x01 s),
      (Instr.spdmChallenge slot nonce, agreed, chain.isSome,
        fresh (said s 0x03 (sha384 (chain.getD []) ++ n ++ identitySign (h.transcript ++ nonce ++ n) (freeBytes s 48)))),
      (Instr.spdmGetMeasurements index sign nonce, agreed, body.isNone, error 0x01 s),
      (Instr.spdmGetMeasurements index sign nonce, agreed, body.isSome && !sign, said s 0x60 b),
      (Instr.spdmGetMeasurements index sign nonce, agreed, body.isSome && sign,
        fresh (said s 0x60 (b ++ identitySign (h.transcript ++ nonce ++ b) (freeBytes s 48)))),
      (Instr.spdmKeyExchange slot random exchange, agreed, chain.isNone, error 0x01 s),
      (Instr.spdmKeyExchange slot random exchange, agreed, chain.isSome,
        let u := said s 0x64 (share ++ identitySign th d)
        fresh { u with hif.session := .handshake, hif.spdmUpdates := 0, hif.spdmSeq := 0, hif.spdmKeys := alg .hkdf 96 [alg .ecdh 48 [num 0x02, d, exchange], th] }),
      (Instr.spdmFinish verify, h.session == .handshake, good, said { s with hif.session := .secured } 0x65 []),
      (Instr.spdmFinish verify, h.session == .handshake, !good, error 0x06 { s with hif.session := .none, hif.spdmKeys := [] }),
      (Instr.spdmKeyUpdate, h.session == .secured, true, said { s with
        hif.spdmKeys := alg .hkdf 96 [h.spdmKeys, ascii "traffic upd"], hif.spdmUpdates := h.spdmUpdates + 1, hif.spdmSeq := 0 } 0x69 []),
      (Instr.spdmHeartbeat, h.session == .secured, true, said s 0x68 []),
      (Instr.spdmEndSession, h.session == .secured, true, said { s with hif.session := .none, hif.spdmKeys := [] } 0x6C [])] →
      ∃ u, exec c s = .next u ∧ (ok = true → cond = true → u = t) ∧ (ok = false → u = error 0x04 s)

/-- A keyed IDE stream becomes Secure; an integrity failure makes it Insecure and fences the slices bound to it. A stream becomes Secure only when its keys are programmed or a secured SPDM session programs them, and at most one stream is the link stream; what waited for it resumes. An integrity failure of a Secure stream makes it Insecure, fences each slice bound to it (every one for the link stream) and raises event 0x22; of any other stream it does nothing.
Rests on R59, R60, R61, R447. -/
def Obligations.IdeStreamsAreSecuredAndFailClosed : Prop :=
  ∀ (s : State) (stream : BitVec 6) (link : Bool),
    let n := stream.toNat
    let x := tget s.hif.streams {} n
    let others := if link then tmap s.hif.streams {} (fun _ y => { y with link := false }) else s.hif.streams
    let u : State := { s with hif.streams := tput others {} n { programmed := true, link := link, secure := true } }
    let bound := fun i => x.link || ((tget s.hif.ideBind {} i).required && (tget s.hif.ideBind {} i).stream == n)
    (x.programmed = false → s.hif.session ≠ .secured → exec (.ideStreamSecure stream link) s = .next s) ∧
    (x.programmed = true ∨ s.hif.session = .secured →
      exec (.ideStreamSecure stream link) s = .next (if s.hif.bme then refetchAll (resumeHeld u) else u)) ∧
    (x.secure = false → exec (.ideIntegrityFailure stream) s = .next s) ∧
    (x.secure = true → ∃ v, exec (.ideIntegrityFailure stream) s = .next (raiseEvent 0x22 n .none .own v) ∧
      v.hif.streams = tput s.hif.streams {} n { x with secure := false } ∧
      (∀ i, i < 256 → bound i = true → (v.slice i).fence = .own) ∧ (∀ i, i < 256 → bound i = false → (v.slice i).fence = (s.slice i).fence))

/-- Doorbells record their index, cells are taken by their phase, and queues are enabled and disabled as configured. A tail doorbell of an enabled queue records its tail and fetches; a head doorbell frees as many entries as it moves over; both are ignored where the slice takes none and Unsupported while Memory Space Enable is 0 or the function is in D3hot. A returned cell whose PHASE fits is held, one declared but stale is missed; a fetch error faults the queue. Queues are enabled with indices 0 and phase 1 where their configuration allows it, and disabled.
Rests on R75, R76, R77, R78, R82, R91, R93, R96, R97, R54. -/
def Obligations.DoorbellsMoveTheQueues : Prop :=
  ∀ (s : State) (slice : BitVec 8) (queue : BitVec 4) (value : BitVec 64) (v : BitVec 32) (idx : BitVec 16) (bytes : Bytes) (e : ReadError),
    let i := slice.toNat
    let k := queue.toNat
    let q := s.sq i k
    let c := s.cq i k
    let tail := (fld value 0 16).toNat % qsize q.log2
    let head := (fld value 0 16).toNat % qsize c.log2
    let freed := min ((head + qsize c.log2 - c.head) % qsize c.log2) c.written
    let sel := s.sel
    let S := s.sq sel.1 sel.2
    let C := s.cq sel.1 sel.2
    let at_ := idx.toNat % qsize q.log2
    let cell := fit 64 bytes
    let left := q.outst.filter (· != at_)
    (s.barOn = false → exec (.sqTailDoorbell slice queue value) s = .next (emit .unsupported s) ∧
      exec (.cqHeadDoorbell slice queue value) s = .next (emit .unsupported s)) ∧
    (s.barOn = true → s.doorbells i = false ∨ q.enable = false → exec (.sqTailDoorbell slice queue value) s = .next s) ∧
    (s.barOn = true → s.doorbells i = false ∨ c.enable = false → exec (.cqHeadDoorbell slice queue value) s = .next s) ∧
    (s.doorbells i = true → q.enable = true → tail ≠ q.tail →
      exec (.sqTailDoorbell slice queue value) s = .next (fetchWindow i k (s.modSq i k (fun q => { q with tail := tail })))) ∧
    (s.doorbells i = true → c.enable = true →
      exec (.cqHeadDoorbell slice queue value) s = .next (s.modCq i k (fun c => { c with head := head, written := c.written - freed }))) ∧
    (q.enable = true → q.outst.contains at_ = true → ∃ t, exec (.cellFetchReturn slice queue [(idx, bytes)] none) s = .next t ∧ t.jobs = s.jobs ∧
      t.sq i k = (if bit (byteAt cell 63) 0 = q.phaseAt at_ then
          { q with outst := left, held := tput q.held [] at_ cell, missed := q.missed.filter (· != at_) }
        else if q.ahead at_ < q.declared then { q with outst := left, missed := at_ :: q.missed.filter (· != at_) }
        else { q with outst := left })) ∧
    (q.enable = true → q.outst ≠ [] → ∃ u, exec (.cellFetchReturn slice queue [(idx, bytes)] (some e)) s = .next (raiseEvent 0x21 i (.slice i) .own u) ∧
      u.sq i k = { q with fault := true, held := [], outst := [], missed := [], slot := none }) ∧
    (q.enable = true → q.fault = false → exec (.cellRefetchTimer slice queue) s =
      .next (issueFetch i k (q.missed.filter (fun x => q.toFetch.contains x)) s)) ∧
    (q.enable = true → q.wdog ≠ 0 → q.missed ≠ [] → exec (.sqStallWatchdog slice queue) s =
      .next (raiseEvent 0x20 i (.slice i) .own (s.modSq i k (fun q => { q with stalled := true })))) ∧
    (c.enable = true → c.ien = true → c.timer ≠ 0 → 1 ≤ c.unsig → exec (.cqModerationTimer slice queue) s =
      .next (msixDue (8 * i + c.vec.toNat) (s.modCq i k (fun c => { c with unsig := 0 })))) ∧
    (barOpen s → S.enable = false → sizeOk (fld v 4 5) = true → (s.cq sel.1 (fld v 12 4).toNat).enable = true → s.sqActive sel.1 sel.2 = false →
      ∃ t, exec (.sqEnable v) s = .next t ∧ t.cqs = s.cqs ∧ t.jobs = s.jobs ∧ t.sq sel.1 sel.2 = { S with
        enable := true, head := 0, phase := true, tail := 0, held := [], outst := [], missed := []
        wdog := fld v 16 8, errCq := fld v 12 4, log2 := fld v 4 5 }) ∧
    (barOpen s → S.enable = true → ∃ t, exec (.sqDisable v) s = .next t ∧ t.cqs = (dropSlot sel.1 sel.2 s).cqs ∧ t.jobs = s.jobs ∧
      t.sq sel.1 sel.2 = { S with enable := false, held := [], outst := [], missed := [], slot := none, wdog := fld v 16 8 }) ∧
    (barOpen s → C.enable = false → sizeOk (fld v 4 5) = true → ∃ t, exec (.cqEnable v) s = .next t ∧ t.sqs = s.sqs ∧
      t.cq sel.1 sel.2 = { C with
        enable := true, tail := 0, phase := true, head := 0, resv := 0, written := 0, unsig := 0
        timer := fld v 24 8, thresh := fld v 16 8, ien := bit v 15, vec := fld v 12 3, log2 := fld v 4 5 }) ∧
    (barOpen s → C.enable = true → C.resv = 0 → s.errCqUsed sel.1 sel.2 = false → ∃ t, exec (.cqDisable v) s = .next t ∧ t.sqs = s.sqs ∧
      (t.cq sel.1 sel.2).enable = false ∧ (t.cq sel.1 sel.2).written = 0) ∧
    (barOpen s → C.enable = true → C.resv ≠ 0 ∨ s.errCqUsed sel.1 sel.2 = true → ∃ t, exec (.cqDisable v) s = .next t ∧
      (t.cq sel.1 sel.2).enable = true ∧ (t.cq sel.1 sel.2).written = C.written) ∧
    (barOpen s → S.fault = false ∨ bit v 19 = false → ∃ t, exec (.sqFaultClear v) s = .next t ∧
      t.sq sel.1 sel.2 = { S with stalled := S.stalled && !bit v 18 }) ∧
    (barOpen s → S.fault = true → bit v 19 = true → exec (.sqFaultClear v) s = .next (fetchWindow sel.1 sel.2
      (s.modSq sel.1 sel.2 (fun q => { q with stalled := q.stalled && !bit v 18, fault := false }))))

/-- Intake serves the first queue in turn that can, accepts a sound chain as one job, and refuses the others by status. JOB_INTAKE takes from the first queue, in round-robin order, that has something to take, and moves the turn behind it; with none, or where intake is closed, nothing changes. A sound chain whose tag is free becomes one job where slot and quota leave room: its header and body, a reserved completion slot, HEAD moved over its cells; where only the quota holds it, it waits and holds its slot. Malformed chains, a wrong length and a reused tag are consumed with their status. In every state the command completes.
Rests on R69, R70, R79, R80, R81, R84, R85, R87, R90. -/
def Obligations.IntakeTakesTheFirstQueueThatCan : Prop :=
  ∀ (s : State) (slice : BitVec 8) (k n : Nat) (cells : List Bytes) (a b : List Nat) (t : State) (header : Option Bytes),
    let i := slice.toNat
    let q := s.sq i k
    let order := (List.range 16).map (fun n => (tget s.ring.rr 0 i + n) % 16)
    let c := cells.headD []
    let cq := hdrCq c
    let size := qsize q.log2
    let used := s.hostJobs.any (fun j => j.slice == i && j.tag == hdrTag c && !j.suppressed)
    let quota := max 1 (s.slice i).quotaJobs.toNat
    let lenOk := cellsFor (hdrLen c) == cells.length && decide (hdrLen c ≤ 984)
    (s.intakeOpen i = false ∨ s.mayRequest i = false → exec (.jobIntake slice) s = .next s) ∧
    (s.intakeOpen i = true → s.mayRequest i = true → (∀ k ∈ order, intakeQueue i k s = none) → exec (.jobIntake slice) s = .next s) ∧
    (s.intakeOpen i = true → s.mayRequest i = true → exec (.jobIntake slice) s = .next (intakeFirst i order s)) ∧
    (s.intakeOpen i = true → s.mayRequest i = true → order = a ++ k :: b → (∀ k ∈ a, intakeQueue i k s = none) → intakeQueue i k s = some (t, true) →
      exec (.jobIntake slice) s = .next { t with ring.rr := tput t.ring.rr 0 i ((k + 1) % 16) }) ∧
    (q.enable = true → q.fault = false → q.chain = .job cells → (s.cq i cq).enable = true → lenOk = true → used = false → (takeSlot i k cq s).isSome = true →
      (s.hostJobs.filter (fun j => j.slice == i && !j.suppressed)).length < quota → ∃ u,
        intakeQueue i k s = some (checkHeader s.nextJob (hdrClean c) u, true) ∧ u.jobs = s.jobs ++ [jobOf s i k cells] ∧ u.nextJob = s.nextJob + 1 ∧
        (u.sq i k).head = (q.head + cells.length) % size ∧ (u.sq i k).slot = none ∧
        (u.cq i cq).resv = (s.cq i cq).resv + (if q.slot = some cq then 0 else 1) ∧ u.kv = s.kv) ∧
    (q.enable = true → q.fault = false → q.chain = .job cells → (s.cq i cq).enable = true → lenOk = true → used = false → s.cqRoom i cq = true →
      q.slot = none → quota ≤ (s.hostJobs.filter (fun j => j.slice == i && !j.suppressed)).length →
      intakeQueue i k s = some ((reserve i cq s).modSq i k (fun q => { q with slot := some cq }), false)) ∧
    (q.enable = true → q.fault = false → q.chain = .malformed n header → (takeSlot i k q.errCq.toNat s).isSome = true → ∃ u, intakeQueue i k s = some (u, true) ∧
      u.jobs = s.jobs ∧ (u.sq i k).head = (q.head + n) % size ∧ (u.cq i q.errCq.toNat).written = (s.cq i q.errCq.toNat).written + 1) ∧
    (q.enable = true → q.fault = false → q.chain = .job cells → (s.cq i cq).enable = true → lenOk = false ∨ used = true → (takeSlot i k cq s).isSome = true →
      ∃ u, intakeQueue i k s = some (u, true) ∧ u.jobs = s.jobs ∧ (u.sq i k).head = (q.head + cells.length) % size ∧
        (u.cq i cq).written = (s.cq i cq).written + 1)

/-- Read completions fill the read they belong to; the last one goes to the job, an error ends it. A completion for a read that is not awaited, or that does not fit into it, changes nothing; a part is kept until the read is whole (only a streamed GCM decryption goes on with it), and then the read is done for its job; an error or a timeout takes the read away and ends the job as R49 and R50 say.
Rests on R47, R49, R50, R103. -/
def Obligations.ReadsReturnToTheirJob : Prop :=
  ∀ (s : State) (tag off : Nat) (data : Bytes) (e : ReadError) (r : PendingRead),
    let more : PendingRead := { r with parts := r.parts ++ [(off, data)] }
    let have_ := (more.parts.map (·.2.length)).foldl (· + ·) 0
    let rest : State := { s with hif.reads := s.hif.reads.filter (fun x => x.tag != tag) }
    (s.hif.reads.find? (fun x => x.tag == tag) = none → ∀ c ∈ [Instr.dmaReadCompletion tag off data none, .dmaReadCompletion tag off data (some e),
      .completionTimeout tag], exec c s = .next s) ∧
    (s.hif.reads.find? (fun x => x.tag == tag) = some r →
      exec (.dmaReadCompletion tag off data (some e)) s = .next (readFails r e rest) ∧
      exec (.completionTimeout tag) s = .next (readFails r .timeout rest) ∧
      (r.takes off data.length = false → exec (.dmaReadCompletion tag off data none) s = .next s) ∧
      (r.takes off data.length = true → have_ = r.len → exec (.dmaReadCompletion tag off data none) s = .next (readDone more rest)) ∧
      (r.takes off data.length = true → have_ ≠ r.len → ∃ t, exec (.dmaReadCompletion tag off data none) s = .next t ∧
        t.hif.reads.find? (fun x => x.tag == tag) = some more ∧ t.kv = s.kv ∧
        ((∀ k, s.job? r.job = some k → k.opcode ≠ 0x0512) → t.jobs = s.jobs)))

/-- Dispatch takes the first job that can go; a success releases and posts, anything else is wiped first. JOB_DISPATCH takes on the first job in the order of the Scheduler that can be placed, held or ended, and nothing otherwise or in reset or after RINSE. A decided success whose outputs need no translation writes them, posts its entry and leaves the device; another status is wiped first on an engine with job memory. A stop request takes effect at the safe point; a finished wipe posts the entry, after RINSE not before the SRAM clear, and not before the engine tasks of the job are gone. An engine task that has computed leaves the device; one that failed is wiped. A Needle left with SUCCESS is free after its own wipe.
Rests on R106, R108, R113, R114, R35, R417, R442. -/
def Obligations.JobsAreDispatchedAndEndInOrder : Prop :=
  ∀ (s : State) (cls : BitVec 4) (id st : Nat) (a b : List Job) (j : Job) (t : State) (p : Nat) (w : Nat × Nat),
    let c := cls.toNat
    let gone := fun (u : State) => u.job? id = none ∧ (u.cq j.slice j.cq).written = (s.cq j.slice j.cq).written + 1 ∧
      (u.cq j.slice j.cq).resv = (s.cq j.slice j.cq).resv - 1
    (s.pwr.inReset = true ∨ s.tmp.rinse = true → exec (.jobDispatch cls) s = .next s) ∧
    (s.pwr.inReset = false → s.tmp.rinse = false → (∀ k ∈ s.queueOf c, tryJob k.id s = none) → exec (.jobDispatch cls) s = .next s) ∧
    (s.pwr.inReset = false → s.tmp.rinse = false → s.queueOf c = a ++ j :: b → (∀ k ∈ a, tryJob k.id s = none) → tryJob j.id s = some t →
      exec (.jobDispatch cls) s = .next (if j.conforming = false ∧ j.long = false then
        { t with sched.rr := tput t.sched.rr 0 c ((j.slice + 1) % 256) } else t)) ∧
    (s.job? id = some j → j.parent = none → j.phase = .decided → j.suppressed = false → s.mayRequest j.slice = true → s.missingPages j = [] → j.status = 0 →
      ∃ u, exec (.engineComputationComplete id) s = .next u ∧ gone u) ∧
    (s.job? id = some j → j.parent = none → j.phase = .decided → j.status ≠ 0 → j.cls < 7 → ∃ u, exec (.engineComputationComplete id) s = .next u ∧
      (u.job? id).map (·.phase) = some .wiping ∧ (u.job? id).map (·.status) = some j.status ∧ u.outbox = s.outbox) ∧
    (s.job? id = some j → j.parent = none → j.phase = .decided → j.suppressed = false → s.mayRequest j.slice = true → j.status ≠ 0 → 7 ≤ j.cls →
      ∃ u, exec (.engineComputationComplete id) s = .next u ∧ gone u) ∧
    (s.job? id = some j → j.parent = some p → (j.phase = .running ∧ s.suspended j = false) ∨ (j.phase = .decided ∧ j.status = 0) →
      ∃ u, exec (.engineComputationComplete id) s = .next u ∧ u.job? id = none) ∧
    (s.job? id = some j → j.parent = some p → j.phase = .decided → j.status ≠ 0 →
      exec (.engineComputationComplete id) s = .next (servePatRead (endWiping id j.status s))) ∧
    (∀ c ∈ [Instr.engineComputationComplete id, .safePointStop id, .engineWipeComplete id], s.job? id = none →
      s.eng.wipes.find? (fun w => w.2 == id) = none → exec c s = .next s) ∧
    (s.tmp.rinse = false → s.eng.wipes.find? (fun w => w.2 == id) = some w →
      exec (.engineWipeComplete id) s = .next { s with eng.wipes := s.eng.wipes.erase w }) ∧
    (s.job? id = some j → j.stop = none ∨ j.stoppable = false → exec (.safePointStop id) s = .next s) ∧
    (s.job? id = some j → j.engine < 0x20 → (s.mangle j.engine).sinceSafe ≠ 0 → exec (.safePointStop id) s = .next s) ∧
    (s.job? id = some j → j.stop = some st → j.stoppable = true → 0x20 ≤ j.engine → exec (.safePointStop id) s = .next (endWiping id st s)) ∧
    (s.job? id = some j → j.stop = some st → j.stoppable = true → 0x20 ≤ j.engine ∨ (s.mangle j.engine).sinceSafe = 0 → j.parent = none →
      s.tasksOf id = [] → ∃ u, exec (.safePointStop id) s = .next u ∧ (j.engine < 0x20 → (u.mangle j.engine).halted = true) ∧
      (u.job? id).map (·.phase) = some .wiping ∧ (u.job? id).map (·.status) = some st ∧ (u.job? id).map (·.outs) = some [] ∧ u.outbox = s.outbox) ∧
    (s.tmp.rinse = true → exec (.engineWipeComplete id) s = .next s) ∧
    (s.job? id = some j → s.eng.wipes.find? (fun w => w.2 == id) = none → j.phase ≠ .wiping ∨ s.tasksLeft id = true →
      exec (.engineWipeComplete id) s = .next s) ∧
    (s.job? id = some j → j.parent = none → s.eng.wipes.find? (fun w => w.2 == id) = none → s.tasksLeft id = false →
      j.phase = .wiping → s.tmp.rinse = false → j.suppressed = false → s.mayRequest j.slice = true →
      ∃ u, exec (.engineWipeComplete id) s = .next u ∧ gone u)

/-- A Mangle executes a sound word, waits for a stalled generator, and stops at a machine check. On a halted or fenced Mangle only butterfly writes already issued land. A sound word counts a cycle, goes to the word its NEXT field and condition give (the idle word after END), and restarts the safe-point count where SAFE is set; a job with a stop request ends there and the Mangle halts. A word that waits for a stalled generator is a safe point. A word after 14,000 cycles without a safe point, with wrong parity, an illegal one or a tagged fabric read is a machine check: captured, the Mangle halted, event 0x30. A patch reload ends the fence of a patch word's parity fault; an activation loads idle Mangles only.
Rests on R154, R155, R156, R163, R164, R165, R166, R167, R169. -/
def Obligations.MicrowordsExecuteOrCheck : Prop :=
  ∀ (s : State) (mangle : BitVec 5),
    let k := mangle.toNat
    let m0 := s.mangle k
    let land1 := m0.land
    let free0 := Config.freeBool s.freeCtr
    let free1 := Config.freeBool (s.freeCtr + 1)
    let u : State := fresh (fresh (s.modMangle k (fun _ => land1.transfers (inputRow (s.onMangle k) land1.fabIn) s.freeRow free0 free1)))
    let m := u.mangle k
    let w := u.mword k
    let late := decide (14000 ≤ m.sinceSafe)
    let wait := w.mg == 1 && u.stalled k
    let done := m.pend.isEmpty && !m.fabBusy
    let stopped := (u.onMangle k).any (fun j => j.stop.isSome)
    let tagged := w.fab == 2 && m.tagOf (m.agAddr 3)
    let cause : Option (BitVec 2) := if late then some 2 else if m.ending then none else if w.parFail != 0 then some 0 else if w.illegal then some 1
      else if tagged then some 3 else none
    (s.pwr.inReset = true → exec (.microwordExecute mangle) s = .next s ∧ exec (.safePointWatchdog mangle) s = .next s) ∧
    (s.pwr.inReset = false → m0.halted = true ∨ s.fence k ≠ .none → exec (.microwordExecute mangle) s = .next (s.modMangle k (fun m => m.land.pause))) ∧
    (s.pwr.inReset = false → m0.halted = false → s.fence k = .none → ∃ t, exec (.microwordExecute mangle) s = .next t ∧
      (m.ending = true → late = false → (t.mangle k).cycle = m.cycle + 1 ∧ (t.mangle k).addr = m.addr ∧ (t.mangle k).ending = !done ∧
        (t.mangle k).sinceSafe = (if done then 0 else m.sinceSafe + 1)) ∧
      (m.ending = false → cause = none → wait = true → (t.mangle k).cycle = m.cycle + 1 ∧ (t.mangle k).addr = m.addr ∧ (t.mangle k).sinceSafe = 0 ∧
        ((t.mangle k).halted = true ↔ m.halted = true ∨ stopped = true)) ∧
      (m.ending = false → cause = none → wait = false →
        (t.mangle k).cycle = m.cycle + 1 ∧ (t.mangle k).sinceSafe = (if w.safe then 0 else m.sinceSafe + 1) ∧
        ((t.mangle k).inPatch, (t.mangle k).addr) = (if w.endBit then (false, 0) else nextWord u k m w) ∧ (t.mangle k).ending = w.endBit ∧
        ((t.mangle k).halted = true ↔ m.halted = true ∨ (w.safe = true ∧ stopped = true))) ∧
      (∀ c, cause = some c → ∃ v,
        t = raiseEvent 0x30 k (.engine k) (if c = 0 ∧ m.inPatch = true then .patch else .check) v ∧ (v.mangle k).halted = true ∧
        (let old := tget s.eng.mchk {} k
         tget v.eng.mchk {} k = if old.valid then old else
           { valid := true, cause := c, inPatch := m.inPatch, parFail := if c = 0 then w.parFail else 0, addr := m.addr }) ∧
        ∀ j ∈ v.jobs, j.engine = k → j.faulted = false)) ∧
    ((s.onMangle k).isNone ∨ s.fence k ≠ .none → exec (.safePointWatchdog mangle) s = .next s) ∧
    (s.pwr.inReset = false → (s.onMangle k).isSome → s.fence k = .none → ∃ v, exec (.safePointWatchdog mangle) s = .next (raiseEvent 0x30 k (.engine k) .check v) ∧
      (v.mangle k).halted = true ∧ (tget v.eng.mchk {} k).valid = true ∧ ∀ j ∈ v.jobs, j.engine = k → j.faulted = false) ∧
    (s.fence k ≠ .patch ∨ s.thm.restarting = true → exec (.patchReload mangle) s = .next s) ∧
    (s.fence k = .patch → s.thm.restarting = false → ∃ t, exec (.patchReload mangle) s = .next t ∧ t.fence k = .none ∧ t.mangle k = {} ∧
      t.jobs = s.jobs ∧ t.eng.patch = (loadPatch k s.activeBank.pattern s.activeBank.matchSet s).eng.patch) ∧
    (s.svc.paused = false ∨ s.activatingBank = none ∨ s.jobs.any (fun j => j.engine == k && j.onEngine) = true →
      exec (.patternPatchLoad mangle) s = .next s) ∧
    (∀ b, s.svc.paused = true → s.activatingBank = some b → s.jobs.any (fun j => j.engine == k && j.onEngine) = false →
      (k ∈ s.svc.loaded → s.svc.loaded.length < 32 → ∃ t, exec (.patternPatchLoad mangle) s = .next t ∧ t.svc.loaded = s.svc.loaded ∧ t.jobs = s.jobs) ∧
      (k ∉ s.svc.loaded → s.svc.loaded.length < 31 → ∃ t, exec (.patternPatchLoad mangle) s = .next t ∧ t.svc.loaded = k :: s.svc.loaded ∧ t.jobs = s.jobs))

/-- An engine fault ends the engine's running jobs with ENGINE_FAULT and fences it; a memory test returns it to service. A fault of a Mangle, Darner or Needle, or a fabric error of a Needle, ends every job that runs on it, or whose success it still holds, with ENGINE_FAULT and raises its event for that engine; without such a job only the event follows. A fabric error of a Tree Sequencer ends the named job. A test that passes clears the engine and ends its fence, one that fails leaves it fenced until PORST#. A corrected memory error is only recorded. A lane error ends its running job and raises the event; at a block boundary a stop request takes effect, or the lane goes to the requester whose turn it is; an index commit ends as its read-back says.
Rests on R153, R188, R245, R288, R289, R177, R210. -/
def Obligations.EngineErrorsEndTheirJobs : Prop :=
  ∀ (s : State) (mangle needle : BitVec 5) (darner : BitVec 2) (engine : BitVec 7) (job : Nat) (key : BitVec 16) (r n : Requester) (rest : List Requester)
    (w : Commit) (p : Nat) (j : Job),
    let e := engine.toNat
    let hit := fun (x : Nat) (j : Job) => j.engine == x && j.faulted
    let lane := s.lane e
    let up := isLane e = true ∧ s.fence e = .none
    let go := up ∧ ∀ id, lane.running.map (·.who) = some (.job id) → ∃ j, s.job? id = some j ∧ j.stoppable = true ∧ j.stop = none
    let k := s.hbs key.toNat
    let rec_ := fun (x : Commit) => ({ keyId := s.keyId key.toNat, seq := k.seq + 1, high := x.high, upper := x.upper, good := true } : PairCopy)
    let awake := fun (l : List Job) => l.map (fun j => if j.phase == .held .indexCommit then { j with phase := .ready } else j)
    (∀ c x ev, (c, x, ev) ∈ [(Instr.mangleFault mangle, mangle.toNat, 0x32), (.darnerFault darner, 0x60 + darner.toNat, 0x32),
        (.needleMemUncorr needle, 0x40 + needle.toNat, 0x31), (.wringerLaneError (0x40 + needle.zeroExtend 7) job, 0x40 + needle.toNat, 0x32)] →
      ((∀ j ∈ s.jobs, hit x j = false) → exec c s = .next (raiseEvent ev x (.engine x) .memTest s)) ∧
      (∃ u, exec c s = .next (raiseEvent ev x (.engine x) .memTest u) ∧ (∀ j ∈ u.jobs, hit x j = false) ∧
        ∀ id j, s.job? id = some j → hit x j = true → (∀ t ∈ s.jobs, t.id = id → t.parent = none ∨ t.phase = .running ∨ t.phase = .decided) →
          (u.job? id).map (fun j => (j.phase, j.status, j.outs)) = some (.wiping, stEngineFault, []))) ∧
    exec (.correctedMemoryError engine) s = .next (raiseEvent 0x04 e (.engine e) .own s) ∧
    (s.fence e ≠ .memTest ∨ s.thm.restarting = true → ∀ ok, exec (.engineMemoryTestDone engine ok) s = .next s) ∧
    (s.fence e = .memTest → s.thm.restarting = false → exec (.engineMemoryTestDone engine false) s = .next (s.setFence e .porst) ∧
      ∃ t, exec (.engineMemoryTestDone engine true) s = .next t ∧ t.fence e = .none ∧ (∀ i, i ≠ e → t.fence i = s.fence i) ∧ t.jobs = s.jobs ∧
        (e < 0x20 → t.mangle e = {}) ∧ (0x40 ≤ e → e < 0x60 → t.needle (e - 0x40) = {})) ∧
    (isLane e = false → e < 0x40 ∨ (0x60 ≤ e ∧ e < 0x64) ∨ 0x68 ≤ e → exec (.wringerLaneError engine job) s = .next s) ∧
    (0x64 ≤ e → e < 0x68 → s.job? job = none → exec (.wringerLaneError engine job) s = .next (raiseEvent 0x32 e (.engine e) .own s)) ∧
    (0x64 ≤ e → e < 0x68 → s.job? job = some j → exec (.wringerLaneError engine job) s =
      .next (raiseEvent 0x32 e (.engine e) .own (if j.engine = e ∧ j.faulted = true then endWiping job stEngineFault s else s))) ∧
    (isLane e = true → ∃ u, exec (.wringerLaneError engine job) s = .next (raiseEvent 0x32 e (.engine e) .own u) ∧
      (u.lane e).waiting = [] ∧ (∀ id, lane.running = some { r with who := .job id } → (s.job? id).any (·.faulted) = true →
        (u.job? id).map (fun j => (j.phase, j.status, j.outs)) = some (.wiping, stEngineFault, []))) ∧
    (¬up ∨ lane.running = none → exec (.wringerBlockBoundary engine) s = .next s) ∧
    (up → ∀ id st, lane.running = some { r with who := .job id } → s.job? id = some j → j.stoppable = true → j.stop = some st →
      exec (.wringerBlockBoundary engine) s = .next (endWiping id st s)) ∧
    (up → ∀ id, lane.running = some { r with who := .job id } → s.job? id = some j → j.stoppable = false → exec (.wringerBlockBoundary engine) s = .next s) ∧
    (go → lane.running = some r → lane.waiting = [] →
      exec (.wringerBlockBoundary engine) s = .next (s.modLane e (fun l => { l with turn := min (l.turn + 1) 4096 }))) ∧
    (go → lane.running = some r → lane.waiting = n :: rest →
      (n.fresh = false → lane.turn + 1 < s.turn e → exec (.wringerBlockBoundary engine) s = .next (s.modLane e (fun l => { l with turn := l.turn + 1 }))) ∧
      (n.fresh = true ∨ s.turn e ≤ lane.turn + 1 → ∃ t, exec (.wringerBlockBoundary engine) s = .next t ∧
        t.lane e = { running := some { n with fresh := false, turnCtx := none },
                      waiting := rest ++ [{ r with fresh := false, turnCtx := s.turnCtxFor e r.who }], turn := 0 } ∧
        (∀ i, i ≠ e → t.lane i = s.lane i) ∧ t.jobs = s.jobs ∧ t.eng.switches = if e < 0x40 then satInc s.eng.switches else s.eng.switches)) ∧
    (k.writing = none → ∀ ok, exec (.indexCommitComplete key ok) s = .next s) ∧
    (k.writing = some w → (∃ t, exec (.indexCommitComplete key true) s = .next t ∧
        t.hbs key.toNat = { k with seq := k.seq + 1, high := w.high, upper := w.upper, writing := none } ∧
        t.pair k.pair = (s.pair k.pair).write (rec_ w) ∧ t.jobs = awake s.jobs ∧ t.eng.hbsCommits = satInc s.eng.hbsCommits) ∧
      (w.again = false → ∃ t, exec (.indexCommitComplete key false) s = .next t ∧ t.hbs key.toNat = { k with writing := some { w with again := true } } ∧
        t.pair k.pair = (s.pair k.pair).write { rec_ w with good := false } ∧ t.jobs = s.jobs) ∧
      (w.again = true → s.freePair = some p → p ≠ k.pair → ∃ u, exec (.indexCommitComplete key false) s = .next (raiseOpenAt 0x33 (.engine engVault) u) ∧
        u.hbs key.toNat = { k with pair := p, seq := k.seq + 1, high := w.high, upper := w.upper, writing := none } ∧
        u.pair p = { a := rec_ w, b := rec_ w, used := true } ∧ (u.pair k.pair).unusable = true ∧ u.jobs = awake s.jobs) ∧
      (w.again = true → s.freePair = none → ∃ t, exec (.indexCommitComplete key false) s = .next t ∧
        t.hbs key.toNat = { k with writing := none, noPair := true } ∧ t.jobs = awake s.jobs ∧ t.kv.pairs = s.kv.pairs))

/-- The two key caches end fills, drop what is flushed, and take quotas that fit. A finished fill makes the entry valid, or an old one where the slot has a newer generation, frees one invalidated meanwhile and wakes the jobs that wait for that key; an FN-DSA fill waits for the engine tasks of its job. A Darner fill of a slot whose generation has changed is discarded, a streamed one waits for its job. FLUSH, and ENABLE = 0 for the Expanded Key Cache, drop valid entries and mark the others invalid; a quota is taken while the sum fits; after LOCK the RWL fields stay and a differing write is event 0x01.
Rests on R128, R130, R131, R151, R152, R229, R230, R244, R245, R11, R14. -/
def Obligations.CachesFillAndFlush : Prop :=
  ∀ (s : State) (slice : BitVec 8) (value : BitVec 32) (job : Nat),
    let i := slice.toNat
    let mine := fun (e : CacheEntry) => e.fillJob == job && (e.st == .filling || e.st == .invalid)
    let filled := fun (st : CacheEntry → Option EntrySt) (c : Cache) => c.entries.filterMap (fun e => if mine e then
        (if e.st == .filling then (st e).map (fun x => { e with st := x }) else none) else some e)
    let current := fun (e : CacheEntry) => (s.slot e.kt e.index).gen.toNat == e.gen
    let dropped := fun (c : Cache) => c.entries.filterMap (fun e => match e.st with | .valid | .old => none | _ => some { e with st := .invalid })
    let streaming := match s.job? job with
      | some j => j.stoppable && isCme j.keyB.alg && (j.opcode == 0x0302 || j.opcode == 0x03F1)
      | none => false
    let room := fun (c : Cache) (q size : Nat) => decide ((c.quota.map (·.2)).foldl (· + ·) 0 - tget c.quota 0 i + q ≤ size)
    let flushE := bit value 1 || !bit value 0
    let kg := fld value 0 3
    let q1 := (fld value 0 15).toNat
    let q2 := (fld value 0 11).toNat
    let ekc : State := { s with eng.ekcEnable := bit value 0 }
    let dpk : State := { s with eng.drnSpill := bit value 4, eng.drnKgMax := kg }
    ((∀ e ∈ s.eng.ekc.entries, mine e = false) ∨ s.tasksLeft job = true → exec (.ekcFillComplete job) s = .next s) ∧
    ((∃ e ∈ s.eng.ekc.entries, mine e = true) → s.tasksLeft job = false → exec (.ekcFillComplete job) s = .next (sweepOld (wakeFills (s.eng.ekc.entries.filter mine)
      { s with eng.ekc.entries := filled (fun e => some (if current e then .valid else .old)) s.eng.ekc }))) ∧
    (streaming = true ∨ (∀ e ∈ s.eng.dpk.entries, mine e = false) → exec (.dpkFillComplete job) s = .next s) ∧
    (streaming = false → (∃ e ∈ s.eng.dpk.entries, mine e = true) → exec (.dpkFillComplete job) s = .next (wakeFills (s.eng.dpk.entries.filter mine)
      { s with eng.dpk.entries := filled (fun e => if current e then some .valid else none) s.eng.dpk })) ∧
    (∀ es u, (wakeFills es u).jobs = u.jobs.map (fun j => if j.phase = .held .cacheFill ∧ (∃ e ∈ es, j.slice = e.slice ∧
      ∃ b ∈ j.bound, b.kt = e.kt ∧ b.index = e.index ∧ b.gen = e.gen) then { j with phase := .ready } else j)) ∧
    (barOpen s → s.locks.getLsbD 9 = false →
      (∀ c ∈ [Instr.ekcFlush value, .ekcEnableWrite value], exec c s = .next (if flushE then { ekc with eng.ekc.entries := dropped s.eng.ekc } else ekc)) ∧
      exec (.dpkFlush value) s = .next (if bit value 5 then { dpk with eng.dpk.entries := dropped s.eng.dpk } else dpk) ∧
      exec (.ekcQuotaWrite slice value) s = .next (if room s.eng.ekc q1 16384 then { s with eng.ekc.quota := tput s.eng.ekc.quota 0 i q1 } else s) ∧
      exec (.dpkQuotaWrite slice value) s = .next (if room s.eng.dpk q2 1536 then { s with eng.dpk.quota := tput s.eng.dpk.quota 0 i q2 } else s)) ∧
    (barOpen s → s.locks.getLsbD 9 = true →
      (bit value 0 = s.eng.ekcEnable → ∀ c ∈ [Instr.ekcFlush value, .ekcEnableWrite value],
        exec c s = .next (if flushE then { s with eng.ekc.entries := dropped s.eng.ekc } else s)) ∧
      (bit value 4 = s.eng.drnSpill → kg = s.eng.drnKgMax →
        exec (.dpkFlush value) s = .next (if bit value 5 then { s with eng.dpk.entries := dropped s.eng.dpk } else s)) ∧
      exec (.ekcQuotaWrite slice value) s = .next (if q1 = tget s.eng.ekc.quota 0 i then s else raiseOpen 0x01 s) ∧
      exec (.dpkQuotaWrite slice value) s = .next (if q2 = tget s.eng.dpk.quota 0 i then s else raiseOpen 0x01 s) ∧
      (bit value 0 ≠ s.eng.ekcEnable → bit value 1 = false → (raiseOpen 0x01 s).eng.ekcEnable = true →
        ∀ c ∈ [Instr.ekcFlush value, .ekcEnableWrite value], exec c s = .next (raiseOpen 0x01 s)) ∧
      (bit value 4 ≠ s.eng.drnSpill ∨ kg ≠ s.eng.drnKgMax → bit value 5 = false → exec (.dpkFlush value) s = .next (raiseOpen 0x01 s)))

/-- The Key Vault rotates, refreshes and reserves without changing keys; RINSE destroys keys and ends every job. A use reservation raises the mark of a limited persistent key by 1,024 up to its limit; a TMK rotation asks the DRBG and waits for the sweep before; the sweep's end retires the old TMK; a share refresh leaves the joined VRK as it was (its random value is free); a retention refresh makes pairs agree. RINSE zeroes VRK, TMK, Key Table, contexts and engine memories, sets every job to ABORTED and wiping, HALT, FAILED, TAMPER_OUT#; the SRAM clear then completes the jobs; a further alarm only logs.
Rests on R214, R313, R324, R325, R326, R327, R333, R442, R444, R445. -/
def Obligations.KeyVaultKeepsAndErasesKeys : Prop :=
  ∀ (s : State) (key : BitVec 16) (source detail : BitVec 8),
    let i := key.toNat
    let b := s.slot false i
    let limit := aLimit (s.keyData false i).attr
    let mark := min limit (max b.reserved (b.used - 1) + 1024)
    let logged := lastN 16 (s.tmp.battLog ++ [({ bsecs := s.tmp.bsecs, source := source, detail := detail, vbat := s.tmp.vbat, temp := s.pwr.tj, main := s.pwr.mainPower } : BattEntry)])
    (b.isKey = false ∨ limit = 0 ∨ s.kv.rinsed = true → exec (.useReservationCommit key) s = .next s) ∧
    (b.isKey = true → limit ≠ 0 → s.kv.rinsed = false → ∃ t, exec (.useReservationCommit key) s = .next t ∧
      t.slot false i = { b with reserved := mark } ∧ (∀ n, n ≠ i → t.slot false n = s.slot false n) ∧ t.kv.kt = s.kv.kt ∧
      t.jobs = s.jobs.map (fun j => if j.phase == .held .useCommit && !(j.bound.any (fun b => t.overMark b.kt b.index)) then { j with phase := .ready } else j)) ∧
    exec .tmkRotation s = .next (if s.kv.sweep = true ∨ s.kv.tmkWaiting = true ∨ s.kv.rinsed = true ∨ s.pwr.inReset = true then s
      else { s with kv.tmkWaiting := true, rng.queue := s.rng.queue ++ [.tmk] }) ∧
    exec .tmkSweepComplete s = .next (if s.kv.sweep then { s with kv.sweep := false, kv.tmkOld := 0, kv.rotations := satInc s.kv.rotations } else s) ∧
    (∃ t, exec .vrkShareRefresh s = .next t ∧ t.kv.vrk0 ^^^ t.kv.vrk1 = s.kv.vrk0 ^^^ s.kv.vrk1 ∧ t.tmp.bsecs = s.tmp.bsecs + 1 ∧
      t.kv.kt = s.kv.kt ∧ t.kv.ps = s.kv.ps ∧ t.jobs = s.jobs) ∧
    exec .psRetentionRefresh s = .next { s with
      kv.refreshAt := s.evr.opTicks
      kv.pairs := tmap s.kv.pairs {} (fun _ p => match p.best with
        | some c => if p.used && !p.unusable then { p with a := c, b := c } else p
        | none => p) } ∧
    (s.pwr.inReset = true → ∃ t, exec (.rinseAssert source detail) s = .next t ∧ t.kv = { s.kv with vrk0 := 0, vrk1 := 0 } ∧
      t.tmp.battLog = logged ∧ t.tmp.tamperOut = true ∧ t.jobs = s.jobs ∧ t.vent = s.vent) ∧
    (s.pwr.inReset = false → s.tmp.rinse = true → ∃ t, exec (.rinseAssert source detail) s = .next t ∧ t.tmp.battLog = logged ∧
      t.kv = s.kv ∧ t.jobs = s.jobs ∧ t.vent = s.vent) ∧
    (s.pwr.inReset = false → s.tmp.rinse = false → ∃ t, exec (.rinseAssert source detail) s = .next t ∧
      t.kv.vrk0 = 0 ∧ t.kv.vrk1 = 0 ∧ t.kv.tmk = 0 ∧ t.kv.tmkOld = 0 ∧ t.kv.kt = [] ∧ t.kv.rinsed = true ∧ t.ctxs = [] ∧ t.eng.mangle = [] ∧
      t.eng.needle = [] ∧ t.eng.lanes = [] ∧ t.eng.ekc.entries = [] ∧ t.eng.dpk.entries = [] ∧ t.rng.gens = [] ∧ t.rng.state = .failed ∧ t.rng.cause = 5 ∧
      t.tmp.rinse = true ∧ t.tmp.tamperOut = true ∧ t.tmp.battLog = logged ∧ t.vent.halt = true ∧ t.vent.haltSec = true ∧ t.pwr.intake = false ∧
      t.thm.quorum = none ∧ t.thm.restarting = true ∧ t.svc.stage = .none ∧ t.crd.run = none ∧ t.kv.ps = s.kv.ps ∧
      t.jobs.map (·.id) = s.jobs.map (·.id) ∧ (∀ j ∈ t.jobs, j.phase = .wiping ∧ j.status = stAborted ∧ j.outs = [])) ∧
    (s.tmp.rinse = false → exec .sramClearComplete s = .next s) ∧
    (s.tmp.rinse = true → ∃ t, exec .sramClearComplete s = .next t ∧ t.kv = s.kv ∧
      ∀ id j, s.job? id = some j → j.phase = .wiping → j.suppressed = true ∨ s.mayRequest j.slice = true → t.job? id = none)

/-- The Random Unit starts with the first source that passes, fails closed, and serves requests in order. At the end of the start-up tests Source A gives READY, else Source B with event 0x03; with neither, or a failed known answer, FAILED with CAUSE 3 or 4. A continuous failure in READY gives FAILED with CAUSE 2 or 1. FAILED raises event 0x42 with a record and ends the waiting jobs. The front request is served, one internal request of at most 65,536 bytes at a time, with free bytes: a job goes on, a generator takes its seed, a TMK rotates; a fenced unit serves none. Resets, the automatic ones at most while AUTO_LEFT lasts, go back to STARTUP; a stalled generator ends its job at the timeout. Nothing happens in reset.
Rests on R363, R364, R365, R366, R367, R368, R369, R370, R371, R372, R373, R376. -/
def Obligations.RandomUnitStartsFailsAndServes : Prop :=
  ∀ (s : State) (a b kat : Bool) (rct apt : BitVec 16) (am : BitVec 11) (rm : BitVec 6) (value : BitVec 32) (gen : BitVec 7) (job id n : Nat) (q : List DrbgFor) (j : Job),
    let g := gen.toNat
    let r := s.rng
    let tests := Instr.noiseStartupTestComplete a b kat rct apt am rm
    let seen : RngState := { r with rct := satAdd r.rct rct.toNat, apt := satAdd r.apt apt.toNat, aptMax := am, rctMax := rm, aFailed := !a }
    let ready := fun (src : Bool) => ({ s with rng := { seen with
      state := .ready, cause := 0, sourceB := src, requests := 0, gens := [], queue := r.queue.filter (fun d => match d with | .gen _ => false | _ => true) } } : State)
    let failed := fun (c : Instr) (why : BitVec 3) => ∃ u, exec c s = .next (logRecord 0x0404 [why.zeroExtend 8] (raiseOpenAt 0x42 (.engine engRandom) u)) ∧
      u.rng.state = .failed ∧ u.rng.cause = why ∧ u.rng.queue = r.queue.filter (· == .tmk) ∧
      ∀ id n j, DrbgFor.job id n ∈ r.queue → s.job? id = some j → j.phase = .held .drbg → j.suppressed = true ∨ s.mayRequest j.slice = true → u.job? id = none
    let prAll := r.prAll
    let one := fun (pr : Bool) => ({ r with requests := if pr then 0 else r.requests + 1, reseeds := if pr then satInc r.reseeds else r.reseeds } : RngState)
    let served := fun (pr : Bool) => ({ one pr with queue := q, part := (0, 0) } : RngState)
    let before := if r.part.1 = id then r.part.2 else 0
    let up := r.state = .ready ∧ s.fence engRandom = .none
    let start : RngState := { r with state := .startup, cause := 0, aptMax := 0, rctMax := 0, part := (0, 0) }
    (s.pwr.inReset = true → ∀ c ∈ [tests, .healthTestFailure a, .drbgReseed, .drbgRequestServed, .rngRequestTimeout job, .rngAutoReset,
      .autoResetWindowExpiry, .mgReseedRequest gen, .mgSeedArrival gen, .mgStall gen, .mgStallTimeout job], exec c s = .next s) ∧
    (barOpen s → exec (.rngDomainReset value) s = .next (if bit value 0 = true ∧ r.state ≠ .startup ∧ r.cause ≠ 5 then
      { s with rng := { start with hostResets := satInc r.hostResets } } else s)) ∧
    (s.pwr.inReset = false → (r.state ≠ .startup → exec tests s = .next s) ∧
    (r.state = .startup → (a = false → b = false → failed tests 3) ∧ (a = true ∨ b = true → kat = false → failed tests 4) ∧
      (a = true → kat = true → exec tests s = .next (ready false)) ∧
      (a = false → b = true → kat = true → exec tests s = .next (raiseOpenAt 0x03 (.engine engRandom) (ready true)))) ∧
    (r.state ≠ .ready → ∀ x, exec (.healthTestFailure x) s = .next s) ∧
    (r.state = .ready → failed (.healthTestFailure true) 2 ∧ failed (.healthTestFailure false) 1) ∧
    exec .drbgReseed s = .next (if r.state = .ready then { s with rng.reseeds := satInc r.reseeds, rng.requests := 0 } else s) ∧
    (¬up ∨ r.queue = [] → exec .drbgRequestServed s = .next s) ∧
    (up → r.queue = .gen g :: q → ∃ t, exec .drbgRequestServed s = .next t ∧ t.gen g = {} ∧ (∀ i, i ≠ g → t.gen i = s.gen i) ∧
      t.rng.queue = q ∧ t.rng.reseeds = (served prAll).reseeds ∧ t.jobs = s.jobs) ∧
    (up → r.queue = .tmk :: q → ∃ t, exec .drbgRequestServed s = .next t ∧ t.kv.tmkOld = s.kv.tmk ∧
      t.kv.tmk = BitVec.ofNat 512 (ofLE (freeBytes s 64)) ∧ t.kv.sweep = true ∧ t.kv.tmkWaiting = false ∧ t.rng = served prAll ∧ t.jobs = s.jobs) ∧
    (up → r.queue = .job id n :: q → s.job? id = some j → before + 1 < max 1 (ceilDiv n 65536) → exec .drbgRequestServed s =
      .next { s with rng := { one (prAll || (j.opcode == 0x0801 && j.pb 0 % 2 == 1)) with part := (id, before + 1) } }) ∧
    (up → r.queue = .job id n :: q → s.job? id = some j → max 1 (ceilDiv n 65536) ≤ before + 1 → ∃ t, exec .drbgRequestServed s = .next t ∧
      t.job? id = some { j with seed := freeBytes s n, phase := if j.phase = .held .drbg then .ready else j.phase } ∧
      t.rng = served (prAll || (j.opcode == 0x0801 && j.pb 0 % 2 == 1)) ∧ t.kv = s.kv) ∧
    (r.state ≠ .startup ∨ (∀ n, DrbgFor.job job n ∉ r.queue) → exec (.rngRequestTimeout job) s = .next s) ∧
    (r.state = .startup → DrbgFor.job job n ∈ r.queue → s.job? job = some j →
      (j.stoppable = false → j.suppressed = true ∨ s.mayRequest j.slice = true → ∃ t, exec (.rngRequestTimeout job) s = .next t ∧ t.job? job = none) ∧
      (j.stoppable = true → ∃ t, exec (.rngRequestTimeout job) s = .next t ∧
        (t.job? job).map (fun j => (j.phase, j.status)) = some (.wiping, stRngNotReady))) ∧
    exec .rngAutoReset s = .next (if r.state = .failed ∧ r.autoReset = true ∧ (r.cause = 1 ∨ r.cause = 2 ∨ r.cause = 4) ∧ r.autoLeft ≠ 0 ∧ s.thm.restarting = false ∧ s.thm.halted = false ∧ s.thm.fenced = false then
      { s with rng := { start with autoResets := satInc r.autoResets, autoLeft := r.autoLeft - 1 } } else s) ∧
    exec .autoResetWindowExpiry s = .next (if r.autoLeft = 3 then s else { s with rng.autoLeft := r.autoLeft + 1 }) ∧
    (gen < 109 → (s.gen g).requested = false → ∃ t, exec (.mgReseedRequest gen) s = .next t ∧
      t.gen g = { s.gen g with draws := max (s.gen g).draws (2 ^ 19), requested := true } ∧
      t.rng.queue = (if r.state = .ready then r.queue ++ [.gen g] else r.queue) ∧ t.jobs = s.jobs) ∧
    (109 ≤ gen ∨ (s.gen g).requested = true → exec (.mgReseedRequest gen) s = .next s) ∧
    (up → (s.gen g).requested = true → ∃ t, exec (.mgSeedArrival gen) s = .next t ∧ t.gen g = {} ∧
      t.rng.queue = r.queue.filter (fun d => d != .gen g) ∧ t.jobs = s.jobs) ∧
    (¬up ∨ (s.gen g).requested = false → exec (.mgSeedArrival gen) s = .next s) ∧
    (exec (.mgStall gen) s = .next (if (s.gen g).requested then s.modGen g (fun x => { x with draws := 2 ^ 20, stalled := true }) else s)) ∧
    (s.job? job = none → exec (.mgStallTimeout job) s = .next s) ∧
    (s.job? job = some j → (j.stoppable && s.stalled j.engine) = false → (j.phase == .ready && s.stalled engVault) = false → exec (.mgStallTimeout job) s = .next s) ∧
    (s.job? job = some j → (j.stoppable && s.stalled j.engine) = true → ∃ t, exec (.mgStallTimeout job) s = .next t ∧
      (t.job? job).map (fun j => (j.phase, j.status)) = some (.wiping, stRngUnavailable)) ∧
    (s.job? job = some j → (j.phase == .ready && s.stalled engVault) = true → j.suppressed = true ∨ s.mayRequest j.slice = true →
      ∃ t, exec (.mgStallTimeout job) s = .next t ∧ t.job? job = none))

/-- An event counts in its class, escalates while the class is pending, and its level brings every lower response. A raised event counts in its class and is the latest event. Its level is its base level, or, while the class is pending and the base is at least NOTIFY, one more than the level applied, at most HALT, for SECURITY RINSE. FENCE stops the named engine or slice, HALT stops intake, RINSE outside reset enters RINSE; at level 0 no job, slice, fence or HALT changes. A code that names no event changes nothing.
Rests on R446, R447, R448, R449. -/
def Obligations.ResponseLevelsFollowTheClass : Prop :=
  ∀ (s : State) (code detail cls base : Nat) (f : FenceUnit) (kind : Fence),
    let v := s.ventClass cls
    let applied := if v.newRun then 0 else v.level.toNat
    let lv := if 1 ≤ base ∧ v.pending = true then min (if cls = 5 then 4 else 3) (max base applied + 1) else base
    let t := raiseEvent code detail f kind s
    (eventInfo code = none → t = s) ∧
    (eventInfo code = some (cls, base) →
      t.ventClass cls = { v with
        newRun := false, events := satInc v.events
        count := BitVec.ofNat 4 (min 15 ((if v.newRun then 0 else v.count.toNat) + 1))
        pending := v.pending || decide (1 ≤ lv)
        level := BitVec.ofNat 3 (if 1 ≤ lv then max applied lv else applied) } ∧
      (∀ c, c ≠ cls → t.ventClass c = s.ventClass c) ∧
      t.vent.lastCode = BitVec.ofNat 8 code ∧ t.vent.lastDetail = BitVec.ofNat 8 detail ∧ t.vent.lastClass = BitVec.ofNat 3 cls ∧ t.vent.lastLevel = BitVec.ofNat 3 lv ∧
      (lv = 0 → t.jobs = s.jobs ∧ t.slices = s.slices ∧ t.eng = s.eng ∧ t.kv = s.kv ∧ t.vent.halt = s.vent.halt ∧ t.tmp = s.tmp) ∧
      (lv = 1 → t.jobs = s.jobs ∧ t.slices = s.slices ∧ t.eng = s.eng ∧ t.kv = s.kv ∧ t.vent.halt = s.vent.halt ∧ t.tmp = s.tmp) ∧
      (∀ c, f = .engine c → kind ≠ .none → 2 ≤ lv → t.fence c ≠ .none) ∧
      (∀ i, f = .slice i → kind ≠ .none → 2 ≤ lv → (t.slice i).fence ≠ .none) ∧
      (f = .thimble → 2 ≤ lv → t.thm.restarting = true) ∧
      (3 ≤ lv → t.vent.halt = true) ∧ (4 ≤ lv → s.pwr.inReset = false → t.tmp.rinse = true))

/-- A tamper source that is not disabled alarms with its code, a detector where it works; the configuration is committed or rejected. A loop or case switch whose two fuses are burned does nothing; otherwise it sets its ALARM bit and raises its event, and in reset brings RINSE alone; a detector does so under the conditions in which it works. A VBAT below 2.3 V under main power is event 0x05. TMP_CTRL.COMMIT makes the staged configuration active and mirrored in MAKER and INTEGRATOR or under a quorum, where it is sound; otherwise CFG_REJECT and event 0x06. Fuses of R439 burn only in MAKER and INTEGRATOR.
Rests on R436, R437, R438, R439, R440, R444, R456, R543. -/
def Obligations.TamperSourcesAlarm : Prop :=
  ∀ (s : State) (loop : BitVec 3) (sw : BitVec 2) (detail : BitVec 8) (mv : BitVec 16) (value : BitVec 32),
    let early := s.lcs.state = .maker ∨ s.lcs.state = .integrator
    let running := s.pwr.mainPower = true ∧ s.pwr.inReset = false
    let vbat : State := { s with tmp.vbat := mv }
    let staged := fun (n : Nat) => tget s.tmp.stage.loops {} n
    let reject := raiseOpen 0x06 { s with tmp.cfgReject := true }
    (∀ c n code det, (c, n, code, det) ∈ [(Instr.tloopAlarm loop detail, loop.toNat, 0x60 + loop.toNat, detail),
        (.caseSwAlarm sw, 8 + sw.toNat, 0x68 + sw.toNat, 0)] →
      (bit s.otp.tdis (2 * n) = true ∧ bit s.otp.tdis (2 * n + 1) = true → exec c s = .next s) ∧
      (bit s.otp.tdis (2 * n) = false ∨ bit s.otp.tdis (2 * n + 1) = false →
        (s.pwr.inReset = true → exec c s = exec (.rinseAssert (BitVec.ofNat 8 code) det) s) ∧
        (s.pwr.inReset = false → exec c s = .next (raiseEvent code det.toNat .none .own { s with tmp.alarm := s.tmp.alarm ||| (1 <<< n) })))) ∧
    (∀ d code works, (d, code, works) ∈ [(Detector.dieMesh, 0x6C, True), (.substrateMesh, 0x6D, True), (.vbat, 0x70, s.pwr.mainPower = false),
        (.temperature, 0x71, True), (.supply, 0x72, running), (.clock, 0x73, s.pwr.mainPower = true), (.light, 0x74, s.pwr.mainPower = true)] →
      (¬works → exec (.tamperAlarm d detail) s = .next s) ∧
      (works → (s.pwr.inReset = true → exec (.tamperAlarm d detail) s = exec (.rinseAssert (BitVec.ofNat 8 code) detail) s) ∧
        (s.pwr.inReset = false → exec (.tamperAlarm d detail) s = .next (raiseEvent code detail.toNat .none .own s)))) ∧
    (running ∧ mv < 2300 → exec (.vbatLowWarning mv) s = .next (raiseOpen 0x05 vbat)) ∧
    (¬(running ∧ mv < 2300) → exec (.vbatLowWarning mv) s = .next vbat) ∧
    (barOpen s → bit value 0 = false → exec (.tamperCommit value) s = .next s) ∧
    (barOpen s → bit value 0 = true →
      (early ∨ s.thm.quorum.isSome = true → s.configOk s.tmp.stage = true → exec (.tamperCommit value) s =
        .next { s with tmp.active := s.tmp.stage, tmp.mirror := s.tmp.stage, tmp.mirrorGood := true }) ∧
      (¬(early ∨ s.thm.quorum.isSome = true) → exec (.tamperCommit value) s = .next reject) ∧
      (∀ n, n < 8 → (staged n).prbs = true → (staged n).seed = 0 → exec (.tamperCommit value) s = .next reject) ∧
      (∀ n m, n < 8 → m < n → (staged n).prbs = true → (staged m).prbs = true → (staged n).seed = (staged m).seed → s.sourceOff n = false →
        s.sourceOff m = false → exec (.tamperCommit value) s = .next reject)) ∧
    (barOpen s → ¬early → exec (.tdisBurn value) s = .next s) ∧
    (barOpen s → early → ∃ t, exec (.tdisBurn value) s = .next t ∧ t = { s with otp.tdis := t.otp.tdis } ∧
      ∀ n, n < 12 → bit t.otp.tdis (2 * n) = (bit s.otp.tdis (2 * n) || bit value n) ∧ bit t.otp.tdis (2 * n + 1) = (bit s.otp.tdis (2 * n + 1) || bit value n))

/-- Mismatches raise their events, Thimble comes back from a restart, and the Vent is acknowledged, resumed and injected as written. A shadow mismatch raises its event, with 0x51 after the job whose key was in flight has ended with ENGINE_FAULT; a lockstep mismatch is event 0x40 and fences Thimble. A restart ends with records written, and ends the pause of an activation whose swap it completes. A 1 in a PENDING bit acknowledges its class: its run ends and what only its escalations fenced is released; auto-acknowledgement does so for a class it is set for. RESUME ends a HALT that SECURITY did not decide while nothing is pending. Injection needs factory test mode or the right, else event 0x07.
Rests on R447, R449, R450, R451, R452, R453, R454, R455. -/
def Obligations.VentControlActsAsWritten : Prop :=
  ∀ (s : State) (code detail : BitVec 8) (high : Bool) (value : BitVec 32) (cls : BitVec 3) (j : Job) (ec eb : Nat),
    let c := code.toNat
    let d := detail.toNat
    let unit := if c = 0x52 ∨ c = 0x53 then FenceUnit.slice d else .none
    let flying := s.jobs.find? (fun j => j.engine == d && j.faulted && !s.suspended j && !j.bound.isEmpty)
    let back : State := { s with thm.restarting := false, thm.fenced := false }
    let asked := if high then [4, 5].filter (fun k => bit value (8 * (k - 4) + 7)) else [0, 1, 2, 3].filter (fun k => bit value (8 * k + 7))
    let acked := fun (l : List Nat) (t : State) =>
      (∀ k, t.ventClass k = if l.contains k then { s.ventClass k with pending := false, newRun := true } else s.ventClass k) ∧
      t.eng.fence = l.foldl (fun m k => tmap m .none (fun _ f => if f = .escalation k then .memTest else f)) s.eng.fence ∧
      t.slices = l.foldl (fun m k => tmap m {} (fun _ sl => if sl.fence = .escalation k then { sl with fence := .none } else sl)) s.slices ∧
      t.jobs = s.jobs ∧ t.vent.halt = s.vent.halt
    let auto := cls.toNat < 5 ∧ bit s.vent.autoAck cls.toNat = true ∧ s.canRecord = true ∧ s.vent.held = [] ∧ s.pwr.inReset = false
    let vec := fld value 8 3
    let aa := fld value 0 5
    let set : State := { s with vent.vec := vec, vent.autoAck := aa }
    let resumes := bit value 11 && s.vent.halt && !s.vent.haltSec && (List.range 6).all (fun k => !(s.ventClass k).pending)
    let allowed := s.lcs.ftm = true ∨ (s.lcs.state = .maker ∧ s.right 6 = true)
    let icode := (fld value 8 8).toNat
    let id := (fld value 16 8).toNat
    (c < 0x51 ∨ 0x56 < c ∨ s.pwr.inReset = true → exec (.shadowMismatch code detail) s = .next s) ∧
    (s.pwr.inReset = false → 0x51 ≤ c → c ≤ 0x56 → (c ≠ 0x51 ∨ flying = none) → exec (.shadowMismatch code detail) s = .next (raiseEvent c d unit .own s)) ∧
    (s.pwr.inReset = false → c = 0x51 → flying = some j → ∃ u, exec (.shadowMismatch code detail) s = .next (raiseEvent c d .none .own u) ∧
      (u.job? j.id).map (fun j => (j.phase, j.status, j.outs)) = some (.wiping, stEngineFault, [])) ∧
    exec .lockstepMismatch s = .next (if s.pwr.inReset then s else raiseEvent 0x40 0x70 .thimble .own s) ∧
    (s.thm.restarting = false ∨ s.pwr.inReset = true → exec .thimbleRestartComplete s = .next s) ∧
    (s.thm.restarting = true → s.pwr.inReset = false → s.tmp.rinse = true →
      exec .thimbleRestartComplete s = .next (drainRecords (takeHeldRecords { back with tmp.battLog := [], tmp.battOver := 0 }))) ∧
    (s.thm.restarting = true → s.pwr.inReset = false → s.tmp.rinse = false → ∃ t, exec .thimbleRestartComplete s = .next t ∧
      t.thm.restarting = false ∧ t.thm.fenced = false ∧ t.svc.paused = (s.svc.paused && s.activatingBank.isSome) ∧ t.vent.held = [] ∧
      (s.thm.halted = false → t.evr.queue = [])) ∧
    (barOpen s → ∃ t, exec (.ventAcknowledge high value) s = .next t ∧ acked asked t) ∧
    (auto → ∃ t, exec (.ventAutoAcknowledge cls) s = .next t ∧ acked [cls.toNat] t) ∧
    (¬auto → exec (.ventAutoAcknowledge cls) s = .next s) ∧
    (barOpen s → s.locks.getLsbD 4 = false → exec (.ventResume value) s = .next (if resumes then refetchAll (updateAttn { set with vent.halt := false }) else set)) ∧
    (barOpen s → s.locks.getLsbD 4 = true → vec = s.vent.vec → aa = s.vent.autoAck →
      exec (.ventResume value) s = .next (if resumes then refetchAll (updateAttn { s with vent.halt := false }) else s)) ∧
    (barOpen s → s.locks.getLsbD 4 = true → vec ≠ s.vent.vec ∨ aa ≠ s.vent.autoAck → bit value 11 = false →
      exec (.ventResume value) s = .next (raiseOpen 0x01 s)) ∧
    (barOpen s → bit value 0 = false → exec (.ventInject value) s = .next s) ∧
    (barOpen s → bit value 0 = true → ¬allowed ∨ eventInfo icode = none → exec (.ventInject value) s = .next (raiseOpen 0x07 s)) ∧
    (barOpen s → bit value 0 = true → allowed → eventInfo icode = some (ec, eb) →
      exec (.ventInject value) s = .next (raiseEvent icode id (injectUnit ec icode id) (.escalation ec) { s with vent.fi := true }))

/-- A request of an open service link session is executed once where it is permitted, refused without effect where not, and a repetition only answered. Without an open session, or while Thimble does not serve, a request does nothing. A repetition gets the kept answer and is not executed. One that life cycle, right, quorum or state does not permit ends with KEY_POLICY_DENIED and no effect. A permitted one has the effect its rule gives (image staging, activation, event read-out and clearing, pattern read-out once its Mangle is idle, nonce, certificate, transition, Thimble and Needle debug, the metrology seal) and its answer.
Rests on R170, R426, R457, R462, R466, R467, R496, R499, R502, R503, R510, R511. -/
def Obligations.ServiceLinkRequestsAreAnsweredOnce : Prop :=
  ∀ (s : State) (seq : BitVec 16) (data cert : Bytes) (first : BitVec 64) (count target : BitVec 32) (mangle needle : BitVec 5) (image : Bool),
    let sends := fun (p : Bytes) (u : State) => sendAll 0x11 seq.toNat (p.length / 4096 + 1) p u
    let answer := fun (st : Nat) (x : Bytes) (u : State) =>
      sends (leBytes 2 st ++ x) { u with svc.lastSeq := some seq.toNat, svc.lastReply := leBytes 2 st ++ x }
    let life := s.lcs.state
    let served := life != .locked && life != .scrapped
    let bank := s.inactive
    let im := bank.image
    let idle := s.svc.activating.isNone && s.lcs.burning.isNone && s.mig.contexts.isEmpty && s.crd.run.isNone && !s.vent.halt
    let activated : State := { s.modInactive (fun b => { b with st := .activating }) with svc.activating := some seq }
    let kind := fieldLE cert 2 1
    let checked : State := logRecord 0x0202 (leBytes 1 kind ++ leBytes 1 (s.certResult cert)) { s with
      lcs.nonce := none, lcs.lastKind := BitVec.ofNat 8 kind, lcs.lastResult := BitVec.ofNat 4 (s.certResult cert) }
    let busy := s.lcs.burning.isSome
    let may := match life, stateOf target with
      | .integrator, some .fielded => !s.thm.custodians.isEmpty && s.thm.quorum.isSome
      | .maker, some .scrapped => true
      | .integrator, some .scrapped => true
      | .fielded, some .scrapped => s.thm.quorum.isSome
      | _, _ => false
    let others := s.slices.all (fun e => e.1 == 0 || s.sliceState e.1 == .disabled)
    let n := s.needle needle.toNat
    let up := fun (w : BitVec 32) => (w <<< 1) ||| 1
    let broken : State := { s with
      otp.msealA := up s.otp.msealA, otp.msealB := up s.otp.msealB, otp.msealC := up s.otp.msealC
      met.intervals := [], met.st := .isUnsealed, met.recorded := false }
    let keyed := if s.met.key = [] ∧ life ≠ .analysis then newMetKey s else s
    let region := fit 1048576 s.met.image
    let swId := BitVec.ofNat 32 (Config.measure .imageParse [region])
    let sum := sha256 region
    let patterns := ((List.range 8192).map (fun a => leBytes 20 (romWord a).toNat)).flatten ++
      ((List.range 256).map (fun a => leBytes 20 (tget s.eng.patch 0 (256 * mangle.toNat + a)).toNat)).flatten ++
      ((List.range 32).map (fun a => matchWord (s.matchReg mangle.toNat a))).flatten
    ∀ c ok t, (c, ok, t) ∈ [
      (Instr.imageBegin seq, served, if s.activatingBank.isSome then answer stSessionUnavailable [] s else answer 0 [] (s.modInactive (fun _ => {}))),
      (.imageData seq data, served && bank.st == .invalid, answer 0 [] (s.modInactive (fun b => { b with image := (b.image ++ data).take 8388609 }))),
      (.imageEnd seq, served && bank.st == .invalid, if imageStatus s.svc.svnFloor im = 0 then
          answer 0 [] (logRecord 0x0101 (leBytes 4 (stagedBank im).version.toNat) (s.modInactive (fun _ => stagedBank im)))
        else answer (imageStatus s.svc.svnFloor im) [] (logRecord 0x0102 (leBytes 2 (imageStatus s.svc.svnFloor im)) s)),
      (.activate seq, served && s.svc.actEn && bank.st == .staged && idle, match s.thm.run with
        | some r => endNow r.job stAborted 0x70 { activated with thm.run := none }
        | none => activated),
      (.rslEventRead seq first count, served, answer 0 (((s.evr.records.filter (fun r => first.toNat ≤ r.seq)).take count.toNat).map (·.bytes)).flatten s),
      (.rslEventClear seq, served && (s.right 4 || s.thm.quorum.isSome), answer 0 [] (eventClear (if s.right 4 then 2 else 1) s)),
      (.rslPatternRead seq mangle, served && s.right 3, if s.jobs.any (fun j => j.engine == mangle.toNat && j.holds) then { s with svc.patRead := some (seq, mangle.toNat) }
        else answer 0 patterns { s with svc.patRead := none }),
      (.rslNonce seq, life != .scrapped, match s.rng.state with
        | .ready => fresh (answer 0 (freeBytes s 16) { s with lcs.nonce := some (freeBytes s 16) })
        | .startup => answer stRngNotReady [] s
        | .failed => answer stRngFailed [] s),
      (.rslCert seq cert, life != .scrapped && (life != .locked || kind == 3),
        if busy then { s with lcs.waiting := s.lcs.waiting ++ [.cert seq cert] }
        else answer 0 (leBytes 1 (s.certResult cert)) (if s.certResult cert = 0 then applyCert cert checked else checked)),
      (.rslDeactivate seq, served, answer 0 [] { s with lcs.dac := none }),
      (.rslLcsTransition seq target, served, if busy then { s with lcs.waiting := s.lcs.waiting ++ [.transition seq target] }
        else if may then startBurn target (some seq) false s else answer stKeyPolicyDenied [] s),
      (.thimbleHalt seq .halt, served && s.right 1 && others, answer 0 [] (haltThimble s)),
      (.thimbleHalt seq .step, served && s.right 1 && others && s.thm.halted, answer 0 [] s),
      (.thimbleHalt seq .readOut, served && s.right 1 && others && s.thm.halted, fresh (answer 0 (freeBytes s 128) s)),
      (.needleTrace seq needle, served && s.right 2 && n.running,
        answer 0 (leBytes 8 n.pc.toNat ++ leBytes 4 (Config.needleCode n.image.toNat n.pc.toNat).toNat)
          (s.modNeedle needle.toNat (fun n => { n with halted := true }))),
      (.metroUnseal seq, served && s.otp.variantL && life != .analysis && s.met.st == .isSealed && s.right 5 && s.thm.quorum.isSome && decide (s.breaks < 32),
        answer 0 [] (logRecord 0x0502 (leBytes 1 broken.breaks) broken)),
      (.metroLoad seq image data, served && s.otp.variantL && s.met.st == .isUnsealed,
        answer 0 [] (if image then { s with met.image := overlay 1048576 s.met.image data } else { s with met.params := overlay 65536 s.met.params data })),
      (.metroReseal seq, served && s.otp.variantL && s.met.st == .isUnsealed,
        if Config.check .imageParse [vendorHash, region] = false then answer stSignatureInvalid [] s
        else answer 0 [] (logRecord 0x0501 (leBytes 4 swId.toNat ++ sum.take 15 ++ leBytes 1 s.breaks) { keyed with
          met.swId := swId, met.swSum := sum, met.st := .isSealed, met.recorded := true }))] →
      (s.svc.stage ≠ .isOpen ∨ s.thimbleUp = false → exec c s = .next s) ∧
      (s.svc.stage = .isOpen → s.thimbleUp = true → s.svc.lastSeq = some seq.toNat → exec c s = .next (sends s.svc.lastReply s)) ∧
      (s.svc.stage = .isOpen → s.thimbleUp = true → s.svc.lastSeq ≠ some seq.toNat →
        exec c s = .next (if ok = true then t else answer stKeyPolicyDenied [] s))

/-- The service link's session is set up, secured and ended as its frames say; an activation drains or ends. HELLO answers serial number, life-cycle state, fuse words and version; KEX, from a READY Random Unit, answers a key, a share and the identity signature, and ends an open session; the last frame derives the session keys and opens the session with NOTICE 0. CLOSE, a silence, the link's loss end it with their record. A drained activation pauses; one that does not drain ends with ABORTED and the bank STAGED.
Rests on R494, R495, R496, R497, R498, R503. -/
def Obligations.ServiceSessionsAndActivations : Prop :=
  ∀ (s : State) (seq : BitVec 16) (point ciphertext : Bytes) (aseq : BitVec 16),
    let serves := s.svc.linkUp = true ∧ s.thm.restarting = false ∧ s.svc.bootFailed = false ∧ s.pwr.inReset = false
    let hello := serialBytes ++ leBytes 1 s.lcs.state.code ++ leBytes 4 s.otp.lcsA.toNat ++ leBytes 4 s.otp.lcsB.toNat ++
      leBytes 4 s.otp.lcsC.toNat ++ leBytes 4 s.activeBank.version.toNat
    let t1 := s.svc.transcript ++ clearFrame 0x02 seq.toNat point
    let d := freeBytes s 144
    let ek := alg .mlKemEk 1568 [num 3, d.take 64]
    let x := alg .ecPk 32 [num 0x12, [], cut d 64 32]
    let p := ek ++ x ++ identitySign (t1 ++ frameHead 0x02 0 seq.toNat 1696 ++ ek ++ x) (d.drop 96)
    let ended := fun (u : State) (cause : Nat) (t : State) => t.svc.stage = .none ∧ t.svc.keys = [] ∧ t.svc.kex = [] ∧ t.svc.transcript = [] ∧ t.svc.txSeq = 0 ∧
      t.svc.lastSeq = none ∧ t.lcs.waiting = [] ∧ t.kv = s.kv ∧ t.jobs = s.jobs ∧
      (s.svc.stage ≠ .isOpen → t.evr = s.evr) ∧
      (s.svc.stage = .isOpen → t.evr = (logRecord 0x0104 (leBytes 1 cause) u).evr)
    let keys := kmac256 (alg .mlKemDecaps 32 [num 3, s.svc.kex.take 64, ciphertext] ++ alg .ecdh 32 [num 0x12, [], cut s.svc.kex 64 32, cut s.svc.kex 96 32])
      (sha384 (s.svc.transcript ++ clearFrame 0x03 seq.toNat ciphertext)) 64 (ascii "EQX-RSL")
    let opened : State := { s with
      svc.stage := .isOpen, svc.keys := keys, svc.kex := [], svc.transcript := [], svc.lastSeq := none, svc.lastReply := [], svc.txSeq := 0 }
    exec .rslLinkUp s = .next (if s.pwr.inReset then s else { s with svc.linkUp := true }) ∧
    (∃ t, exec .rslLinkDown s = .next t ∧ t.svc.linkUp = false ∧ ended s 4 t) ∧
    (∀ c cause, (c, cause) ∈ [(Instr.rslClose, 3), (.rslSessionTimeout, 2)] → ∃ t, exec c s = .next t ∧ t.svc.linkUp = s.svc.linkUp ∧ ended s cause t) ∧
    exec .svcFrameError s = .next { s with svc.frameErrors := satInc s.svc.frameErrors } ∧
    (¬serves → ∀ c ∈ [Instr.rslHello seq, .rslKex seq point, .rslKexDone seq ciphertext], exec c s = .next s) ∧
    (serves → exec (.rslHello seq) s = .next (emit (.rsl 0x01 (clearFrame 0x01 seq.toNat hello)) { s with
        svc.transcript := clearFrame 0x01 seq.toNat [] ++ clearFrame 0x01 seq.toNat hello
        svc.stage := if s.svc.stage = .isOpen then .isOpen else .hello })) ∧
    (serves → s.svc.transcript = [] ∨ point.length ≠ 32 ∨ s.rng.state ≠ .ready → exec (.rslKex seq point) s = .next s) ∧
    (serves → s.svc.transcript ≠ [] → point.length = 32 → s.rng.state = .ready → ∃ t, exec (.rslKex seq point) s = .next t ∧
      t.outbox = (if s.svc.stage = .isOpen then endRsl 5 s else s).outbox ++ [.rsl 0x02 (clearFrame 0x02 seq.toNat p)] ∧ t.svc.stage = .kex ∧
      t.svc.transcript = t1 ++ clearFrame 0x02 seq.toNat p ∧ t.svc.kex = d.take 96 ++ point ∧ t.kv = s.kv ∧ t.jobs = s.jobs) ∧
    (s.svc.stage ≠ .kex ∨ ciphertext.length ≠ 1568 → exec (.rslKexDone seq ciphertext) s = .next s) ∧
    (serves → s.svc.stage = .kex → ciphertext.length = 1568 →
      exec (.rslKexDone seq ciphertext) s = .next (sendFrame 0x12 0 false [0, 0] (logRecord 0x0103 [] opened))) ∧
    (s.svc.activating = none ∨ s.svc.paused = true ∨ s.compositeRunning = true → exec .activationDrainComplete s = .next s) ∧
    (s.svc.activating = some aseq → s.svc.paused = false → s.compositeRunning = false →
      exec .activationDrainComplete s = .next { s with svc.paused := true, svc.loaded := [] }) ∧
    (s.svc.activating = none ∨ s.svc.paused = true → exec .activationDrainTimeout s = .next s) ∧
    (s.svc.activating = some aseq → s.svc.paused = false →
      let u : State := { s.modInactive (fun b => { b with st := .staged }) with svc.activating := none }
      exec .activationDrainTimeout s = .next (if s.svc.stage = .isOpen then rslAnswer aseq stAborted [] u else u))

/-- Two of three codewords decide the life-cycle state, a burn sets all three, a wiping target erases first; the TAP drives pins only where it may. Two of the three words that hold one state's codeword give that state, anything else LOCKED. A finished burn ORs the target into all three words, decodes them, ends certificate and quorum, answers its request, and the waiting requests follow. A burn toward ANALYSIS or SCRAPPED starts with the wipe of every key, custodian, template and metrology key. A certificate's expiry ends its rights; factory test mode erases what SRAM holds and is entered in MAKER only. The TAP selects, shifts, samples and identifies; its pin-driving instructions act in MAKER and INTEGRATOR or under the right, with HALT, the link down and the pins handed over, otherwise as BYPASS.
Rests on R459, R460, R462, R463, R467, R468, R469, R470, R471. -/
def Obligations.LifeCycleMovesByBurningFuses : Prop :=
  ∀ (s : State) (pins preload : Bytes) (b : Burn) (target : BitVec 32) (q : Option (BitVec 16)) (r : Bool),
    let o := s.otp
    let two := fun (o : Otp) (w : BitVec 32) => (o.lcsA = w ∧ o.lcsB = w) ∨ (o.lcsA = w ∧ o.lcsC = w) ∨ (o.lcsB = w ∧ o.lcsC = w)
    let words := [(LcsSt.maker, 0x00000000#32), (.integrator, 0x000000FF#32), (.fielded, 0x0000FFFF#32), (.analysis, 0x00FFFFFF#32), (.scrapped, 0xFFFFFFFF#32)]
    let burnt : Otp := { o with lcsA := o.lcsA ||| b.target, lcsB := o.lcsB ||| b.target, lcsC := o.lcsC ||| b.target }
    let u := startBurn target q r s
    let may := s.pwr.inReset = false ∧ (s.lcs.state = .maker ∨ s.lcs.state = .integrator ∨ s.right 0 = true)
    (∀ x w, (x, w) ∈ words → ∀ o, two o w → decodeLcs o = x) ∧
    (∀ o, (∀ x w, (x, w) ∈ words → ¬two o w) → decodeLcs o = .locked) ∧
    (s.lcs.burning = none → exec .lcsBurnComplete s = .next s) ∧
    (s.lcs.burning = some b → ∃ v, exec .lcsBurnComplete s = .next (s.lcs.waiting.foldl (fun s r => takeLcsReq r s) v) ∧
      v.otp = burnt ∧ v.lcs = { s.lcs with state := decodeLcs burnt, burning := none, dac := none, waiting := [] } ∧ v.thm.quorum = none ∧
      v.svc.lastSeq = (match b.seq with | some q => some q.toNat | none => s.svc.lastSeq) ∧ v.kv = s.kv ∧
      v.svc.attn = (s.vent.halt || decodeLcs burnt == .locked || s.svc.bootFailed)) ∧
    u.lcs.burning = some { target := target, seq := q, repair := r } ∧ u.otp = s.otp ∧ u.lcs.state = s.lcs.state ∧
    (target ≠ 0x00FFFFFF → target ≠ 0xFFFFFFFF → u = { s with lcs.burning := some { target := target, seq := q, repair := r } }) ∧
    (target = 0x00FFFFFF ∨ target = 0xFFFFFFFF → u.kv.kt = [] ∧ u.kv.ps = [] ∧ u.kv.journal = [] ∧ u.kv.dying = [] ∧ u.kv.hbs = [] ∧ u.kv.pairs = [] ∧ u.kv.vrk0 = 0 ∧ u.kv.vrk1 = 0 ∧
      u.kv.tmk = 0 ∧ u.ctxs = [] ∧ u.eng.needle = [] ∧ u.eng.mangle = [] ∧ u.thm.custodians = [] ∧ u.thm.templates = [] ∧ u.thm.curves = [] ∧ u.thm.payPolicy = 0 ∧
      u.svc.svnFloor = 0 ∧ u.met.key = [] ∧ u.met.sources = [] ∧ u.met.intervals = [] ∧ u.lcs.dac = none ∧
      ((∀ j ∈ s.jobs, j.suppressed = true ∨ s.mayRequest j.slice = true) → u.jobs = [])) ∧
    exec .dacExpiry s = .next { s with lcs.dac := none } ∧
    (s.lcs.state ≠ .maker ∨ s.pwr.inReset = true → exec .ftmEnter s = .next { s with tap.ir := 0xFF }) ∧
    (s.lcs.state = .maker → s.pwr.inReset = false → ∃ t, exec .ftmEnter s = .next t ∧ t.lcs.ftm = true ∧ t.tap.ir = 0x3C ∧ t.kv.kt = [] ∧ t.kv.vrk0 = 0 ∧
      t.kv.vrk1 = 0 ∧ t.kv.tmk = 0 ∧ t.ctxs = [] ∧ t.eng.needle = [] ∧ t.eng.mangle = [] ∧ (s.kv.dying = [] → t.kv.ps = s.kv.ps) ∧ t.otp = s.otp ∧
      ((∀ j ∈ s.jobs, j.suppressed = true ∨ s.mayRequest j.slice = true) → t.jobs = [])) ∧
    (∀ c t, (c, t) ∈ [
      (Instr.tapReset, { s with tap.ir := 0x02, tap.left := s.tap.driving }),
      (.bypass, { s with tap.ir := 0xFF }),
      (.samplePreload pins preload, { emit (.tdo 1 pins) s with tap.boundary := preload, tap.ir := 0x01 }),
      (.idcode, { emit (.tdo 2 (leBytes 4 idcodeValue.toNat)) s with tap.ir := 0x02 })] → exec c s = .next t) ∧
    (fld idcodeValue 0 1 = 1 ∧ fld idcodeValue 12 16 = 0x6480 ∧ fld idcodeValue 28 4 = 1) ∧
    ∀ c ir, (c, ir) ∈ [(Instr.extest, (0x00 : BitVec 8)), (.extestPulse, 0x03), (.extestTrain, 0x04), (.clamp, 0x05), (.highz, 0x06)] →
      (¬may → exec c s = .next { s with tap.ir := 0xFF }) ∧
      (may → ∃ t, exec c s = .next t ∧ t.tap = { s.tap with ir := ir, driving := true, left := false } ∧ t.vent.halt = true ∧
        t.hif.dlActive = false ∧ t.hif.speed = 0 ∧ t.hif.width = 0 ∧ t.otp = s.otp ∧ Output.pin .boundary true ∈ t.outbox)

/-- Internal reset, start-up, conventional reset and Function Level Reset clear and keep what their rules name. PORST#, a slow brown-out and a loss of main power put every domain but the battery domain into its reset state with the cause recorded; persistent keys, records, custodians, metrology key and fuses stay, a burn under way stopping between its bits. START_UP leaves reset with the decoded life-cycle state and, where a bank may start, open intake; a device with a destroyed root starts with no persistent key. PERST# clears the host side, its jobs and sessions but not time, faults or the fences that last until PORST#; a Function Level Reset resets every slice and suppresses every job.
Rests on R62, R63, R444, R459, R460, R504, R517, R518, R519. -/
def Obligations.ResetsKeepWhatTheyMust : Prop :=
  ∀ (s : State) (powerOn : Bool),
    let slices0 : Tbl Slice := [(0, { enable := true, state := .active })]
    let isReset := fun (t : State) (main : Bool) (cause : BitVec 2) =>
      t.pwr = { mainPower := main, perst := s.pwr.perst, cause := cause } ∧ t.pwr.inReset = true ∧ t.locks = 0 ∧ t.hif = {} ∧ t.ring = {} ∧ t.sqs = [] ∧ t.cqs = [] ∧
      t.jobs = [] ∧ t.slices = slices0 ∧ t.time = {} ∧ t.sched = {} ∧ t.eng = {} ∧ t.ctxs = [] ∧ t.kv.kt = [] ∧ t.kv.tmk = 0 ∧ t.rng = {} ∧ t.vent = {} ∧ t.tap = {} ∧
      t.crd = {} ∧ t.kv.ps = s.kv.ps ∧ t.kv.vrk0 = s.kv.vrk0 ∧ t.kv.vrk1 = s.kv.vrk1 ∧ t.evr.records = s.evr.records ∧ t.evr.opTicks = s.evr.opTicks ∧
      t.thm.custodians = s.thm.custodians ∧ t.thm.templates = s.thm.templates ∧ t.thm.quorum = none ∧ t.met.key = s.met.key ∧ t.tmp.battLog = s.tmp.battLog ∧
      t.tmp.active = s.tmp.active ∧ t.svc.svnFloor = s.svc.svnFloor ∧ t.lcs.state = s.lcs.state ∧ t.lcs.burning = none ∧ t.mig.imageSeq = s.mig.imageSeq ∧
      (s.lcs.burning = none → t.otp = s.otp) ∧
      (∀ b, s.lcs.burning = some b → ∀ (p : Otp → BitVec 32), p = Otp.lcsA ∨ p = Otp.lcsB ∨ p = Otp.lcsC →
        p s.otp &&& p t.otp = p s.otp ∧ p t.otp &&& (p s.otp ||| b.target) = p t.otp)
    let boots := fun (b : Bank) => (b.st == .active || b.st == .staged) && decide (s.svc.svnFloor ≤ b.svn)
    (∃ t, exec (.porstAssert powerOn) s = .next t ∧
      isReset t s.pwr.mainPower (if powerOn = true then 0 else if s.pwr.inReset = true ∧ s.pwr.cause = 2 then 2 else 1)) ∧
    (∃ t, exec (.brownOut false) s = .next t ∧ isReset t s.pwr.mainPower 2) ∧
    (s.pwr.inReset = true ∨ s.pwr.mainPower = false → exec (.brownOut true) s = .next s) ∧
    (s.pwr.inReset = false → s.pwr.mainPower = true → exec (.brownOut true) s = .next (raiseEvent 0x72 0 .none .own s)) ∧
    (∃ t, exec .mainPowerLoss s = .next t ∧ isReset t false (if s.pwr.inReset then s.pwr.cause else 2) ∧ t.tmp.mainRates = false) ∧
    exec .mainPowerReturn s = .next { s with pwr.mainPower := true, tmp.mainRates := true } ∧
    (s.pwr.inReset = false ∨ s.pwr.mainPower = false → exec .startUp s = .next s) ∧
    (s.pwr.inReset = true → s.pwr.mainPower = true → ∃ t, exec .startUp s = .next t ∧ t.pwr.inReset = false ∧ t.lcs.state = decodeLcs s.otp ∧
      t.lcs.powerCycles = s.lcs.powerCycles + 1 ∧ t.lcs.dac = (match s.lcs.dac with
        | some d => if d.cycles = 0 then none else some { d with cycles := d.cycles - 1 }
        | none => none) ∧
      (boots s.activeBank = false → boots s.inactive = false → t.svc.bootFailed = true ∧ t.pwr.intake = s.pwr.intake) ∧
      (boots s.activeBank = true ∨ boots s.inactive = true → s.svc.bootFailed = false → t.svc.bootFailed = false ∧ t.pwr.intake = true ∧
        t.tmp.tamperOut = false ∧ t.tmp.battLog = [] ∧ t.vent.batt = (s.vent.batt || !s.tmp.battLog.isEmpty) ∧ t.tmp.active = t.tmp.mirror ∧
        t.met.maxQueue = s.met.stored.getD 0x40 ∧ t.kv.journal = [] ∧
        ((s.kv.vrk0 = 0 ∧ s.kv.vrk1 = 0) ∨ s.tmp.mirrorGood = false → t.kv.ps = []))) ∧
    exec .perstDeassert s = .next { s with pwr.perst := false, pwr.hifReady := false } ∧
    exec .hifReady s = .next (if s.pwr.inReset = true ∨ s.pwr.perst = true then s else { s with pwr.hifReady := true }) ∧
    (s.pwr.inReset = true → exec .conventionalReset s = .next { s with pwr.perst := true }) ∧
    (s.pwr.inReset = false → ∃ t, exec .conventionalReset s = .next t ∧ t.pwr.perst = true ∧ t.pwr.hifReady = false ∧ t.locks = 0 ∧ t.hif = {} ∧ t.ring = {} ∧
      t.sqs = [] ∧ t.cqs = [] ∧ t.jobs = [] ∧ t.slices = slices0 ∧ t.kv.kt = [] ∧ t.crd = {} ∧
      t.ctxs = tmap s.ctxs {} (fun _ x => { sgen := if x.isOpen then x.sgen + 1 else x.sgen }) ∧
      t.eng.fence = tmap s.eng.fence .none (fun _ f => if f = .porst ∨ f = .check then f else .none) ∧
      t.time = s.time ∧ t.rng.state = s.rng.state ∧ t.vent.halt = s.vent.halt ∧ t.vent.cls = s.vent.cls ∧ t.lcs.state = s.lcs.state ∧ t.otp = s.otp ∧
      t.tmp.rinse = s.tmp.rinse) ∧
    (s.pwr.inReset = true ∨ s.pwr.perst = true → exec .functionLevelReset s = .next s) ∧
    (s.pwr.inReset = false → s.pwr.perst = false → s.pwr.hifReady = false → exec .functionLevelReset s = .next (emit .retryStatus s)) ∧
    (s.pwr.inReset = false → s.pwr.perst = false → s.pwr.hifReady = true → ∃ t, exec .functionLevelReset s = .next t ∧
      (∀ j ∈ t.jobs, j.suppressed = true) ∧ (∀ i, i < 256 → (t.slice i).gen = (s.slice i).gen + 1 ∧ (t.slice i).enable = (s.slice i).enable) ∧
      t.hif.vectors = [] ∧ t.hif.pba = [] ∧ t.hif.atc = [] ∧ t.hif.streams = [] ∧ t.hif.dmaStatus = 0 ∧ t.hif.dmaFaults = 0 ∧ t.hif.bme = false ∧
      t.hif.mse = false ∧ t.hif.d3hot = false ∧ t.thm.quorum = none ∧ t.kv.rotations = 0 ∧ t.time = s.time)

/-- Clock, temperature, credit, efficiency, SMBus and scrub events change exactly what their rules name. A droop is counted and stretches a nominal clock; a junction above the limit holds it, five degrees below release it; at 120 the trip raises event 0x44 once. Each tick adds a Start Credit up to 16 and grants waiting units in order; an idle engine is gated. EREF sets the floors, a window's end the ratios. Outside reset each SMBus read is answered with its bytes. A corrected scrub error is event 0x04; an uncorrectable one ends what it hits with its event, free where several are listed.
Rests on R26, R184, R522, R523, R524, R525, R526, R527, R528, R530, R540. -/
def Obligations.PowerAndScrubEventsAct : Prop :=
  ∀ (s : State) (tj : BitVec 8) (engine : BitVec 7) (eref energy : Nat) (cls : BitVec 3) (region : SramRegion) (u : Nat) (q : List Nat) (k : BitVec 5)
    (dk : BitVec 2) (cx : BitVec 12) (blk : Nat),
    let up := s.pwr.inReset = false
    let limit : Int := if 60 ≤ s.pwr.thermHold.toNat ∧ s.pwr.thermHold.toNat ≤ 110 then s.pwr.thermHold.toNat else 105
    let held := s.pwr.eclkSel || s.pwr.thermHeld
    let e := engine.toNat
    let more := min 16 (s.pwr.credits + 1)
    let w := tget s.pwr.eff {} cls.toNat
    let ratio : BitVec 16 := BitVec.ofNat 16 (min 65535 (energy * 256 / max 1 (w.runNops * s.pwr.eref)))
    let full := decide (1000 ≤ w.runOps)
    let idle := up ∧ s.pwr.gateIdle ≠ 0 ∧ e < 0x70 ∧ s.busy e = false ∧ (isLane e = false ∨ s.held e = 0)
    let smb := [(Instr.smbTemperature, [s.pwr.tj]), (.smbVbat, leBytes 2 s.tmp.vbat.toNat), (.smbSerial, leBytes 8 Config.serial.toNat),
      (.smbSuffix, [if s.otp.variantL then 0x4C else 0x53]), (.smbDeviceId, [0x80, 0x64]), (.smbRevision, [Config.revision]),
      (.smbStatus, leBytes 1 (flag s.pwr.thermtrip + 2 * flag s.vent.halt + 4 * flag s.tmp.rinse + 16 * s.lcs.state.code))]
    (¬up → (∀ c ∈ [Instr.droopTrip, .thermalHold tj, .thermalHoldRelease tj, .thermtrip tj, .startCreditTick, .erefMeasurement eref, .effWindowEnd cls energy,
        .sramScrubError region true, .sramScrubError region false], exec c s = .next s) ∧ ∀ c b, (c, b) ∈ smb → exec c s = .next s) ∧
    exec .droopClear s = .next { s with pwr.droop := false } ∧
    (idle → exec (.enginePowerGate engine) s = .next { s with pwr.gated := tput s.pwr.gated false e true }) ∧
    (¬idle → exec (.enginePowerGate engine) s = .next s) ∧
    (up → (∀ c b, (c, b) ∈ smb → exec c s = .next (emit (.smbus b) s)) ∧
      exec .droopTrip s = .next { s with pwr.droopEvents := satInc s.pwr.droopEvents, pwr.droop := s.pwr.droop || !held } ∧
      exec (.thermalHold tj) s = .next { s with pwr.tj := tj, pwr.thermHeld := s.pwr.thermHeld || decide (limit < tj.toInt) } ∧
      exec (.thermalHoldRelease tj) s = .next { s with pwr.tj := tj, pwr.thermHeld := s.pwr.thermHeld && decide (limit < tj.toInt + 5) } ∧
      (tj.toInt < 120 ∨ s.pwr.thermtrip = true → exec (.thermtrip tj) s = .next s) ∧
      (120 ≤ tj.toInt → s.pwr.thermtrip = false → exec (.thermtrip tj) s =
        .next (raiseEvent 0x44 tj.toNat .none .own (emit (.pin .thermtrip false) { s with pwr.tj := tj, pwr.thermtrip := true }))) ∧
      (s.pwr.creditQueue = [] → exec .startCreditTick s = .next { s with pwr.credits := more }) ∧
      (s.pwr.creditQueue = u :: q → more < creditCost u → exec .startCreditTick s = .next { s with pwr.credits := more }) ∧
      (s.pwr.creditQueue = [u] → creditCost u ≤ more → ∃ t, exec .startCreditTick s = .next t ∧ t.pwr.credits = more - creditCost u ∧ t.pwr.creditQueue = [] ∧
        t.isGated u = false ∧ t.jobs = s.jobs ∧ (0x80 ≤ u → (t.needle (u - 0x80)).bolt = (s.needle (u - 0x80)).running)) ∧
      exec (.erefMeasurement eref) s = .next { s with pwr.eref := eref, pwr.eff := [0, 1, 2, 3, 4].foldl (fun t k =>
        tmod t {} k (fun x => { x with floor := BitVec.ofNat 32 (min (2 ^ 32 - 1) (Config.nOpRef k * eref / 1000)) })) s.pwr.eff } ∧
      (5 ≤ cls.toNat → exec (.effWindowEnd cls energy) s = .next s) ∧
      (cls.toNat < 5 → ∃ t, exec (.effWindowEnd cls energy) s = .next t ∧ t.jobs = s.jobs ∧ tget t.pwr.eff {} cls.toNat = { w with
        ops := BitVec.ofNat 32 (min (2 ^ 32 - 1) w.runOps), runOps := 0, runNops := 0, last := if full then ratio else 0
        worst := if full && decide (w.worst < ratio) then ratio else w.worst }) ∧
      (∀ r x, (r, x) ∈ [(SramRegion.needle k, 0x40 + k.toNat), (.darner dk, 0x60 + dk.toNat), (.mangle k, k.toNat)] →
        exec (.sramScrubError r false) s = .next (raiseEvent 0x04 x (.engine x) .own s)) ∧
      exec (.sramScrubError .emram true) s = .next (raiseOpen 0x43 s) ∧
      (∀ r ∈ [SramRegion.keyTable, .keyCache blk, .thimble, .session cx, .staging, .metrology, .tables, .emram],
        exec (.sramScrubError r false) s = .next (raiseOpen 0x04 s)) ∧
      (∀ r c, (r, c) ∈ [(SramRegion.needle k, Instr.needleMemUncorr k), (.darner dk, .darnerFault dk), (.mangle k, .mangleFault k)] →
        exec (.sramScrubError r true) s = exec c s) ∧
      (∀ r codes, (r, codes) ∈ [(SramRegion.thimble, [0x41, 0x43]), (.metrology, [0x41, 0x43]), (.keyTable, [0x32, 0x41, 0x43]), (.keyCache blk, [0x32, 0x41, 0x43]),
          (.staging, [0x32, 0x41, 0x43]), (.tables, [0x32, 0x41, 0x43])] →
        ∃ c ∈ codes, exec (.sramScrubError r true) s = .next (raiseOpen c (fresh s))) ∧
      (∃ v, exec (.sramScrubError (.session cx) true) s = .next (raiseEvent 0x13 0 .none .own v) ∧ (v.ctx cx.toNat).isOpen = false ∧
        ∀ id j, s.job? id = some j → j.session = some cx.toNat ∨ (isStep j.opcode = true ∧ j.ctxOf = cx.toNat) → j.faulted = true →
          (∀ t ∈ s.jobs, t.id = id → t.parent = none ∨ t.phase = .running ∨ t.phase = .decided) →
          (v.job? id).map (fun j => (j.phase, j.status, j.outs)) = some (.wiping, stEngineFault, [])))

/-- An operator card is activated class by class, asked for its identity and one cryptogram, and a quorum opens with M custodians. Insertion tries the classes C, B, A that are set; no ATR or an excluded class goes to the next, a malformed one, a silence, an exhausted retransmission, another status word or a removal ends the port with its LAST code. A card passes PPS where its TA1 asks for it, then SELECT, GET_ID and SIGN or ECDH. An invalid signature is only recorded; a custodian counts once; the M-th opens the quorum, ends QUORUM_OPEN and both ports. The wait's and the quorum's expiry end them.
Rests on R336, R337, R489, R490, R491, R492. -/
def Obligations.OperatorCardsAreTakenStepByStep : Prop :=
  ∀ (s : State) (port : BitVec 1) (atr : Bytes) (a : Atr) (sw : BitVec 16) (id sig z : Bytes) (r : QuorumRun) (b : BkpRun) (answer : CardAnswer),
    let k := port.toNat
    let p := s.ocPort k
    let pin := if k = 0 then Pin.oc0Power else .oc1Power
    let classes := if k = 0 then s.crd.classes0 else s.crd.classes1
    let off := fun (last : Nat) (u : State) => if (u.ocPort k).active then emit (.pin pin false) (u.modOc k (fun p => { p with
      active := false, cls := 0, stage := .none, id := [], last := BitVec.ofNat 16 last, retried := false })) else u
    let next := fun (c : Nat) (u : State) => match [0, 1, 2].filter (fun x => decide (c ≤ x) && bit classes x) with
      | x :: _ => emit (.pin pin true) (u.modOc k (fun p => { p with active := true, cls := BitVec.ofNat 2 (x + 1), stage := .atr }))
      | [] => off 1 (u.modOc k (fun p => { p with active := true }))
    let sends := fun (apdu : Bytes) (st : OcStage) (u : State) => emit (.card k apdu) (u.modOc k (fun p => { p with stage := st }))
    let select := sends [0x00, 0xA4, 0x04, 0x00, 0x07, 0xF0, 0x45, 0x51, 0x58, 0x4F, 0x50, 0x31] .select
    let proto := s.modOc k (fun p => { p with proto := a.proto == 1 })
    let pp : BitVec 8 := 0x10 + BitVec.ofNat 8 a.proto
    let named := s.modOc k (fun p => { p with id := id })
    let respond := Instr.ocApduResponse port
    let awaits := p.stage = .select ∨ p.stage = .getId ∨ p.stage = .sign ∨ p.stage = .ecdh
    let digest := fun (i : Bytes) => sha256 (ascii "EQX-QUORUM" ++ serialBytes ++ r.challenge ++ i)
    let good := s.thm.custodians.any (fun c => c.id == p.id && Config.check .ecdsaVerify [num 1, [], c.key, sig, digest p.id, num 1])
    let seen := r.counted.contains p.id
    let full := decide (s.thm.m ≤ (r.counted ++ [p.id]).length)
    exec (.ocCardInsert port) s = .next (if p.present = true ∨ s.thimbleUp = false then s
      else next 0 (s.modOc k (fun p => { p with present := true, retried := false, id := [] }))) ∧
    exec (.ocCardRemoval port) s = .next ((off 6 s).modOc k (fun p => { p with present := false })) ∧
    exec (.ocWaitingTimeExpiry port) s = .next (off 4 s) ∧
    (p.stage ≠ .atr → ∀ x, exec (.ocAtrReceived port x) s = .next s) ∧
    (p.stage = .atr → exec (.ocAtrReceived port none) s = .next (next p.cls.toNat s) ∧
      (parseAtr atr = none → exec (.ocAtrReceived port (some atr)) s = .next (off 2 s)) ∧
      (parseAtr atr = some a → a.classes.any (fun c => !c.testBit (3 - p.cls.toNat)) = true →
        exec (.ocAtrReceived port (some atr)) s = .next (next p.cls.toNat s)) ∧
      (parseAtr atr = some a → a.classes.any (fun c => !c.testBit (3 - p.cls.toNat)) = false →
        exec (.ocAtrReceived port (some atr)) s = .next (match a.ta1 with
          | some t => if wantsPps t = true ∧ p.retried = false then sends [0xFF, pp, BitVec.ofNat 8 t, 0xFF ^^^ pp ^^^ BitVec.ofNat 8 t] .pps proto else select proto
          | none => select proto))) ∧
    (p.stage ≠ .pps → ∀ x, exec (.ocPpsResponse port x) s = .next s) ∧
    (p.stage = .pps → exec (.ocPpsResponse port true) s = .next (select s) ∧
      exec (.ocPpsResponse port false) s = .next (next (p.cls.toNat - 1) ((off 3 s).modOc k (fun p => { p with retried := true })))) ∧
    (¬awaits → exec (respond answer sw) s = .next s) ∧
    (awaits → exec (respond .exhausted sw) s = .next (off 5 s) ∧
      (answer ≠ .exhausted → sw ≠ 0x9000 → exec (respond answer sw) s = .next (off 7 s)) ∧ exec (respond .refused 0x9000) s = .next (off 7 s)) ∧
    (p.stage = .select → exec (respond .selected 0x9000) s = .next (sends [0x80, 0x10, 0x00, 0x00, 0x08] .getId s)) ∧
    (p.stage = .getId → id.length ≠ 8 → exec (respond (.identity id) 0x9000) s = .next (off 7 s)) ∧
    (p.stage = .getId → id.length = 8 →
      (s.thm.run = some r → exec (respond (.identity id) 0x9000) s = .next (sends ([0x80, 0x20, 0x00, 0x00, 0x20] ++ digest id) .sign named)) ∧
      (s.thm.run = none → s.crd.run = some b → b.step = .collect →
        exec (respond (.identity id) 0x9000) s = .next (sends ([0x80, 0x30, 0x00, 0x00, 0x41] ++ b.stream.take 65) .ecdh named)) ∧
      (s.thm.run = none → (∀ b, s.crd.run = some b → b.step ≠ .collect) → exec (respond (.identity id) 0x9000) s = .next (off 0 named))) ∧
    (p.stage = .sign → s.thm.run = none → exec (respond (.signature sig) 0x9000) s = .next (off 0 s)) ∧
    (p.stage = .sign → s.thm.run = some r →
      (good = false → exec (respond (.signature sig) 0x9000) s = .next (logRecord 0x0402 p.id (off 0 s))) ∧
      (good = true → seen = true → exec (respond (.signature sig) 0x9000) s = .next (off 0 s)) ∧
      (good = true → seen = false → full = false →
        exec (respond (.signature sig) 0x9000) s = .next { off 0 s with thm.run := some { r with counted := r.counted ++ [p.id] } }) ∧
      (good = true → seen = false → full = true → ∃ t, exec (respond (.signature sig) 0x9000) s = .next t ∧ t.thm.run = none ∧
        t.thm.quorum = some { ttl := r.ttl, since := s.time.epoch.toNat } ∧ (t.ocPort 0).active = false ∧ (t.ocPort 1).active = false ∧
        ∀ j, s.job? r.job = some j → (t.job? r.job).map (fun j => (j.phase, j.status)) = some (.decided, 0))) ∧
    (p.stage = .ecdh → exec (respond (.secret z) 0x9000) s = .next (if z.length = 32 then addShare p.id z (off 0 s) else off 7 s)) ∧
    (s.thm.run = none → exec .quorumWaitExpiry s = .next s) ∧
    (s.thm.run = some r → ∃ t, exec .quorumWaitExpiry s = .next t ∧ t.thm.run = none ∧ t.thm.quorum = s.thm.quorum ∧ (t.ocPort 0).active = false ∧
      (t.ocPort 1).active = false ∧ ∀ j, s.job? r.job = some j → (t.job? r.job).map (fun j => (j.phase, j.status, j.outs)) = some (.decided, stCardTimeout, [])) ∧
    exec .quorumTtlExpiry s = .next { s with thm.quorum := none }

/-- A backup operation starts where it may, moves block by block with the card, and ends with the code of its failure. A write of CRD_BKP_CTRL starts FORMAT, WRITE or RESTORE where none runs and its conditions hold, else it ends at once with its status; ABORT takes effect between blocks, at once while cards are collected. A ready card starts the writes or reads; each accepted phase goes on, each block counts; an unsupported card, an error, a write protection, a silence, a removal and a block that does not verify end the operation with code, detail and failing block, the card off.
Rests on R473, R474, R475, R476, R477, R478, R485, R486, R487, R488, R493. -/
def Obligations.BackupOperationsFollowTheCard : Prop :=
  ∀ (s : State) (wp wide hs : Bool) (value : BitVec 32) (blocks : Nat) (data : Bytes) (r : BkpRun) (x : Nat) (rest : List Nat),
    let c := s.crd
    let u : State := { s with crd.wp := wp }
    let ended := fun (code detail : Nat) (block : Option Nat) (t : State) => t.crd.run = none ∧ t.crd.busy = false ∧ t.crd.code = BitVec.ofNat 16 code ∧
      t.crd.detail = BitVec.ofNat 4 detail ∧ t.crd.block = block.elim 0xFFFFFFFF (BitVec.ofNat 32) ∧ t.crd.phase = 0 ∧ t.crd.powered = false ∧ t.kv = s.kv
    let moving := c.phase = 1 ∨ 3 ≤ c.phase
    let waited : State := { s with crd.wait := fld value 8 8 }
    let may := fun (op : Nat) => s.bkpDenied op = 0
    exec (.sdCardInsert wp) s = .next (if s.pwr.inReset then s else { s with crd.present := true, crd.wp := wp }) ∧
    (c.present = false → exec .sdCardRemoval s = .next s) ∧
    (c.present = true → c.run = none → exec .sdCardRemoval s = .next { s with crd.present := false, crd.removed := true }) ∧
    (c.present = true → c.run = some r → ∃ t, exec .sdCardRemoval s = .next t ∧ t.crd.present = false ∧ t.crd.removed = true ∧
      (if c.phase = 6 ∨ c.phase = 7 then ended stCardRemovedBusy 0 r.current t else if c.phase = 3 ∨ c.phase = 4 ∨ c.phase = 5 then ended stCardAbsent 0 r.current t
        else ended stCardAbsent 0 none t)) ∧
    (¬moving → exec .sdTimeout s = .next s ∧ exec (.sdResponse .error wp) s = .next u) ∧
    (moving → c.run = some r → (∃ t, exec .sdTimeout s = .next t ∧ ended stCardTimeout 0 r.current t) ∧
      ∃ t, exec (.sdResponse .error wp) s = .next t ∧ ended stInputMalformed 0 r.current t) ∧
    (c.phase ≠ 1 → exec (.sdResponse (.ready wide hs blocks) wp) s = .next u ∧ exec (.sdResponse .unsupported wp) s = .next u) ∧
    (c.phase = 1 → c.run = some r → (∃ t, exec (.sdResponse .unsupported wp) s = .next t ∧ ended stCardAbsent 1 none t) ∧
      ∃ t, exec (.sdResponse (.ready wide hs blocks) wp) s = .next t ∧
        (r.abort = true → ended stAborted 0 none t) ∧
        (r.abort = false → r.op = 1 → blocks < 65600 → ended stCardAbsent 4 none t) ∧
        (r.abort = false → r.op = 1 → 65600 ≤ blocks → wp = true → ended stCardWriteProtected 0 (some 0) t) ∧
        (r.abort = false → r.op = 1 → 65600 ≤ blocks → wp = false → t.crd.phase = 4 ∧ t.crd.wide = (wide && c.wideEn) ∧ t.crd.hs = (hs && c.hsEn) ∧
          t.outbox = s.outbox ++ [.sd true 0 (headerBlock (freeBytes s 16))]) ∧
        (r.abort = false → r.op ≠ 1 → t.crd.phase = 3 ∧ t.crd.wide = (wide && c.wideEn) ∧ t.crd.hs = (hs && c.hsEn) ∧
          t.outbox = s.outbox ++ [.sd false 0 []] ∧ t.crd.run.map (·.toRead) = some [0, 1, 2, 3])) ∧
    (c.phase ≠ 3 → exec (.sdResponse (.data data) wp) s = .next u) ∧
    (c.phase = 3 → c.run = some r → r.toRead = x :: rest → ∃ t, exec (.sdResponse (.data data) wp) s = .next t ∧
      (if r.blockOk x (fit 512 data) then t.crd.done = c.done + 1 else ended stInputMalformed 0 (some x) t)) ∧
    (c.phase < 4 → exec (.sdResponse .accepted wp) s = .next u ∧ exec (.sdResponse .writeProtected wp) s = .next u) ∧
    (4 ≤ c.phase → c.phase ≠ 7 → exec (.sdResponse .accepted wp) s = .next { u with crd.phase := c.phase + 1 }) ∧
    (c.phase = 7 → ∃ t, exec (.sdResponse .accepted wp) s = .next t ∧ t.crd.done = c.done + 1) ∧
    (4 ≤ c.phase → c.run = some r → ∃ t, exec (.sdResponse .writeProtected wp) s = .next t ∧ ended stCardWriteProtected 0 r.current t) ∧
    (barOpen s → ∀ i op, (i, op) ∈ [(Instr.bkpFormat value, 1), (.bkpWrite value, 2), (.bkpRestore value, 3)] →
      (c.busy = true ∨ s.thimbleUp = false → exec i s = .next waited) ∧
      (c.busy = false → s.thimbleUp = true → may op → ∃ t, exec i s = .next t ∧ t.crd.run = some { op := op } ∧ t.crd.busy = true ∧ t.crd.op = BitVec.ofNat 3 op ∧
        t.crd.phase = 1 ∧ t.crd.powered = true ∧ t.crd.done = 0 ∧ t.crd.keys = 0 ∧ t.crd.block = 0xFFFFFFFF ∧ t.crd.wait = fld value 8 8 ∧
        t.outbox = s.outbox ++ [.pin .sdPower true]) ∧
      (c.busy = false → s.thimbleUp = true → ¬may op → ∃ t, exec i s = .next t ∧ ended (s.bkpDenied op) 0 none t)) ∧
    (barOpen s → c.run = none → exec (.bkpAbort value) s = .next waited) ∧
    (barOpen s → c.run = some r → ∃ t, exec (.bkpAbort value) s = .next t ∧
      (if r.step = .collect then ended stAborted 0 none t else t = { waited with crd.run := some { r with abort := true } })) ∧
    (c.run = none → exec .bkpWaitExpiry s = .next s) ∧
    (c.run = some r → ∃ t, exec .bkpWaitExpiry s = .next t ∧ (if r.step = .collect then ended stCardTimeout 0 none t else t = s)) ∧
    (∀ op, s.bkpDenied op = if s.thm.quorum.isNone then stQuorumRequired
      else if op = 3 ∧ (s.kv.rinsed = true ∨ (s.kv.vrk0 = 0 ∧ s.kv.vrk1 = 0)) then stKeyPolicyDenied
      else if op ≠ 3 ∧ s.rng.state = .failed then stRngFailed else if op ≠ 3 ∧ s.rng.state = .startup then stRngNotReady
      else if c.present = false then stCardAbsent else 0)

/-- A slice is enabled with a free PASID, disabled by a reset, and a reset ends everything of its generation and touches no other slice. A write with ENABLE = 1 to a DISABLED slice sets its PASID and, where no other enabled slice has it, makes the slice ACTIVE without contract or enabled queue; on an enabled slice it does nothing; slice 0 only takes a PASID while none of its queues is enabled. Disabling drops migration and resets. A reset raises the generation by one, suppresses the slice's jobs, disables its queues, frees its sessions and ephemeral keys, ends its migration, fence and FREEZE; with jobs of the next generation outstanding it waits. The drain limit stops the jobs of a freezing slice; the oldest nonce expires.
Rests on R98, R184, R303, R379, R380, R385, R386, R387, R388, R392, R394, R400. -/
def Obligations.SlicesAreEnabledAndReset : Prop :=
  ∀ (s : State) (slice : BitVec 8) (v : BitVec 32),
    let i := slice.toNat
    let p := fld v 0 20
    let sl := s.slice i
    let old := s.jobs.any (fun j => j.slice == i && j.gen != sl.gen)
    let off := sl.enable = false ∧ old = false ∧ sl.resetPending = false
    let taken := s.slices.any (fun e => e.1 != i && e.2.enable && e.2.pasid == p)
    let queues := (List.range 16).any (fun k => (s.sq 0 k).enable || (s.cq 0 k).enable)
    let closed := fun (t : State) => ∀ q, q < 16 → (t.sq i q).enable = false ∧ (t.sq i q).held = [] ∧ (t.cq i q).enable = false ∧ (t.cq i q).resv = 0
    let wasReset := fun (t : State) =>
      (t.slice i).gen = sl.gen + 1 ∧ (t.slice i).resetPending = false ∧ (t.slice i).freeze = none ∧ (t.slice i).fence = .none ∧
      (∀ j ∈ t.jobs, j.slice = i → j.suppressed = true) ∧ closed t ∧ (∀ c, (t.ctx c).isOpen = true → (t.ctx c).slice ≠ i) ∧
      (∀ n, (t.slot true n).isKey = true → (t.slot true n).slice = i → (t.slot true n).eph = false) ∧ (∀ m ∈ t.mig.contexts, m.slice ≠ i) ∧
      (i = 0 → t.thm.quorum = none ∧ t.thm.run = none) ∧
      ∀ k, k ≠ i → (t.slice k).gen = (s.slice k).gen ∧ (t.slice k).enable = (s.slice k).enable ∧ (t.slice k).pasid = (s.slice k).pasid
    let resets := fun (c : Instr) (enable : Bool) =>
      (sl.resetPending = false → s.resetClear i = true → ∃ t, exec c s = .next t ∧ wasReset t ∧ (t.slice i).enable = enable) ∧
      (sl.resetPending = false → s.resetClear i = false → ∃ t, exec c s = .next t ∧ (t.slice i).resetPending = true ∧ (t.slice i).gen = sl.gen ∧
        (t.slice i).enable = enable ∧ t.jobs = s.jobs)
    (barOpen s → i = 0 → ∀ c ∈ [Instr.sliceEnable slice v, .sliceDisable slice v],
      exec c s = .next (if queues then s else s.modSlice 0 (fun x => { x with pasid := p }))) ∧
    (barOpen s → i ≠ 0 → sl.enable = true → exec (.sliceEnable slice v) s = .next s ∧
      resets (.sliceDisable slice v) false) ∧
    (barOpen s → i ≠ 0 → sl.enable = false → ¬off → ∀ c ∈ [Instr.sliceEnable slice v, .sliceDisable slice v], exec c s = .next s) ∧
    (barOpen s → i ≠ 0 → off → exec (.sliceDisable slice v) s = .next (s.modSlice i (fun x => { x with pasid := p })) ∧
      (taken = true → exec (.sliceEnable slice v) s = .next (s.modSlice i (fun x => { x with pasid := p }))) ∧
      (taken = false → ∃ t, exec (.sliceEnable slice v) s = .next t ∧
        t.slice i = { sl with pasid := p, enable := true, state := .active, contract := [], credit := [], nextContract := none } ∧
        (∀ k, k ≠ i → t.slice k = s.slice k) ∧ closed t ∧ t.jobs = s.jobs ∧ t.kv = s.kv)) ∧
    (barOpen s → bit v 0 = false → exec (.sliceReset slice v) s = .next s) ∧
    (barOpen s → bit v 0 = true → sl.resetPending = true → exec (.sliceReset slice v) s = .next s) ∧
    (barOpen s → bit v 0 = true → resets (.sliceReset slice v) sl.enable) ∧
    (sl.resetPending = false ∨ s.resetClear i = false → exec (.sliceResetPendingAct slice) s = .next s) ∧
    (sl.resetPending = true → s.resetClear i = true → ∃ t, exec (.sliceResetPendingAct slice) s = .next t ∧ wasReset t ∧ (t.slice i).enable = sl.enable) ∧
    (sl.state ≠ .freezing → exec (.freezeDrainLimit slice) s = .next s) ∧
    (sl.state = .freezing → exec (.freezeDrainLimit slice) s =
      .next ((s.jobs.filter (fun j => j.slice == i)).foldl (fun u j => stopJob stMigratedResubmit j u) s)) ∧
    exec .migNonceExpiry s = .next { s with mig.nonces := s.mig.nonces.drop 1 }

/-- Ticks grow credit, a reference qualifies and locks Epoch Time by a slew or a step, and its loss leads to HOLDOVER. A tick boundary moves Epoch Time to the next tick, slews up to 131 units, and gives each slice its credit or its new contract. A source write gives FREE or ACQUIRING. A seconds value loads at once, at the next PPS edge, or from the first PTM exchange: a step, with event 0x02 and the jobs' ticks moved with it. Enough qualifying edges or exchanges lock, an offset above 100 ms by a step. A class configuration is taken while every admitted contract still passes. In reset nothing of it happens.
Rests on R404, R405, R406, R407, R408, R414, R415, R420. -/
def Obligations.TimeTicksSlewsAndSteps : Prop :=
  ∀ (s : State) (v : BitVec 32) (cycles : Nat) (master : BitVec 64) (good : Bool) (cls : BitVec 3) (cause : RefLoss),
    let tm := s.time
    let hold := tm.state = .holdover
    let step := fun (dst : BitVec 64) (u : State) =>
      let d : BitVec 32 := fld dst 18 32 - fld u.time.epoch 18 32
      raiseOpen 0x02 { u with
        time.epoch := dst, time.stepped := true, met.marks := u.met.marks + 1
        jobs := u.jobs.map (fun j => { j with accept := j.accept + d, deadline := j.deadline + d }) }
    let load := fun (dst : BitVec 64) (u : State) => step dst { u with time.set := true }
    let locked := fun (ref : BitVec 64) (u : State) =>
      let w : State := { u with time.state := .locked, time.qualifying := 0, time.holdoverSecs := 0, time.holdFrac := 0 }
      let off := (ref - u.time.epoch).toInt
      if off.natAbs ≤ 429496729 then { w with time.slew := off } else step ref { w with time.slew := 0 }
    let lost : State := match tm.state with
      | .locked => { s with
          time.state := .holdover, time.lost := true, time.qualifying := 0, time.holdoverSecs := 0, time.holdFrac := 0, time.slew := 0
          met.episode := s.met.episode + 1 }
      | .free => s
      | _ => { s with time.lost := true, time.qualifying := 0 }
    let counts := fun (need : Nat) (ref : BitVec 64) (u : State) =>
      if u.time.state = .acquiring ∨ u.time.state = .holdover then
        (if need ≤ u.time.qualifying + 1 then locked ref u else { u with time.qualifying := u.time.qualifying + 1 })
      else u
    let second := fun (e : BitVec 64) => ((e + 0x80000000) >>> 32) <<< 32
    let src := fld v 0 2
    let ppm := fld v 8 8
    let ref := master + tm.ptmOffset
    let mine := if cause = .ptm then tm.source = 1 else tm.source = 2
    let c := cls.toNat
    let n : ClassCfg := { longMax := fld v 24 6, block := fld v 0 24 }
    (s.pwr.inReset = true → ∀ c ∈ [Instr.tickBoundary, .ppsEdge cycles, .ptmExchange master good, .referenceLoss cause], exec c s = .next s) ∧
    (s.pwr.inReset = false → exec .tickBoundary s = .next { s with
      time.epoch := ((tm.epoch >>> 18) + 1) <<< 18
      time.slew := if tm.slew < 0 then min 0 (tm.slew + 131) else max 0 (tm.slew - 131)
      time.holdFrac := if hold then (tm.holdFrac + 1) % 16384 else tm.holdFrac
      time.holdoverSecs := if hold ∧ tm.holdFrac + 1 = 16384 then tm.holdoverSecs + 1 else tm.holdoverSecs
      evr.opTicks := s.evr.opTicks + 1
      slices := tmap s.slices {} (fun _ x => x.tick) }) ∧
    (∀ (x : Slice) k, k < 7 → (match x.nextContract with
      | none => tget x.tick.credit 0 k = (let e := tget x.contract {} k; min (tget x.credit 0 k + e.rate) (e.rate * max e.deadline 64)) ∧ x.tick.contract = x.contract
      | some t => tget x.tick.credit 0 k = (tget t {} k).rate ∧ x.tick.contract = t ∧ x.tick.nextContract = none)) ∧
    (barOpen s → exec (.timeSourceWrite v) s = .next (if src = 3 then { s with time.ptmMs := ppm } else { s with
      time.ptmMs := ppm, time.source := src, time.qualifying := 0, time.slew := 0, time.taiPending := if src = 2 then tm.taiPending else none
      time.state := if src = 0 then .free else .acquiring, met.marks := s.met.marks + 1 })) ∧
    (barOpen s → exec (.taiSet v) s = .next (if tm.source = 0 then load (v ++ fld tm.epoch 0 32) s
      else if tm.source = 2 then { s with time.taiPending := some v } else s)) ∧
    (tm.source ≠ 2 → exec (.ppsEdge cycles) s = .next s) ∧
    (s.pwr.inReset = false → tm.source = 2 → 9999990 ≤ cycles → cycles ≤ 10000010 →
      let u := match tm.taiPending with | some x => load (x ++ (0 : BitVec 32)) { s with time.taiPending := none } | none => s
      exec (.ppsEdge cycles) s = .next (counts 3 (second u.time.epoch) u)) ∧
    (s.pwr.inReset = false → tm.source = 2 → cycles < 9999990 ∨ 10000010 < cycles → tm.taiPending = none →
      exec (.ppsEdge cycles) s = .next (if lost.time.state = .acquiring ∨ lost.time.state = .holdover then { lost with time.qualifying := 0 } else lost)) ∧
    (tm.source ≠ 1 → exec (.ptmExchange master good) s = .next s) ∧
    (s.pwr.inReset = false → tm.source = 1 → let u := if tm.set then s else load ref s
      exec (.ptmExchange master good) s = .next (if u.time.state = .locked then locked ref u else if good = true then counts 4 ref u
        else if u.time.state = .acquiring ∨ u.time.state = .holdover then { u with time.qualifying := 0 } else u)) ∧
    (s.pwr.inReset = false → mine → exec (.referenceLoss cause) s = .next lost) ∧
    (¬mine → exec (.referenceLoss cause) s = .next s) ∧
    (barOpen s → c = 7 → exec (.classCfgWrite cls v) s = .next s) ∧
    (barOpen s → c ≠ 7 → exec (.classCfgWrite cls v) s = .next (if s.locks.getLsbD 2 then (if n = tget s.sched.cfg {} c then s else raiseOpen 0x01 s)
      else if s.cfgFits c n then { s with sched.cfg := tput s.sched.cfg {} c n } else s))

/-- BAR0 answers while Memory Space Enable is 1 in D0: reads return and clear, low words capture, RW, RWL and W1C fields take writes as their access says. While Memory Space Enable is 0, or in D3hot, every register access is an Unsupported Request, in reset nothing. A misaligned access is unsupported. A read returns the register, an RC register is cleared by it; a low word captures its high word for the next read. BLOCK_ID and reserved offsets read as stated. LOCK only rises; RWL fields take writes before it, and after it a differing one is event 0x01; RW fields take theirs, W1C bits clear. A 64-bit write is its low word, then its high word, and a register's write is the command of that register.
Rests on R9, R10, R11, R12, R13, R14, R15, R16, R33, R34, R54, R422. -/
def Obligations.RegistersAnswerAsTheirAccessSays : Prop :=
  ∀ (s : State) (v : BitVec 32) (v64 : BitVec 64) (off : BitVec 24) (wide : Bool) (i : BitVec 8) (b : BitVec 4) (cls : BitVec 3),
    let o := off.toNat
    let write := fun (n : Nat) (x : BitVec 32) => exec (.registerWrite (BitVec.ofNat 24 n) false (x.zeroExtend 64)) s
    let reads := fun (x : BitVec 32) (t : State) => emit (.readData (x.zeroExtend 64)) t
    let lows := [0x020010, 0x020020, 0x040010, 0x0B0030, 0x0C0008, 0x0C0010]
    (∀ c ∈ [.bkpFormat v, .bkpWrite v, .bkpRestore v, .bkpAbort v, .ekcFlush v, .ekcEnableWrite v, .ekcQuotaWrite i v, .dpkFlush v, .dpkQuotaWrite i v, .retrain v,
      .metCtrlWrite v, .rngDomainReset v, .blockLock b v, .registerWrite off wide v64, .rcRegisterRead off, .counterLowRead off wide, .sqEnable v, .sqDisable v,
      .cqEnable v, .cqDisable v, .sqFaultClear v, .sliceEnable i v, .sliceDisable i v, .sliceReset i v, .tamperCommit v, .tdisBurn v, .ventAcknowledge wide v,
      .ventResume v, .ventInject v, .timeSourceWrite v, .taiSet v, .classCfgWrite cls v],
      s.barOn = false ∨ s.svc.bootFailed = true → exec c s = .next (if s.pwr.inReset then s else emit .unsupported s)) ∧
    (barOpen s → o % 4 ≠ 0 → ∀ c ∈ [Instr.registerWrite off wide v64, .rcRegisterRead off, .counterLowRead off wide], exec c s = .next (emit .unsupported s)) ∧
    (barOpen s → o % 8 = 4 → ∀ c ∈ [Instr.registerWrite off true v64, .counterLowRead off true], exec c s = .next (emit .unsupported s)) ∧
    (barOpen s → ∀ n x t, (n, x, t) ∈ [
      (0x000028, s.hif.dmaFaults, { s with hif.dmaFaults := 0 }),
      (0x030020, s.kv.rotations, { s with kv.rotations := 0 }),
      (0x04001C, s.vent.recDropped, { s with vent.recDropped := 0 }),
      (0x070014, s.rng.apt ++ s.rng.rct, { s with rng.apt := 0, rng.rct := 0 }),
      (0x07001C, s.rng.autoResets ++ s.rng.hostResets, { s with rng.autoResets := 0, rng.hostResets := 0 }),
      (0x070024, s.rng.reseeds, { s with rng.reseeds := 0 }),
      (0x080010, s.pwr.droopEvents, { s with pwr.droopEvents := 0 }),
      (0x080014, s.pwr.creditWaits, { s with pwr.creditWaits := 0 }),
      (0x091008, s.eng.ekc.hits, { s with eng.ekc.hits := 0 }),
      (0x09100C, s.eng.ekc.misses, { s with eng.ekc.misses := 0 }),
      (0x091010, s.eng.ekc.other, { s with eng.ekc.other := 0 }),
      (0x092008, s.eng.switches, { s with eng.switches := 0 }),
      (0x092820, s.eng.hbsCommits, { s with eng.hbsCommits := 0 }),
      (0x093008, s.eng.dpk.hits, { s with eng.dpk.hits := 0 }),
      (0x09300C, s.eng.dpk.misses, { s with eng.dpk.misses := 0 }),
      (0x093010, s.eng.dpk.other, { s with eng.dpk.other := 0 }),
      (0x093944, s.eng.crtFaults, { s with eng.crtFaults := 0 }),
      (0x0C001C, s.evr.dropped, { s with evr.dropped := 0 }),
      (0x0D001C, s.svc.frameErrors, { s with svc.frameErrors := 0 }),
      (0x020400 + 4 * i.toNat, tget s.sched.misses 0 i.toNat, { s with sched.misses := tput s.sched.misses 0 i.toNat 0 }),
      (0x040040 + 4 * (i.toNat % 6), (s.ventClass (i.toNat % 6)).events, s.modVentClass (i.toNat % 6) (fun y => { y with events := 0 })),
      (0x000004, (if s.locks.getLsbD 0 then 1 else 0), s), (0x000000, 0x00010001, s), (0x0C0000, 0x0C010001, s), (0x0E0000, 0, s), (0x000018, 0, s)] →
      exec (.rcRegisterRead (BitVec.ofNat 24 n)) s = .next (reads x t)) ∧
    (barOpen s → ∀ n ∈ lows, n ≠ 0x0B0030 ∨ s.otp.variantL = true →
      exec (.counterLowRead (BitVec.ofNat 24 n) false) s = .next (reads (readReg n s) { s with hold := tput s.hold none n (some (readReg (n + 4) s)) }) ∧
      (∀ x, tget s.hold none n = some x → exec (.counterLowRead (BitVec.ofNat 24 (n + 4)) false) s = .next (reads x { s with hold := tput s.hold none n none })) ∧
      (tget s.hold none n = none → exec (.counterLowRead (BitVec.ofNat 24 (n + 4)) false) s = .next (reads (readReg (n + 4) s) s))) ∧
    (barOpen s → exec (.blockLock b v) s = .next (if b.toNat < 14 ∧ (b.toNat = 11 → s.otp.variantL = true) ∧ bit v 0 = true
      then { s with locks := s.locks ||| (1 <<< b.toNat) } else s)) ∧
    (barOpen s → ∀ n k same t, (n, k, same, t) ∈ [
      (0x000020, 0, bit v 2 = s.hif.readIdo ∧ bit v 1 = s.hif.readRo ∧ bit v 0 = s.hif.dataRo, { s with hif.readIdo := bit v 2, hif.readRo := bit v 1, hif.dataRo := bit v 0 }),
      (0x010010, 1, fld v 0 16 = s.freezeLimit, { s with freezeLimit := fld v 0 16 }),
      (0x030008, 3, bit v 0 = s.kv.exportDis, { s with kv.exportDis := bit v 0 }),
      (0x07000C, 7, bit v 1 = s.rng.prAll ∧ bit v 0 = s.rng.autoReset, { s with rng.prAll := bit v 1, rng.autoReset := bit v 0 }),
      (0x080008, 8, fld v 16 8 = s.pwr.gateIdle ∧ fld v 8 8 = s.pwr.thermHold ∧ bit v 0 = s.pwr.eclkSel,
        { s with pwr.gateIdle := fld v 16 8, pwr.thermHold := fld v 8 8, pwr.eclkSel := bit v 0 }),
      (0x092000, 9, fld v 0 13 = s.eng.wrgTurn, { s with eng.wrgTurn := fld v 0 13 }),
      (0x092800, 9, fld v 0 4 = s.eng.tsqLanes, { s with eng.tsqLanes := fld v 0 4 }),
      (0x093900, 9, fld v 0 13 = s.eng.tmbTurn, { s with eng.tmbTurn := fld v 0 13 }),
      (0x0A0008, 10, bit v 1 = s.crd.hsEn ∧ bit v 0 = s.crd.wideEn, { s with crd.hsEn := bit v 1, crd.wideEn := bit v 0 }),
      (0x0A0040, 10, fld v 4 3 = s.crd.classes1 ∧ fld v 0 3 = s.crd.classes0, { s with crd.classes1 := fld v 4 3, crd.classes0 := fld v 0 3 }),
      (0x0D000C, 13, bit v 16 = s.svc.actEn ∧ fld v 0 16 = s.svc.drain, { s with svc.actEn := bit v 16, svc.drain := fld v 0 16 })] →
      (s.locks.getLsbD k = false → write n v = .next t) ∧ (s.locks.getLsbD k = true → same → write n v = .next s) ∧
      (s.locks.getLsbD k = true → ¬same → write n v = .next (raiseOpen 0x01 s))) ∧
    (barOpen s → ∀ n t, (n, t) ∈ [
      (0x000024, { s with hif.dmaStatus := s.hif.dmaStatus &&& ~~~(fld v 0 5) }),
      (0x000800, { s with ring.qselSlice := fld v 8 8, ring.qselQueue := fld v 0 4 }),
      (0x011000 + 4 * i.toNat, s.modSlice i.toNat (fun x => { x with quotaKt := fld v 0 21 })),
      (0x011400 + 4 * i.toNat, s.modSlice i.toNat (fun x => { x with quotaPs := fld v 0 17 })),
      (0x011800 + 4 * i.toNat, s.modSlice i.toNat (fun x => { x with quotaJobs := fld v 16 13, quotaSessions := fld v 0 12 })),
      (0x02000C, { s with time.stepped := s.time.stepped && !bit v 6, time.lost := s.time.lost && !bit v 5 }),
      (0x020020, { s with time.ptmOffset := fld s.time.ptmOffset 32 32 ++ v }),
      (0x020024, { s with time.ptmOffset := v ++ fld s.time.ptmOffset 0 32 }),
      (0x030010, { s with kv.journalReplayed := s.kv.journalReplayed && !bit v 6 }),
      (0x05000C, { s with tmp.cfgReject := s.tmp.cfgReject && !bit v 16 }),
      (0x050020, { s with tmp.stage.casePol := fld v 0 4 }),
      (0x0A000C, { s with crd.removed := s.crd.removed && !bit v 16 }),
      (0x0A0014, { s with crd.gen := v }), (0x000000, s), (0x080010, s), (0x0C0008, s), (0x0E0004, s)] → write n v = .next t) ∧
    (barOpen s → ∀ n c, (n, c) ∈ [(0x00081C, Instr.sqFaultClear v), (0x040008, .ventResume v), (0x040010, .ventAcknowledge false v), (0x040014, .ventAcknowledge true v),
      (0x040080, .ventInject v), (0x050008, .tamperCommit v), (0x050014, .tdisBurn v), (0x070008, .rngDomainReset v), (0x020008, .timeSourceWrite v),
      (0x020018, .taiSet v), (0x091000, .ekcFlush v), (0x091400 + 4 * i.toNat, .ekcQuotaWrite i v), (0x093000, .dpkFlush v),
      (0x093400 + 4 * i.toNat, .dpkQuotaWrite i v), (0x020100 + 4 * (cls.toNat % 7), .classCfgWrite (BitVec.ofNat 3 (cls.toNat % 7)) v)] → write n v = exec c s) ∧
    (barOpen s → (s.otp.variantL = false → exec (.metCtrlWrite v) s = .next s) ∧
      (s.otp.variantL = true → exec (.metCtrlWrite v) s = .next (if s.locks.getLsbD 11 then (if fld v 0 7 = s.met.maxQueue then s else raiseOpen 0x01 s)
        else { s with met.maxQueue := fld v 0 7, met.stored := some (fld v 0 7) }))) ∧
    (barOpen s → o % 8 = 0 → exec (.registerWrite off true v64) s = .next (writeReg (o + 4) (fld v64 32 32) (writeReg o (fld v64 0 32) s)))

/-- Right after reset the registers read the reset values of their tables, and the fuse invariant holds. Every register listed reads its stated reset value in State.reset; the slices other than 0 are DISABLED; no command waits, no job is accepted, memory tables list nothing; the break-count words are thermometer codes. Values the specification does not state are not part of this statement.
Rests on R15, R34, R64, R95, R193, R221, R244, R271, R377, R403, R493, R529. -/
def Obligations.ResetRegistersReadAsTheSpecificationSays : Prop :=
  (∀ n v, (n, v) ∈ [
    (0x000010, 0), (0x000014, 0x86), (0x000020, 0x7), (0x000024, 0), (0x000100, 0), (0x000800, 0), (0x000818, 0x00100060), (0x00081C, 0x00010000),
    (0x000828, 0x00010060), (0x00082C, 0x00010000), (0x000830, 0), (0x010010, 0x1388), (0x010400, 0x80000000), (0x010404, 0), (0x010800, 0x08000000),
    (0x011000, 0x00100000), (0x011400, 0x00010000), (0x011800, 0x10000FA0), (0x020008, 0x0A00), (0x02000C, 0), (0x020010, 0), (0x020028, 0),
    (0x020100, 0x010927C0), (0x020104, 0x010493E0), (0x020108, 0x01083D60), (0x02010C, 0x010927C0), (0x020110, 0x010927C0), (0x020114, 0x010493E0),
    (0x020118, 0x01004E20), (0x020140, 0x80000000), (0x020158, 0x80000000), (0x030008, 0), (0x030010, 0), (0x030014, 0), (0x030018, 0x80), (0x040008, 0x7),
    (0x040010, 0), (0x040014, 0), (0x05000C, 0x8000), (0x050020, 0), (0x050100, 0), (0x060030, 0), (0x07000C, 0x1), (0x070010, 0x3001), (0x080008, 0x000A6900),
    (0x091000, 0x1), (0x091004, 0), (0x091100, 0), (0x091800, 0), (0x092000, 0x40), (0x092800, 0x8), (0x093000, 0x11), (0x093900, 0x100), (0x0A0008, 0x3),
    (0x0A0010, 0x7800), (0x0A0018, 0), (0x0A001C, 0xFFFFFFFF), (0x0A0040, 0x77), (0x0B0040, 0x40), (0x0C0018, 0x1), (0x0D000C, 0x64)] →
    (readReg n State.reset).toNat = v) ∧
  (∀ i, i ≠ 0 → State.reset.sliceState i = .disabled) ∧ State.reset.sliceState 0 = .active ∧ State.reset.pending = [] ∧ State.reset.jobs = [] ∧
  State.reset.locks = 0 ∧ sealOk State.reset

/-- A step runs the command at the front of the queue on the state with the rest of the queue; an empty queue idles. For every command and state: with the command at the front of the queue, step is exec of it on the rest. With an empty queue the state stays: the choice of the model, log 2.
Rests on R8. -/
def Obligations.StepRunsTheFrontCommand : Prop :=
  ∀ (s : State) (c : Instr) (rest : List Instr),
    step { s with pending := c :: rest } = exec c { s with pending := rest } ∧
    step { s with pending := [] } = .next { s with pending := [] }

/-- Whatever command a step runs, no fuse goes back to 0, the break count stays a thermometer code, and the queue loses its front only. From every state in which the break-count words are thermometer codes unless FUSE_INVALID is shown, every step that answers a next state leaves them so, keeps every life-cycle, break-count and tamper-disable fuse that is burned, and the ordering suffix, and leaves the queue without its front command.
Rests on R28, R425, R439, R459. -/
def Obligations.EveryStepKeepsFusesAndQueue : Prop :=
  ∀ s t : State, sealOk s → step s = .next t → sealOk t ∧ fusesKept s.otp t.otp ∧ t.pending = s.pending.drop 1
end

