-- ==== Sys2Proof/Laws/Tbl.lean ====
section
/-! SUPPORT. Laws of tables: a read after a write, and the canonical form. -/
namespace Sys2Proof.Machine

variable {α : Type} [DecidableEq α]

theorem tget_terase_same {α : Type} (t : Tbl α) (d : α) (k : Nat) : tget (terase t k) d k = d := by
  induction t with
  | nil => rfl
  | cons p r ih =>
    obtain ⟨j, v⟩ := p
    by_cases h : j = k <;> simp [terase, tget, h, ih]

theorem tget_terase_ne {α : Type} (t : Tbl α) (d : α) {k i : Nat} (h : i ≠ k) : tget (terase t k) d i = tget t d i := by
  induction t with
  | nil => rfl
  | cons p r ih =>
    obtain ⟨j, v⟩ := p
    by_cases hj : j = k
    · subst hj; simp [terase, tget, ih, Ne.symm h]
    · by_cases hi : j = i
      · subst hi; simp [terase, tget, hj]
      · simp [terase, tget, hj, hi, ih]

theorem tget_tinsert_same {α : Type} (t : Tbl α) (d : α) (k : Nat) (v : α) : tget (tinsert t k v) d k = v := by
  induction t with
  | nil => simp [tinsert, tget]
  | cons p r ih =>
    obtain ⟨j, w⟩ := p
    by_cases h : j < k
    · simp [tinsert, tget, h, Nat.ne_of_lt h, ih]
    · simp [tinsert, tget, h]

theorem tget_tinsert_ne {α : Type} (t : Tbl α) (d : α) {k i : Nat} (v : α) (h : i ≠ k) : tget (tinsert t k v) d i = tget t d i := by
  induction t with
  | nil => simp [tinsert, tget, Ne.symm h]
  | cons p r ih =>
    obtain ⟨j, w⟩ := p
    by_cases hj : j < k
    · simp [tinsert, tget, hj, ih]
    · simp [tinsert, tget, hj, Ne.symm h]

/-- A read after a write to the same key gives the value written. -/
@[simp] theorem tget_tput_same (t : Tbl α) (d : α) (k : Nat) (v : α) : tget (tput t d k v) d k = v := by
  unfold tput
  split
  · next h => rw [tget_terase_same, h]
  · exact tget_tinsert_same _ _ _ _

/-- A write leaves every other key alone. -/
theorem tget_tput_ne (t : Tbl α) (d : α) {k i : Nat} (v : α) (h : i ≠ k) : tget (tput t d k v) d i = tget t d i := by
  unfold tput
  split
  · exact tget_terase_ne t d h
  · rw [tget_tinsert_ne _ _ _ h, tget_terase_ne t d h]

theorem tget_tput (t : Tbl α) (d : α) (k i : Nat) (v : α) : tget (tput t d k v) d i = if i = k then v else tget t d i := by
  by_cases h : i = k
  · subst h; simp
  · simp [h, tget_tput_ne]

@[simp] theorem tget_tmod_same (t : Tbl α) (d : α) (k : Nat) (f : α → α) : tget (tmod t d k f) d k = f (tget t d k) := by simp [tmod]

theorem tget_tmod_ne (t : Tbl α) (d : α) {k i : Nat} (f : α → α) (h : i ≠ k) : tget (tmod t d k f) d i = tget t d i := by
  simp [tmod, tget_tput_ne _ _ _ h]

/-! ## The canonical form -/

/-- Every key of a table is above `n`. -/
def above (t : Tbl α) (n : Nat) : Prop := ∀ p ∈ t, n < p.1

theorem twf_above {d : α} : ∀ {t : Tbl α} {k : Nat} {v : α}, twf ((k, v) :: t) d = true → above t k
  | [], _, _, _ => by simp [above]
  | (j, w) :: r, k, v, h => by
    simp only [twf, Bool.and_eq_true, decide_eq_true_eq] at h
    have hr : above r j := twf_above (d := d) (v := w) (by simp only [twf, Bool.and_eq_true, decide_eq_true_eq]; exact h.2)
    intro p hp
    rcases List.mem_cons.mp hp with rfl | hp
    · exact h.1.2
    · exact Nat.lt_trans h.1.2 (hr p hp)

theorem twf_cons {d : α} {t : Tbl α} {k : Nat} {v : α} (hv : v ≠ d) (ha : above t k) (ht : twf t d = true) : twf ((k, v) :: t) d = true := by
  cases t with
  | nil => simp [twf, hv]
  | cons p r =>
    obtain ⟨j, w⟩ := p
    have := ha (j, w) (by simp)
    rw [twf]; simp [hv, this, ht]

theorem twf_tail {d : α} {t : Tbl α} {p : Nat × α} (h : twf (p :: t) d = true) : twf t d = true ∧ p.2 ≠ d := by
  obtain ⟨k, v⟩ := p
  simp only [twf, Bool.and_eq_true, decide_eq_true_eq] at h
  exact ⟨h.2, h.1.1⟩

theorem above_terase {α : Type} {t : Tbl α} {n k : Nat} (h : above t n) : above (terase t k) n := by
  induction t with
  | nil => simpa [terase] using h
  | cons p r ih =>
    obtain ⟨j, v⟩ := p
    have hr : above r n := fun q hq => h q (by simp [hq])
    by_cases hj : j = k
    · simpa [terase, hj] using ih hr
    · simp only [terase, hj, if_false]
      intro q hq
      rcases List.mem_cons.mp hq with rfl | hq
      · exact h _ (by simp)
      · exact ih hr q hq

theorem twf_terase {d : α} {t : Tbl α} (k : Nat) (h : twf t d = true) : twf (terase t k) d = true := by
  induction t with
  | nil => rfl
  | cons p r ih =>
    obtain ⟨j, v⟩ := p
    have ht := twf_tail h
    by_cases hj : j = k
    · simpa [terase, hj] using ih ht.1
    · simpa [terase, hj] using twf_cons ht.2 (above_terase (twf_above h)) (ih ht.1)

theorem terase_absent {α : Type} (t : Tbl α) (k : Nat) : ∀ p ∈ terase t k, p.1 ≠ k := by
  induction t with
  | nil => simp [terase]
  | cons p r ih =>
    obtain ⟨j, v⟩ := p
    by_cases hj : j = k
    · simpa [terase, hj] using ih
    · simp only [terase, hj, if_false]
      intro q hq
      rcases List.mem_cons.mp hq with rfl | hq
      · exact hj
      · exact ih q hq

theorem twf_tinsert {d : α} {t : Tbl α} {k : Nat} {v : α} (hv : v ≠ d) (h : twf t d = true) (hk : ∀ p ∈ t, p.1 ≠ k) :
    twf (tinsert t k v) d = true ∧ (∀ n, above t n → n < k → above (tinsert t k v) n) := by
  induction t with
  | nil => simp [tinsert, twf, hv, above]
  | cons p r ih =>
    obtain ⟨j, w⟩ := p
    have ht := twf_tail h
    have ih := ih ht.1 (fun q hq => hk q (by simp [hq]))
    by_cases hj : j < k
    · simp only [tinsert, hj, if_true]
      refine ⟨twf_cons ht.2 (ih.2 _ (twf_above h) hj) ih.1, fun n hn hk => ?_⟩
      intro q hq
      rcases List.mem_cons.mp hq with rfl | hq
      · exact hn _ (by simp)
      · exact ih.2 n (fun q hq => hn q (by simp [hq])) hk q hq
    · have hlt : k < j := by have := hk (j, w) (by simp); simp at this; omega
      simp only [tinsert, hj, if_false]
      refine ⟨twf_cons hv ?_ h, fun n hn hk => ?_⟩
      · intro q hq
        rcases List.mem_cons.mp hq with rfl | hq
        · exact hlt
        · exact Nat.lt_trans hlt (twf_above h q hq)
      · intro q hq
        rcases List.mem_cons.mp hq with rfl | hq
        · exact hk
        · exact hn q hq

/-- A write keeps the canonical form. -/
theorem twf_tput {d : α} {t : Tbl α} (k : Nat) (v : α) (h : twf t d = true) : twf (tput t d k v) d = true := by
  unfold tput
  split
  · exact twf_terase k h
  · next hv => exact (twf_tinsert hv (twf_terase k h) (terase_absent t k)).1

theorem twf_tmod {d : α} {t : Tbl α} (k : Nat) (f : α → α) (h : twf t d = true) : twf (tmod t d k f) d = true := twf_tput k _ h

end Sys2Proof.Machine
end

