-- ==== Sys2Proof/Laws/State.lean ====
section
/-! SUPPORT. What each update of the state leaves alone, field by field, and what it writes. -/
namespace Sys2Proof.Machine

variable (s : State)

@[simp] theorem emit_otp (o : Output) : (emit o s).otp = s.otp := rfl
@[simp] theorem emit_pwr (o : Output) : (emit o s).pwr = s.pwr := rfl
@[simp] theorem emit_locks (o : Output) : (emit o s).locks = s.locks := rfl
@[simp] theorem emit_hold (o : Output) : (emit o s).hold = s.hold := rfl
@[simp] theorem emit_hif (o : Output) : (emit o s).hif = s.hif := rfl
@[simp] theorem emit_ring (o : Output) : (emit o s).ring = s.ring := rfl
@[simp] theorem emit_sqs (o : Output) : (emit o s).sqs = s.sqs := rfl
@[simp] theorem emit_cqs (o : Output) : (emit o s).cqs = s.cqs := rfl
@[simp] theorem emit_jobs (o : Output) : (emit o s).jobs = s.jobs := rfl
@[simp] theorem emit_nextJob (o : Output) : (emit o s).nextJob = s.nextJob := rfl
@[simp] theorem emit_slices (o : Output) : (emit o s).slices = s.slices := rfl
@[simp] theorem emit_freezeLimit (o : Output) : (emit o s).freezeLimit = s.freezeLimit := rfl
@[simp] theorem emit_mig (o : Output) : (emit o s).mig = s.mig := rfl
@[simp] theorem emit_time (o : Output) : (emit o s).time = s.time := rfl
@[simp] theorem emit_sched (o : Output) : (emit o s).sched = s.sched := rfl
@[simp] theorem emit_eng (o : Output) : (emit o s).eng = s.eng := rfl
@[simp] theorem emit_ctxs (o : Output) : (emit o s).ctxs = s.ctxs := rfl
@[simp] theorem emit_kv (o : Output) : (emit o s).kv = s.kv := rfl
@[simp] theorem emit_rng (o : Output) : (emit o s).rng = s.rng := rfl
@[simp] theorem emit_thm (o : Output) : (emit o s).thm = s.thm := rfl
@[simp] theorem emit_met (o : Output) : (emit o s).met = s.met := rfl
@[simp] theorem emit_vent (o : Output) : (emit o s).vent = s.vent := rfl
@[simp] theorem emit_tmp (o : Output) : (emit o s).tmp = s.tmp := rfl
@[simp] theorem emit_lcs (o : Output) : (emit o s).lcs = s.lcs := rfl
@[simp] theorem emit_tap (o : Output) : (emit o s).tap = s.tap := rfl
@[simp] theorem emit_crd (o : Output) : (emit o s).crd = s.crd := rfl
@[simp] theorem emit_svc (o : Output) : (emit o s).svc = s.svc := rfl
@[simp] theorem emit_evr (o : Output) : (emit o s).evr = s.evr := rfl
@[simp] theorem emit_freeCtr (o : Output) : (emit o s).freeCtr = s.freeCtr := rfl
@[simp] theorem emit_pending (o : Output) : (emit o s).pending = s.pending := rfl

@[simp] theorem fresh_otp : (fresh s).otp = s.otp := rfl
@[simp] theorem fresh_pwr : (fresh s).pwr = s.pwr := rfl
@[simp] theorem fresh_locks : (fresh s).locks = s.locks := rfl
@[simp] theorem fresh_hold : (fresh s).hold = s.hold := rfl
@[simp] theorem fresh_hif : (fresh s).hif = s.hif := rfl
@[simp] theorem fresh_ring : (fresh s).ring = s.ring := rfl
@[simp] theorem fresh_sqs : (fresh s).sqs = s.sqs := rfl
@[simp] theorem fresh_cqs : (fresh s).cqs = s.cqs := rfl
@[simp] theorem fresh_jobs : (fresh s).jobs = s.jobs := rfl
@[simp] theorem fresh_nextJob : (fresh s).nextJob = s.nextJob := rfl
@[simp] theorem fresh_slices : (fresh s).slices = s.slices := rfl
@[simp] theorem fresh_freezeLimit : (fresh s).freezeLimit = s.freezeLimit := rfl
@[simp] theorem fresh_mig : (fresh s).mig = s.mig := rfl
@[simp] theorem fresh_time : (fresh s).time = s.time := rfl
@[simp] theorem fresh_sched : (fresh s).sched = s.sched := rfl
@[simp] theorem fresh_eng : (fresh s).eng = s.eng := rfl
@[simp] theorem fresh_ctxs : (fresh s).ctxs = s.ctxs := rfl
@[simp] theorem fresh_kv : (fresh s).kv = s.kv := rfl
@[simp] theorem fresh_rng : (fresh s).rng = s.rng := rfl
@[simp] theorem fresh_thm : (fresh s).thm = s.thm := rfl
@[simp] theorem fresh_met : (fresh s).met = s.met := rfl
@[simp] theorem fresh_vent : (fresh s).vent = s.vent := rfl
@[simp] theorem fresh_tmp : (fresh s).tmp = s.tmp := rfl
@[simp] theorem fresh_lcs : (fresh s).lcs = s.lcs := rfl
@[simp] theorem fresh_tap : (fresh s).tap = s.tap := rfl
@[simp] theorem fresh_crd : (fresh s).crd = s.crd := rfl
@[simp] theorem fresh_svc : (fresh s).svc = s.svc := rfl
@[simp] theorem fresh_evr : (fresh s).evr = s.evr := rfl
@[simp] theorem fresh_outbox : (fresh s).outbox = s.outbox := rfl
@[simp] theorem fresh_pending : (fresh s).pending = s.pending := rfl

@[simp] theorem modJob_otp (id : Nat) (f : Job → Job) : (s.modJob id f).otp = s.otp := rfl
@[simp] theorem modJob_pwr (id : Nat) (f : Job → Job) : (s.modJob id f).pwr = s.pwr := rfl
@[simp] theorem modJob_locks (id : Nat) (f : Job → Job) : (s.modJob id f).locks = s.locks := rfl
@[simp] theorem modJob_hold (id : Nat) (f : Job → Job) : (s.modJob id f).hold = s.hold := rfl
@[simp] theorem modJob_hif (id : Nat) (f : Job → Job) : (s.modJob id f).hif = s.hif := rfl
@[simp] theorem modJob_ring (id : Nat) (f : Job → Job) : (s.modJob id f).ring = s.ring := rfl
@[simp] theorem modJob_sqs (id : Nat) (f : Job → Job) : (s.modJob id f).sqs = s.sqs := rfl
@[simp] theorem modJob_cqs (id : Nat) (f : Job → Job) : (s.modJob id f).cqs = s.cqs := rfl
@[simp] theorem modJob_nextJob (id : Nat) (f : Job → Job) : (s.modJob id f).nextJob = s.nextJob := rfl
@[simp] theorem modJob_slices (id : Nat) (f : Job → Job) : (s.modJob id f).slices = s.slices := rfl
@[simp] theorem modJob_freezeLimit (id : Nat) (f : Job → Job) : (s.modJob id f).freezeLimit = s.freezeLimit := rfl
@[simp] theorem modJob_mig (id : Nat) (f : Job → Job) : (s.modJob id f).mig = s.mig := rfl
@[simp] theorem modJob_time (id : Nat) (f : Job → Job) : (s.modJob id f).time = s.time := rfl
@[simp] theorem modJob_sched (id : Nat) (f : Job → Job) : (s.modJob id f).sched = s.sched := rfl
@[simp] theorem modJob_eng (id : Nat) (f : Job → Job) : (s.modJob id f).eng = s.eng := rfl
@[simp] theorem modJob_ctxs (id : Nat) (f : Job → Job) : (s.modJob id f).ctxs = s.ctxs := rfl
@[simp] theorem modJob_kv (id : Nat) (f : Job → Job) : (s.modJob id f).kv = s.kv := rfl
@[simp] theorem modJob_rng (id : Nat) (f : Job → Job) : (s.modJob id f).rng = s.rng := rfl
@[simp] theorem modJob_thm (id : Nat) (f : Job → Job) : (s.modJob id f).thm = s.thm := rfl
@[simp] theorem modJob_met (id : Nat) (f : Job → Job) : (s.modJob id f).met = s.met := rfl
@[simp] theorem modJob_vent (id : Nat) (f : Job → Job) : (s.modJob id f).vent = s.vent := rfl
@[simp] theorem modJob_tmp (id : Nat) (f : Job → Job) : (s.modJob id f).tmp = s.tmp := rfl
@[simp] theorem modJob_lcs (id : Nat) (f : Job → Job) : (s.modJob id f).lcs = s.lcs := rfl
@[simp] theorem modJob_tap (id : Nat) (f : Job → Job) : (s.modJob id f).tap = s.tap := rfl
@[simp] theorem modJob_crd (id : Nat) (f : Job → Job) : (s.modJob id f).crd = s.crd := rfl
@[simp] theorem modJob_svc (id : Nat) (f : Job → Job) : (s.modJob id f).svc = s.svc := rfl
@[simp] theorem modJob_evr (id : Nat) (f : Job → Job) : (s.modJob id f).evr = s.evr := rfl
@[simp] theorem modJob_outbox (id : Nat) (f : Job → Job) : (s.modJob id f).outbox = s.outbox := rfl
@[simp] theorem modJob_freeCtr (id : Nat) (f : Job → Job) : (s.modJob id f).freeCtr = s.freeCtr := rfl
@[simp] theorem modJob_pending (id : Nat) (f : Job → Job) : (s.modJob id f).pending = s.pending := rfl

@[simp] theorem dropJob_otp (id : Nat) : (s.dropJob id).otp = s.otp := rfl
@[simp] theorem dropJob_pwr (id : Nat) : (s.dropJob id).pwr = s.pwr := rfl
@[simp] theorem dropJob_locks (id : Nat) : (s.dropJob id).locks = s.locks := rfl
@[simp] theorem dropJob_hold (id : Nat) : (s.dropJob id).hold = s.hold := rfl
@[simp] theorem dropJob_hif (id : Nat) : (s.dropJob id).hif = s.hif := rfl
@[simp] theorem dropJob_ring (id : Nat) : (s.dropJob id).ring = s.ring := rfl
@[simp] theorem dropJob_sqs (id : Nat) : (s.dropJob id).sqs = s.sqs := rfl
@[simp] theorem dropJob_cqs (id : Nat) : (s.dropJob id).cqs = s.cqs := rfl
@[simp] theorem dropJob_nextJob (id : Nat) : (s.dropJob id).nextJob = s.nextJob := rfl
@[simp] theorem dropJob_slices (id : Nat) : (s.dropJob id).slices = s.slices := rfl
@[simp] theorem dropJob_freezeLimit (id : Nat) : (s.dropJob id).freezeLimit = s.freezeLimit := rfl
@[simp] theorem dropJob_mig (id : Nat) : (s.dropJob id).mig = s.mig := rfl
@[simp] theorem dropJob_time (id : Nat) : (s.dropJob id).time = s.time := rfl
@[simp] theorem dropJob_sched (id : Nat) : (s.dropJob id).sched = s.sched := rfl
@[simp] theorem dropJob_eng (id : Nat) : (s.dropJob id).eng = s.eng := rfl
@[simp] theorem dropJob_ctxs (id : Nat) : (s.dropJob id).ctxs = s.ctxs := rfl
@[simp] theorem dropJob_kv (id : Nat) : (s.dropJob id).kv = s.kv := rfl
@[simp] theorem dropJob_rng (id : Nat) : (s.dropJob id).rng = s.rng := rfl
@[simp] theorem dropJob_thm (id : Nat) : (s.dropJob id).thm = s.thm := rfl
@[simp] theorem dropJob_met (id : Nat) : (s.dropJob id).met = s.met := rfl
@[simp] theorem dropJob_vent (id : Nat) : (s.dropJob id).vent = s.vent := rfl
@[simp] theorem dropJob_tmp (id : Nat) : (s.dropJob id).tmp = s.tmp := rfl
@[simp] theorem dropJob_lcs (id : Nat) : (s.dropJob id).lcs = s.lcs := rfl
@[simp] theorem dropJob_tap (id : Nat) : (s.dropJob id).tap = s.tap := rfl
@[simp] theorem dropJob_crd (id : Nat) : (s.dropJob id).crd = s.crd := rfl
@[simp] theorem dropJob_svc (id : Nat) : (s.dropJob id).svc = s.svc := rfl
@[simp] theorem dropJob_evr (id : Nat) : (s.dropJob id).evr = s.evr := rfl
@[simp] theorem dropJob_outbox (id : Nat) : (s.dropJob id).outbox = s.outbox := rfl
@[simp] theorem dropJob_freeCtr (id : Nat) : (s.dropJob id).freeCtr = s.freeCtr := rfl
@[simp] theorem dropJob_pending (id : Nat) : (s.dropJob id).pending = s.pending := rfl

@[simp] theorem modSlice_otp (i : Nat) (f : Slice → Slice) : (s.modSlice i f).otp = s.otp := rfl
@[simp] theorem modSlice_pwr (i : Nat) (f : Slice → Slice) : (s.modSlice i f).pwr = s.pwr := rfl
@[simp] theorem modSlice_locks (i : Nat) (f : Slice → Slice) : (s.modSlice i f).locks = s.locks := rfl
@[simp] theorem modSlice_hold (i : Nat) (f : Slice → Slice) : (s.modSlice i f).hold = s.hold := rfl
@[simp] theorem modSlice_hif (i : Nat) (f : Slice → Slice) : (s.modSlice i f).hif = s.hif := rfl
@[simp] theorem modSlice_ring (i : Nat) (f : Slice → Slice) : (s.modSlice i f).ring = s.ring := rfl
@[simp] theorem modSlice_sqs (i : Nat) (f : Slice → Slice) : (s.modSlice i f).sqs = s.sqs := rfl
@[simp] theorem modSlice_cqs (i : Nat) (f : Slice → Slice) : (s.modSlice i f).cqs = s.cqs := rfl
@[simp] theorem modSlice_jobs (i : Nat) (f : Slice → Slice) : (s.modSlice i f).jobs = s.jobs := rfl
@[simp] theorem modSlice_nextJob (i : Nat) (f : Slice → Slice) : (s.modSlice i f).nextJob = s.nextJob := rfl
@[simp] theorem modSlice_freezeLimit (i : Nat) (f : Slice → Slice) : (s.modSlice i f).freezeLimit = s.freezeLimit := rfl
@[simp] theorem modSlice_mig (i : Nat) (f : Slice → Slice) : (s.modSlice i f).mig = s.mig := rfl
@[simp] theorem modSlice_time (i : Nat) (f : Slice → Slice) : (s.modSlice i f).time = s.time := rfl
@[simp] theorem modSlice_sched (i : Nat) (f : Slice → Slice) : (s.modSlice i f).sched = s.sched := rfl
@[simp] theorem modSlice_eng (i : Nat) (f : Slice → Slice) : (s.modSlice i f).eng = s.eng := rfl
@[simp] theorem modSlice_ctxs (i : Nat) (f : Slice → Slice) : (s.modSlice i f).ctxs = s.ctxs := rfl
@[simp] theorem modSlice_kv (i : Nat) (f : Slice → Slice) : (s.modSlice i f).kv = s.kv := rfl
@[simp] theorem modSlice_rng (i : Nat) (f : Slice → Slice) : (s.modSlice i f).rng = s.rng := rfl
@[simp] theorem modSlice_thm (i : Nat) (f : Slice → Slice) : (s.modSlice i f).thm = s.thm := rfl
@[simp] theorem modSlice_met (i : Nat) (f : Slice → Slice) : (s.modSlice i f).met = s.met := rfl
@[simp] theorem modSlice_vent (i : Nat) (f : Slice → Slice) : (s.modSlice i f).vent = s.vent := rfl
@[simp] theorem modSlice_tmp (i : Nat) (f : Slice → Slice) : (s.modSlice i f).tmp = s.tmp := rfl
@[simp] theorem modSlice_lcs (i : Nat) (f : Slice → Slice) : (s.modSlice i f).lcs = s.lcs := rfl
@[simp] theorem modSlice_tap (i : Nat) (f : Slice → Slice) : (s.modSlice i f).tap = s.tap := rfl
@[simp] theorem modSlice_crd (i : Nat) (f : Slice → Slice) : (s.modSlice i f).crd = s.crd := rfl
@[simp] theorem modSlice_svc (i : Nat) (f : Slice → Slice) : (s.modSlice i f).svc = s.svc := rfl
@[simp] theorem modSlice_evr (i : Nat) (f : Slice → Slice) : (s.modSlice i f).evr = s.evr := rfl
@[simp] theorem modSlice_outbox (i : Nat) (f : Slice → Slice) : (s.modSlice i f).outbox = s.outbox := rfl
@[simp] theorem modSlice_freeCtr (i : Nat) (f : Slice → Slice) : (s.modSlice i f).freeCtr = s.freeCtr := rfl
@[simp] theorem modSlice_pending (i : Nat) (f : Slice → Slice) : (s.modSlice i f).pending = s.pending := rfl

@[simp] theorem modSq_otp (i q : Nat) (f : Sq → Sq) : (s.modSq i q f).otp = s.otp := rfl
@[simp] theorem modSq_pwr (i q : Nat) (f : Sq → Sq) : (s.modSq i q f).pwr = s.pwr := rfl
@[simp] theorem modSq_locks (i q : Nat) (f : Sq → Sq) : (s.modSq i q f).locks = s.locks := rfl
@[simp] theorem modSq_hold (i q : Nat) (f : Sq → Sq) : (s.modSq i q f).hold = s.hold := rfl
@[simp] theorem modSq_hif (i q : Nat) (f : Sq → Sq) : (s.modSq i q f).hif = s.hif := rfl
@[simp] theorem modSq_ring (i q : Nat) (f : Sq → Sq) : (s.modSq i q f).ring = s.ring := rfl
@[simp] theorem modSq_cqs (i q : Nat) (f : Sq → Sq) : (s.modSq i q f).cqs = s.cqs := rfl
@[simp] theorem modSq_jobs (i q : Nat) (f : Sq → Sq) : (s.modSq i q f).jobs = s.jobs := rfl
@[simp] theorem modSq_nextJob (i q : Nat) (f : Sq → Sq) : (s.modSq i q f).nextJob = s.nextJob := rfl
@[simp] theorem modSq_slices (i q : Nat) (f : Sq → Sq) : (s.modSq i q f).slices = s.slices := rfl
@[simp] theorem modSq_freezeLimit (i q : Nat) (f : Sq → Sq) : (s.modSq i q f).freezeLimit = s.freezeLimit := rfl
@[simp] theorem modSq_mig (i q : Nat) (f : Sq → Sq) : (s.modSq i q f).mig = s.mig := rfl
@[simp] theorem modSq_time (i q : Nat) (f : Sq → Sq) : (s.modSq i q f).time = s.time := rfl
@[simp] theorem modSq_sched (i q : Nat) (f : Sq → Sq) : (s.modSq i q f).sched = s.sched := rfl
@[simp] theorem modSq_eng (i q : Nat) (f : Sq → Sq) : (s.modSq i q f).eng = s.eng := rfl
@[simp] theorem modSq_ctxs (i q : Nat) (f : Sq → Sq) : (s.modSq i q f).ctxs = s.ctxs := rfl
@[simp] theorem modSq_kv (i q : Nat) (f : Sq → Sq) : (s.modSq i q f).kv = s.kv := rfl
@[simp] theorem modSq_rng (i q : Nat) (f : Sq → Sq) : (s.modSq i q f).rng = s.rng := rfl
@[simp] theorem modSq_thm (i q : Nat) (f : Sq → Sq) : (s.modSq i q f).thm = s.thm := rfl
@[simp] theorem modSq_met (i q : Nat) (f : Sq → Sq) : (s.modSq i q f).met = s.met := rfl
@[simp] theorem modSq_vent (i q : Nat) (f : Sq → Sq) : (s.modSq i q f).vent = s.vent := rfl
@[simp] theorem modSq_tmp (i q : Nat) (f : Sq → Sq) : (s.modSq i q f).tmp = s.tmp := rfl
@[simp] theorem modSq_lcs (i q : Nat) (f : Sq → Sq) : (s.modSq i q f).lcs = s.lcs := rfl
@[simp] theorem modSq_tap (i q : Nat) (f : Sq → Sq) : (s.modSq i q f).tap = s.tap := rfl
@[simp] theorem modSq_crd (i q : Nat) (f : Sq → Sq) : (s.modSq i q f).crd = s.crd := rfl
@[simp] theorem modSq_svc (i q : Nat) (f : Sq → Sq) : (s.modSq i q f).svc = s.svc := rfl
@[simp] theorem modSq_evr (i q : Nat) (f : Sq → Sq) : (s.modSq i q f).evr = s.evr := rfl
@[simp] theorem modSq_outbox (i q : Nat) (f : Sq → Sq) : (s.modSq i q f).outbox = s.outbox := rfl
@[simp] theorem modSq_freeCtr (i q : Nat) (f : Sq → Sq) : (s.modSq i q f).freeCtr = s.freeCtr := rfl
@[simp] theorem modSq_pending (i q : Nat) (f : Sq → Sq) : (s.modSq i q f).pending = s.pending := rfl

@[simp] theorem modCq_otp (i q : Nat) (f : Cq → Cq) : (s.modCq i q f).otp = s.otp := rfl
@[simp] theorem modCq_pwr (i q : Nat) (f : Cq → Cq) : (s.modCq i q f).pwr = s.pwr := rfl
@[simp] theorem modCq_locks (i q : Nat) (f : Cq → Cq) : (s.modCq i q f).locks = s.locks := rfl
@[simp] theorem modCq_hold (i q : Nat) (f : Cq → Cq) : (s.modCq i q f).hold = s.hold := rfl
@[simp] theorem modCq_hif (i q : Nat) (f : Cq → Cq) : (s.modCq i q f).hif = s.hif := rfl
@[simp] theorem modCq_ring (i q : Nat) (f : Cq → Cq) : (s.modCq i q f).ring = s.ring := rfl
@[simp] theorem modCq_sqs (i q : Nat) (f : Cq → Cq) : (s.modCq i q f).sqs = s.sqs := rfl
@[simp] theorem modCq_jobs (i q : Nat) (f : Cq → Cq) : (s.modCq i q f).jobs = s.jobs := rfl
@[simp] theorem modCq_nextJob (i q : Nat) (f : Cq → Cq) : (s.modCq i q f).nextJob = s.nextJob := rfl
@[simp] theorem modCq_slices (i q : Nat) (f : Cq → Cq) : (s.modCq i q f).slices = s.slices := rfl
@[simp] theorem modCq_freezeLimit (i q : Nat) (f : Cq → Cq) : (s.modCq i q f).freezeLimit = s.freezeLimit := rfl
@[simp] theorem modCq_mig (i q : Nat) (f : Cq → Cq) : (s.modCq i q f).mig = s.mig := rfl
@[simp] theorem modCq_time (i q : Nat) (f : Cq → Cq) : (s.modCq i q f).time = s.time := rfl
@[simp] theorem modCq_sched (i q : Nat) (f : Cq → Cq) : (s.modCq i q f).sched = s.sched := rfl
@[simp] theorem modCq_eng (i q : Nat) (f : Cq → Cq) : (s.modCq i q f).eng = s.eng := rfl
@[simp] theorem modCq_ctxs (i q : Nat) (f : Cq → Cq) : (s.modCq i q f).ctxs = s.ctxs := rfl
@[simp] theorem modCq_kv (i q : Nat) (f : Cq → Cq) : (s.modCq i q f).kv = s.kv := rfl
@[simp] theorem modCq_rng (i q : Nat) (f : Cq → Cq) : (s.modCq i q f).rng = s.rng := rfl
@[simp] theorem modCq_thm (i q : Nat) (f : Cq → Cq) : (s.modCq i q f).thm = s.thm := rfl
@[simp] theorem modCq_met (i q : Nat) (f : Cq → Cq) : (s.modCq i q f).met = s.met := rfl
@[simp] theorem modCq_vent (i q : Nat) (f : Cq → Cq) : (s.modCq i q f).vent = s.vent := rfl
@[simp] theorem modCq_tmp (i q : Nat) (f : Cq → Cq) : (s.modCq i q f).tmp = s.tmp := rfl
@[simp] theorem modCq_lcs (i q : Nat) (f : Cq → Cq) : (s.modCq i q f).lcs = s.lcs := rfl
@[simp] theorem modCq_tap (i q : Nat) (f : Cq → Cq) : (s.modCq i q f).tap = s.tap := rfl
@[simp] theorem modCq_crd (i q : Nat) (f : Cq → Cq) : (s.modCq i q f).crd = s.crd := rfl
@[simp] theorem modCq_svc (i q : Nat) (f : Cq → Cq) : (s.modCq i q f).svc = s.svc := rfl
@[simp] theorem modCq_evr (i q : Nat) (f : Cq → Cq) : (s.modCq i q f).evr = s.evr := rfl
@[simp] theorem modCq_outbox (i q : Nat) (f : Cq → Cq) : (s.modCq i q f).outbox = s.outbox := rfl
@[simp] theorem modCq_freeCtr (i q : Nat) (f : Cq → Cq) : (s.modCq i q f).freeCtr = s.freeCtr := rfl
@[simp] theorem modCq_pending (i q : Nat) (f : Cq → Cq) : (s.modCq i q f).pending = s.pending := rfl

@[simp] theorem modLane_otp (c : Nat) (f : LaneState → LaneState) : (s.modLane c f).otp = s.otp := rfl
@[simp] theorem modLane_pwr (c : Nat) (f : LaneState → LaneState) : (s.modLane c f).pwr = s.pwr := rfl
@[simp] theorem modLane_locks (c : Nat) (f : LaneState → LaneState) : (s.modLane c f).locks = s.locks := rfl
@[simp] theorem modLane_hold (c : Nat) (f : LaneState → LaneState) : (s.modLane c f).hold = s.hold := rfl
@[simp] theorem modLane_hif (c : Nat) (f : LaneState → LaneState) : (s.modLane c f).hif = s.hif := rfl
@[simp] theorem modLane_ring (c : Nat) (f : LaneState → LaneState) : (s.modLane c f).ring = s.ring := rfl
@[simp] theorem modLane_sqs (c : Nat) (f : LaneState → LaneState) : (s.modLane c f).sqs = s.sqs := rfl
@[simp] theorem modLane_cqs (c : Nat) (f : LaneState → LaneState) : (s.modLane c f).cqs = s.cqs := rfl
@[simp] theorem modLane_jobs (c : Nat) (f : LaneState → LaneState) : (s.modLane c f).jobs = s.jobs := rfl
@[simp] theorem modLane_nextJob (c : Nat) (f : LaneState → LaneState) : (s.modLane c f).nextJob = s.nextJob := rfl
@[simp] theorem modLane_slices (c : Nat) (f : LaneState → LaneState) : (s.modLane c f).slices = s.slices := rfl
@[simp] theorem modLane_freezeLimit (c : Nat) (f : LaneState → LaneState) : (s.modLane c f).freezeLimit = s.freezeLimit := rfl
@[simp] theorem modLane_mig (c : Nat) (f : LaneState → LaneState) : (s.modLane c f).mig = s.mig := rfl
@[simp] theorem modLane_time (c : Nat) (f : LaneState → LaneState) : (s.modLane c f).time = s.time := rfl
@[simp] theorem modLane_sched (c : Nat) (f : LaneState → LaneState) : (s.modLane c f).sched = s.sched := rfl
@[simp] theorem modLane_ctxs (c : Nat) (f : LaneState → LaneState) : (s.modLane c f).ctxs = s.ctxs := rfl
@[simp] theorem modLane_kv (c : Nat) (f : LaneState → LaneState) : (s.modLane c f).kv = s.kv := rfl
@[simp] theorem modLane_rng (c : Nat) (f : LaneState → LaneState) : (s.modLane c f).rng = s.rng := rfl
@[simp] theorem modLane_thm (c : Nat) (f : LaneState → LaneState) : (s.modLane c f).thm = s.thm := rfl
@[simp] theorem modLane_met (c : Nat) (f : LaneState → LaneState) : (s.modLane c f).met = s.met := rfl
@[simp] theorem modLane_vent (c : Nat) (f : LaneState → LaneState) : (s.modLane c f).vent = s.vent := rfl
@[simp] theorem modLane_tmp (c : Nat) (f : LaneState → LaneState) : (s.modLane c f).tmp = s.tmp := rfl
@[simp] theorem modLane_lcs (c : Nat) (f : LaneState → LaneState) : (s.modLane c f).lcs = s.lcs := rfl
@[simp] theorem modLane_tap (c : Nat) (f : LaneState → LaneState) : (s.modLane c f).tap = s.tap := rfl
@[simp] theorem modLane_crd (c : Nat) (f : LaneState → LaneState) : (s.modLane c f).crd = s.crd := rfl
@[simp] theorem modLane_svc (c : Nat) (f : LaneState → LaneState) : (s.modLane c f).svc = s.svc := rfl
@[simp] theorem modLane_evr (c : Nat) (f : LaneState → LaneState) : (s.modLane c f).evr = s.evr := rfl
@[simp] theorem modLane_outbox (c : Nat) (f : LaneState → LaneState) : (s.modLane c f).outbox = s.outbox := rfl
@[simp] theorem modLane_freeCtr (c : Nat) (f : LaneState → LaneState) : (s.modLane c f).freeCtr = s.freeCtr := rfl
@[simp] theorem modLane_pending (c : Nat) (f : LaneState → LaneState) : (s.modLane c f).pending = s.pending := rfl

@[simp] theorem modMangle_otp (k : Nat) (f : Mangle → Mangle) : (s.modMangle k f).otp = s.otp := rfl
@[simp] theorem modMangle_pwr (k : Nat) (f : Mangle → Mangle) : (s.modMangle k f).pwr = s.pwr := rfl
@[simp] theorem modMangle_locks (k : Nat) (f : Mangle → Mangle) : (s.modMangle k f).locks = s.locks := rfl
@[simp] theorem modMangle_hold (k : Nat) (f : Mangle → Mangle) : (s.modMangle k f).hold = s.hold := rfl
@[simp] theorem modMangle_hif (k : Nat) (f : Mangle → Mangle) : (s.modMangle k f).hif = s.hif := rfl
@[simp] theorem modMangle_ring (k : Nat) (f : Mangle → Mangle) : (s.modMangle k f).ring = s.ring := rfl
@[simp] theorem modMangle_sqs (k : Nat) (f : Mangle → Mangle) : (s.modMangle k f).sqs = s.sqs := rfl
@[simp] theorem modMangle_cqs (k : Nat) (f : Mangle → Mangle) : (s.modMangle k f).cqs = s.cqs := rfl
@[simp] theorem modMangle_jobs (k : Nat) (f : Mangle → Mangle) : (s.modMangle k f).jobs = s.jobs := rfl
@[simp] theorem modMangle_nextJob (k : Nat) (f : Mangle → Mangle) : (s.modMangle k f).nextJob = s.nextJob := rfl
@[simp] theorem modMangle_slices (k : Nat) (f : Mangle → Mangle) : (s.modMangle k f).slices = s.slices := rfl
@[simp] theorem modMangle_freezeLimit (k : Nat) (f : Mangle → Mangle) : (s.modMangle k f).freezeLimit = s.freezeLimit := rfl
@[simp] theorem modMangle_mig (k : Nat) (f : Mangle → Mangle) : (s.modMangle k f).mig = s.mig := rfl
@[simp] theorem modMangle_time (k : Nat) (f : Mangle → Mangle) : (s.modMangle k f).time = s.time := rfl
@[simp] theorem modMangle_sched (k : Nat) (f : Mangle → Mangle) : (s.modMangle k f).sched = s.sched := rfl
@[simp] theorem modMangle_ctxs (k : Nat) (f : Mangle → Mangle) : (s.modMangle k f).ctxs = s.ctxs := rfl
@[simp] theorem modMangle_kv (k : Nat) (f : Mangle → Mangle) : (s.modMangle k f).kv = s.kv := rfl
@[simp] theorem modMangle_rng (k : Nat) (f : Mangle → Mangle) : (s.modMangle k f).rng = s.rng := rfl
@[simp] theorem modMangle_thm (k : Nat) (f : Mangle → Mangle) : (s.modMangle k f).thm = s.thm := rfl
@[simp] theorem modMangle_met (k : Nat) (f : Mangle → Mangle) : (s.modMangle k f).met = s.met := rfl
@[simp] theorem modMangle_vent (k : Nat) (f : Mangle → Mangle) : (s.modMangle k f).vent = s.vent := rfl
@[simp] theorem modMangle_tmp (k : Nat) (f : Mangle → Mangle) : (s.modMangle k f).tmp = s.tmp := rfl
@[simp] theorem modMangle_lcs (k : Nat) (f : Mangle → Mangle) : (s.modMangle k f).lcs = s.lcs := rfl
@[simp] theorem modMangle_tap (k : Nat) (f : Mangle → Mangle) : (s.modMangle k f).tap = s.tap := rfl
@[simp] theorem modMangle_crd (k : Nat) (f : Mangle → Mangle) : (s.modMangle k f).crd = s.crd := rfl
@[simp] theorem modMangle_svc (k : Nat) (f : Mangle → Mangle) : (s.modMangle k f).svc = s.svc := rfl
@[simp] theorem modMangle_evr (k : Nat) (f : Mangle → Mangle) : (s.modMangle k f).evr = s.evr := rfl
@[simp] theorem modMangle_outbox (k : Nat) (f : Mangle → Mangle) : (s.modMangle k f).outbox = s.outbox := rfl
@[simp] theorem modMangle_freeCtr (k : Nat) (f : Mangle → Mangle) : (s.modMangle k f).freeCtr = s.freeCtr := rfl
@[simp] theorem modMangle_pending (k : Nat) (f : Mangle → Mangle) : (s.modMangle k f).pending = s.pending := rfl

@[simp] theorem modNeedle_otp (k : Nat) (f : Needle → Needle) : (s.modNeedle k f).otp = s.otp := rfl
@[simp] theorem modNeedle_pwr (k : Nat) (f : Needle → Needle) : (s.modNeedle k f).pwr = s.pwr := rfl
@[simp] theorem modNeedle_locks (k : Nat) (f : Needle → Needle) : (s.modNeedle k f).locks = s.locks := rfl
@[simp] theorem modNeedle_hold (k : Nat) (f : Needle → Needle) : (s.modNeedle k f).hold = s.hold := rfl
@[simp] theorem modNeedle_hif (k : Nat) (f : Needle → Needle) : (s.modNeedle k f).hif = s.hif := rfl
@[simp] theorem modNeedle_ring (k : Nat) (f : Needle → Needle) : (s.modNeedle k f).ring = s.ring := rfl
@[simp] theorem modNeedle_sqs (k : Nat) (f : Needle → Needle) : (s.modNeedle k f).sqs = s.sqs := rfl
@[simp] theorem modNeedle_cqs (k : Nat) (f : Needle → Needle) : (s.modNeedle k f).cqs = s.cqs := rfl
@[simp] theorem modNeedle_jobs (k : Nat) (f : Needle → Needle) : (s.modNeedle k f).jobs = s.jobs := rfl
@[simp] theorem modNeedle_nextJob (k : Nat) (f : Needle → Needle) : (s.modNeedle k f).nextJob = s.nextJob := rfl
@[simp] theorem modNeedle_slices (k : Nat) (f : Needle → Needle) : (s.modNeedle k f).slices = s.slices := rfl
@[simp] theorem modNeedle_freezeLimit (k : Nat) (f : Needle → Needle) : (s.modNeedle k f).freezeLimit = s.freezeLimit := rfl
@[simp] theorem modNeedle_mig (k : Nat) (f : Needle → Needle) : (s.modNeedle k f).mig = s.mig := rfl
@[simp] theorem modNeedle_time (k : Nat) (f : Needle → Needle) : (s.modNeedle k f).time = s.time := rfl
@[simp] theorem modNeedle_sched (k : Nat) (f : Needle → Needle) : (s.modNeedle k f).sched = s.sched := rfl
@[simp] theorem modNeedle_ctxs (k : Nat) (f : Needle → Needle) : (s.modNeedle k f).ctxs = s.ctxs := rfl
@[simp] theorem modNeedle_kv (k : Nat) (f : Needle → Needle) : (s.modNeedle k f).kv = s.kv := rfl
@[simp] theorem modNeedle_rng (k : Nat) (f : Needle → Needle) : (s.modNeedle k f).rng = s.rng := rfl
@[simp] theorem modNeedle_thm (k : Nat) (f : Needle → Needle) : (s.modNeedle k f).thm = s.thm := rfl
@[simp] theorem modNeedle_met (k : Nat) (f : Needle → Needle) : (s.modNeedle k f).met = s.met := rfl
@[simp] theorem modNeedle_vent (k : Nat) (f : Needle → Needle) : (s.modNeedle k f).vent = s.vent := rfl
@[simp] theorem modNeedle_tmp (k : Nat) (f : Needle → Needle) : (s.modNeedle k f).tmp = s.tmp := rfl
@[simp] theorem modNeedle_lcs (k : Nat) (f : Needle → Needle) : (s.modNeedle k f).lcs = s.lcs := rfl
@[simp] theorem modNeedle_tap (k : Nat) (f : Needle → Needle) : (s.modNeedle k f).tap = s.tap := rfl
@[simp] theorem modNeedle_crd (k : Nat) (f : Needle → Needle) : (s.modNeedle k f).crd = s.crd := rfl
@[simp] theorem modNeedle_svc (k : Nat) (f : Needle → Needle) : (s.modNeedle k f).svc = s.svc := rfl
@[simp] theorem modNeedle_evr (k : Nat) (f : Needle → Needle) : (s.modNeedle k f).evr = s.evr := rfl
@[simp] theorem modNeedle_outbox (k : Nat) (f : Needle → Needle) : (s.modNeedle k f).outbox = s.outbox := rfl
@[simp] theorem modNeedle_freeCtr (k : Nat) (f : Needle → Needle) : (s.modNeedle k f).freeCtr = s.freeCtr := rfl
@[simp] theorem modNeedle_pending (k : Nat) (f : Needle → Needle) : (s.modNeedle k f).pending = s.pending := rfl

@[simp] theorem setFence_otp (c : Nat) (f : Fence) : (s.setFence c f).otp = s.otp := rfl
@[simp] theorem setFence_pwr (c : Nat) (f : Fence) : (s.setFence c f).pwr = s.pwr := rfl
@[simp] theorem setFence_locks (c : Nat) (f : Fence) : (s.setFence c f).locks = s.locks := rfl
@[simp] theorem setFence_hold (c : Nat) (f : Fence) : (s.setFence c f).hold = s.hold := rfl
@[simp] theorem setFence_hif (c : Nat) (f : Fence) : (s.setFence c f).hif = s.hif := rfl
@[simp] theorem setFence_ring (c : Nat) (f : Fence) : (s.setFence c f).ring = s.ring := rfl
@[simp] theorem setFence_sqs (c : Nat) (f : Fence) : (s.setFence c f).sqs = s.sqs := rfl
@[simp] theorem setFence_cqs (c : Nat) (f : Fence) : (s.setFence c f).cqs = s.cqs := rfl
@[simp] theorem setFence_jobs (c : Nat) (f : Fence) : (s.setFence c f).jobs = s.jobs := rfl
@[simp] theorem setFence_nextJob (c : Nat) (f : Fence) : (s.setFence c f).nextJob = s.nextJob := rfl
@[simp] theorem setFence_slices (c : Nat) (f : Fence) : (s.setFence c f).slices = s.slices := rfl
@[simp] theorem setFence_freezeLimit (c : Nat) (f : Fence) : (s.setFence c f).freezeLimit = s.freezeLimit := rfl
@[simp] theorem setFence_mig (c : Nat) (f : Fence) : (s.setFence c f).mig = s.mig := rfl
@[simp] theorem setFence_time (c : Nat) (f : Fence) : (s.setFence c f).time = s.time := rfl
@[simp] theorem setFence_sched (c : Nat) (f : Fence) : (s.setFence c f).sched = s.sched := rfl
@[simp] theorem setFence_ctxs (c : Nat) (f : Fence) : (s.setFence c f).ctxs = s.ctxs := rfl
@[simp] theorem setFence_kv (c : Nat) (f : Fence) : (s.setFence c f).kv = s.kv := rfl
@[simp] theorem setFence_rng (c : Nat) (f : Fence) : (s.setFence c f).rng = s.rng := rfl
@[simp] theorem setFence_thm (c : Nat) (f : Fence) : (s.setFence c f).thm = s.thm := rfl
@[simp] theorem setFence_met (c : Nat) (f : Fence) : (s.setFence c f).met = s.met := rfl
@[simp] theorem setFence_vent (c : Nat) (f : Fence) : (s.setFence c f).vent = s.vent := rfl
@[simp] theorem setFence_tmp (c : Nat) (f : Fence) : (s.setFence c f).tmp = s.tmp := rfl
@[simp] theorem setFence_lcs (c : Nat) (f : Fence) : (s.setFence c f).lcs = s.lcs := rfl
@[simp] theorem setFence_tap (c : Nat) (f : Fence) : (s.setFence c f).tap = s.tap := rfl
@[simp] theorem setFence_crd (c : Nat) (f : Fence) : (s.setFence c f).crd = s.crd := rfl
@[simp] theorem setFence_svc (c : Nat) (f : Fence) : (s.setFence c f).svc = s.svc := rfl
@[simp] theorem setFence_evr (c : Nat) (f : Fence) : (s.setFence c f).evr = s.evr := rfl
@[simp] theorem setFence_outbox (c : Nat) (f : Fence) : (s.setFence c f).outbox = s.outbox := rfl
@[simp] theorem setFence_freeCtr (c : Nat) (f : Fence) : (s.setFence c f).freeCtr = s.freeCtr := rfl
@[simp] theorem setFence_pending (c : Nat) (f : Fence) : (s.setFence c f).pending = s.pending := rfl

@[simp] theorem modCtx_otp (c : Nat) (f : Ctx → Ctx) : (s.modCtx c f).otp = s.otp := rfl
@[simp] theorem modCtx_pwr (c : Nat) (f : Ctx → Ctx) : (s.modCtx c f).pwr = s.pwr := rfl
@[simp] theorem modCtx_locks (c : Nat) (f : Ctx → Ctx) : (s.modCtx c f).locks = s.locks := rfl
@[simp] theorem modCtx_hold (c : Nat) (f : Ctx → Ctx) : (s.modCtx c f).hold = s.hold := rfl
@[simp] theorem modCtx_hif (c : Nat) (f : Ctx → Ctx) : (s.modCtx c f).hif = s.hif := rfl
@[simp] theorem modCtx_ring (c : Nat) (f : Ctx → Ctx) : (s.modCtx c f).ring = s.ring := rfl
@[simp] theorem modCtx_sqs (c : Nat) (f : Ctx → Ctx) : (s.modCtx c f).sqs = s.sqs := rfl
@[simp] theorem modCtx_cqs (c : Nat) (f : Ctx → Ctx) : (s.modCtx c f).cqs = s.cqs := rfl
@[simp] theorem modCtx_jobs (c : Nat) (f : Ctx → Ctx) : (s.modCtx c f).jobs = s.jobs := rfl
@[simp] theorem modCtx_nextJob (c : Nat) (f : Ctx → Ctx) : (s.modCtx c f).nextJob = s.nextJob := rfl
@[simp] theorem modCtx_slices (c : Nat) (f : Ctx → Ctx) : (s.modCtx c f).slices = s.slices := rfl
@[simp] theorem modCtx_freezeLimit (c : Nat) (f : Ctx → Ctx) : (s.modCtx c f).freezeLimit = s.freezeLimit := rfl
@[simp] theorem modCtx_mig (c : Nat) (f : Ctx → Ctx) : (s.modCtx c f).mig = s.mig := rfl
@[simp] theorem modCtx_time (c : Nat) (f : Ctx → Ctx) : (s.modCtx c f).time = s.time := rfl
@[simp] theorem modCtx_sched (c : Nat) (f : Ctx → Ctx) : (s.modCtx c f).sched = s.sched := rfl
@[simp] theorem modCtx_eng (c : Nat) (f : Ctx → Ctx) : (s.modCtx c f).eng = s.eng := rfl
@[simp] theorem modCtx_kv (c : Nat) (f : Ctx → Ctx) : (s.modCtx c f).kv = s.kv := rfl
@[simp] theorem modCtx_rng (c : Nat) (f : Ctx → Ctx) : (s.modCtx c f).rng = s.rng := rfl
@[simp] theorem modCtx_thm (c : Nat) (f : Ctx → Ctx) : (s.modCtx c f).thm = s.thm := rfl
@[simp] theorem modCtx_met (c : Nat) (f : Ctx → Ctx) : (s.modCtx c f).met = s.met := rfl
@[simp] theorem modCtx_vent (c : Nat) (f : Ctx → Ctx) : (s.modCtx c f).vent = s.vent := rfl
@[simp] theorem modCtx_tmp (c : Nat) (f : Ctx → Ctx) : (s.modCtx c f).tmp = s.tmp := rfl
@[simp] theorem modCtx_lcs (c : Nat) (f : Ctx → Ctx) : (s.modCtx c f).lcs = s.lcs := rfl
@[simp] theorem modCtx_tap (c : Nat) (f : Ctx → Ctx) : (s.modCtx c f).tap = s.tap := rfl
@[simp] theorem modCtx_crd (c : Nat) (f : Ctx → Ctx) : (s.modCtx c f).crd = s.crd := rfl
@[simp] theorem modCtx_svc (c : Nat) (f : Ctx → Ctx) : (s.modCtx c f).svc = s.svc := rfl
@[simp] theorem modCtx_evr (c : Nat) (f : Ctx → Ctx) : (s.modCtx c f).evr = s.evr := rfl
@[simp] theorem modCtx_outbox (c : Nat) (f : Ctx → Ctx) : (s.modCtx c f).outbox = s.outbox := rfl
@[simp] theorem modCtx_freeCtr (c : Nat) (f : Ctx → Ctx) : (s.modCtx c f).freeCtr = s.freeCtr := rfl
@[simp] theorem modCtx_pending (c : Nat) (f : Ctx → Ctx) : (s.modCtx c f).pending = s.pending := rfl

@[simp] theorem modGen_otp (g : Nat) (f : MaskGen → MaskGen) : (s.modGen g f).otp = s.otp := rfl
@[simp] theorem modGen_pwr (g : Nat) (f : MaskGen → MaskGen) : (s.modGen g f).pwr = s.pwr := rfl
@[simp] theorem modGen_locks (g : Nat) (f : MaskGen → MaskGen) : (s.modGen g f).locks = s.locks := rfl
@[simp] theorem modGen_hold (g : Nat) (f : MaskGen → MaskGen) : (s.modGen g f).hold = s.hold := rfl
@[simp] theorem modGen_hif (g : Nat) (f : MaskGen → MaskGen) : (s.modGen g f).hif = s.hif := rfl
@[simp] theorem modGen_ring (g : Nat) (f : MaskGen → MaskGen) : (s.modGen g f).ring = s.ring := rfl
@[simp] theorem modGen_sqs (g : Nat) (f : MaskGen → MaskGen) : (s.modGen g f).sqs = s.sqs := rfl
@[simp] theorem modGen_cqs (g : Nat) (f : MaskGen → MaskGen) : (s.modGen g f).cqs = s.cqs := rfl
@[simp] theorem modGen_jobs (g : Nat) (f : MaskGen → MaskGen) : (s.modGen g f).jobs = s.jobs := rfl
@[simp] theorem modGen_nextJob (g : Nat) (f : MaskGen → MaskGen) : (s.modGen g f).nextJob = s.nextJob := rfl
@[simp] theorem modGen_slices (g : Nat) (f : MaskGen → MaskGen) : (s.modGen g f).slices = s.slices := rfl
@[simp] theorem modGen_freezeLimit (g : Nat) (f : MaskGen → MaskGen) : (s.modGen g f).freezeLimit = s.freezeLimit := rfl
@[simp] theorem modGen_mig (g : Nat) (f : MaskGen → MaskGen) : (s.modGen g f).mig = s.mig := rfl
@[simp] theorem modGen_time (g : Nat) (f : MaskGen → MaskGen) : (s.modGen g f).time = s.time := rfl
@[simp] theorem modGen_sched (g : Nat) (f : MaskGen → MaskGen) : (s.modGen g f).sched = s.sched := rfl
@[simp] theorem modGen_eng (g : Nat) (f : MaskGen → MaskGen) : (s.modGen g f).eng = s.eng := rfl
@[simp] theorem modGen_ctxs (g : Nat) (f : MaskGen → MaskGen) : (s.modGen g f).ctxs = s.ctxs := rfl
@[simp] theorem modGen_kv (g : Nat) (f : MaskGen → MaskGen) : (s.modGen g f).kv = s.kv := rfl
@[simp] theorem modGen_thm (g : Nat) (f : MaskGen → MaskGen) : (s.modGen g f).thm = s.thm := rfl
@[simp] theorem modGen_met (g : Nat) (f : MaskGen → MaskGen) : (s.modGen g f).met = s.met := rfl
@[simp] theorem modGen_vent (g : Nat) (f : MaskGen → MaskGen) : (s.modGen g f).vent = s.vent := rfl
@[simp] theorem modGen_tmp (g : Nat) (f : MaskGen → MaskGen) : (s.modGen g f).tmp = s.tmp := rfl
@[simp] theorem modGen_lcs (g : Nat) (f : MaskGen → MaskGen) : (s.modGen g f).lcs = s.lcs := rfl
@[simp] theorem modGen_tap (g : Nat) (f : MaskGen → MaskGen) : (s.modGen g f).tap = s.tap := rfl
@[simp] theorem modGen_crd (g : Nat) (f : MaskGen → MaskGen) : (s.modGen g f).crd = s.crd := rfl
@[simp] theorem modGen_svc (g : Nat) (f : MaskGen → MaskGen) : (s.modGen g f).svc = s.svc := rfl
@[simp] theorem modGen_evr (g : Nat) (f : MaskGen → MaskGen) : (s.modGen g f).evr = s.evr := rfl
@[simp] theorem modGen_outbox (g : Nat) (f : MaskGen → MaskGen) : (s.modGen g f).outbox = s.outbox := rfl
@[simp] theorem modGen_freeCtr (g : Nat) (f : MaskGen → MaskGen) : (s.modGen g f).freeCtr = s.freeCtr := rfl
@[simp] theorem modGen_pending (g : Nat) (f : MaskGen → MaskGen) : (s.modGen g f).pending = s.pending := rfl

@[simp] theorem modOc_otp (k : Nat) (f : OcPort → OcPort) : (s.modOc k f).otp = s.otp := rfl
@[simp] theorem modOc_pwr (k : Nat) (f : OcPort → OcPort) : (s.modOc k f).pwr = s.pwr := rfl
@[simp] theorem modOc_locks (k : Nat) (f : OcPort → OcPort) : (s.modOc k f).locks = s.locks := rfl
@[simp] theorem modOc_hold (k : Nat) (f : OcPort → OcPort) : (s.modOc k f).hold = s.hold := rfl
@[simp] theorem modOc_hif (k : Nat) (f : OcPort → OcPort) : (s.modOc k f).hif = s.hif := rfl
@[simp] theorem modOc_ring (k : Nat) (f : OcPort → OcPort) : (s.modOc k f).ring = s.ring := rfl
@[simp] theorem modOc_sqs (k : Nat) (f : OcPort → OcPort) : (s.modOc k f).sqs = s.sqs := rfl
@[simp] theorem modOc_cqs (k : Nat) (f : OcPort → OcPort) : (s.modOc k f).cqs = s.cqs := rfl
@[simp] theorem modOc_jobs (k : Nat) (f : OcPort → OcPort) : (s.modOc k f).jobs = s.jobs := rfl
@[simp] theorem modOc_nextJob (k : Nat) (f : OcPort → OcPort) : (s.modOc k f).nextJob = s.nextJob := rfl
@[simp] theorem modOc_slices (k : Nat) (f : OcPort → OcPort) : (s.modOc k f).slices = s.slices := rfl
@[simp] theorem modOc_freezeLimit (k : Nat) (f : OcPort → OcPort) : (s.modOc k f).freezeLimit = s.freezeLimit := rfl
@[simp] theorem modOc_mig (k : Nat) (f : OcPort → OcPort) : (s.modOc k f).mig = s.mig := rfl
@[simp] theorem modOc_time (k : Nat) (f : OcPort → OcPort) : (s.modOc k f).time = s.time := rfl
@[simp] theorem modOc_sched (k : Nat) (f : OcPort → OcPort) : (s.modOc k f).sched = s.sched := rfl
@[simp] theorem modOc_eng (k : Nat) (f : OcPort → OcPort) : (s.modOc k f).eng = s.eng := rfl
@[simp] theorem modOc_ctxs (k : Nat) (f : OcPort → OcPort) : (s.modOc k f).ctxs = s.ctxs := rfl
@[simp] theorem modOc_kv (k : Nat) (f : OcPort → OcPort) : (s.modOc k f).kv = s.kv := rfl
@[simp] theorem modOc_rng (k : Nat) (f : OcPort → OcPort) : (s.modOc k f).rng = s.rng := rfl
@[simp] theorem modOc_thm (k : Nat) (f : OcPort → OcPort) : (s.modOc k f).thm = s.thm := rfl
@[simp] theorem modOc_met (k : Nat) (f : OcPort → OcPort) : (s.modOc k f).met = s.met := rfl
@[simp] theorem modOc_vent (k : Nat) (f : OcPort → OcPort) : (s.modOc k f).vent = s.vent := rfl
@[simp] theorem modOc_tmp (k : Nat) (f : OcPort → OcPort) : (s.modOc k f).tmp = s.tmp := rfl
@[simp] theorem modOc_lcs (k : Nat) (f : OcPort → OcPort) : (s.modOc k f).lcs = s.lcs := rfl
@[simp] theorem modOc_tap (k : Nat) (f : OcPort → OcPort) : (s.modOc k f).tap = s.tap := rfl
@[simp] theorem modOc_svc (k : Nat) (f : OcPort → OcPort) : (s.modOc k f).svc = s.svc := rfl
@[simp] theorem modOc_evr (k : Nat) (f : OcPort → OcPort) : (s.modOc k f).evr = s.evr := rfl
@[simp] theorem modOc_outbox (k : Nat) (f : OcPort → OcPort) : (s.modOc k f).outbox = s.outbox := rfl
@[simp] theorem modOc_freeCtr (k : Nat) (f : OcPort → OcPort) : (s.modOc k f).freeCtr = s.freeCtr := rfl
@[simp] theorem modOc_pending (k : Nat) (f : OcPort → OcPort) : (s.modOc k f).pending = s.pending := rfl

@[simp] theorem modVentClass_otp (c : Nat) (f : VentClass → VentClass) : (s.modVentClass c f).otp = s.otp := rfl
@[simp] theorem modVentClass_pwr (c : Nat) (f : VentClass → VentClass) : (s.modVentClass c f).pwr = s.pwr := rfl
@[simp] theorem modVentClass_locks (c : Nat) (f : VentClass → VentClass) : (s.modVentClass c f).locks = s.locks := rfl
@[simp] theorem modVentClass_hold (c : Nat) (f : VentClass → VentClass) : (s.modVentClass c f).hold = s.hold := rfl
@[simp] theorem modVentClass_hif (c : Nat) (f : VentClass → VentClass) : (s.modVentClass c f).hif = s.hif := rfl
@[simp] theorem modVentClass_ring (c : Nat) (f : VentClass → VentClass) : (s.modVentClass c f).ring = s.ring := rfl
@[simp] theorem modVentClass_sqs (c : Nat) (f : VentClass → VentClass) : (s.modVentClass c f).sqs = s.sqs := rfl
@[simp] theorem modVentClass_cqs (c : Nat) (f : VentClass → VentClass) : (s.modVentClass c f).cqs = s.cqs := rfl
@[simp] theorem modVentClass_jobs (c : Nat) (f : VentClass → VentClass) : (s.modVentClass c f).jobs = s.jobs := rfl
@[simp] theorem modVentClass_nextJob (c : Nat) (f : VentClass → VentClass) : (s.modVentClass c f).nextJob = s.nextJob := rfl
@[simp] theorem modVentClass_slices (c : Nat) (f : VentClass → VentClass) : (s.modVentClass c f).slices = s.slices := rfl
@[simp] theorem modVentClass_freezeLimit (c : Nat) (f : VentClass → VentClass) : (s.modVentClass c f).freezeLimit = s.freezeLimit := rfl
@[simp] theorem modVentClass_mig (c : Nat) (f : VentClass → VentClass) : (s.modVentClass c f).mig = s.mig := rfl
@[simp] theorem modVentClass_time (c : Nat) (f : VentClass → VentClass) : (s.modVentClass c f).time = s.time := rfl
@[simp] theorem modVentClass_sched (c : Nat) (f : VentClass → VentClass) : (s.modVentClass c f).sched = s.sched := rfl
@[simp] theorem modVentClass_eng (c : Nat) (f : VentClass → VentClass) : (s.modVentClass c f).eng = s.eng := rfl
@[simp] theorem modVentClass_ctxs (c : Nat) (f : VentClass → VentClass) : (s.modVentClass c f).ctxs = s.ctxs := rfl
@[simp] theorem modVentClass_kv (c : Nat) (f : VentClass → VentClass) : (s.modVentClass c f).kv = s.kv := rfl
@[simp] theorem modVentClass_rng (c : Nat) (f : VentClass → VentClass) : (s.modVentClass c f).rng = s.rng := rfl
@[simp] theorem modVentClass_thm (c : Nat) (f : VentClass → VentClass) : (s.modVentClass c f).thm = s.thm := rfl
@[simp] theorem modVentClass_met (c : Nat) (f : VentClass → VentClass) : (s.modVentClass c f).met = s.met := rfl
@[simp] theorem modVentClass_tmp (c : Nat) (f : VentClass → VentClass) : (s.modVentClass c f).tmp = s.tmp := rfl
@[simp] theorem modVentClass_lcs (c : Nat) (f : VentClass → VentClass) : (s.modVentClass c f).lcs = s.lcs := rfl
@[simp] theorem modVentClass_tap (c : Nat) (f : VentClass → VentClass) : (s.modVentClass c f).tap = s.tap := rfl
@[simp] theorem modVentClass_crd (c : Nat) (f : VentClass → VentClass) : (s.modVentClass c f).crd = s.crd := rfl
@[simp] theorem modVentClass_svc (c : Nat) (f : VentClass → VentClass) : (s.modVentClass c f).svc = s.svc := rfl
@[simp] theorem modVentClass_evr (c : Nat) (f : VentClass → VentClass) : (s.modVentClass c f).evr = s.evr := rfl
@[simp] theorem modVentClass_outbox (c : Nat) (f : VentClass → VentClass) : (s.modVentClass c f).outbox = s.outbox := rfl
@[simp] theorem modVentClass_freeCtr (c : Nat) (f : VentClass → VentClass) : (s.modVentClass c f).freeCtr = s.freeCtr := rfl
@[simp] theorem modVentClass_pending (c : Nat) (f : VentClass → VentClass) : (s.modVentClass c f).pending = s.pending := rfl

/-! ## A key slot lies in one of two stores -/

@[simp] theorem modSlot_otp (kt : Bool) (i : Nat) (f : Slot → Slot) : (s.modSlot kt i f).otp = s.otp := by cases kt <;> rfl
@[simp] theorem modSlot_pwr (kt : Bool) (i : Nat) (f : Slot → Slot) : (s.modSlot kt i f).pwr = s.pwr := by cases kt <;> rfl
@[simp] theorem modSlot_locks (kt : Bool) (i : Nat) (f : Slot → Slot) : (s.modSlot kt i f).locks = s.locks := by cases kt <;> rfl
@[simp] theorem modSlot_hold (kt : Bool) (i : Nat) (f : Slot → Slot) : (s.modSlot kt i f).hold = s.hold := by cases kt <;> rfl
@[simp] theorem modSlot_hif (kt : Bool) (i : Nat) (f : Slot → Slot) : (s.modSlot kt i f).hif = s.hif := by cases kt <;> rfl
@[simp] theorem modSlot_ring (kt : Bool) (i : Nat) (f : Slot → Slot) : (s.modSlot kt i f).ring = s.ring := by cases kt <;> rfl
@[simp] theorem modSlot_sqs (kt : Bool) (i : Nat) (f : Slot → Slot) : (s.modSlot kt i f).sqs = s.sqs := by cases kt <;> rfl
@[simp] theorem modSlot_cqs (kt : Bool) (i : Nat) (f : Slot → Slot) : (s.modSlot kt i f).cqs = s.cqs := by cases kt <;> rfl
@[simp] theorem modSlot_jobs (kt : Bool) (i : Nat) (f : Slot → Slot) : (s.modSlot kt i f).jobs = s.jobs := by cases kt <;> rfl
@[simp] theorem modSlot_nextJob (kt : Bool) (i : Nat) (f : Slot → Slot) : (s.modSlot kt i f).nextJob = s.nextJob := by cases kt <;> rfl
@[simp] theorem modSlot_slices (kt : Bool) (i : Nat) (f : Slot → Slot) : (s.modSlot kt i f).slices = s.slices := by cases kt <;> rfl
@[simp] theorem modSlot_freezeLimit (kt : Bool) (i : Nat) (f : Slot → Slot) : (s.modSlot kt i f).freezeLimit = s.freezeLimit := by cases kt <;> rfl
@[simp] theorem modSlot_mig (kt : Bool) (i : Nat) (f : Slot → Slot) : (s.modSlot kt i f).mig = s.mig := by cases kt <;> rfl
@[simp] theorem modSlot_time (kt : Bool) (i : Nat) (f : Slot → Slot) : (s.modSlot kt i f).time = s.time := by cases kt <;> rfl
@[simp] theorem modSlot_sched (kt : Bool) (i : Nat) (f : Slot → Slot) : (s.modSlot kt i f).sched = s.sched := by cases kt <;> rfl
@[simp] theorem modSlot_eng (kt : Bool) (i : Nat) (f : Slot → Slot) : (s.modSlot kt i f).eng = s.eng := by cases kt <;> rfl
@[simp] theorem modSlot_ctxs (kt : Bool) (i : Nat) (f : Slot → Slot) : (s.modSlot kt i f).ctxs = s.ctxs := by cases kt <;> rfl
@[simp] theorem modSlot_rng (kt : Bool) (i : Nat) (f : Slot → Slot) : (s.modSlot kt i f).rng = s.rng := by cases kt <;> rfl
@[simp] theorem modSlot_thm (kt : Bool) (i : Nat) (f : Slot → Slot) : (s.modSlot kt i f).thm = s.thm := by cases kt <;> rfl
@[simp] theorem modSlot_met (kt : Bool) (i : Nat) (f : Slot → Slot) : (s.modSlot kt i f).met = s.met := by cases kt <;> rfl
@[simp] theorem modSlot_vent (kt : Bool) (i : Nat) (f : Slot → Slot) : (s.modSlot kt i f).vent = s.vent := by cases kt <;> rfl
@[simp] theorem modSlot_tmp (kt : Bool) (i : Nat) (f : Slot → Slot) : (s.modSlot kt i f).tmp = s.tmp := by cases kt <;> rfl
@[simp] theorem modSlot_lcs (kt : Bool) (i : Nat) (f : Slot → Slot) : (s.modSlot kt i f).lcs = s.lcs := by cases kt <;> rfl
@[simp] theorem modSlot_tap (kt : Bool) (i : Nat) (f : Slot → Slot) : (s.modSlot kt i f).tap = s.tap := by cases kt <;> rfl
@[simp] theorem modSlot_crd (kt : Bool) (i : Nat) (f : Slot → Slot) : (s.modSlot kt i f).crd = s.crd := by cases kt <;> rfl
@[simp] theorem modSlot_svc (kt : Bool) (i : Nat) (f : Slot → Slot) : (s.modSlot kt i f).svc = s.svc := by cases kt <;> rfl
@[simp] theorem modSlot_evr (kt : Bool) (i : Nat) (f : Slot → Slot) : (s.modSlot kt i f).evr = s.evr := by cases kt <;> rfl
@[simp] theorem modSlot_outbox (kt : Bool) (i : Nat) (f : Slot → Slot) : (s.modSlot kt i f).outbox = s.outbox := by cases kt <;> rfl
@[simp] theorem modSlot_freeCtr (kt : Bool) (i : Nat) (f : Slot → Slot) : (s.modSlot kt i f).freeCtr = s.freeCtr := by cases kt <;> rfl
@[simp] theorem modSlot_pending (kt : Bool) (i : Nat) (f : Slot → Slot) : (s.modSlot kt i f).pending = s.pending := by cases kt <;> rfl

/-! ## What they write -/

@[simp] theorem emit_outbox (o : Output) : (emit o s).outbox = s.outbox ++ [o] := rfl
@[simp] theorem fresh_freeCtr : (fresh s).freeCtr = s.freeCtr + 1 := rfl
@[simp] theorem slice_modSlice (i : Nat) (f : Slice → Slice) : (s.modSlice i f).slice i = f (s.slice i) := by simp [State.slice, State.modSlice]
@[simp] theorem sq_modSq (i q : Nat) (f : Sq → Sq) : (s.modSq i q f).sq i q = f (s.sq i q) := by simp [State.sq, State.modSq]
@[simp] theorem cq_modCq (i q : Nat) (f : Cq → Cq) : (s.modCq i q f).cq i q = f (s.cq i q) := by simp [State.cq, State.modCq]
@[simp] theorem lane_modLane (c : Nat) (f : LaneState → LaneState) : (s.modLane c f).lane c = f (s.lane c) := by simp [State.lane, State.modLane]
@[simp] theorem mangle_modMangle (k : Nat) (f : Mangle → Mangle) : (s.modMangle k f).mangle k = f (s.mangle k) := by
  simp [State.mangle, State.modMangle]
@[simp] theorem needle_modNeedle (k : Nat) (f : Needle → Needle) : (s.modNeedle k f).needle k = f (s.needle k) := by
  simp [State.needle, State.modNeedle]
@[simp] theorem fence_setFence (c : Nat) (f : Fence) : (s.setFence c f).fence c = f := by simp [State.fence, State.setFence]
@[simp] theorem ctx_modCtx (c : Nat) (f : Ctx → Ctx) : (s.modCtx c f).ctx c = f (s.ctx c) := by simp [State.ctx, State.modCtx]
@[simp] theorem gen_modGen (g : Nat) (f : MaskGen → MaskGen) : (s.modGen g f).gen g = f (s.gen g) := by simp [State.gen, State.modGen]
@[simp] theorem slot_modSlot (kt : Bool) (i : Nat) (f : Slot → Slot) : (s.modSlot kt i f).slot kt i = f (s.slot kt i) := by
  cases kt <;> simp [State.slot, State.modSlot]
theorem needle_modNeedle_ne {k i : Nat} (f : Needle → Needle) (h : i ≠ k) : (s.modNeedle k f).needle i = s.needle i := by
  simp [State.needle, State.modNeedle, tget_tmod_ne _ _ _ h]
theorem ctx_modCtx_ne {c i : Nat} (f : Ctx → Ctx) (h : i ≠ c) : (s.modCtx c f).ctx i = s.ctx i := by
  simp [State.ctx, State.modCtx, tget_tmod_ne _ _ _ h]

/-- Changing job `id` leaves every other job alone, as long as the change keeps numbers. -/
theorem job_modJob (id i : Nat) (f : Job → Job) (hf : ∀ j, (f j).id = j.id) :
    (s.modJob id f).job? i = if i = id then (s.job? i).map f else s.job? i := by
  unfold State.modJob State.job?
  simp only
  induction s.jobs with
  | nil => simp [mapIf]
  | cons j r ih =>
    simp only [mapIf, List.map_cons, List.find?_cons] at ih ⊢
    by_cases h : (j.id == id) = true
    · simp only [h, if_true, hf]
      have hj : j.id = id := by simpa using h
      by_cases hi : i = id
      · subst hi; simp [h]
      · have : (j.id == i) = false := by simp [hj]; omega
        simp only [this, ih, hi, if_false]
    · simp only [h, Bool.false_eq_true, if_false]
      by_cases hji : (j.id == i) = true
      · have hne : i ≠ id := by rintro rfl; exact h hji
        simp [hji, hne]
      · simp only [hji, ih]

end Sys2Proof.Machine
end

