-- ==== Sys2Proof/Laws/Jobs.lean ====
section
/-! SUPPORT. What the end of a computation leaves. -/
namespace Sys2Proof.Machine

/-- From `s` to `t` nothing differs but jobs, miss counters and session contexts. -/
def quiet (s t : State) : Prop := t = { s with jobs := t.jobs, sched := { s.sched with misses := t.sched.misses }, ctxs := t.ctxs }

theorem quiet_refl (s : State) : quiet s s := rfl

theorem quiet_trans {s t u : State} (h : quiet s t) (h' : quiet t u) : quiet s u := by
  unfold quiet at *
  rw [h'] ; rw [h]

theorem quiet_modJob (s : State) (id : Nat) (f : Job → Job) : quiet s (s.modJob id f) := rfl

theorem quiet_dropSession (s : State) (j : Job) : quiet s (dropSession j s) := by
  unfold dropSession; split <;> rfl

/-- A dropped session leaves every other job, and of its own job changes the session. -/
theorem dropSession_job (s : State) (j : Job) (i : Nat) :
    (dropSession j s).job? i = s.job? i ∨ (i = j.id ∧ (dropSession j s).job? i = (s.job? i).map (fun j => { j with session := none })) := by
  unfold dropSession
  split
  · rename_i c _
    rw [job_modJob _ _ _ _ (by simp)]
    by_cases h : i = j.id
    · right; exact ⟨h, by rw [if_pos h]; rfl⟩
    · left; rw [if_neg h]; rfl
  · exact .inl rfl

theorem job_congr {s t : State} (h : s.jobs = t.jobs) (i : Nat) : s.job? i = t.job? i := by simp [State.job?, h]

theorem job_id {s : State} {id : Nat} {j : Job} (h : s.job? id = some j) : j.id = id := by
  have := List.find?_some h; simpa using this

theorem decidedAs_congr {s t : State} {id status : Nat} {outs : List (Nat × Bytes)} (h : t.jobs = s.jobs) (hs : decidedAs s id status outs) :
    decidedAs t id status outs := by
  obtain ⟨j, hj, hr⟩ := hs
  exact ⟨j, by rw [job_congr h]; exact hj, hr⟩

theorem decidedAs_modJob {s : State} {id status : Nat} {outs : List (Nat × Bytes)} {f : Job → Job} {j : Job} (hf : ∀ j, (f j).id = j.id)
    (hj : s.job? id = some j) (h : (f j).phase = .decided ∧ (f j).status = status ∧ (f j).outs = outs) :
    decidedAs (s.modJob id f) id status outs := ⟨f j, by rw [job_modJob _ _ _ _ hf, hj]; simp, h⟩

theorem decidedAs_late {s : State} {id status : Nat} {outs : List (Nat × Bytes)} (hs : decidedAs s id status outs) :
    decidedAs (decideLate id s) id status outs := by
  obtain ⟨j, hj, hr⟩ := hs
  unfold decideLate
  rw [hj]
  simp only
  have (late : Bool) := decidedAs_modJob (f := fun j' => { j' with late := late }) (by simp) hj hr
  split
  · exact decidedAs_congr rfl (this _)
  · exact this _

/-- A commit decides its job with the status and, after a success, the outputs. -/
theorem decideJob_decides {s : State} {id : Nat} {j : Job} (status : Nat) (outs : List (Nat × Bytes)) (h : s.job? id = some j) :
    decidedAs (decideJob id status outs s) id status (if status = stSuccess then outs else []) := by
  unfold decideJob
  simp only [h]
  apply decidedAs_late
  split
  · exact decidedAs_modJob (j := j) (by simp) h ⟨rfl, rfl, rfl⟩
  · rcases dropSession_job s j id with hd | ⟨-, hd⟩
    · exact decidedAs_modJob (j := j) (by simp) (hd.trans h) ⟨rfl, rfl, rfl⟩
    · exact decidedAs_modJob (j := { j with session := none }) (by simp) (by rw [hd, h]; rfl) ⟨rfl, rfl, rfl⟩

theorem decideLate_quiet (s : State) (id : Nat) : quiet s (decideLate id s) := by
  unfold decideLate
  split
  · rfl
  · simp only; split <;> rfl

theorem decideLate_other (s : State) {id i : Nat} (h : i ≠ id) : (decideLate id s).job? i = s.job? i := by
  unfold decideLate
  split
  · rfl
  · simp only
    split
    · exact (job_modJob s id i (fun _ => _) (by simp)).trans (by simp [h])
    · exact (job_modJob s id i (fun _ => _) (by simp)).trans (by simp [h])

/-- A commit changes its own job, miss counters and contexts, and nothing else. -/
theorem decideJob_onlyJob (s : State) (id status : Nat) (outs : List (Nat × Bytes)) : onlyJob s (decideJob id status outs s) id := by
  refine ⟨?_, fun i hi => ?_⟩
  · show quiet s _
    unfold decideJob
    simp only
    refine quiet_trans (quiet_trans ?_ (quiet_modJob ..)) (decideLate_quiet ..)
    split
    · split
      · rfl
      · exact quiet_dropSession ..
    · rfl
  · unfold decideJob
    simp only
    rw [decideLate_other _ hi, job_modJob _ _ _ _ (by simp)]
    simp only [hi, if_false]
    split
    · rename_i j hj
      split
      · rfl
      · rcases dropSession_job s j i with hd | ⟨he, -⟩
        · exact hd
        · exact absurd (he.trans (job_id hj)) hi
    · rfl

theorem decided_ok {s : State} {id : Nat} {j : Job} {outs : List (Nat × Bytes)} (h : s.job? id = some j) :
    decidedAs (done j outs s) id 0 outs ∧ onlyJob s (done j outs s) id := by
  have hj := job_id h; subst hj
  exact ⟨by simpa [done] using decideJob_decides 0 outs h, decideJob_onlyJob ..⟩

theorem decided_fail {s : State} {id : Nat} {j : Job} {status : Nat} (h : s.job? id = some j) (hs : status ≠ 0) :
    decidedAs (fail j status s) id status [] ∧ onlyJob s (fail j status s) id := by
  have hj := job_id h; subst hj
  exact ⟨by simpa [fail, hs] using decideJob_decides status [] h, decideJob_onlyJob ..⟩

/-- The computation of a job that computes runs. -/
theorem runOp_computes {s : State} {id op : Nat} {j : Job} (f : Job → State → State) (h : computes s id op j) : runOp op f id s = f j s := by
  obtain ⟨h1, h2, h3⟩ := h
  simp [runOp, h1, h2, h3]

end Sys2Proof.Machine
end

