-- ==== Sys2Proof/Laws/Keys.lean ====
section
/-! SUPPORT. What creating a key leaves alone, and what a job that creates one does. -/
namespace Sys2Proof.Machine

theorem foldl_keeps {α β γ : Type} (p : α → γ) (f : α → β → α) (h : ∀ a b, p (f a b) = p a) (l : List β) (a : α) : p (l.foldl f a) = p a := by
  induction l generalizing a with
  | nil => rfl
  | cons b r ih => rw [List.foldl_cons, ih, h]

@[simp] theorem layRun_jobs (kt : Bool) (i : Nat) (b : Slot) (s : State) : (layRun kt i b s).jobs = s.jobs := by
  unfold layRun
  simp only [modSlot_jobs]
  exact foldl_keeps (fun t : State => t.jobs) _ (fun a k => by simp) _ _

/-- Creating a key leaves the jobs alone. -/
theorem createKey_jobs {cls slice : Nat} {attr : Bytes} {origin : BitVec 8} {material : Bytes} {s s' : State} {i : Nat}
    (h : createKey cls slice attr origin material s = .inl (s', i)) : s'.jobs = s.jobs := by
  unfold createKey at h
  simp only at h
  split at h
  · cases h
  · split at h
    · cases h
    · simp only [Sum.inl.injEq, Prod.mk.injEq] at h
      obtain ⟨rfl, -⟩ := h
      simp [putKey]

/-- No status that refuses a key is SUCCESS. -/
theorem createKey_refuses {cls slice : Nat} {attr : Bytes} {origin : BitVec 8} {material : Bytes} {s : State} {st : Nat}
    (h : createKey cls slice attr origin material s = .inr st) : st ≠ 0 := by
  unfold createKey at h
  simp only at h
  split at h
  · cases h; decide
  · split at h
    · next hp =>
      cases h
      unfold State.placeRun at hp
      simp only at hp
      revert hp
      cases s.freeRun (cls != 1) (s.slotCount attr) with
      | none => simp only [Sum.inr.injEq]; rintro rfl; split <;> decide
      | some i =>
        dsimp only
        by_cases hq : (if (cls != 1) = true then (s.slice slice).quotaKt.toNat else (s.slice slice).quotaPs.toNat) <
            s.slotsHeld (cls != 1) slice + s.slotCount attr
        · rw [if_pos hq]; simp only [Sum.inr.injEq]; rintro rfl; decide
        · rw [if_neg hq]; simp
    · cases h

theorem onlyJob_kv {s t : State} {id : Nat} (h : onlyJob s t id) : t.kv = s.kv := by rw [h.1]

/-- A job that creates a key and then decides, changing only caches in between, makes that key. -/
theorem withKey_makes {s : State} {id cls : Nat} {j : Job} {attr material : Bytes} {origin : BitVec 8}
    {outs : State → Nat → List (Nat × Bytes)} {k : Nat → State → State} (cache : Nat → State → State) (hj : s.job? id = some j)
    (hk : ∀ i s', k i s' = done j (outs s' i) (cache i s')) (ho : ∀ i s' d f, outs (s'.modJob d f) i = outs s' i)
    (hc : ∀ i s', (cache i s').jobs = s'.jobs ∧ (cache i s').kv = s'.kv) :
    keyMade s (withKey j cls attr origin material k s) id j.slice cls attr origin material outs := by
  unfold keyMade withKey
  cases h : createKey cls j.slice attr origin material s with
  | inr st =>
    have := decided_fail hj (createKey_refuses h)
    exact ⟨⟨this.1, onlyJob_kv this.2⟩, this.2.2⟩
  | inl p =>
    obtain ⟨s', i⟩ := p
    dsimp only
    rw [hk, ho]
    set u := s'.modJob j.id (fun j => { j with made := some (cls != 1, i) }) with hu
    have hall (n : Nat) : (cache i u).job? n = if n = j.id then (s.job? n).map (fun j => { j with made := some (cls != 1, i) }) else s.job? n := by
      rw [job_congr (hc i u).1 n, hu, job_modJob _ _ _ _ (by simp), job_congr (createKey_jobs h) n]
    have hid := job_id hj
    have hj' : (cache i u).job? id = some { j with made := some (cls != 1, i) } := by rw [hall, if_pos hid.symm, hj]; rfl
    have := decided_ok (outs := outs s' i) hj'
    refine ⟨⟨this.1, (onlyJob_kv this.2).trans (hc i u).2⟩, fun n hn => ?_⟩
    refine (this.2.2 n hn).trans ?_
    rw [hall, if_neg (fun he => hn (he.trans hid))]

end Sys2Proof.Machine
end

