-- ==== Sys2Proof/Tests/Slice0.lean ====
section
/-! SUPPORT. The model's own tests: small states, well-formedness, worked examples of the specification, and a witness for the hypotheses
of every statement. -/
namespace Sys2Proof.Tests
open Sys2Proof.Machine

/-! ## Small states -/

/-- A job that Needle 3 runs: an ECDSA signing job with one input byte and a key. -/
def needleJob : Job :=
  { id := 7, slice := 0, opcode := 0x0401, phase := .running, engine := 0x43, cls := 4, read := true, inputs := [(0, [0xAA])]
    body := [0x01, 0, 0, 0, 0, 0, 0, 0]
    bound := [{ kt := true, index := 0, gen := 0, fam := 4, alg := 1, material := List.replicate 32 1, attr := [], handle := 0 }] }

/-- A state in which Needle 3 runs that job; the vector unit is never gated. -/
def needleState (n : Needle) : State :=
  { State.reset with
    jobs := [needleJob], pwr.gateIdle := 0
    eng.needle := [(3, { n with running := true, pc := 0x2400, x := if n.x = [] then [(31, 0x3FF00)] else n.x })] }

/-- The frame of the example of R287, with x31 on it. -/
def frameState : State :=
  needleState { x := [(31, 0x3FED0)], mem := cellsOf 0x3FED0 (leBytes 8 0x2404 ++ leBytes 8 0xFFFCEFFC00031003) }

/-- The same with a job without a key, its Needle's generator stalled or not. -/
def bareState (stalled : Bool) : State :=
  { needleState {} with jobs := [{ needleJob with bound := [] }], rng.gens := if stalled then [(71, { stalled := true })] else [] }

theorem test_reset_idles : step State.reset = .next State.reset := rfl


/-! ## Worked examples of the specification -/

/-- The Needle after a meaning. -/
def needleAfter (o : Host.Outcome State Fault Refusal) : Needle :=
  match o with
  | .next s => s.needle 3
  | _ => {}

/-- The example of R287: the word 0xC400_C1A0 at 0x2400. -/
theorem test_call_example :
    let n := needleAfter (execCall 3 0x1003 0x1A0 (needleState { x := [(8, 0x88), (9, 0x99), (20, 0x2020), (31, 0x3FF00)] }))
    n.pc = 0x2A80 ∧ n.gx 31 = 0x3FED0 ∧ (List.range 6).map (fun i => n.load (0x3FED0 + 8 * i) 8) =
      [0x2404, 0xFFFCEFFC00031003, 0x88, 0x99, 0x2020, 0] := by decide +kernel

theorem test_ret_example :
    let n := needleAfter (execRet 3 0 0 frameState)
    n.pc = 0x2404 ∧ n.gx 31 = 0x3FF00 := by decide +kernel

/-- The example of R297. -/
theorem test_vscatter_example :
    let n := needleAfter (execVscatter 3 false 5 1 6 (needleState {
      ew := 32, vl := 4, x := [(1, 0x1000)], v := [(5, 0xD0000000C0000000B0000000A), (6, 0x00000000000000030000000100000003)] }))
    (n.load 0x1000 4, n.load 0x1004 4, n.load 0x1008 4, n.load 0x100C 4) = (0xD, 0xB, 0, 0xC) := by decide +kernel

/-- 1 + 1 = 2, 1 / 3 rounded to nearest is inexact, the square root of 2 (IEEE 754). -/
theorem test_binary64 :
    fadd 0 0x3FF0000000000000 0x3FF0000000000000 = { val := 0x4000000000000000 } ∧
    fdiv 0 0x3FF0000000000000 0x4008000000000000 = { val := 0x3FD5555555555555, flags := 1 } ∧
    fsqrt 0 0x4000000000000000 = { val := 0x3FF6A09E667F3BCD, flags := 1 } := by decide +kernel

/-! ## Well-formedness: one ill-formed command for each check -/

theorem test_ill_formed : [
    Instr.msixTableWrite 2 false 0, .msixTableWrite 4 true 0, .barAccessUnsupported 6 0 4, .barAccessUnsupported 0 0 0,
    .atsInvalidationRequest 0 false 0 (2 ^ 52) 1, .atsInvalidationRequest 0 false 0 0 0, .translationCompletion 0 (2 ^ 52) true true,
    .dmaReadCompletion 0 0 [1] (some .ur), .spdmChallenge 0 [], .spdmGetMeasurements 0 true [], .spdmKeyExchange 0 [] [],
    .cellFetchReturn 0 0 [(0, [])] none, .jobDispatch 10, .wringerBlockBoundary 0x40, .wringerLaneError 0 0, .ventAutoAcknowledge 6,
    .mgReseedRequest 109, .mgSeedArrival 109, .mgStall 109, .classCfgWrite 7 0, .sdResponse (.data []) false, .effWindowEnd 5 0,
    .blockLock 14 0].all (fun c => !c.wellFormed) = true := by decide +kernel

/-! ## States for the statements about opcodes -/

/-- A job of opcode `op` that computes on an engine without lanes, with a parameter block and input 0. -/
def opJob (op : Nat) (params input : Bytes) : Job :=
  { id := 7, slice := 0, opcode := op, phase := .running, engine := 0x70, read := true, body := params, inputs := [(0, input)]
    bound := [{ kt := true, index := 5, gen := 0, fam := 5, alg := 1, material := List.replicate 64 3, attr := [], handle := 5 }] }

def opState (op : Nat) (params input : Bytes) : State := { State.reset with jobs := [opJob op params input] }


/-- A job that builds tree 0 of an LMS key of height 10. -/
def hbsJob : Job :=
  { opJob 0x0212 [] [] with
    bound := [{ kt := false, index := 5, gen := 0, fam := 2, alg := 0x51, material := [], handle := 5
                attr := [2, 0x51, 1, 1, 7, 0, 0, 0, 10, 4, 1, 0] ++ List.replicate 36 0 }] }

/-! ## States for the statements about the host link and the rings -/

/-- The device out of reset, with the bus open. -/
def upState : State :=
  { State.reset with
    pwr := { State.reset.pwr with inReset := false, perst := false, hifReady := true, intake := true, mainPower := true }
    hif := { State.reset.hif with mse := true, bme := true }, svc := { State.reset.svc with bootFailed := false } }

/-- The same with submission and completion queue 0 of slice 0 enabled. -/
def ringState : State :=
  { upState with
    sqs := [(0, { enable := true, log2 := 6, wdog := 1, outst := [0], missed := [3], tail := 4 })]
    cqs := [(0, { enable := true, log2 := 6, ien := true, timer := 1, unsig := 1, resv := 1 })] }

/-- A cell of zeros (opcode 0, tag 0, no body) with a last byte, and a queue that holds it at its head. -/
def oneCell (last : BitVec 8) : Bytes := List.replicate 63 0 ++ [last]

def cellState (last : BitVec 8) : State :=
  { ringState with sqs := [(0, { enable := true, log2 := 6, held := [(0, oneCell last)], tail := 1 })] }

/-! ## Every statement's hypotheses can be met -/

theorem wit_IntegerInstructionsWriteTheirResult : runsTask (needleState {}) 3 needleJob := by decide

theorem wit_LoadsReadTheDataSpace : runsTask (needleState {}) 3 needleJob ∧
    (∀ b ∈ [1, 2, 4, 8], readable (((needleState {}).needle 3).gx 1 + (0#16).signExtend 64) b) ∧ readable 0x40FF8 8 := by decide

theorem wit_StoresWriteExactlyTheirBytes : runsTask (needleState {}) 3 needleJob ∧
    (∀ b ∈ [1, 2, 4, 8], writable (((needleState {}).needle 3).gx 1 + (0#16).signExtend 64) b) ∧ writable 0x3FFF8 8 := by decide

theorem wit_NeedleMemoryKeepsItsForm : Memory.wf [(0, 1), (0x3FFFF, 255)] = true := by decide

theorem wit_BranchesAndJumpsGoToTheirTarget : runsTask (needleState {}) 3 needleJob ∧
    codeTarget (((needleState {}).needle 3).pc + ((0xFFF#12).signExtend 64) * 4) ∧ codeTarget 0 ∧ codeTarget 0xFFFFC := by decide

theorem wit_CallsBuildFramesThatReturnsUndo : runsTask (needleState {}) 3 needleJob ∧ codeTarget 0x2A80 ∧
    (((needleState {}).needle 3).gx 31).toNat % 16 = 0 ∧ 48 ≤ (((needleState {}).needle 3).gx 31).toNat ∧
    (((needleState {}).needle 3).gx 31).toNat ≤ 0x40000 ∧ runsTask frameState 3 needleJob ∧ ((frameState.needle 3).gx 31).toNat % 16 = 0 ∧
    ((frameState.needle 3).gx 31).toNat + 48 ≤ 0x41000 ∧ (frameState.needle 3).load (((frameState.needle 3).gx 31).toNat + 8) 8 = 0xFFFCEFFC00031003 ∧
    codeTarget (BitVec.ofNat 64 ((frameState.needle 3).load ((frameState.needle 3).gx 31).toNat 8)) := by decide

theorem wit_ScalarFloatsWriteResultAndFlags : runsTask (needleState {}) 3 needleJob := by decide

theorem wit_FloatNansAreCanonical : (fdecode (fdiv 0 0 0).val).isNan = true ∧ (fdecode (fsqrt 0 0xBFF0000000000000).val).isNan = true := by decide +kernel

theorem wit_FloatCornersFollowTheRules : (fdecode 0x7FF0000000000001).isNan = true ∧ (fdecode 0x7FF8000000000000).isNan = true ∧
    (fdecode 0x7FF0000000000000).isNan = false := by decide

theorem wit_BoltArithmeticComputesActiveElements : runsTask (needleState {}) 3 needleJob ∧ boltReady (needleState {}) 3 := by decide

theorem wit_BoltElementsReadBack : (64 : Nat) ∈ [1, 8, 16, 32, 64] ∧ 64 * (List.replicate 32 5).length ≤ 2048 := by decide

theorem wit_BoltScalarsAndSetup : runsTask (needleState {}) 3 needleJob ∧ boltReady (needleState {}) 3 ∧ (3 : BitVec 5).toNat < 4 := by decide

theorem wit_BoltFloatsComputeActiveElements : runsTask (needleState {}) 3 needleJob ∧ boltReady (needleState {}) 3 ∧
    ((needleState {}).needle 3).ew = 64 := by decide

theorem wit_BoltMemoryMovesActiveElements : runsTask (needleState { vl := 2 }) 3 needleJob ∧ boltReady (needleState { vl := 2 }) 3 ∧
    (∀ i ∈ [0, 1], readable (((needleState { vl := 2 }).needle 3).gx 1 + BitVec.ofNat 64 (i * 8)) 8) ∧
    (∀ i ∈ [0, 1], writable (((needleState { vl := 2 }).needle 3).gx 1 + BitVec.ofNat 64 (i * 8)) 8) := by decide

theorem wit_PressComputes : runsTask (needleState {}) 3 needleJob ∧ (((needleState {}).needle 3).gx 1).toNat % 64 = 0 ∧
    (((needleState {}).needle 3).gx 1).toNat + 80 ≤ 0x40000 ∧ (∀ i ∈ (needleState {}).jobs, i.stop = none) ∧
    (((needleState {}).needle 3).gx 2).toNat < 10 := by decide

theorem wit_TaskInstructionsMoveDataAndEnd : runsTask (needleState {}) 3 needleJob ∧ (((needleState {}).needle 3).gx 1).toNat + 1 ≤ 0x40000 ∧
    0 + 1 ≤ (tget needleJob.inputs [] 0).length ∧ 0 + 1 ≤ (needleState {}).outputMax needleJob 0 ∧ needleJob.bound ≠ [] ∧
    (∀ b ∈ needleJob.bound, b.material.length ≤ 2048) ∧ (needleState {}).stalled 0x43 = false ∧ knownStatus.contains 0 = true := by decide

theorem wit_TaskInstructionsOtherForms : runsTask (bareState false) 3 { needleJob with bound := [] } ∧
    (bareState true).stalled 0x43 = true ∧ runsTask (bareState true) 3 { needleJob with bound := [] } ∧ knownStatus.contains 0x1234 = false := by decide

theorem wit_NeedleExceptionsEndTheTask : runsTask (needleState {}) 3 needleJob ∧ ¬ readable 0x40FFF 2 ∧ ¬ readable 0x41000 1 ∧ ¬ writable 0x40000 1 ∧
    ¬ writable 3 4 ∧ ¬ codeTarget 0x100000 ∧ ¬ codeTarget 2 ∧ boltReady (needleState { ew := 8 }) 3 ∧ ((needleState { ew := 8 }).needle 3).ew ≠ 64 ∧
    ((needleState { x := [(31, 8)] }).needle 3).gx 31 ≠ 0 := by decide

theorem wit_DigestAndSymmetricJobsDecide : ∀ op ∈ [0x0601, 0x0501, 0x0502, 0x0511, 0x0512, 0x0521, 0x0522, 0x0531, 0x0532], computes (opState op [] []) 7 op (opJob op [] []) := by decide +kernel

theorem wit_SessionStepsKeepTheirContext :
    (∀ op ∈ [0x0611, 0x0612, 0x0613, 0x0519, 0x051A, 0x051B], computes (opState op [] []) 7 op (opJob op [] [])) ∧
    (∀ op ∈ [0x0610, 0x0518], let j := { opJob op [] [] with session := some 100 }; computes { State.reset with jobs := [j] } 7 op j) ∧
    ((opJob 0x0612 [0, 0, 0, 0, 1] []).pb 4).testBit 0 = true := by decide +kernel

theorem wit_LatticeAndCodeJobsDecide : ((opJob 0x0102 [1, 0] []).pb 1).testBit 1 = false ∧ ∀ op ∈ [0x0102, 0x0103, 0x0112, 0x0113, 0x0122, 0x0123, 0x01F0, 0x01F1, 0x0302, 0x0303, 0x0312, 0x0313, 0x03F0, 0x03F1], computes (opState op [1, 0] []) 7 op (opJob op [1, 0] []) := by decide +kernel

/-- An FN-DSA signature has a stage that is not its last, and a last one, however many attempts it takes. -/
theorem wit_FnDsaStages :
    fnDsaLast (opJob 0x0122 [0x21, 0] []) = false ∧
    ∃ n, fnDsaLast { opJob 0x0122 [0x21, 0] [] with stage := n } = true := by
  constructor
  · simp only [fnDsaLast, beq_eq_false_iff_ne, fnDsaAttempts, opJob]; omega
  · exact ⟨2 * fnDsaAttempts (opJob 0x0122 [0x21, 0] []), beq_self_eq_true _⟩

theorem wit_ClassicalJobsDecide : (opState 0x04E1 [0x80] []).curveNamed 0x80 = false ∧ ∀ op ∈ [0x0402, 0x0403, 0x0404, 0x0411, 0x0412, 0x0421, 0x0422, 0x0423, 0x0424, 0x04F0, 0x04E0, 0x04E1], computes (opState op [0x80] []) 7 op (opJob op [0x80] []) := by decide +kernel

theorem wit_KeyCreationStoresTheKey : ∀ op ∈ [0x0101, 0x0111, 0x0121, 0x0201, 0x0301, 0x0311, 0x0401, 0x0701, 0x0705, 0x0709, 0x0920, 0x0921, 0x0102, 0x0103, 0x0302, 0x0303, 0x0312, 0x0313, 0x0404, 0x0A01, 0x0211, 0x0708], computes (opState op [] []) 7 op (opJob op [] []) := by decide +kernel

theorem wit_BoundKeysAreComposedAndImported : ∀ op ∈ [0x0A01, 0x0931], computes (opState op [] []) 7 op (opJob op [] []) := by decide +kernel

theorem wit_HashSignatureJobsDecide :
    (∀ op ∈ [0x0202, 0x0203, 0x0214, 0x0215, 0x02F0, 0x0212], computes (opState op [] []) 7 op (opJob op [] [])) ∧
    (let j := { opJob 0x0213 [] [] with index := some 0, inputs := [(storeArg 0, [])] }
     computes { State.reset with jobs := [j] } 7 0x0213 j ∧ (({ State.reset with jobs := [j] } : State).hbs 5).noPair = false ∧
       ({ State.reset with jobs := [j] } : State).pathRead j (hbsHeight j.keyB.attr) = some [[]]) ∧
    (let j := hbsJob
     let s : State := { State.reset with jobs := [j] }
     computes s 7 0x0212 j ∧ (s.hbs j.keyB.index).mayBuild j.keyB.attr 0 0 = true ∧ hbsLevels j.keyB.attr = 1 ∧ hbsHeight j.keyB.attr ≤ 14) := by
  decide +kernel

theorem wit_KeyManagementJobsDecide :
    (∀ op ∈ [0x0702, 0x0703, 0x0704, 0x0707, 0x070A, 0x0801, 0x0706], computes (opState op [] []) 7 op (opJob op [] [])) ∧
    (let j := opJob 0x0706 [] []
     let s := { opState 0x0706 [] [] with kv := { replacing := [{ job := 7, kt := true, index := 5, shadow := 6 }] } }
     computes s 7 0x0706 j ∧ (s.kv.replacing.find? (fun r => r.job == j.id)).isSome) := by decide +kernel

theorem wit_PaymentJobsDecide : ∀ op ∈ [0x0901, 0x0902, 0x0911, 0x0912, 0x0932, 0x09F0], computes (opState op [] []) 7 op (opJob op [] []) := by decide +kernel

theorem wit_CompositeAndIssuingJobsDecide :
    (∀ op ∈ [0x0A02, 0x0A03, 0x0A11, 0x0A12, 0x0AF0, 0x0A21, 0x0A22, 0x0A31, 0x0A32, 0x0A33], computes (opState op [] []) 7 op (opJob op [] [])) ∧
    (let s := { opState 0x0A33 [] [] with thm := { templates := [(0, some
        { cls := 0, issuer := 5, text := [], fields := [], allowHoldover := false, maxDuration := 0 })] } }
     computes s 7 0x0A33 (opJob 0x0A33 [] []) ∧ (s.template 0 0).isSome) := by decide +kernel

theorem wit_QuorumJobsDecide :
    (∀ op ∈ [0x0A81, 0x0A82, 0x0A83, 0x0A80], computes (opState op [] []) 7 op (opJob op [] [])) ∧ (opState 0x0A80 [] []).thm.run.isSome = false ∧
    (let s := { opState 0x0A80 [] [] with thm := { run := some { job := 9, challenge := [], ttl := 0 } } }
     computes s 7 0x0A80 (opJob 0x0A80 [] []) ∧ s.thm.run.isSome = true) := by decide +kernel

theorem wit_MetrologyJobsDecide :
    (∀ op ∈ [0x0B01, 0x0B02, 0x0B03, 0x0B04], computes (opState op [] []) 7 op (opJob op [] [])) ∧
    (let s := { opState 0x0B02 [] [] with met := { intervals := [
        { session := cut [] 12 16, slice := 0, source := 0, start := { epoch := 0, ok := true, episode := none, mark := 0 } }] } }
     let j := opJob 0x0B02 [] []
     computes s 7 0x0B02 j ∧ (j.pb 2 == 1) = false ∧
       (s.met.intervals.find? (fun o => o.session == cut j.params 12 16 && o.slice == j.slice)).isSome) := by decide +kernel

theorem wit_ManagementJobsDecide :
    (∀ op ∈ [0x0C01, 0x0C03, 0x0C04, 0x0C02, 0x0C11, 0x0C10, 0x0C20, 0x0C21, 0x0C22, 0x0C30, 0x0C31, 0x0C32, 0x0C33], computes (opState op [] []) 7 op (opJob op [] [])) ∧
    (let j (op : Nat) := opJob op [1] []
     let s (op : Nat) (st : SliceSt) : State := { opState op [1] [] with slices := [(0, { enable := true, state := .active, pasid := 5 }), (1, { enable := true, state := st })] }
     (computes (s 0x0C01 .active) 7 0x0C01 (j 0x0C01) ∧ ((s 0x0C01 .active).slice 1).state = .active) ∧
     (computes (s 0x0C03 .frozen) 7 0x0C03 (j 0x0C03) ∧ ((s 0x0C03 .frozen).slice 1).state = .frozen) ∧
     (computes (s 0x0C04 .frozen) 7 0x0C04 (j 0x0C04) ∧ (s 0x0C04 .frozen).resetClear 1 = true) ∧
     (computes (s 0x0C04 .freezing) 7 0x0C04 (j 0x0C04) ∧ ((s 0x0C04 .freezing).slice 1).state = .freezing) ∧
     (computes (s 0x0C02 .frozen) 7 0x0C02 (j 0x0C02) ∧ (s 0x0C02 .frozen).migOf 1 = none ∧ fieldLE (j 0x0C02).params 4 4 = 0 ∧
       (s 0x0C02 .frozen).mig.contexts.length < 4) ∧
     (computes (s 0x0C11 .active) 7 0x0C11 (j 0x0C11) ∧ ((s 0x0C11 .active).slice 1).enable = true ∧ (s 0x0C11 .active).pasidTaken 1 0 = false ∧
       (s 0x0C11 .active).sliceEmpty 1 = true)) := by decide +kernel

/-- A last part without records of a restore under way: header, then the tag that its keys give. -/
def lastPart : Bytes := partHead true 5 1 0 1 9 (zeros 8) serialBytes
def restoreState : State :=
  { opState 0x0C11 [1, 0, 0, 0, 1] (lastPart ++ partTag (zeros 32) [] lastPart) with
    slices := [(0, { enable := true, state := .active }), (1, { enable := true, state := .restoring, pasid := 9 })]
    mig := { contexts := [{ slice := 1, saving := false, nextPart := 1, imageSeq := 5, peer := zeros 8 }] } }

theorem wit_RestorePartPasses :
    let s := restoreState
    let j := opJob 0x0C11 [1, 0, 0, 0, 1] (lastPart ++ partTag (zeros 32) [] lastPart)
    let img := j.input 0
    let h := img.take 48
    (s.job? 7 = some j ∧ j.opcode = 0x0C11 ∧ s.canCommit j = true ∧ s.pasidTaken 1 9 = false) ∧ fieldLE j.params 4 4 = 1 ∧ (s.slice 1).state = .restoring ∧
    fieldLE h 0 2 = 0x0102 ∧ cut h 32 8 = serialBytes ∧ byteAt h 2 = 1 ∧ byteAt h 3 = 1 ∧ fieldLE h 8 4 = 1 ∧ fieldLE h 12 4 = 0 ∧
    img.drop 48 = partTag (zeros 32) [] h ∧ cut h 24 8 = zeros 8 ∧ fieldLE h 4 4 = 5 ∧ parseRecs 0 [] = some [] := by
  refine ⟨⟨rfl, rfl, ?_, ?_⟩, ?_, ?_, ?_, ?_, ?_, ?_, ?_, ?_, ?_, ?_, ?_, ?_⟩ <;> rfl

theorem wit_LinkAndConfigurationWrites :
    (upState.pwr.inReset = false ∧ upState.pwr.perst = false ∧ upState.pwr.hifReady = true ∧ barOpen upState ∧ upState.locks.getLsbD 0 = false) ∧
    (∀ j ∈ upState.jobs, j.slice = 0 → j.phase ≠ .release ∧ j.phase ≠ .running) ∧ State.reset.pwr.inReset = true ∧
    (let s := { upState with pwr := { upState.pwr with hifReady := false } }
     s.pwr.inReset = false ∧ s.pwr.perst = false ∧ s.pwr.hifReady = false) ∧
    (let s := { upState with locks := 1 }
     let v : BitVec 32 := BitVec.ofNat 32 (s.hif.minSpeed.toNat + 8 * s.hif.minWidth.toNat)
     barOpen s ∧ s.locks.getLsbD 0 = true ∧ fld v 0 3 = s.hif.minSpeed ∧ fld v 3 5 = s.hif.minWidth) := by decide +kernel

theorem wit_PendingMessagesGoOutWhenTheirVectorOpens :
    upState.barOn = true ∧ 8 % (if true then 8 else 4) = 0 ∧ upState.pwr.inReset = false ∧ upState.pwr.perst = false ∧ upState.pwr.hifReady = true ∧
    State.reset.barOn = false := by decide +kernel

theorem wit_SpdmRequestsAreAnsweredInOrder :
    (∀ st se, let s := { upState with hif := { upState.hif with spdm := st, session := se, doeReq := some (1, []) } }
      s.svc.paused = false ∧ s.thm.restarting = false ∧ s.thm.halted = false ∧ s.svc.bootFailed = false ∧ s.pwr.hifReady = true ∧ s.spdmAsked = true) := by
  intro st se; exact ⟨rfl, rfl, rfl, rfl, rfl, rfl⟩

theorem wit_IdeStreamsAreSecuredAndFailClosed :
    ((tget upState.hif.streams {} 3).programmed = false ∧ upState.hif.session ≠ .secured ∧ (tget upState.hif.streams {} 3).secure = false) ∧
    (let s := { upState with hif := { upState.hif with streams := [(3, { programmed := true, secure := true })] } }
     (tget s.hif.streams {} 3).programmed = true ∧ (tget s.hif.streams {} 3).secure = true) := by decide +kernel

theorem wit_DoorbellsMoveTheQueues :
    let s := ringState
    let off := { upState with sqs := [], cqs := [(0, {})] }
    (s.doorbells 0 = true ∧ (s.sq 0 0).enable = true ∧ (fld (5 : BitVec 64) 0 16).toNat % qsize (s.sq 0 0).log2 ≠ (s.sq 0 0).tail ∧ (s.cq 0 0).enable = true ∧
      (s.sq 0 0).outst.contains (0 % qsize (s.sq 0 0).log2) = true ∧ (s.sq 0 0).fault = false ∧ (s.sq 0 0).wdog ≠ 0 ∧ (s.sq 0 0).missed ≠ [] ∧
      (s.cq 0 0).ien = true ∧ (s.cq 0 0).timer ≠ 0 ∧ 1 ≤ (s.cq 0 0).unsig ∧ barOpen s) ∧
    (s.sel = (0, 0) ∧ (s.cq 0 0).resv ≠ 0 ∧ (s.sq 0 0).enable = true) ∧
    (let r := { s with sqs := [(0, { (s.sq 0 0) with fault := true })] }
     barOpen r ∧ (r.sq 0 0).fault = true ∧ bit (0x80000 : BitVec 32) 19 = true) ∧
    (let r := { s with sqs := [], cqs := [(0, { (s.cq 0 0) with resv := 0 })] }
     barOpen r ∧ (r.sq 0 0).enable = false ∧ sizeOk (fld (0x60 : BitVec 32) 4 5) = true ∧ (r.cq 0 (fld (0x60 : BitVec 32) 12 4).toNat).enable = true ∧
       r.sqActive 0 0 = false ∧ (r.cq 0 0).enable = true ∧ (r.cq 0 0).resv = 0 ∧ r.errCqUsed 0 0 = false) ∧
    (barOpen off ∧ (off.cq 0 0).enable = false ∧ State.reset.barOn = false ∧ off.barOn = true ∧ (off.sq 0 0).enable = false) := by decide +kernel

theorem wit_IntakeTakesTheFirstQueueThatCan :
    (State.reset.mayRequest 0 = false ∧ upState.intakeOpen 0 = true ∧ upState.mayRequest 0 = true) ∧
    (∀ k ∈ (List.range 16).map (fun n => (tget upState.ring.rr 0 0 + n) % 16), (intakeQueue 0 k upState).isNone) ∧
    (let s := cellState 0x07
     let q := s.sq 0 0
     s.intakeOpen 0 = true ∧ s.mayRequest 0 = true ∧ (List.range 16).map (fun n => (tget s.ring.rr 0 0 + n) % 16) = [] ++ 0 :: (List.range 15).map (· + 1) ∧
       (intakeQueue 0 0 s).isSome ∧ q.enable = true ∧ q.fault = false ∧
       (s.cq 0 (hdrCq (oneCell 0x07))).enable = true ∧ (cellsFor (hdrLen (oneCell 0x07)) == 1 && decide (hdrLen (oneCell 0x07) ≤ 984)) = true ∧
       s.hostJobs.any (fun j => j.slice == 0 && j.tag == hdrTag (oneCell 0x07) && !j.suppressed) = false ∧ s.cqRoom 0 (hdrCq (oneCell 0x07)) = true ∧
       (takeSlot 0 0 (hdrCq (oneCell 0x07)) s).isSome = true ∧ (s.sq 0 0).slot = none ∧ (s.hostJobs.filter (fun j => j.slice == 0 && !j.suppressed)).length < max 1 (s.slice 0).quotaJobs.toNat) ∧
    (let s := { cellState 0x07 with jobs := [{ opJob 0x0801 [] [] with tag := 0 }] }
     s.hostJobs.any (fun j => j.slice == 0 && j.tag == hdrTag (oneCell 0x07) && !j.suppressed) = true ∧ (takeSlot 0 0 (hdrCq (oneCell 0x07)) s).isSome = true) ∧
    (let s := { cellState 0x07 with jobs := [{ opJob 0x0801 [] [] with tag := 1 }], slices := [(0, { upState.slice 0 with quotaJobs := 1 })] }
     s.cqRoom 0 (hdrCq (oneCell 0x07)) = true ∧ (s.sq 0 0).slot = none ∧
       max 1 (s.slice 0).quotaJobs.toNat ≤ (s.hostJobs.filter (fun j => j.slice == 0 && !j.suppressed)).length) ∧
    (let s := cellState 0x05
     (takeSlot 0 0 (s.sq 0 0).errCq.toNat s).isSome = true) := by decide +kernel

theorem wit_IntakeChains : ((cellState 0x07).sq 0 0).chain = .job [oneCell 0x07] ∧ ((cellState 0x05).sq 0 0).chain = .malformed 1 none := ⟨rfl, rfl⟩

theorem wit_ReadsReturnToTheirJob :
    State.reset.hif.reads.find? (fun x => x.tag == 1) = none ∧
    (let r : PendingRead := { tag := 1, job := 7, use := .list, slice := 0, addr := 0, len := 4 }
     let s := { State.reset with hif := { State.reset.hif with reads := [r] } }
     s.hif.reads.find? (fun x => x.tag == 1) = some r ∧ r.takes 4 1 = false ∧ r.takes 0 4 = true ∧ ([0, 1, 2, 3] : Bytes).length = r.len ∧
       r.takes 0 2 = true ∧ ([0, 1] : Bytes).length ≠ r.len) := by decide +kernel

theorem wit_JobsAreDispatchedAndEndInOrder :
    let j := opJob 0x0801 [] []
    let at_ (p : Phase) (st : Nat) (cl : Nat) : State := { upState with jobs := [{ j with phase := p, status := st, cls := cl }] }
    let ready : State := at_ .ready 0 8
    State.reset.pwr.inReset = true ∧ upState.pwr.inReset = false ∧ upState.tmp.rinse = false ∧ upState.queueOf 8 = [] ∧
    (ready.queueOf 8 = [] ++ { j with phase := .ready, cls := 8 } :: [] ∧ (tryJob 7 ready).isSome) ∧
    ((at_ .decided 0 8).mayRequest 0 = true ∧ (at_ .decided 0 8).missingPages { j with phase := .decided, cls := 8 } = [] ∧
      (at_ .decided 0 8).job? 7 = some { j with phase := .decided, cls := 8 }) ∧
    ((at_ .decided 1 8).job? 7).map (·.status) = some 1 ∧ ((at_ .decided 1 0).job? 7).map (·.cls) = some 0 ∧
    ((at_ .wiping 1 0).job? 7).map (·.phase) = some .wiping ∧ ({ j with stop := some 0x0501 } : Job).stoppable = true ∧ upState.job? 7 = none ∧
    (at_ .wiping 1 0).tasksOf 7 = [] ∧ (at_ .wiping 1 0).tasksLeft 7 = false ∧ (at_ .wiping 1 0).eng.wipes = [] ∧ j.parent = none ∧
    (upState.mangle 3).sinceSafe = 0 ∧
    (let t : Job := { j with parent := some 6, engine := engNeedle 0, cls := 4, phase := .running }
     let s := { upState with jobs := [t], eng := { upState.eng with wipes := [(engNeedle 0, 7)], mangle := [(3, { sinceSafe := 4 })] } }
     s.job? 7 = some t ∧ s.suspended t = false ∧ s.eng.wipes.find? (fun w => w.2 == 7) = some (engNeedle 0, 7) ∧ (s.mangle 3).sinceSafe ≠ 0) := by
  decide +kernel

theorem wit_MicrowordsExecuteOrCheck :
    let s := upState
    let f (x : Fence) : State := s.setFence 3 x
    (State.reset.pwr.inReset = true ∧ s.pwr.inReset = false) ∧ ((s.mangle 3).halted = false ∧ s.fence 3 = .none ∧ (f .patch).fence 3 ≠ .none ∧ (s.onMangle 3).isNone) ∧
    (let r := { s with jobs := [{ opJob 0x0101 [] [] with engine := 3 }] }
     (r.onMangle 3).isSome ∧ r.fence 3 = .none) ∧
    ((f .patch).fence 3 = .patch ∧ (f .patch).thm.restarting = false ∧ s.svc.paused = false) ∧
    (let r := { s with svc := { s.svc with paused := true, bank1 := { s.svc.bank1 with st := .activating }, activating := some 0, loaded := [4] } }
     r.svc.paused = true ∧ r.activatingBank.isSome ∧ r.jobs.any (fun j => j.engine == 3 && j.onEngine) = false ∧ 3 ∉ r.svc.loaded ∧ 4 ∈ r.svc.loaded ∧
       r.svc.loaded.length < 31) := by decide +kernel

theorem wit_EngineErrorsEndTheirJobs :
    let s := upState
    let on (c : Nat) : State := { s with jobs := [{ opJob 0x0101 [] [] with engine := c }] }
    let lane (l : LaneState) : State := { on 0x20 with eng := { s.eng with lanes := [(0x20, l)] } }
    let me : Requester := { who := .job 7, fresh := false }
    let hbs (w : Option Commit) : State := { s with kv := { s.kv with hbs := [(5, { writing := w, pair := 3 })], pairs := [(3, { used := true })] } }
    ((∀ j ∈ s.jobs, (j.engine == 3 && j.faulted) = false) ∧ ((on 3).job? 7).map (fun j => j.engine == 3 && j.faulted) = some true ∧ (∀ t ∈ (on 3).jobs, t.parent = none)) ∧
    (s.fence 3 ≠ .memTest ∧ (s.setFence 3 .memTest).fence 3 = .memTest ∧ (s.setFence 3 .memTest).thm.restarting = false) ∧
    (isLane 3 = false ∧ isLane 0x20 = true ∧ s.fence 0x20 = .none ∧ (s.lane 0x20).running = none) ∧
    (((lane { running := some me }).lane 0x20).running = some { me with who := .job 7 } ∧ ((lane { running := some me }).lane 0x20).waiting = [] ∧
      ((lane { running := some me }).job? 7).any (·.faulted) = true ∧ ((lane { running := some me }).job? 7).any (fun j => j.stoppable && j.stop == none) = true) ∧
    ((on 0x65).job? 7).any (fun j => j.engine == 0x65 && j.faulted) = true ∧
    (((lane { running := some me, waiting := [me] }).lane 0x20).waiting = me :: [] ∧ 0 + 1 < (lane { running := some me, waiting := [me] }).turn 0x20) ∧
    ((hbs none).hbs 5).writing = none ∧
    (∀ again, ((hbs (some { high := 9, upper := 0, again := again })).hbs 5).writing = some { high := 9, upper := 0, again := again }) ∧
    (hbs none).freePair = some 0 := by decide +kernel

/-- Every pair below `n` in use. -/
def usedPairs (n : Nat) : State := { upState with kv := { upState.kv with
  hbs := [(5, { writing := some { high := 9, upper := 0, again := true }, pair := 3 })]
  pairs := (List.range n).map (fun k => (k, { used := true })) } }

theorem usedPairs_pair (n x : Nat) (h : x < n) : (usedPairs n).pair x = { used := true } := by
  have hg : ∀ (n b m : Nat), b ≤ m → m < b + n →
      tget ((List.range' b n).map (fun k => (k, ({ used := true } : Pair)))) {} m = { used := true } := by
    intro n
    induction n with
    | zero => intro b m h1 h2; omega
    | succ n ih =>
      intro b m h1 h2
      simp only [List.range'_succ, List.map_cons, tget]
      split
      · rfl
      · exact ih (b + 1) m (by omega) (by omega)
  unfold State.pair usedPairs
  rw [List.range_eq_range']
  exact hg n 0 x (by omega) (by omega)

theorem wit_EnginesWithoutPairs : (usedPairs 16384).freePair = none := by
  unfold State.freePair
  rw [List.find?_eq_none]
  intro x hx
  obtain ⟨k, _, rfl⟩ := List.mem_map.1 hx
  rw [usedPairs_pair 16384 _ (Nat.mod_lt _ (by decide))]
  decide

theorem wit_CachesFillAndFlush :
    let e : CacheEntry := { kt := true, slice := 0, index := 1, gen := 0, blocks := 1, st := .filling, lastUse := 0, fillJob := 7 }
    let s := { upState with eng := { upState.eng with ekc := { entries := [e] }, dpk := { entries := [e] } } }
    let l := { upState with locks := 0x200 }
    (upState.eng.ekc.entries = [] ∧ upState.eng.dpk.entries = [] ∧ s.eng.ekc.entries = [e] ∧ s.eng.dpk.entries = [e] ∧
      (e.fillJob == 7 && (e.st == .filling || e.st == .invalid)) = true ∧ s.tasksLeft 7 = false ∧ s.job? 7 = none) ∧
    (barOpen s ∧ s.locks.getLsbD 9 = false ∧ barOpen l ∧ l.locks.getLsbD 9 = true) ∧
    (bit (1 : BitVec 32) 0 = l.eng.ekcEnable ∧ bit (0x11 : BitVec 32) 4 = l.eng.drnSpill ∧ fld (0x11 : BitVec 32) 0 3 = l.eng.drnKgMax) ∧
    (bit (0 : BitVec 32) 0 ≠ l.eng.ekcEnable ∧ bit (0 : BitVec 32) 1 = false ∧ (raiseOpen 0x01 l).eng.ekcEnable = true ∧
      bit (0 : BitVec 32) 4 ≠ l.eng.drnSpill ∧ bit (0 : BitVec 32) 5 = false) := by decide +kernel

theorem wit_KeyVaultKeepsAndErasesKeys :
    let limited : Slot := { kind := .base, count := 1, attr := zeros 28 ++ [0, 8, 0, 0, 0, 0] ++ zeros 14, used := 1 }
    let s := { upState with kv := { upState.kv with ps := [(5, limited)] } }
    let r := { s with tmp := { s.tmp with rinse := true }, jobs := [{ opJob 0x0801 [] [] with phase := .wiping }] }
    (s.slot false 4).isKey = false ∧ (s.slot false 5).isKey = true ∧ aLimit (s.keyData false 5).attr ≠ 0 ∧ s.kv.rinsed = false ∧
    State.reset.pwr.inReset = true ∧ s.pwr.inReset = false ∧ s.tmp.rinse = false ∧ r.pwr.inReset = false ∧ r.tmp.rinse = true ∧
    ((r.job? 7).map (·.phase) = some .wiping ∧ r.mayRequest 0 = true) := by decide +kernel

theorem wit_RandomUnitStartsFailsAndServes :
    let rng (r : RngState) : State := { upState with rng := r, jobs := [{ opJob 0x0801 [] [] with phase := .held .drbg }] }
    let st (x : RngSt) (q : List DrbgFor) : State := rng { state := x, queue := q }
    let on (p : Phase) : State := { upState with
      jobs := [{ opJob 0x0801 [] [] with phase := p, engine := 3 }]
      rng := { state := .startup, queue := [.job 7 4], gens := [(3, { stalled := true, requested := true }), (108, { stalled := true })] } }
    (State.reset.pwr.inReset = true ∧ upState.pwr.inReset = false ∧ (st .ready []).fence engRandom = .none ∧ (st .ready []).pwr.inReset = false ∧
      0 + 1 < max 1 (ceilDiv 200000 65536) ∧ max 1 (ceilDiv 4 65536) ≤ 0 + 1 ∧ (st .ready [.job 7 200000]).rng.queue = [.job 7 200000]) ∧
    (upState.rng.state = .startup ∧ (st .ready []).rng.state = .ready ∧ (st .ready []).rng.queue = []) ∧
    ((st .failed [.job 7 4]).job? 7).map (·.phase) = some (.held .drbg) ∧ (st .ready []).mayRequest 0 = true ∧
    (st .ready [.gen 5]).rng.queue = [.gen 5] ∧ (st .ready [.tmk]).rng.queue = [.tmk] ∧ (st .ready [.job 7 4]).rng.queue = [.job 7 4] ∧
    barOpen upState ∧ ((5 : BitVec 7) < 109 ∧ (upState.gen 5).requested = false ∧ (109 : BitVec 7) ≤ 110) ∧
    ((rng { state := .ready, gens := [(5, { requested := true })] }).gen 5).requested = true ∧ upState.job? 7 = none ∧
    ((on .running).job? 7).map (fun j => j.stoppable && (on .running).stalled j.engine) = some true ∧
    ((on .ready).job? 7).map (fun j => j.phase == .ready && (on .ready).stalled engVault) = some true ∧
    ((st .ready []).job? 7).map (fun j => (j.stoppable && (st .ready []).stalled j.engine, j.phase == .ready && (st .ready []).stalled engVault)) = some (false, false) ∧
    ((on .ready).job? 7).map (·.stoppable) = some false ∧ ((on .running).job? 7).map (·.stoppable) = some true ∧ DrbgFor.job 7 4 ∈ (on .running).rng.queue := by
  decide +kernel

theorem wit_ResponseLevelsFollowTheClass :
    eventInfo 0 = none ∧ eventInfo 0x04 = some (0, 0) ∧ eventInfo 0x30 = some (3, 2) ∧ eventInfo 0x54 = some (5, 3) ∧ eventInfo 0x60 = some (5, 4) ∧
    eventInfo 0x42 = some (4, 1) ∧ upState.pwr.inReset = false ∧ (upState.ventClass 3).pending = false ∧
    ({ upState with vent := { upState.vent with cls := [(3, { pending := true, level := 2 })] } }.ventClass 3).pending = true := by decide +kernel

theorem wit_TamperSourcesAlarm :
    let s := upState
    let off := { s with otp := { s.otp with tdis := 3 } }
    let q := { s with lcs := { s.lcs with state := .fielded } }
    let prbs := { s with tmp := { s.tmp with stage := { loops := [(0, { prbs := true, seed := 5 }), (1, { prbs := true, seed := 5 }), (2, { prbs := true })] } } }
    (bit off.otp.tdis 0 = true ∧ bit off.otp.tdis 1 = true ∧ bit s.otp.tdis 0 = false ∧ s.pwr.inReset = false ∧ State.reset.pwr.inReset = true) ∧
    (s.pwr.mainPower = true ∧ (2299 : BitVec 16) < 2300 ∧ ¬((2300 : BitVec 16) < 2300)) ∧
    (barOpen s ∧ s.lcs.state = .maker ∧ s.configOk s.tmp.stage = true ∧ barOpen q ∧ ¬(q.lcs.state = .maker ∨ q.lcs.state = .integrator) ∧
      q.thm.quorum.isSome = false) ∧
    (barOpen prbs ∧ (tget prbs.tmp.stage.loops {} 2).prbs = true ∧ (tget prbs.tmp.stage.loops {} 2).seed = 0 ∧ (tget prbs.tmp.stage.loops {} 1).prbs = true ∧
      (tget prbs.tmp.stage.loops {} 0).prbs = true ∧ (tget prbs.tmp.stage.loops {} 1).seed = (tget prbs.tmp.stage.loops {} 0).seed ∧
      prbs.sourceOff 1 = false ∧ prbs.sourceOff 0 = false) := by decide +kernel

theorem wit_VentControlActsAsWritten :
    let s := upState
    let r (x : Bool) : State := { s with thm := { s.thm with restarting := true }, tmp := { s.tmp with rinse := x } }
    let l := { s with locks := 16 }
    let f := { s with lcs := { s.lcs with ftm := true } }
    ((0x50 : BitVec 8).toNat < 0x51 ∧ s.pwr.inReset = false ∧ 0x51 ≤ (0x52 : BitVec 8).toNat) ∧
    (({ s with jobs := [{ opJob 0x0101 [] [] with engine := 3 }] } : State).jobs.find? (fun j => j.engine == 3 && j.faulted && !s.suspended j && !j.bound.isEmpty)).isSome ∧
    (s.thm.restarting = false ∧ (r true).thm.restarting = true ∧ (r true).tmp.rinse = true ∧ (r false).tmp.rinse = false ∧ (r false).pwr.inReset = false) ∧
    (barOpen s ∧ bit s.vent.autoAck 0 = true ∧ s.canRecord = true ∧ s.vent.held = [] ∧ bit s.vent.autoAck 3 = false) ∧
    (s.locks.getLsbD 4 = false ∧ barOpen l ∧ l.locks.getLsbD 4 = true ∧ fld (7 : BitVec 32) 8 3 = l.vent.vec ∧ fld (7 : BitVec 32) 0 5 = l.vent.autoAck ∧
      fld (0 : BitVec 32) 0 5 ≠ l.vent.autoAck ∧ bit (0 : BitVec 32) 11 = false) ∧
    (bit (1 : BitVec 32) 0 = true ∧ ¬(s.lcs.ftm = true ∨ (s.lcs.state = .maker ∧ s.right 6 = true)) ∧ barOpen f ∧ f.lcs.ftm = true ∧
      eventInfo (fld (0x3001 : BitVec 32) 8 8).toNat = some (3, 2)) := by decide +kernel

theorem wit_ServiceLinkRequestsAreAnsweredOnce :
    let s := { upState with svc := { upState.svc with stage := .isOpen, lastSeq := some 4 } }
    (upState.svc.stage ≠ .isOpen ∧ s.svc.stage = .isOpen ∧ s.thimbleUp = true ∧ s.svc.lastSeq = some (4 : BitVec 16).toNat ∧
      s.svc.lastSeq ≠ some (5 : BitVec 16).toNat) ∧
    (s.lcs.state != .locked && s.lcs.state != .scrapped) = true ∧ s.inactive.st = .invalid ∧ s.rng.state = .startup ∧ s.met.st = .isUnsealed := by
  decide +kernel

theorem wit_ServiceSessionsAndActivations :
    let s := { upState with svc := { upState.svc with linkUp := true, stage := .kex, transcript := [1], activating := some 3 }, rng := { upState.rng with state := .ready } }
    (upState.svc.linkUp = false ∧ upState.svc.stage ≠ .isOpen ∧ upState.svc.transcript = [] ∧ upState.svc.activating = none) ∧
    (s.svc.linkUp = true ∧ s.thm.restarting = false ∧ s.svc.bootFailed = false ∧ s.pwr.inReset = false ∧ s.svc.transcript ≠ [] ∧ s.rng.state = .ready ∧
      (zeros 32).length = 32 ∧ s.svc.stage = .kex ∧ s.svc.activating = some 3 ∧ s.svc.paused = false ∧ s.compositeRunning = false) := by decide +kernel

theorem wit_ServiceSessionsLong : (List.replicate 1568 (0 : BitVec 8)).length = 1568 := List.length_replicate

theorem wit_LifeCycleMovesByBurningFuses :
    let s := upState
    let b := { s with lcs := { s.lcs with burning := some { target := 0xFF, seq := none, repair := false } } }
    let o : Otp := { lcsA := 0xFF, lcsB := 0xFF, lcsC := 0x0F }
    (o.lcsA = 0x000000FF#32 ∧ o.lcsB = 0x000000FF#32) ∧ decodeLcs { lcsA := 1, lcsB := 3, lcsC := 7 } = .locked ∧
    s.lcs.burning = none ∧ b.lcs.burning = some { target := 0xFF, seq := none, repair := false } ∧ s.lcs.state = .maker ∧ s.pwr.inReset = false ∧
    (let f := { s with lcs := { s.lcs with state := .fielded } }
     ¬(f.pwr.inReset = false ∧ (f.lcs.state = .maker ∨ f.lcs.state = .integrator ∨ f.right 0 = true))) ∧
    State.reset.pwr.inReset = true ∧ (∀ j ∈ ({ s with jobs := [opJob 0x0801 [] []] } : State).jobs, s.mayRequest j.slice = true) := by decide +kernel

theorem wit_ResetsKeepWhatTheyMust :
    let s := upState
    let b := { s with lcs := { s.lcs with burning := some { target := 0xFF, seq := none, repair := false } } }
    let r := State.reset
    let old := { r with svc := { r.svc with svnFloor := 1 } }
    (s.lcs.burning = none ∧ b.lcs.burning = some { target := 0xFF, seq := none, repair := false }) ∧
    (s.pwr.inReset = false ∧ s.pwr.mainPower = true ∧ r.pwr.inReset = true ∧ r.pwr.mainPower = true ∧ s.pwr.perst = false ∧ s.pwr.hifReady = true) ∧
    ((r.activeBank.st == .active) && decide (r.svc.svnFloor ≤ r.activeBank.svn)) = true ∧ r.svc.bootFailed = false ∧ (r.kv.vrk0 = 0 ∧ r.kv.vrk1 = 0) ∧
    (decide (old.svc.svnFloor ≤ old.activeBank.svn) = false ∧ decide (old.svc.svnFloor ≤ old.inactive.svn) = false) ∧
    (let n := { s with pwr := { s.pwr with hifReady := false } }
     n.pwr.inReset = false ∧ n.pwr.perst = false ∧ n.pwr.hifReady = false) := by decide +kernel

theorem wit_PowerAndScrubEventsAct :
    let s := upState
    let c (q : List Nat) (n : Nat) : State := { s with pwr := { s.pwr with creditQueue := q, credits := n } }
    (State.reset.pwr.inReset = true ∧ s.pwr.inReset = false) ∧ (s.pwr.inReset = false ∧ s.pwr.gateIdle ≠ 0 ∧ s.busy 3 = false ∧ isLane 3 = false ∧ ¬(0x70 < 0x70)) ∧
    ((119 : BitVec 8).toInt < 120 ∧ 120 ≤ (125 : BitVec 8).toInt ∧ s.pwr.thermtrip = false) ∧
    (s.pwr.creditQueue = [] ∧ (c [3] 0).pwr.creditQueue = [3] ∧ min 16 (0 + 1) < creditCost 3 ∧ creditCost 3 ≤ min 16 (7 + 1) ∧ (c [3] 7).pwr.credits = 7) ∧
    (5 ≤ (5 : BitVec 3).toNat ∧ (4 : BitVec 3).toNat < 5) ∧
    (({ s with jobs := [{ opJob 0x0801 [] [] with session := some 9 }] } : State).job? 7).map (fun j => (j.session, j.faulted, j.parent)) = some (some 9, true, none) := by
  decide +kernel

theorem wit_OperatorCardsAreTakenStepByStep :
    let at_ (st : OcStage) : State := { upState with
      crd := { upState.crd with oc := [(0, { present := true, active := true, cls := 1, stage := st, id := zeros 8 })] }
      thm := { upState.thm with run := some { job := 7, challenge := [], ttl := 60 } }, jobs := [opJob 0x0A02 [] []] }
    (∀ st, ((at_ st).ocPort 0).stage = st ∧ (at_ st).thm.run = some { job := 7, challenge := [], ttl := 60 } ∧ ((at_ st).job? 7).isSome) ∧
    (upState.ocPort 0).stage = .none ∧ upState.thm.run = none ∧ upState.crd.run = none ∧
    (parseAtr [0x3B]).isNone ∧ (parseAtr [0x3B, 0x00]).isSome ∧ (zeros 8).length = 8 ∧ (zeros 7).length ≠ 8 ∧
    ({ upState with crd := { upState.crd with run := some { op := 3, step := .collect } } } : State).crd.run = some { op := 3, step := .collect } ∧
    decide ((at_ .sign).thm.m ≤ ([] ++ [zeros 8] : List Bytes).length) = true := by
  refine ⟨fun st => ⟨rfl, rfl, rfl⟩, ?_⟩
  decide +kernel

theorem wit_OperatorCardClassesExclude :
    ((some 0 : Option Nat).any (fun c => !c.testBit (3 - (1 : BitVec 2).toNat))) = true ∧ (none : Option Nat).any (fun c => !c.testBit 2) = false ∧
    ¬((.none : OcStage) = .select ∨ (.none : OcStage) = .getId ∨ (.none : OcStage) = .sign ∨ (.none : OcStage) = .ecdh) := by decide

theorem wit_BackupOperationsFollowTheCard :
    let at_ (p : BitVec 4) (r : BkpRun) : State := { upState with crd := { upState.crd with present := true, run := some r, phase := p } }
    let q := { upState with thm := { upState.thm with quorum := some { ttl := 9, since := 0 } }, rng := { upState.rng with state := .ready }
                            crd := { upState.crd with present := true } }
    (∀ p r, (at_ p r).crd.present = true ∧ (at_ p r).crd.run = some r ∧ (at_ p r).crd.phase = p) ∧
    (upState.crd.present = false ∧ q.crd.present = true ∧ q.crd.run = none ∧ barOpen q ∧ q.crd.busy = false ∧ q.thimbleUp = true ∧ q.bkpDenied 1 = 0 ∧
      upState.bkpDenied 1 ≠ 0 ∧ ¬(upState.crd.phase = 1 ∨ 3 ≤ upState.crd.phase)) := by
  refine ⟨fun p r => ⟨rfl, rfl, rfl⟩, ?_⟩
  decide +kernel

theorem wit_SlicesAreEnabledAndReset :
    let s := upState
    let on := { s with slices := [(0, { enable := true, state := .active }), (1, { enable := true, state := .active, pasid := 9 })] }
    let pend := { s with slices := [(0, { enable := true, state := .active }), (1, { enable := true, state := .active, resetPending := true })] }
    let busy := { pend with jobs := [{ opJob 0x0801 [] [] with slice := 1, gen := 1 }] }
    let frz := { s with slices := [(1, { enable := true, state := .freezing })] }
    (barOpen s ∧ (s.slice 1).enable = false ∧ s.jobs.any (fun j => j.slice == 1 && j.gen != (s.slice 1).gen) = false ∧ (s.slice 1).resetPending = false ∧
      s.slices.any (fun e => e.1 != 1 && e.2.enable && e.2.pasid == 5) = false ∧ on.slices.any (fun e => e.1 != 2 && e.2.enable && e.2.pasid == 9) = true) ∧
    (barOpen on ∧ (on.slice 1).enable = true ∧ (on.slice 1).resetPending = false ∧ on.resetClear 1 = true) ∧
    ((pend.slice 1).resetPending = true ∧ pend.resetClear 1 = true ∧ busy.resetClear 1 = false ∧ barOpen busy) ∧
    ((frz.slice 1).state = .freezing ∧ (s.slice 1).state ≠ .freezing) := by decide +kernel

theorem wit_TimeTicksSlewsAndSteps :
    let at_ (src : BitVec 2) : State := { upState with time := { upState.time with source := src } }
    (∀ src, (at_ src).time.source = src ∧ barOpen (at_ src) ∧ (at_ src).pwr.inReset = false) ∧ State.reset.pwr.inReset = true ∧ 9999990 ≤ 10000000 ∧ 10000000 ≤ 10000010 ∧ (at_ 2).time.taiPending = none ∧
    (if RefLoss.ptm = .ptm then (at_ 1).time.source = 1 else (at_ 1).time.source = 2) ∧ ¬(if RefLoss.pps = .ptm then (at_ 1).time.source = 1 else (at_ 1).time.source = 2) ∧
    (7 : BitVec 3).toNat = 7 ∧ (6 : BitVec 3).toNat ≠ 7 := by
  refine ⟨fun src => ⟨rfl, ⟨rfl, rfl⟩, rfl⟩, ?_⟩
  decide

theorem wit_RegistersAnswerAsTheirAccessSays :
    let l := { upState with locks := 0x3FFF }
    (State.reset.barOn = false ∧ barOpen upState ∧ upState.otp.variantL = true ∧ upState.locks.getLsbD 0 = false ∧ tget upState.hold none 0x020010 = none) ∧
    (barOpen l ∧ l.locks.getLsbD 13 = true ∧ fld (0x64 : BitVec 32) 0 16 = l.svc.drain ∧ bit (0x64 : BitVec 32) 16 = l.svc.actEn) ∧
    tget ({ upState with hold := [(0x020010, some 5)] } : State).hold none 0x020010 = some 5 ∧
    (1 : BitVec 24).toNat % 4 ≠ 0 ∧ (4 : BitVec 24).toNat % 8 = 4 ∧ (8 : BitVec 24).toNat % 8 = 0 := by decide +kernel

theorem wit_EveryStepKeepsFusesAndQueue : sealOk State.reset ∧ step State.reset = .next State.reset := ⟨Or.inr (by decide), rfl⟩

end Sys2Proof.Tests
end

section
/-! SUPPORT. What an access to a register or to the configuration space does, and the step. -/
namespace Sys2Proof.Machine

/-! ## Rows of a table of a statement -/

theorem forall_pair_of_forall_mem {α β : Type} {l : List (α × β)} {P : α → β → Prop} (h : ∀ p ∈ l, P p.1 p.2) (a : α) (b : β)
    (hm : (a, b) ∈ l) : P a b := h (a, b) hm

theorem forall_triple_of_forall_mem {α β γ : Type} {l : List (α × β × γ)} {P : α → β → γ → Prop} (h : ∀ p ∈ l, P p.1 p.2.1 p.2.2)
    (a : α) (b : β) (c : γ) (hm : (a, b, c) ∈ l) : P a b c := h (a, b, c) hm

theorem forall_quadruple_of_forall_mem {α β γ δ : Type} {l : List (α × β × γ × δ)} {P : α → β → γ → δ → Prop}
    (h : ∀ p ∈ l, P p.1 p.2.1 p.2.2.1 p.2.2.2) (a : α) (b : β) (c : γ) (d : δ) (hm : (a, b, c, d) ∈ l) : P a b c d := h (a, b, c, d) hm

variable {s : State} {f : State → State}

/-! ## Where an access takes effect (R16, R54, R62, R504) -/

theorem atConfig_ready (hr : s.pwr.inReset = false) (hp : s.pwr.perst = false) (hh : s.pwr.hifReady = true) : atConfig f s = f s := by
  simp [atConfig, hr, hp, hh]
theorem atConfig_notReady (hr : s.pwr.inReset = false) (hp : s.pwr.perst = false) (hh : s.pwr.hifReady = false) :
    atConfig f s = emit .retryStatus s := by simp [atConfig, hr, hp, hh]
theorem atConfig_reset (h : s.pwr.inReset = true ∨ s.pwr.perst = true) : atConfig f s = s := if_pos h

theorem atBar_open (h : barOpen s) : atBar f s = f s := by simp [atBar, h.1, h.2]
theorem atBar_closed (h : s.barOn = false ∨ s.svc.bootFailed = true) :
    atBar f s = if s.pwr.inReset then s else emit .unsupported s := by
  rcases h with h | h <;> simp [atBar, h]

/-! ## Fields that take writes until LOCK (R11, R14) -/

theorem writeRwl_unlocked {b : Nat} {differs : Bool} {f : State → State} (h : s.locks.getLsbD b = false) : writeRwl b differs f s = f s := by
  simp only [writeRwl, h, Bool.false_eq_true, if_false]
theorem writeRwl_locked_same {b : Nat} {differs : Bool} {f : State → State} (h : s.locks.getLsbD b = true) (hd : differs = false) :
    writeRwl b differs f s = s := by simp [writeRwl, h, hd]
theorem writeRwl_locked_differs {b : Nat} {differs : Bool} {f : State → State} (h : s.locks.getLsbD b = true) (hd : differs = true) :
    writeRwl b differs f s = raiseOpen 0x01 s := by simp [writeRwl, h, hd]

/-! ## The step (R8) -/

/-- Settles O59: `step` looks at the queue alone. -/
theorem stepRunsTheFrontCommand : Obligations.StepRunsTheFrontCommand := by
  unfold Obligations.StepRunsTheFrontCommand
  exact fun _ _ _ => ⟨rfl, rfl⟩

end Sys2Proof.Machine
end

section
/-! SUPPORT. The MSI-X table and the pending-bit array (R31, R54, R56). -/
namespace Sys2Proof.Machine

/-! ## The pending-bit array (R54, R56) -/

theorem mem_of_tget_true {t : Tbl Bool} {v : Nat} (h : tget t false v = true) : (v, true) ∈ t := by
  induction t with
  | nil => simp [tget] at h
  | cons p r ih =>
    obtain ⟨j, b⟩ := p
    by_cases hj : j = v
    · simp_all [tget]
    · exact List.mem_cons_of_mem _ (ih (by simpa [tget, hj] using h))

/-- Clearing the bits of a list of vectors clears these and no other. -/
theorem tget_foldl_clear (l : List (Nat × Bool)) (t : Tbl Bool) (v : Nat) :
    tget (l.foldl (fun t p => tput t false p.1 false) t) false v = if v ∈ l.map (·.1) then false else tget t false v := by
  induction l generalizing t with
  | nil => simp
  | cons p r ih =>
    rw [List.foldl_cons, ih, tget_tput]
    by_cases hr : v ∈ r.map (·.1) <;> by_cases hp : v = p.1 <;> simp_all

variable (s : State)

/-- The state but for the pending bits and what has been sent. -/
def unsent : State := { s with hif.pba := [], outbox := [] }

/-- Sending what is pending changes the pending bits and what has been sent, and nothing else. -/
theorem unsent_flushPba : unsent (flushPba s) = unsent s := foldl_keeps unsent _ (fun _ _ => by rfl) _ s

@[simp] theorem flushPba_kv : (flushPba s).kv = s.kv := (congrArg State.kv (unsent_flushPba s) :)
@[simp] theorem flushPba_jobs : (flushPba s).jobs = s.jobs := (congrArg State.jobs (unsent_flushPba s) :)
@[simp] theorem flushPba_vectors : (flushPba s).hif.vectors = s.hif.vectors := (congrArg (·.hif.vectors) (unsent_flushPba s) :)
@[simp] theorem flushPba_msixEn : (flushPba s).hif.msixEn = s.hif.msixEn := (congrArg (·.hif.msixEn) (unsent_flushPba s) :)
@[simp] theorem flushPba_fnMask : (flushPba s).hif.fnMask = s.hif.fnMask := (congrArg (·.hif.fnMask) (unsent_flushPba s) :)
@[simp] theorem flushPba_vectorOpen (v : Nat) : (flushPba s).vectorOpen v = s.vectorOpen v :=
  (congrArg (·.vectorOpen v) (unsent_flushPba s) :)

theorem flushPba_pba : (flushPba s).hif.pba =
    (s.hif.pba.filter (fun p => p.2 && s.vectorOpen p.1)).foldl (fun t p => tput t false p.1 false) s.hif.pba :=
  (List.foldl_hom (fun u : State => u.hif.pba) (fun _ _ => rfl)).symm

/-- After the sending no vector that may send keeps its pending bit. -/
theorem flushPba_open_not_pending (v : Nat) (h : (flushPba s).vectorOpen v = true) : tget (flushPba s).hif.pba false v = false := by
  rw [flushPba_vectorOpen] at h
  rw [flushPba_pba, tget_foldl_clear]
  by_cases hp : tget s.hif.pba false v = true
  · have hv : v ∈ (s.hif.pba.filter (fun p => p.2 && s.vectorOpen p.1)).map (·.1) :=
      List.mem_map.mpr ⟨(v, true), by simp [mem_of_tget_true hp, h], rfl⟩
    rw [if_pos hv]
  · simp [hp]

/-! ## Fields of the MSI-X table (R31, R56) -/

variable (v : Nat) (x : BitVec 32)

theorem setVectorField_addrLow : tget (setVectorField v 0 x s).hif.vectors {} v =
    { tget s.hif.vectors {} v with addr := fld (tget s.hif.vectors {} v).addr 32 32 ++ x } := by simp [setVectorField]
theorem setVectorField_addrHigh : tget (setVectorField v 1 x s).hif.vectors {} v =
    { tget s.hif.vectors {} v with addr := x ++ fld (tget s.hif.vectors {} v).addr 0 32 } := by simp [setVectorField]
theorem setVectorField_data : tget (setVectorField v 2 x s).hif.vectors {} v =
    { tget s.hif.vectors {} v with data := x } := by simp [setVectorField]
theorem setVectorField_mask : tget (setVectorField v 3 x s).hif.vectors {} v =
    { tget s.hif.vectors {} v with mask := bit x 0 } := by simp [setVectorField]
theorem setVectorField_other (f : Nat) {i : Nat} (h : i ≠ v) :
    tget (setVectorField v f x s).hif.vectors {} i = tget s.hif.vectors {} i := by
  simp [setVectorField, tget_tmod_ne _ _ _ h]

end Sys2Proof.Machine
end

section
/-! SUPPORT. Writes of the MSI-X table and of its control register (R31, R54, R56). -/
namespace Sys2Proof.Machine

variable {s : State} {offset : Nat} {wide : Bool} {value : BitVec 64}

theorem msixTableWriteDo_unsupported (h : s.barOn = false ∨ offset % (if wide then 8 else 4) ≠ 0) :
    msixTableWriteDo offset wide value s = emit .unsupported s := if_pos (by simpa using h)

theorem msixTableWriteDo_above (hb : s.barOn = true) (ha : offset % (if wide then 8 else 4) = 0) (ho : 0x8000 ≤ offset) :
    msixTableWriteDo offset wide value s = s := by simp [msixTableWriteDo, hb, ha, ho]

theorem exec_msixTableWrite : exec (.msixTableWrite offset wide value) s = .next (msixTableWriteDo offset wide value s) := rfl
theorem exec_msixControlWrite {en mask : Bool} : exec (.msixControlWrite en mask) s = .next (msixControlWriteDo en mask s) := rfl

/-- The state with a table entry written, before the pending messages go out. -/
def tableWritten (offset : Nat) (wide : Bool) (value : BitVec 64) (s : State) : State :=
  let u := setVectorField (offset / 16) (offset % 16 / 4) (fld value 0 32) s
  if wide then setVectorField (offset / 16) (offset % 16 / 4 + 1) (fld value 32 32) u else u

theorem msixTableWriteDo_table (hb : s.barOn = true) (ha : offset % (if wide then 8 else 4) = 0) (ho : offset < 0x8000) :
    msixTableWriteDo offset wide value s = flushPba (tableWritten offset wide value s) := by
  simp [msixTableWriteDo, tableWritten, hb, ha, Nat.not_le.mpr ho]

@[simp] theorem tableWritten_kv : (tableWritten offset wide value s).kv = s.kv := by cases wide <;> rfl
@[simp] theorem tableWritten_jobs : (tableWritten offset wide value s).jobs = s.jobs := by cases wide <;> rfl

theorem tableWritten_other {v : Nat} (h : v ≠ offset / 16) :
    tget (tableWritten offset wide value s).hif.vectors {} v = tget s.hif.vectors {} v := by
  cases wide
  · exact setVectorField_other _ _ _ _ h
  · exact (setVectorField_other _ _ _ _ h).trans (setVectorField_other _ _ _ _ h)

theorem tableWritten_narrow {f : Nat} (h : offset % 16 / 4 = f) :
    tableWritten offset false value s = setVectorField (offset / 16) f (fld value 0 32) s := by subst h; rfl

theorem tableWritten_wide {f : Nat} (h : offset % 16 / 4 = f) : tableWritten offset true value s =
    setVectorField (offset / 16) (f + 1) (fld value 32 32) (setVectorField (offset / 16) f (fld value 0 32) s) := by subst h; rfl

/-- The halves of a 64-bit value put together again. -/
theorem fld_high_append_low (v : BitVec 64) : fld v 32 32 ++ fld v 0 32 = v :=
  (BitVec.extractLsb'_append_extractLsb'_eq_extractLsb' rfl).trans BitVec.extractLsb'_eq_self

/-- A write of the low and then the high word of the address leaves the whole value. -/
theorem setVectorField_addr (v : Nat) : tget (setVectorField v 1 (fld value 32 32) (setVectorField v 0 (fld value 0 32) s)).hif.vectors {} v =
    { tget s.hif.vectors {} v with addr := value } := by
  rw [setVectorField_addrHigh, setVectorField_addrLow]
  have hlow : fld (fld (tget s.hif.vectors {} v).addr 32 32 ++ fld value 0 32) 0 32 = fld value 0 32 :=
    BitVec.extractLsb'_append_eq_right
  simp only [hlow, fld_high_append_low]

/-- Settles O33: the table write sets fields of one entry, and the sending that follows it leaves no open vector pending. -/
theorem pendingMessagesGoOutWhenTheirVectorOpens : Obligations.PendingMessagesGoOutWhenTheirVectorOpens := by
  unfold Obligations.PendingMessagesGoOutWhenTheirVectorOpens
  intro s offset wide en mask value
  refine ⟨fun h => ?_, fun hb ha ho => ?_, fun hb ha ho => ⟨flushPba (tableWritten offset wide value s), ?_, fun v hv => ?_,
    flushPba_open_not_pending _, ?_, by simp, by simp⟩, fun hr hp hh =>
    ⟨flushPba { s with hif.msixEn := en, hif.fnMask := mask }, ?_, by simp, by simp, flushPba_open_not_pending _, by simp, by simp, by simp⟩⟩
  · rw [exec_msixTableWrite, msixTableWriteDo_unsupported h]
  · rw [exec_msixTableWrite, msixTableWriteDo_above hb ha ho]
  · rw [exec_msixTableWrite, msixTableWriteDo_table hb ha ho]
  · rw [flushPba_vectors]
    exact tableWritten_other hv
  · rw [flushPba_vectors]
    intro b w m' hm hb hw
    have field {f : Nat} (h : b / 4 = f) : offset % 16 / 4 = f := hb ▸ h
    simp only [List.mem_cons, Prod.mk.injEq, List.not_mem_nil, or_false] at hm
    rcases hm with ⟨rfl, rfl, rfl⟩ | ⟨rfl, rfl, rfl⟩ | ⟨rfl, rfl, rfl⟩ | ⟨rfl, rfl, rfl⟩ | ⟨rfl, rfl, rfl⟩ | ⟨rfl, rfl, rfl⟩ <;> subst hw
    · rw [tableWritten_narrow (field rfl), setVectorField_addrLow]
    · rw [tableWritten_narrow (field rfl), setVectorField_addrHigh]
    · rw [tableWritten_narrow (field rfl), setVectorField_data]
    · rw [tableWritten_narrow (field rfl), setVectorField_mask]
    · rw [tableWritten_wide (field rfl), setVectorField_addr]
    · rw [tableWritten_wide (field rfl), setVectorField_mask, setVectorField_data]
  · rw [exec_msixControlWrite, msixControlWriteDo, atConfig_ready hr hp hh]

end Sys2Proof.Machine
end

section
/-! SUPPORT. The commands of the host link (R42, R52 to R58, R62, R64). -/
namespace Sys2Proof.Machine

variable {s : State}

/-! ## Link state and RETRAIN (R41, R42, R64) -/

theorem linkOk_iff {speed : BitVec 3} {width : BitVec 5} {flit : Bool} : linkOk speed width flit = true ↔
    1 ≤ speed.toNat ∧ speed.toNat ≤ 6 ∧ (width = 1 ∨ width = 4 ∨ width = 8 ∨ width = 16) ∧ (flit = true ∨ speed ≠ 6) := by
  simp only [linkOk, Bool.and_eq_true, Bool.or_eq_true, decide_eq_true_eq, beq_iff_eq, bne_iff_ne, and_assoc, or_assoc]

theorem linkStateChangeDo_eq {speed : BitVec 3} {width : BitVec 5} {flit dl : Bool} : linkStateChangeDo speed width flit dl s =
    if (1 ≤ speed.toNat ∧ speed.toNat ≤ 6 ∧ (width = 1 ∨ width = 4 ∨ width = 8 ∨ width = 16) ∧ (flit = true ∨ speed ≠ 6)) ∧
        s.pwr.inReset = false ∧ s.pwr.perst = false then
      { s with hif.speed := speed, hif.width := width, hif.flit := flit, hif.dlActive := dl } else s := by
  unfold linkStateChangeDo
  refine ite_congr ?_ (fun _ => rfl) (fun _ => rfl)
  rw [Bool.and_eq_true, linkOk_iff, Bool.and_eq_true, Bool.not_eq_true', Bool.not_eq_true', and_comm]

variable {value : BitVec 32}

/-- RETRAIN is none of the bits of the link's rate and width. -/
theorem fld_or_retrain {lo w : Nat} (h : fld (0x100 : BitVec 32) lo w = 0) : fld (value ||| 0x100) lo w = fld value lo w := by
  have hor : fld (value ||| 0x100) lo w = fld value lo w ||| fld 0x100 lo w := BitVec.extractLsb'_or
  rw [hor, h]; exact BitVec.or_zero

theorem retrainDo_eq : retrainDo value s = emit .retrain (writeRwl 0 (fld value 0 3 != s.hif.minSpeed || fld value 3 5 != s.hif.minWidth)
    (fun s => { s with hif.minSpeed := fld value 0 3, hif.minWidth := fld value 3 5 }) s) := by
  have hbit : bit (value ||| 0x100) 8 = true := by simp [bit]
  simp only [retrainDo, writeLinkCtrl, hbit, if_true, fld_or_retrain (lo := 0) (w := 3) rfl, fld_or_retrain (lo := 3) (w := 5) rfl]

theorem exec_retrain (h : barOpen s) : exec (.retrain value) s = .next (emit .retrain
    (writeRwl 0 (fld value 0 3 != s.hif.minSpeed || fld value 3 5 != s.hif.minWidth)
      (fun s => { s with hif.minSpeed := fld value 0 3, hif.minWidth := fld value 3 5 }) s)) :=
  congrArg Host.Outcome.next ((atBar_open h).trans retrainDo_eq)

/-! ## Reads of BAR0, BAR2, BAR4 and the header (R16, R31, R75) -/

variable {offset size : Nat}

theorem hostRead_registers : hostRead 0 offset size s = readBar (size == 8) offset s := rfl
theorem hostRead_doorbells : hostRead 2 offset size s = emit (.readData 0) s := by
  by_cases h : size = 8 <;> simp [hostRead, h]
theorem hostRead_table : hostRead 4 offset size s =
    emit (.readData (if size = 8 then s.readTable (offset + 4) ++ s.readTable offset else (s.readTable offset).zeroExtend 64)) s := rfl
theorem hostRead_header : hostRead 7 offset size s =
    emit (.readData (if size = 8 then s.readHeader (offset + 4) ++ s.readHeader offset else (s.readHeader offset).zeroExtend 64)) s := rfl
theorem hostRead_unsupported {n : Nat} (h0 : n ≠ 0) (h2 : n ≠ 2) (h4 : n ≠ 4) (h7 : n ≠ 7) :
    hostRead n offset size s = emit .unsupported s := by
  simp only [hostRead]

/-- An access is refused where BAR0 does not answer, or where it is not naturally aligned. -/
theorem barAccess_refused_iff : (!s.barOn || s.svc.bootFailed || !((size == 4 || size == 8) && offset % size == 0)) = true ↔
    ¬ barOpen s ∨ ¬ ((size = 4 ∨ size = 8) ∧ offset % size = 0) := by
  cases hb : s.barOn <;> cases hf : s.svc.bootFailed <;> simp [barOpen, hb, hf, -not_and, not_and_or]

theorem barAccessUnsupportedDo_eq {bar : BitVec 3} : barAccessUnsupportedDo bar offset size s =
    if bar = 7 then (if s.pwr.inReset = true ∨ s.pwr.perst = true then s else if s.pwr.hifReady = true then emit (.readData (
        if size = 8 then s.readHeader (offset + 4) ++ s.readHeader offset else (s.readHeader offset).zeroExtend 64)) s else emit .retryStatus s)
    else if ¬ barOpen s ∨ ¬ ((size = 4 ∨ size = 8) ∧ offset % size = 0) then emit .unsupported s
    else if bar = 0 then readBar (size == 8) offset s else if bar = 2 then emit (.readData 0) s
    else if bar = 4 then emit (.readData (if size = 8 then s.readTable (offset + 4) ++ s.readTable offset else (s.readTable offset).zeroExtend 64)) s
    else emit .unsupported s := by
  unfold barAccessUnsupportedDo
  refine ite_congr rfl (fun _ => ?_) (fun h7 => ite_congr (propext barAccess_refused_iff) (fun _ => rfl) (fun _ => ?_))
  · rw [hostRead_header]
    cases s.pwr.hifReady <;> simp
  · have hne {k : BitVec 3} (h : bar ≠ k) : bar.toNat ≠ k.toNat := fun he => h (BitVec.eq_of_toNat_eq he)
    refine iteInduction (fun h0 => ?_) fun h0 => iteInduction (fun h2 => ?_) fun h2 => iteInduction (fun h4 => ?_) fun h4 => ?_
    · subst h0; exact hostRead_registers
    · subst h2; exact hostRead_doorbells
    · subst h4; exact hostRead_table
    · exact hostRead_unsupported (hne h0) (hne h2) (hne h4) (hne h7)

/-! ## Translations (R52, R53) -/

variable {tag : BitVec 5}

theorem atsInvalidationCompleteDo_unknown (h : s.hif.invals.find? (fun v => v.tag == tag.toNat) = none) :
    atsInvalidationCompleteDo tag s = s := by rw [atsInvalidationCompleteDo, h]

theorem atsInvalidationCompleteDo_known {v : Inval} (h : s.hif.invals.find? (fun v => v.tag == tag.toNat) = some v) :
    atsInvalidationCompleteDo tag s =
      if s.hif.reads.any (fun r => v.reads.contains r.tag) || v.cells.any (fun c => (tget s.sqs {} c.1).outst.contains c.2) then s
      else emit (.invalidationDone tag.toNat) { s with hif.invals := s.hif.invals.filter (fun v => v.tag != tag.toNat) } := by
  have htag : v.tag = tag.toNat := by simpa using List.find?_some h
  simp only [atsInvalidationCompleteDo, h, htag]

variable {slice : BitVec 8} {page : Nat} {granted w : Bool}

/-- The state in which no request for the translation of a slice's page is on its way. -/
def untranslating (p : Nat × Nat) (s : State) : State := { s with hif.translating := s.hif.translating.filter (· != p) }

theorem untranslating_atc {p : Nat × Nat} {kept : List AtcEntry} :
    ({ untranslating p s with hif.atc := kept } : State) = untranslating p { s with hif.atc := kept } := rfl

/-- A translation arrives for a slice of which no job runs or waits to release. -/
theorem translationCompletionDo_idle (h : ∀ j ∈ s.jobs, j.slice = slice.toNat → j.phase ≠ .release ∧ j.phase ≠ .running) :
    translationCompletionDo slice page granted w s =
      if granted then untranslating (slice.toNat, page) { s with
        hif.atc := lastN 4096 (s.hif.atc ++ [{ slice := slice.toNat, page := page, writeOk := w }]) }
      else untranslating (slice.toNat, page) s := by
  have hidle {j : Job} (hj : j ∈ s.jobs) : ¬ (j.slice = slice.toNat ∧ j.phase = .release) ∧ ¬ (j.slice = slice.toNat ∧ j.phase = .running) :=
    ⟨fun hr => (h j hj hr.1).1 hr.2, fun hr => (h j hj hr.1).2 hr.2⟩
  have hwait (p : Job → Bool) : s.jobs.filter (fun j => j.slice == slice.toNat && j.phase == .release && p j) = [] :=
    List.filter_eq_nil_iff.mpr fun j hj => by simp [(hidle hj).1]
  have hstream (p q r : Job → Bool) : s.jobs.filter (fun j => j.slice == slice.toNat && j.phase == .running && p j && q j && r j) = [] :=
    List.filter_eq_nil_iff.mpr fun j hj => by simp [(hidle hj).2]
  unfold translationCompletionDo
  cases granted
  · simp only [Bool.false_and, Bool.false_eq_true, if_false, hwait, hstream, List.append_nil, List.foldl_nil]
    rfl
  · rw [if_pos rfl, ← untranslating_atc]
    cases w
    · simp only [Bool.and_false, Bool.false_eq_true, if_false, if_true, hwait, hstream, List.append_nil, List.foldl_nil]
      rfl
    · simp only [Bool.and_true, if_true, hwait, List.foldl_nil]
      rfl

end Sys2Proof.Machine
end

section
/-! SUPPORT. The statement on link changes, configuration writes, ATS and DOE. -/
namespace Sys2Proof.Machine

/-- Settles O32: each command by its own law; a configuration request passes `atConfig`, RETRAIN is a write of the RWL fields of its register. -/
theorem linkAndConfigurationWrites : Obligations.LinkAndConfigurationWrites := by
  unfold Obligations.LinkAndConfigurationWrites
  intro s speed width flit dl bme mse en mask glob granted w more bar offset size page count tag slice protocol data value
    up bus offered aligned drop named touched
  refine ⟨fun c t hm => ?_, fun hj => ?_, fun ⟨hr, hp, hh⟩ c t hm => ?_, fun c hm => ?_, fun ho hl => ?_, fun ho hl hs hw => ?_⟩
  · simp only [List.mem_cons, Prod.mk.injEq, List.not_mem_nil, or_false] at hm
    rcases hm with ⟨rfl, rfl⟩ | ⟨rfl, rfl⟩ | ⟨rfl, rfl⟩ | ⟨rfl, rfl⟩
    · exact congrArg Host.Outcome.next linkStateChangeDo_eq
    · exact congrArg Host.Outcome.next barAccessUnsupportedDo_eq
    · rfl
    · refine congrArg Host.Outcome.next ?_
      split
      case h_1 hv => exact atsInvalidationCompleteDo_unknown hv
      case h_2 v hv => exact atsInvalidationCompleteDo_known hv
  · exact congrArg Host.Outcome.next (translationCompletionDo_idle hj)
  · simp only [List.mem_cons, Prod.mk.injEq, List.not_mem_nil, or_false] at hm
    rcases hm with ⟨rfl, rfl⟩ | ⟨rfl, rfl⟩ | ⟨rfl, rfl⟩ | ⟨rfl, rfl⟩
    · refine congrArg Host.Outcome.next ((atConfig_ready hr hp hh).trans ?_)
      exact ite_congr (by simp) (fun _ => rfl) (fun _ => rfl)
    · exact congrArg Host.Outcome.next (atConfig_ready hr hp hh)
    · exact congrArg Host.Outcome.next (atConfig_ready hr hp hh)
    · refine congrArg Host.Outcome.next ((atConfig_ready hr hp hh).trans ?_)
      exact ite_congr (by simp) (fun _ => rfl) (fun _ => rfl)
  · have hat : ∃ f, exec c s = .next (atConfig f s) := by
      simp only [List.mem_cons, List.not_mem_nil, or_false] at hm
      rcases hm with rfl | rfl | rfl | rfl <;> exact ⟨_, rfl⟩
    obtain ⟨f, hf⟩ := hat
    rw [hf]
    exact ⟨fun h => by rw [atConfig_reset h], fun hr hp hh => by rw [atConfig_notReady hr hp hh]⟩
  · rw [exec_retrain ho, writeRwl_unlocked hl]
  · rw [exec_retrain ho, writeRwl_locked_same hl (by simp [hs, hw])]

end Sys2Proof.Machine
end

section
/-! SUPPORT. Reads of BAR0 (R10, R13, R32). -/
namespace Sys2Proof.Machine

variable {s : State} {n k : Nat} {v : Word}

/-! ## Where an offset lies (R32) -/

theorem indexAt_hit {lo : Nat} (h : k < n) : indexAt (lo + 4 * k) lo n = some k := by
  rw [indexAt, if_pos (by omega)]
  congr 1; omega
theorem indexAt_above {o lo : Nat} (h : lo + 4 * n ≤ o) : indexAt o lo n = none := if_neg (by omega)

theorem toNat_ofNat_offset (h : n < 0x1000000) : (BitVec.ofNat 24 n).toNat = n := by
  rw [BitVec.toNat_ofNat]; exact Nat.mod_eq_of_lt h

/-! ## One read (R10, R13) -/

theorem readWord_plain (hl : n ∉ pairLows) (hh : n - 4 ∉ pairLows) : readWord n s = (clearRc n s, readReg n s) := by
  simp only [readWord, List.contains_iff_mem, hl, hh, if_false]
theorem readWord_low (hl : n ∈ pairLows) :
    readWord n s = ({ s with hold := tput s.hold none n (some (readReg (n + 4) s)) }, readReg n s) := by
  simp only [readWord, List.contains_iff_mem, hl, if_true]

/-- The high word of a pair is no low word of another. -/
theorem high_not_low : ∀ n ∈ pairLows, n + 4 ∉ pairLows := by decide
theorem pairLows_aligned : ∀ n ∈ pairLows, n + 4 < 0x1000000 ∧ n % 4 = 0 := by decide

theorem readWord_high_held {x : Word} (hl : n ∈ pairLows) (hx : tget s.hold none n = some x) :
    readWord (n + 4) s = ({ s with hold := tput s.hold none n none }, x) := by
  simp only [readWord, List.contains_iff_mem, high_not_low n hl, Nat.add_sub_cancel, hl, hx, if_true, if_false]
theorem readWord_high_live (hl : n ∈ pairLows) (hx : tget s.hold none n = none) : readWord (n + 4) s = (s, readReg (n + 4) s) := by
  simp only [readWord, List.contains_iff_mem, high_not_low n hl, Nat.add_sub_cancel, hl, hx, if_true, if_false]

theorem readBar_misaligned {wide : Bool} (h : n % (if wide then 8 else 4) ≠ 0) : readBar wide n s = emit .unsupported s := if_pos h
theorem readBar_narrow {t : State} {x : Word} (ha : n % 4 = 0) (hr : readWord n s = (t, x)) :
    readBar false n s = emit (.readData (x.zeroExtend 64)) t := by
  simp [readBar, ha, hr]

theorem exec_counterLowRead_narrow {t : State} {x : Word} (ho : barOpen s) (hn : n < 0x1000000) (ha : n % 4 = 0)
    (hr : readWord n s = (t, x)) :
    exec (.counterLowRead (BitVec.ofNat 24 n) false) s = .next (emit (.readData (x.zeroExtend 64)) t) := by
  refine congrArg Host.Outcome.next ((atBar_open ho).trans ?_)
  rw [counterLowReadDo, toNat_ofNat_offset hn, readBar_narrow ha hr]

/-- A read of a register that is no word of a pair answers its value and clears what a read clears. -/
theorem rcRead_plain {t : State} {x : Word} (ho : barOpen s) (hx : readReg n s = x) (ht : clearRc n s = t)
    (hn : n < 0x1000000 := by decide) (ha : n % 4 = 0 := by decide) (hl : n ∉ pairLows := by decide)
    (hh : n - 4 ∉ pairLows := by decide) :
    exec (.rcRegisterRead (BitVec.ofNat 24 n)) s = .next (emit (.readData (x.zeroExtend 64)) t) := by
  subst hx ht
  refine congrArg Host.Outcome.next ((atBar_open ho).trans ?_)
  rw [rcRegisterReadDo, toNat_ofNat_offset hn, readBar_narrow ha (readWord_plain hl hh)]

/-- Two halves of a register as one word. -/
theorem word_halves (a b : BitVec 16) : word [(a.toNat, 16), (b.toNat, 0)] = a ++ b := by
  apply BitVec.eq_of_toNat_eq
  have hb : b.toNat < 2 ^ 16 := b.isLt
  rw [BitVec.toNat_append, Nat.shiftLeft_eq, Nat.mul_comm, ← Nat.two_pow_add_eq_or_of_lt hb]
  simp [word]
  omega

theorem word_flag (b : Bool) : word [(flag b, 0)] = if b then 1 else 0 := by cases b <;> rfl

/-! ## Indexed registers -/

theorem readReg_sch {o : Nat} (hb : n / 0x10000 = 2) (ho : n % 0x10000 = o) (ha : o % 4 = 0) (h8 : 8 ≤ o) : readReg n s = readSch o s := by
  have h0 : o ≠ 0 := by omega
  have h4 : o ≠ 4 := by omega
  simp [readReg, hb, ho, ha, h0, h4]

theorem readReg_misses (h : k < 256) : readReg (0x020400 + 4 * k) s = tget s.sched.misses 0 k := by
  rw [readReg_sch (o := 0x400 + 4 * k) (by omega) (by omega) (by omega) (by omega)]
  simp (disch := omega) only [readSch, indexAt_above, indexAt_hit]

theorem readReg_vnt {o : Nat} (hb : n / 0x10000 = 4) (ho : n % 0x10000 = o) (ha : o % 4 = 0) (h8 : 8 ≤ o) : readReg n s = readVnt o s := by
  have h0 : o ≠ 0 := by omega
  have h4 : o ≠ 4 := by omega
  simp [readReg, hb, ho, ha, h0, h4]

theorem readReg_events (h : k < 6) : readReg (0x040040 + 4 * k) s = (s.ventClass k).events := by
  rw [readReg_vnt (o := 0x40 + 4 * k) (by omega) (by omega) (by omega) (by omega)]
  simp only [readVnt, indexAt_hit h]

theorem clearRc_misses (h : k < 256) : clearRc (0x020400 + 4 * k) s = { s with sched.misses := tput s.sched.misses 0 k 0 } := by
  unfold clearRc
  split
  case h_20 => simp only [indexAt_hit h]
  all_goals omega

theorem clearRc_events (h : k < 6) : clearRc (0x040040 + 4 * k) s = s.modVentClass k (fun y => { y with events := 0 }) := by
  unfold clearRc
  split
  case h_20 => simp (disch := omega) only [indexAt_above, indexAt_hit]
  all_goals omega

end Sys2Proof.Machine
end

section
/-! SUPPORT. Writes of BAR0 (R11, R14, R16, R34, R422). -/
namespace Sys2Proof.Machine

variable {s : State} {n k : Nat} {v : Word}

/-! ## Writes -/

theorem fld_zeroExtend (v : Word) : fld (v.zeroExtend 64) 0 32 = v := by
  apply BitVec.eq_of_toNat_eq
  simpa [fld] using v.isLt

theorem exec_registerWrite_narrow (ho : barOpen s) (hn : n < 0x1000000) (ha : n % 4 = 0) :
    exec (.registerWrite (BitVec.ofNat 24 n) false (v.zeroExtend 64)) s = .next (writeReg n v s) := by
  refine congrArg Host.Outcome.next ((atBar_open ho).trans ?_)
  simp [registerWriteDo, toNat_ofNat_offset hn, ha, fld_zeroExtend]

theorem writeReg_slc {o : Nat} (hb : n / 0x10000 = 1) (ho : n % 0x10000 = o) (ha : o % 4 = 0) (h8 : 8 ≤ o) : writeReg n v s = writeSlc o v s := by
  have h4 : o ≠ 4 := by omega
  simp [writeReg, hb, ho, ha, h4]
theorem writeReg_sch {o : Nat} (hb : n / 0x10000 = 2) (ho : n % 0x10000 = o) (ha : o % 4 = 0) (h8 : 8 ≤ o) : writeReg n v s = writeSch o v s := by
  have h4 : o ≠ 4 := by omega
  simp [writeReg, hb, ho, ha, h4]
theorem writeReg_eng {o : Nat} (hb : n / 0x10000 = 9) (ho : n % 0x10000 = o) (ha : o % 4 = 0) (h8 : 8 ≤ o) : writeReg n v s = writeEng o v s := by
  have h4 : o ≠ 4 := by omega
  simp [writeReg, hb, ho, ha, h4]

theorem writeReg_quotaKt (h : k < 256) : writeReg (0x011000 + 4 * k) v s = s.modSlice k (fun x => { x with quotaKt := fld v 0 21 }) := by
  rw [writeReg_slc (o := 0x1000 + 4 * k) (by omega) (by omega) (by omega) (by omega)]
  simp (disch := omega) only [writeSlc, if_neg, indexAt_above, indexAt_hit]
theorem writeReg_quotaPs (h : k < 256) : writeReg (0x011400 + 4 * k) v s = s.modSlice k (fun x => { x with quotaPs := fld v 0 17 }) := by
  rw [writeReg_slc (o := 0x1400 + 4 * k) (by omega) (by omega) (by omega) (by omega)]
  simp (disch := omega) only [writeSlc, if_neg, indexAt_above, indexAt_hit]
theorem writeReg_quotaJobs (h : k < 256) :
    writeReg (0x011800 + 4 * k) v s = s.modSlice k (fun x => { x with quotaJobs := fld v 16 13, quotaSessions := fld v 0 12 }) := by
  rw [writeReg_slc (o := 0x1800 + 4 * k) (by omega) (by omega) (by omega) (by omega)]
  simp (disch := omega) only [writeSlc, if_neg, indexAt_above, indexAt_hit]
theorem writeReg_classCfg (h : k < 7) : writeReg (0x020100 + 4 * k) v s = classCfgWriteDo (BitVec.ofNat 3 k) v s := by
  rw [writeReg_sch (o := 0x100 + 4 * k) (by omega) (by omega) (by omega) (by omega)]
  simp only [writeSch, indexAt_hit h]
theorem writeReg_ekcQuota {i : BitVec 8} : writeReg (0x091400 + 4 * i.toNat) v s = ekcQuotaWriteDo i v s := by
  have hi := i.isLt
  rw [writeReg_eng (o := 0x1400 + 4 * i.toNat) (by omega) (by omega) (by omega) (by omega)]
  simp only [writeEng, indexAt_hit hi, BitVec.ofNat_toNat, BitVec.setWidth_eq]
theorem writeReg_dpkQuota {i : BitVec 8} : writeReg (0x093400 + 4 * i.toNat) v s = dpkQuotaWriteDo i v s := by
  have hi := i.isLt
  rw [writeReg_eng (o := 0x3400 + 4 * i.toNat) (by omega) (by omega) (by omega) (by omega)]
  simp (disch := omega) only [writeEng, indexAt_above, indexAt_hit, BitVec.ofNat_toNat, BitVec.setWidth_eq]

/-! ## The fields that take writes until LOCK, by register -/

theorem writeReg_requestCtrl : writeReg 0x000020 v s = writeRwl 0 (bit v 2 != s.hif.readIdo || bit v 1 != s.hif.readRo || bit v 0 != s.hif.dataRo)
    (fun s => { s with hif.readIdo := bit v 2, hif.readRo := bit v 1, hif.dataRo := bit v 0 }) s := rfl
theorem writeReg_freezeLimit : writeReg 0x010010 v s = writeRwl 1 (fld v 0 16 != s.freezeLimit) (fun s => { s with freezeLimit := fld v 0 16 }) s := rfl
theorem writeReg_exportDis : writeReg 0x030008 v s = writeRwl 3 (bit v 0 != s.kv.exportDis) (fun s => { s with kv.exportDis := bit v 0 }) s := rfl
theorem writeReg_rngCtrl : writeReg 0x07000C v s = writeRwl 7 (bit v 1 != s.rng.prAll || bit v 0 != s.rng.autoReset)
    (fun s => { s with rng.prAll := bit v 1, rng.autoReset := bit v 0 }) s := rfl
theorem writeReg_pwrCtrl : writeReg 0x080008 v s =
    writeRwl 8 (fld v 16 8 != s.pwr.gateIdle || fld v 8 8 != s.pwr.thermHold || bit v 0 != s.pwr.eclkSel)
      (fun s => { s with pwr.gateIdle := fld v 16 8, pwr.thermHold := fld v 8 8, pwr.eclkSel := bit v 0 }) s := rfl
theorem writeReg_wrgTurn : writeReg 0x092000 v s = writeRwl 9 (fld v 0 13 != s.eng.wrgTurn) (fun s => { s with eng.wrgTurn := fld v 0 13 }) s := rfl
theorem writeReg_tsqLanes : writeReg 0x092800 v s = writeRwl 9 (fld v 0 4 != s.eng.tsqLanes) (fun s => { s with eng.tsqLanes := fld v 0 4 }) s := rfl
theorem writeReg_tmbTurn : writeReg 0x093900 v s = writeRwl 9 (fld v 0 13 != s.eng.tmbTurn) (fun s => { s with eng.tmbTurn := fld v 0 13 }) s := rfl
theorem writeReg_sdCtrl : writeReg 0x0A0008 v s = writeRwl 10 (bit v 1 != s.crd.hsEn || bit v 0 != s.crd.wideEn)
    (fun s => { s with crd.hsEn := bit v 1, crd.wideEn := bit v 0 }) s := rfl
theorem writeReg_ocClasses : writeReg 0x0A0040 v s = writeRwl 10 (fld v 4 3 != s.crd.classes1 || fld v 0 3 != s.crd.classes0)
    (fun s => { s with crd.classes1 := fld v 4 3, crd.classes0 := fld v 0 3 }) s := rfl
theorem writeReg_activation : writeReg 0x0D000C v s = writeRwl 13 (bit v 16 != s.svc.actEn || fld v 0 16 != s.svc.drain)
    (fun s => { s with svc.actEn := bit v 16, svc.drain := fld v 0 16 }) s := rfl

/-- LOCK of a block only rises, and only where the block exists (R34, R422). -/
theorem writeReg_lock {b : Nat} : writeReg (0x10000 * b + 4) v s =
    if b < 14 ∧ (b = 11 → s.otp.variantL = true) ∧ bit v 0 = true then { s with locks := s.locks ||| (1 <<< b) } else s := by
  have hb : (0x10000 * b + 4) / 0x10000 = b := by omega
  have ho : (0x10000 * b + 4) % 0x10000 = 4 := by omega
  rw [writeReg, hb, ho]
  by_cases h14 : 14 ≤ b
  · simp [h14, Nat.not_lt.mpr h14]
  · by_cases h11 : b = 11 ∧ s.otp.variantL = false
    · simp [h11.1, h11.2]
    · have hv : b = 11 → s.otp.variantL = true := by simpa using h11
      simp [writeLock, h14, h11, eq_true hv, Nat.lt_of_not_le h14]

/-- What a write of an RWL field does, before LOCK and after it (R11, R14). -/
theorem regWrite_rwl {b : Nat} {differs : Bool} {f : State → State} {same : Prop} {t : State} (ho : barOpen s)
    (hw : writeReg n v s = writeRwl b differs f s) (hf : f s = t) (hs : differs = false ↔ same)
    (hn : n < 0x1000000 := by decide) (ha : n % 4 = 0 := by decide) :
    let write := exec (.registerWrite (BitVec.ofNat 24 n) false (v.zeroExtend 64)) s
    (s.locks.getLsbD b = false → write = .next t) ∧ (s.locks.getLsbD b = true → same → write = .next s) ∧
      (s.locks.getLsbD b = true → ¬ same → write = .next (raiseOpen 0x01 s)) := by
  intro write
  have hwrite : write = .next (writeRwl b differs f s) := (exec_registerWrite_narrow ho hn ha).trans (congrArg _ hw)
  rw [hwrite]
  refine ⟨fun hl => by rw [writeRwl_unlocked hl, hf], fun hl h => by rw [writeRwl_locked_same hl (hs.mpr h)], fun hl h => ?_⟩
  rw [writeRwl_locked_differs hl (Bool.not_eq_false _ ▸ mt hs.mp h)]

/-- A write of a register whose write is a command of its own is that command. -/
theorem regWrite_command {c : Instr} {f : State → State} (ho : barOpen s) (hc : exec c s = .next (atBar f s))
    (hw : writeReg n v s = f s) (hn : n < 0x1000000 := by decide) (ha : n % 4 = 0 := by decide) :
    exec (.registerWrite (BitVec.ofNat 24 n) false (v.zeroExtend 64)) s = exec c s := by
  rw [exec_registerWrite_narrow ho hn ha, hc, hw, atBar_open ho]

theorem regWrite_field {t : State} (ho : barOpen s) (hw : writeReg n v s = t)
    (hn : n < 0x1000000 := by decide) (ha : n % 4 = 0 := by decide) :
    exec (.registerWrite (BitVec.ofNat 24 n) false (v.zeroExtend 64)) s = .next t := by
  rw [exec_registerWrite_narrow ho hn ha, hw]

/-! ## MET_CTRL (R422, R435) -/

theorem exec_metCtrlWrite (ho : barOpen s) : exec (.metCtrlWrite v) s = .next (metCtrlWriteDo v s) :=
  congrArg Host.Outcome.next (atBar_open ho)

theorem metCtrlWriteDo_withoutMetrology (hv : s.otp.variantL = false) : metCtrlWriteDo v s = s := by
  rw [metCtrlWriteDo, hv]; rfl

theorem metCtrlWriteDo_metrology (hv : s.otp.variantL = true) : metCtrlWriteDo v s =
    if s.locks.getLsbD 11 then (if fld v 0 7 = s.met.maxQueue then s else raiseOpen 0x01 s)
    else { s with met.maxQueue := fld v 0 7, met.stored := some (fld v 0 7) } := by
  rw [metCtrlWriteDo, if_neg (by simp [hv])]
  refine ite_congr rfl (fun _ => ?_) (fun _ => rfl)
  by_cases hq : fld v 0 7 = s.met.maxQueue <;> simp [hq]

/-! ## Accesses that are not naturally aligned (R16) -/

theorem width_misaligned {wide : Bool} (h : n % 4 ≠ 0) : n % (if wide then 8 else 4) ≠ 0 := by
  cases wide <;> simp only [Bool.false_eq_true, if_false, if_true] <;> omega

variable {off : BitVec 24} {wide : Bool}

theorem exec_registerWrite_misaligned {v : BitVec 64} (ho : barOpen s) (h : off.toNat % (if wide then 8 else 4) ≠ 0) :
    exec (.registerWrite off wide v) s = .next (emit .unsupported s) :=
  congrArg Host.Outcome.next ((atBar_open ho).trans (if_pos h))
theorem exec_counterLowRead_misaligned (ho : barOpen s) (h : off.toNat % (if wide then 8 else 4) ≠ 0) :
    exec (.counterLowRead off wide) s = .next (emit .unsupported s) :=
  congrArg Host.Outcome.next ((atBar_open ho).trans (readBar_misaligned h))
theorem exec_rcRegisterRead_misaligned (ho : barOpen s) (h : off.toNat % 4 ≠ 0) :
    exec (.rcRegisterRead off) s = .next (emit .unsupported s) :=
  congrArg Host.Outcome.next ((atBar_open ho).trans (readBar_misaligned h))

end Sys2Proof.Machine
end

section
/-! SUPPORT. The statement on the registers of BAR0. -/
namespace Sys2Proof.Machine

/-- Settles O57: each row of the tables follows from the law of its kind of access (a plain read, a word of a pair, an RWL field, a field,
a command) and the equation of the register at its offset. -/
theorem registersAnswerAsTheirAccessSays : Obligations.RegistersAnswerAsTheirAccessSays := by
  unfold Obligations.RegistersAnswerAsTheirAccessSays
  intro s v v64 off wide i b cls o write reads lows
  have hcls : cls.toNat % 7 < 7 := Nat.mod_lt _ (by omega)
  have hvnt : i.toNat % 6 < 6 := Nat.mod_lt _ (by omega)
  refine ⟨?_, fun ho ha => ?_, fun ho ha => ?_, fun ho => ?_, fun ho => ?_, fun ho => ?_, fun ho => ?_, fun ho => ?_, fun ho => ?_, fun ho => ?_,
    fun ho ha => ?_⟩
  · -- Memory Space Enable is 0, D3hot, or Thimble did not start.
    intro c hc h
    obtain ⟨f, hf⟩ : ∃ f, exec c s = .next (atBar f s) := by
      revert c
      simp only [List.forall_mem_cons, List.not_mem_nil, false_imp_iff, implies_true, and_true]
      and_intros <;> exact ⟨_, rfl⟩
    rw [hf, atBar_closed h]
  · -- Not a multiple of 4.
    have hw := width_misaligned (wide := wide) ha
    simp only [List.forall_mem_cons, List.not_mem_nil, false_imp_iff, implies_true, and_true]
    exact ⟨exec_registerWrite_misaligned ho hw, exec_rcRegisterRead_misaligned ho ha, exec_counterLowRead_misaligned ho hw⟩
  · -- A 64-bit access at a high word.
    have hw : off.toNat % (if true then 8 else 4) ≠ 0 := fun h => absurd (ha.symm.trans h) (by decide)
    simp only [List.forall_mem_cons, List.not_mem_nil, false_imp_iff, implies_true, and_true]
    exact ⟨exec_registerWrite_misaligned ho hw, exec_counterLowRead_misaligned ho hw⟩
  · -- Reads, and what they clear.
    refine forall_triple_of_forall_mem ?_
    simp only [List.forall_mem_cons, List.not_mem_nil, false_imp_iff, implies_true, and_true]
    have hi := i.isLt
    exact ⟨rcRead_plain ho rfl rfl, rcRead_plain ho rfl rfl, rcRead_plain ho rfl rfl, rcRead_plain ho (word_halves ..) rfl,
      rcRead_plain ho (word_halves ..) rfl, rcRead_plain ho rfl rfl, rcRead_plain ho rfl rfl, rcRead_plain ho rfl rfl,
      rcRead_plain ho rfl rfl, rcRead_plain ho rfl rfl, rcRead_plain ho rfl rfl, rcRead_plain ho rfl rfl, rcRead_plain ho rfl rfl,
      rcRead_plain ho rfl rfl, rcRead_plain ho rfl rfl, rcRead_plain ho rfl rfl, rcRead_plain ho rfl rfl, rcRead_plain ho rfl rfl,
      rcRead_plain ho rfl rfl,
      rcRead_plain ho (readReg_misses hi) (clearRc_misses hi) (by omega) (by omega) (by simp [pairLows]; omega) (by simp [pairLows]; omega),
      rcRead_plain ho (readReg_events hvnt) (clearRc_events hvnt) (by omega) (by omega) (by simp [pairLows]; omega) (by simp [pairLows]; omega),
      rcRead_plain ho (word_flag ..) rfl, rcRead_plain ho rfl rfl, rcRead_plain ho rfl rfl, rcRead_plain ho rfl rfl, rcRead_plain ho rfl rfl⟩
  · -- Low words and their captured high words.
    intro n hl _
    obtain ⟨hn, ha⟩ := pairLows_aligned n hl
    have ha' : (n + 4) % 4 = 0 := by omega
    exact ⟨exec_counterLowRead_narrow ho (by omega) ha (readWord_low hl),
      fun x hx => exec_counterLowRead_narrow ho hn ha' (readWord_high_held hl hx),
      fun hx => exec_counterLowRead_narrow ho hn ha' (readWord_high_live hl hx)⟩
  · -- LOCK.
    exact congrArg Host.Outcome.next ((atBar_open ho).trans writeReg_lock)
  · -- RWL fields.
    refine forall_quadruple_of_forall_mem ?_
    simp only [List.forall_mem_cons, List.not_mem_nil, false_imp_iff, implies_true, and_true]
    exact ⟨regWrite_rwl ho writeReg_requestCtrl rfl (by simp [and_assoc]), regWrite_rwl ho writeReg_freezeLimit rfl (by simp),
      regWrite_rwl ho writeReg_exportDis rfl (by simp), regWrite_rwl ho writeReg_rngCtrl rfl (by simp),
      regWrite_rwl ho writeReg_pwrCtrl rfl (by simp [and_assoc]), regWrite_rwl ho writeReg_wrgTurn rfl (by simp),
      regWrite_rwl ho writeReg_tsqLanes rfl (by simp), regWrite_rwl ho writeReg_tmbTurn rfl (by simp),
      regWrite_rwl ho writeReg_sdCtrl rfl (by simp), regWrite_rwl ho writeReg_ocClasses rfl (by simp),
      regWrite_rwl ho writeReg_activation rfl (by simp)⟩
  · -- RW fields, W1C bits, offsets that ignore writes.
    refine forall_pair_of_forall_mem ?_
    simp only [List.forall_mem_cons, List.not_mem_nil, false_imp_iff, implies_true, and_true]
    have hi := i.isLt
    exact ⟨regWrite_field ho rfl, regWrite_field ho rfl, regWrite_field ho (writeReg_quotaKt hi) (by omega) (by omega),
      regWrite_field ho (writeReg_quotaPs hi) (by omega) (by omega), regWrite_field ho (writeReg_quotaJobs hi) (by omega) (by omega),
      regWrite_field ho rfl, regWrite_field ho rfl, regWrite_field ho rfl, regWrite_field ho rfl, regWrite_field ho rfl, regWrite_field ho rfl,
      regWrite_field ho rfl, regWrite_field ho rfl, regWrite_field ho rfl, regWrite_field ho rfl, regWrite_field ho rfl, regWrite_field ho rfl⟩
  · -- Registers whose write is a command.
    refine forall_pair_of_forall_mem ?_
    simp only [List.forall_mem_cons, List.not_mem_nil, false_imp_iff, implies_true, and_true]
    have hi := i.isLt
    exact ⟨regWrite_command ho rfl rfl, regWrite_command ho rfl rfl, regWrite_command ho rfl rfl, regWrite_command ho rfl rfl,
      regWrite_command ho rfl rfl, regWrite_command ho rfl rfl, regWrite_command ho rfl rfl, regWrite_command ho rfl rfl,
      regWrite_command ho rfl rfl, regWrite_command ho rfl rfl, regWrite_command ho rfl rfl,
      regWrite_command ho rfl writeReg_ekcQuota (by omega) (by omega),
      regWrite_command ho rfl rfl,
      regWrite_command ho rfl writeReg_dpkQuota (by omega) (by omega),
      regWrite_command ho rfl (writeReg_classCfg hcls) (by omega) (by omega)⟩
  · -- MET_CTRL.
    refine ⟨fun hv => ?_, fun hv => ?_⟩
    · rw [exec_metCtrlWrite ho, metCtrlWriteDo_withoutMetrology hv]
    · rw [exec_metCtrlWrite ho, metCtrlWriteDo_metrology hv]
  · -- A 64-bit write.
    refine congrArg Host.Outcome.next ((atBar_open ho).trans ?_)
    rw [registerWriteDo, if_neg (by simpa using ha)]
    rfl

end Sys2Proof.Machine
end

section
/-! SUPPORT. The registers right after reset. -/
namespace Sys2Proof.Machine

theorem reset_slice {i : Nat} (h : i ≠ 0) : State.reset.slice i = {} := by
  show tget [(0, _)] _ i = _
  simp [tget, Ne.symm h]

/-- Settles O58: the table by evaluation of the reset state, the slices other than 0 because no table lists them. -/
theorem resetRegistersReadAsTheSpecificationSays : Obligations.ResetRegistersReadAsTheSpecificationSays := by
  unfold Obligations.ResetRegistersReadAsTheSpecificationSays
  refine ⟨forall_pair_of_forall_mem ?_, fun i hi => ?_, rfl, rfl, rfl, rfl, Or.inr (by decide)⟩
  · decide +kernel
  · rw [State.sliceState, reset_slice hi]
    rfl

end Sys2Proof.Machine
end

section
/-! SUPPORT. The fuses, the seal state and the queue: what most commands leave as it is. -/
namespace Sys2Proof.Machine

variable {s t : State} {α : Type}

/-- What the invariant on every step speaks of: the fuses, the seal state of the Metrology Domain, the queue. -/
def State.kept (s : State) : Otp × SealSt × List Instr := (s.otp, s.met.st, s.pending)

theorem kept_eq_iff : t.kept = s.kept ↔ t.otp = s.otp ∧ t.met.st = s.met.st ∧ t.pending = s.pending := by
  simp only [State.kept, Prod.mk.injEq]

/-! An update `{ s with … }` of other fields is seen through by `kept_mk` and `kept_fold`. Here and below `(rfl)` keeps a lemma out of
`dsimp`, whose steps the side conditions of the lemmas that take a function do not accept. -/

@[simp] theorem kept_mk {otp pwr locks hold hif ring sqs cqs jobs nextJob slices freezeLimit mig time sched eng ctxs kv rng thm
    met vent tmp lcs tap crd svc evr outbox freeCtr pending} :
    (State.mk otp pwr locks hold hif ring sqs cqs jobs nextJob slices freezeLimit mig time sched eng ctxs kv rng thm
      met vent tmp lcs tap crd svc evr outbox freeCtr pending).kept = (otp, met.st, pending) := (rfl)
@[simp] theorem kept_fold : (s.otp, s.met.st, s.pending) = s.kept := (rfl)
@[simp] theorem kept_ite {c : Prop} [Decidable c] : (if c then s else t).kept = if c then s.kept else t.kept := apply_ite ..
@[simp] theorem kept_foldl {f : State → α → State} (h : ∀ s a, (f s a).kept = s.kept) (l : List α) (s : State) :
    (l.foldl f s).kept = s.kept := foldl_keeps State.kept f h l s
@[simp] theorem kept_elim {o : Option α} {f : α → State} (h : ∀ a, (f a).kept = t.kept) (hs : s.kept = t.kept) :
    (o.elim s f).kept = t.kept := by
  cases o <;> simp [h, hs]

end Sys2Proof.Machine
end

section
/-! SUPPORT. What every shared operation leaves of the fuses, the seal state and the queue. -/
namespace Sys2Proof.Machine

variable {s : State}

/-! ## Shared operations -/

@[simp] theorem kept_emit {o} : (emit o s).kept = s.kept := (rfl)
@[simp] theorem kept_fresh : (fresh s).kept = s.kept := (rfl)
@[simp] theorem kept_modSlice {i f} : (s.modSlice i f).kept = s.kept := (rfl)
@[simp] theorem kept_modSq {i q f} : (s.modSq i q f).kept = s.kept := (rfl)
@[simp] theorem kept_modCq {i q f} : (s.modCq i q f).kept = s.kept := (rfl)
@[simp] theorem kept_modVentClass {c f} : (s.modVentClass c f).kept = s.kept := (rfl)
@[simp] theorem kept_setFence {code f} : (s.setFence code f).kept = s.kept := (rfl)
@[simp] theorem kept_modMangle {k f} : (s.modMangle k f).kept = s.kept := (rfl)
@[simp] theorem kept_modNeedle {k f} : (s.modNeedle k f).kept = s.kept := (rfl)
@[simp] theorem kept_modLane {code f} : (s.modLane code f).kept = s.kept := (rfl)
@[simp] theorem kept_clearEngine {c} : (clearEngine c s).kept = s.kept := by simp [clearEngine]
@[simp] theorem kept_modCtx {c f} : (s.modCtx c f).kept = s.kept := (rfl)
@[simp] theorem kept_modGen {g f} : (s.modGen g f).kept = s.kept := (rfl)
@[simp] theorem kept_modOc {k f} : (s.modOc k f).kept = s.kept := (rfl)
@[simp] theorem kept_modSlot {kt i f} : (s.modSlot kt i f).kept = s.kept := by simp [State.modSlot]
@[simp] theorem kept_freeSlots {kt i n} : (freeSlots kt i n s).kept = s.kept := by simp [freeSlots]
@[simp] theorem kept_invalidateKey {kt i g} : (invalidateKey kt i g s).kept = s.kept := (rfl)
@[simp] theorem kept_releaseRun {kt first count i g} : (releaseRun kt first count i g s).kept = s.kept := by simp [releaseRun]
@[simp] theorem kept_sweepRuns : (sweepRuns s).kept = s.kept := by simp [sweepRuns]
@[simp] theorem kept_deleteKey {kt i} : (deleteKey kt i s).kept = s.kept := by simp [deleteKey]
@[simp] theorem kept_modJob {id f} : (s.modJob id f).kept = s.kept := (rfl)
@[simp] theorem kept_dropJob {id} : (s.dropJob id).kept = s.kept := (rfl)
@[simp] theorem kept_msixDue {v} : (msixDue v s).kept = s.kept := by simp [msixDue]
@[simp] theorem kept_flushPba : (flushPba s).kept = s.kept := by simp [flushPba]
@[simp] theorem kept_powered {f : State → State} (h : ∀ s, (f s).kept = s.kept) : (powered f s).kept = s.kept := by simp [powered, h]
@[simp] theorem kept_atBar {f : State → State} (h : ∀ s, (f s).kept = s.kept) : (atBar f s).kept = s.kept := by simp [atBar, h]
@[simp] theorem kept_cqMessage {i q} : (cqMessage i q s).kept = s.kept := by simp [cqMessage]
@[simp] theorem kept_moderate {i q} : (moderate i q s).kept = s.kept := by simp [moderate]
@[simp] theorem kept_postEntry {i q e} : (postEntry i q e s).kept = s.kept := by simp [postEntry]
@[simp] theorem kept_decideLate {id} : (decideLate id s).kept = s.kept := by
  unfold decideLate
  split <;> simp
@[simp] theorem kept_countFreeze {j} : (countFreeze j s).kept = s.kept := (rfl)
@[simp] theorem kept_countLoad {code} : (countLoad code s).kept = s.kept := by simp [countLoad]
@[simp] theorem kept_leaveWho {code w} : (leaveWho code w s).kept = s.kept := by
  unfold leaveWho
  dsimp only
  (repeat' split) <;> simp
@[simp] theorem kept_leaveLane {j} : (leaveLane j s).kept = s.kept := by simp [leaveLane]
@[simp] theorem kept_leaveTree {code} : (leaveTree code s).kept = s.kept := by simp [leaveTree]
@[simp] theorem kept_dropSession {j} : (dropSession j s).kept = s.kept := by
  unfold dropSession
  split <;> simp
@[simp] theorem kept_restoreCtx {j} : (restoreCtx j s).kept = s.kept := by
  unfold restoreCtx
  split <;> simp
@[simp] theorem kept_sweepOld : (sweepOld s).kept = s.kept := by simp [sweepOld]
@[simp] theorem kept_wakeFill {e} : (wakeFill e s).kept = s.kept := (rfl)
@[simp] theorem kept_wakeFills {es} : (wakeFills es s).kept = s.kept := by simp [wakeFills]
@[simp] theorem kept_dropFills {id} : (dropFills id s).kept = s.kept := by simp [dropFills]
@[simp] theorem kept_dropReplacing {id} : (dropReplacing id s).kept = s.kept := by
  unfold dropReplacing
  split <;> simp
@[simp] theorem kept_dropMade {j} : (dropMade j s).kept = s.kept := by
  unfold dropMade
  split <;> simp
@[simp] theorem kept_undo {id} : (undo id s).kept = s.kept := by
  unfold undo
  split <;> simp
@[simp] theorem kept_retire {j} : (retire j s).kept = s.kept := by simp [retire]
@[simp] theorem kept_decideJob {id status outs} : (decideJob id status outs s).kept = s.kept := by
  unfold decideJob
  split <;> simp
@[simp] theorem kept_beginWipe {id status} : (beginWipe id status s).kept = s.kept := by simp [beginWipe]
@[simp] theorem kept_stopTasks {id status} : (stopTasks id status s).kept = s.kept := by
  refine kept_foldl (fun s t => ?_) _ _
  dsimp only
  (repeat' split) <;> simp
@[simp] theorem kept_taskFailed {id task status} : (taskFailed id task status s).kept = s.kept := by simp [taskFailed]
@[simp] theorem kept_endWiping {id status} : (endWiping id status s).kept = s.kept := by
  unfold endWiping
  (repeat' split) <;> simp
@[simp] theorem kept_settleTasks {id} : (settleTasks id s).kept = s.kept := by
  unfold settleTasks
  (repeat' split) <;> simp
@[simp] theorem kept_endTaskOf {t p} : (endTaskOf t p s).kept = s.kept := by simp [endTaskOf]
@[simp] theorem kept_settleFreeze {i} : (settleFreeze i s).kept = s.kept := by
  unfold settleFreeze
  dsimp only
  (repeat' split) <;> simp
@[simp] theorem kept_complete {id} : (complete id s).kept = s.kept := by
  unfold complete
  (repeat' split) <;> simp
@[simp] theorem kept_endNow {id status engine} : (endNow id status engine s).kept = s.kept := by
  unfold endNow
  (repeat' split) <;> simp
@[simp] theorem kept_stopJob {status j} : (stopJob status j s).kept = s.kept := by
  unfold stopJob
  split <;> simp
@[simp] theorem kept_stopJobs {p status} : (stopJobs p status s).kept = s.kept := by simp [stopJobs]
@[simp] theorem kept_alarmJobs {p status} : (alarmJobs p status s).kept = s.kept := by simp [alarmJobs]
@[simp] theorem kept_suppressJobs {p} : (suppressJobs p s).kept = s.kept := by
  unfold suppressJobs
  refine kept_foldl (fun s a => ?_) _ _
  split <;> simp
@[simp] theorem kept_safePoint {id} : (safePoint id s).kept = s.kept := by
  unfold safePoint
  (repeat' split) <;> simp
@[simp] theorem kept_writeOutputs {j} : (writeOutputs j s).kept = s.kept := by simp [writeOutputs]
@[simp] theorem kept_translatePages {i pages} : (translatePages i pages s).kept = s.kept := by simp [translatePages]
@[simp] theorem kept_release {id} : (release id s).kept = s.kept := by
  unfold release
  split <;> simp
@[simp] theorem kept_issueRead {job sl use addr len} : (issueRead job sl use addr len s).kept = s.kept := (rfl)
@[simp] theorem kept_startReads {id} : (startReads id s).kept = s.kept := by
  unfold startReads
  (repeat' split) <;> simp
@[simp] theorem kept_startListRead {id} : (startListRead id s).kept = s.kept := by
  unfold startListRead
  split <;> simp
@[simp] theorem kept_resumeHeld : (resumeHeld s).kept = s.kept := by
  refine kept_foldl (fun s j => ?_) _ _
  (repeat' split) <;> simp
@[simp] theorem kept_reportAer {e} : (reportAer e s).kept = s.kept := by
  unfold reportAer
  split <;> simp
@[simp] theorem kept_setDmaStatus {e} : (setDmaStatus e s).kept = s.kept := (rfl)

/-! ## Slots and session contexts -/

@[simp] theorem kept_layRun {kt i head} : (layRun kt i head s).kept = s.kept := by simp [layRun]
@[simp] theorem kept_dropEphemeral {sl} : (dropEphemeral sl s).kept = s.kept := by simp [dropEphemeral]
@[simp] theorem kept_freeCtx {c} : (freeCtx c s).kept = s.kept := (rfl)
@[simp] theorem kept_changeCtx {j c f} : (changeCtx j c f s).kept = s.kept := (rfl)
@[simp] theorem kept_freeSessions {sl} : (freeSessions sl s).kept = s.kept := by simp [freeSessions]

/-! ## Lanes -/

@[simp] theorem kept_switchLane {code r n rest} : (switchLane code r n rest s).kept = s.kept := by simp [switchLane]
@[simp] theorem kept_joinLane {code w} : (joinLane code w s).kept = s.kept := by
  unfold joinLane
  split <;> simp
@[simp] theorem kept_boundary {code} : (boundary code s).kept = s.kept := by
  unfold boundary
  dsimp only
  (repeat' split) <;> simp
@[simp] theorem kept_joinSpare {t not} : (joinSpare t not s).kept = s.kept := kept_elim (fun _ => kept_joinLane) rfl
@[simp] theorem kept_joinTree {t} : (joinTree t s).kept = s.kept := by simp [joinTree]

/-! ## Events, HALT, RINSE and slice reset -/

@[simp] theorem kept_writeRecord {r} : (writeRecord r s).kept = s.kept := by
  unfold writeRecord
  exact kept_mk
@[simp] theorem kept_drainRecords : (drainRecords s).kept = s.kept := by simp [drainRecords]
@[simp] theorem kept_queueRecord {r} : (queueRecord r s).kept = s.kept := by simp [queueRecord]
@[simp] theorem kept_ventRecord {r} : (ventRecord r s).kept = s.kept := by simp [ventRecord]
@[simp] theorem kept_takeHeldRecords : (takeHeldRecords s).kept = s.kept := by simp [takeHeldRecords]
@[simp] theorem kept_logRecord {code data} : (logRecord code data s).kept = s.kept := by simp [logRecord]
@[simp] theorem kept_endRsl {cause} : (endRsl cause s).kept = s.kept := by simp [endRsl]
@[simp] theorem kept_endQuorum : (endQuorum s).kept = s.kept := (rfl)
@[simp] theorem kept_ocOff {k last} : (ocOff k last s).kept = s.kept := by simp [ocOff]
@[simp] theorem kept_bkpEnd {code detail block} : (bkpEnd code detail block s).kept = s.kept := by
  unfold bkpEnd
  split <;> simp
@[simp] theorem kept_abortStarted : (abortStarted s).kept = s.kept := by simp [abortStarted]
@[simp] theorem kept_restartThimble : (restartThimble s).kept = s.kept := by simp [restartThimble]
@[simp] theorem kept_updateAttn : (updateAttn s).kept = s.kept := by simp [updateAttn]
@[simp] theorem kept_haltNow {sec} : (haltNow sec s).kept = s.kept := by simp [haltNow]
@[simp] theorem kept_eraseKeys : (eraseKeys s).kept = s.kept := (rfl)
@[simp] theorem kept_battLog {source detail} : (battLog source detail s).kept = s.kept := (rfl)
@[simp] theorem kept_abortAll : (abortAll s).kept = s.kept := by simp [abortAll]
@[simp] theorem kept_rinse {source detail} : (rinse source detail s).kept = s.kept := by simp [rinse]
@[simp] theorem kept_moveSuspended {c} : (moveSuspended c s).kept = s.kept := by
  unfold moveSuspended
  dsimp only
  split
  · exact (kept_foldl (fun _ w => by cases w <;> simp) _ _).trans kept_mk
  · exact kept_mk
@[simp] theorem kept_endTreeTask {c status} : (endTreeTask c status s).kept = s.kept := by
  unfold endTreeTask
  dsimp only
  (repeat' split) <;> simp
@[simp] theorem kept_dropDarner {c} : (dropDarner c s).kept = s.kept := by simp [dropDarner]
@[simp] theorem kept_fenceUnit {u kind} : (fenceUnit u kind s).kept = s.kept := by
  unfold fenceUnit
  split <;> simp
@[simp] theorem kept_updateAlert : (updateAlert s).kept = s.kept := by simp [updateAlert]
@[simp] theorem kept_signalPme {cls} : (signalPme cls s).kept = s.kept := by simp [signalPme]
@[simp] theorem kept_applyLevel {code detail cls base lv u kind} : (applyLevel code detail cls base lv u kind s).kept = s.kept := by simp [applyLevel]
@[simp] theorem kept_raiseEvent {code detail u kind} : (raiseEvent code detail u kind s).kept = s.kept := by
  unfold raiseEvent
  split
  · rfl
  · refine kept_applyLevel.trans (kept_ventRecord.trans ?_)
    split <;> rfl
@[simp] theorem kept_raiseNote {code detail} : (raiseNote code detail s).kept = s.kept := by simp [raiseNote]
@[simp] theorem kept_raiseOpenAt {code u} : (raiseOpenAt code u s).kept = s.kept := by simp [raiseOpenAt]
@[simp] theorem kept_raiseOpen {code} : (raiseOpen code s).kept = s.kept := by simp [raiseOpen]
@[simp] theorem kept_writeRwl {b differs} {f : State → State} (h : ∀ s, (f s).kept = s.kept) : (writeRwl b differs f s).kept = s.kept := by
  simp [writeRwl, h]
@[simp] theorem kept_unfence {c} : (unfence c s).kept = s.kept := (rfl)
@[simp] theorem kept_acknowledge {c} : (acknowledge c s).kept = s.kept := by simp [acknowledge]
@[simp] theorem kept_resetQueues {i} : (resetQueues i s).kept = s.kept := (rfl)
@[simp] theorem kept_abortFreeze {i} : (abortFreeze i s).kept = s.kept := by simp [abortFreeze]
@[simp] theorem kept_dropMigration {i} : (dropMigration i s).kept = s.kept := by simp [dropMigration]
@[simp] theorem kept_sliceReset {i} : (sliceReset i s).kept = s.kept := by simp [sliceReset]

/-! ## The Random Unit -/

@[simp] theorem kept_rngFail {cause} : (rngFail cause s).kept = s.kept := (rfl)
@[simp] theorem kept_drbgFail {id status} : (drbgFail id status s).kept = s.kept := by
  unfold drbgFail
  split <;> simp
@[simp] theorem kept_failRequests : (failRequests s).kept = s.kept := by
  unfold failRequests
  refine kept_foldl (fun s a => ?_) _ _
  split <;> simp
@[simp] theorem kept_rngReady {sourceB} : (rngReady sourceB s).kept = s.kept := (rfl)
@[simp] theorem kept_rngRestart : (rngRestart s).kept = s.kept := (rfl)
@[simp] theorem kept_requestDrbg {id n} : (requestDrbg id n s).kept = s.kept := by
  unfold requestDrbg
  split <;> simp
@[simp] theorem kept_noiseStartupTestCompleteDo {aOk bOk kat rct apt aptMax rctMax} : (noiseStartupTestCompleteDo aOk bOk kat rct apt aptMax rctMax s).kept = s.kept := by
  simp [noiseStartupTestCompleteDo]
@[simp] theorem kept_healthTestFailureDo {apt} : (healthTestFailureDo apt s).kept = s.kept := by simp [healthTestFailureDo]
@[simp] theorem kept_drbgReseedDo : (drbgReseedDo s).kept = s.kept := by simp [drbgReseedDo]
@[simp] theorem kept_serveDrbg {d} : (serveDrbg d s).kept = s.kept := by
  unfold serveDrbg
  split <;> simp
@[simp] theorem kept_drbgRequestServedDo : (drbgRequestServedDo s).kept = s.kept := by
  unfold drbgRequestServedDo
  (repeat' split) <;> simp
@[simp] theorem kept_rngRequestTimeoutDo {job} : (rngRequestTimeoutDo job s).kept = s.kept := by simp [rngRequestTimeoutDo]
@[simp] theorem kept_rngDomainResetDo {value} : (rngDomainResetDo value s).kept = s.kept := by simp [rngDomainResetDo]
@[simp] theorem kept_rngAutoResetDo : (rngAutoResetDo s).kept = s.kept := by simp [rngAutoResetDo]
@[simp] theorem kept_mgReseedRequestDo {gen} : (mgReseedRequestDo gen s).kept = s.kept := by simp [mgReseedRequestDo]
@[simp] theorem kept_mgSeedArrivalDo {gen} : (mgSeedArrivalDo gen s).kept = s.kept := by simp [mgSeedArrivalDo]
@[simp] theorem kept_mgStallDo {gen} : (mgStallDo gen s).kept = s.kept := by simp [mgStallDo]
@[simp] theorem kept_mgStallTimeoutDo {job} : (mgStallTimeoutDo job s).kept = s.kept := by
  unfold mgStallTimeoutDo
  split <;> simp
@[simp] theorem kept_autoResetWindowExpiryDo : (autoResetWindowExpiryDo s).kept = s.kept := by simp [autoResetWindowExpiryDo]

end Sys2Proof.Machine
end

section
/-! SUPPORT. What the computations of the opcodes leave of the fuses, the seal state and the queue. -/
namespace Sys2Proof.Machine

variable {s : State}

/-! ## Keys -/

@[simp] theorem kept_putKey {kt eph slice i attr origin n material} : (putKey kt eph slice i attr origin n material s).kept = s.kept := by
  simp [putKey]
theorem kept_of_createKey {cls slice attr origin material t} (h : createKey cls slice attr origin material s = .inl t) : t.1.kept = s.kept := by
  unfold createKey at h
  dsimp only at h
  (repeat' split at h) <;> cases h
  exact kept_putKey
@[simp] theorem kept_countUse {kt i} : (countUse kt i s).kept = s.kept := by simp [countUse]
@[simp] theorem kept_resolveUse {slice u} : (resolveUse slice u s).1.kept = s.kept := by
  unfold resolveUse
  split
  · rfl
  · dsimp only
    (repeat' split) <;> simp
theorem kept_of_resolveUse {slice u t r} (h : resolveUse slice u s = (t, r)) : t.kept = s.kept := by
  rw [← @kept_resolveUse s slice u, h]
theorem kept_of_resolveAll {slice} : ∀ {us s t r}, resolveAll slice us s = (t, r) → t.kept = s.kept
  | [], s, t, r, h => by cases h; rfl
  | u :: us, s, t, r, h => by
    unfold resolveAll at h
    split at h
    · next hu => cases h; exact kept_of_resolveUse hu
    · next hu => split at h <;> cases h <;> exact (kept_of_resolveAll ‹_›).trans (kept_of_resolveUse hu)
@[simp] theorem kept_journalWrite {i image} : (journalWrite i image s).kept = s.kept := (rfl)
@[simp] theorem kept_journalClear {i} : (journalClear i s).kept = s.kept := (rfl)
@[simp] theorem kept_commitSlot {kt i image} : (commitSlot kt i image s).kept = s.kept := by simp [commitSlot]
@[simp] theorem kept_replayJournal : (replayJournal s).kept = s.kept := by simp [replayJournal]

/-! ## What the opcodes share -/

@[simp] theorem kept_curvesOf {j} : (s.curvesOf j).kept = s.kept := (rfl)
@[simp] theorem kept_runOp {opcode job} {f : Job → State → State} (h : ∀ j s, (f j s).kept = s.kept) :
    (runOp opcode f job s).kept = s.kept := by
  unfold runOp
  split <;> simp [h]
@[simp] theorem kept_done {j outs} : (done j outs s).kept = s.kept := by simp [done]
@[simp] theorem kept_fail {j status} : (fail j status s).kept = s.kept := by simp [fail]
@[simp] theorem kept_verdict {j ok} : (verdict j ok s).kept = s.kept := by simp [verdict]
@[simp] theorem kept_withKey {j cls attr origin material} {k : Nat → State → State} (h : ∀ i s, (k i s).kept = s.kept) :
    (withKey j cls attr origin material k s).kept = s.kept := by
  unfold withKey
  split
  · simp
  · next hc => simp [h, kept_of_createKey hc]
@[simp] theorem kept_redraw {j n} : (redraw j n s).kept = s.kept := by simp [redraw]
@[simp] theorem kept_cmeRetry {j} : (cmeRetry j s).kept = s.kept := by simp [cmeRetry]
@[simp] theorem kept_startSequencer {id} : (startSequencer id s).kept = s.kept := by
  unfold startSequencer
  split <;> simp
@[simp] theorem kept_startTask {id} : (startTask id s).kept = s.kept := by
  unfold startTask
  split <;> simp
@[simp] theorem kept_leaveEngine {j} : (leaveEngine j s).kept = s.kept := by simp [leaveEngine]
@[simp] theorem kept_ekcFill {job sl b} : (ekcFill job sl b s).1.kept = s.kept := by
  unfold ekcFill
  (repeat' split) <;> simp
@[simp] theorem kept_ekcLookup {job sl b} : (ekcLookup job sl b s).1.kept = s.kept := by
  unfold ekcLookup
  (repeat' split) <;> simp
theorem kept_of_ekcLookup {job sl b t r} (h : ekcLookup job sl b s = (t, r)) : t.kept = s.kept := by
  rw [← @kept_ekcLookup s job sl b, h]

/-! ## Session contexts of a job -/

@[simp] theorem kept_endCtx {j} : (endCtx j s).kept = s.kept := (rfl)
theorem kept_of_allocCtx {j t} (h : allocCtx j s = .inl t) : t.kept = s.kept := by
  unfold allocCtx at h
  dsimp only at h
  (repeat' split at h) <;> cases h
  simp

/-! ## Lattice opcodes -/

@[simp] theorem kept_latKeygen {j} : (latKeygen j s).kept = s.kept := by simp [latKeygen]
@[simp] theorem kept_mlKemKeygenDo {job} : (mlKemKeygenDo job s).kept = s.kept := by simp [mlKemKeygenDo]
@[simp] theorem kept_mlKemEncapsDo {job} : (mlKemEncapsDo job s).kept = s.kept := by simp [mlKemEncapsDo]
@[simp] theorem kept_mlKemDecapsDo {job} : (mlKemDecapsDo job s).kept = s.kept := by simp [mlKemDecapsDo]
@[simp] theorem kept_mlDsaKeygenDo {job} : (mlDsaKeygenDo job s).kept = s.kept := by simp [mlDsaKeygenDo]
@[simp] theorem kept_mlDsaSignDo {job} : (mlDsaSignDo job s).kept = s.kept := by simp [mlDsaSignDo]
@[simp] theorem kept_mlDsaVerifyDo {job} : (mlDsaVerifyDo job s).kept = s.kept := by simp [mlDsaVerifyDo]
@[simp] theorem kept_fnDsaKeygenDo {job} : (fnDsaKeygenDo job s).kept = s.kept := by simp [fnDsaKeygenDo]
@[simp] theorem kept_nextStage {j} : (nextStage j s).kept = s.kept := by simp [nextStage]
@[simp] theorem kept_fnDsaSignDo {job} : (fnDsaSignDo job s).kept = s.kept := by simp [fnDsaSignDo]
@[simp] theorem kept_fnDsaVerifyDo {job} : (fnDsaVerifyDo job s).kept = s.kept := by simp [fnDsaVerifyDo]
@[simp] theorem kept_latPublicKeyDo {job} : (latPublicKeyDo job s).kept = s.kept := by simp [latPublicKeyDo]
@[simp] theorem kept_latPreloadDo {job} : (latPreloadDo job s).kept = s.kept := by simp [latPreloadDo]

/-! ## Code-based opcodes -/

@[simp] theorem kept_dpkFill {job sl d b pk} : (dpkFill job sl d b pk s).1.kept = s.kept := by
  unfold dpkFill
  (repeat' split) <;> simp
@[simp] theorem kept_placeDarner {j b idle} : (placeDarner j b idle s).1.kept = s.kept := by
  unfold placeDarner
  (repeat' split) <;> simp
theorem kept_of_placeDarner {j b idle t r} (h : placeDarner j b idle s = (t, r)) : t.kept = s.kept := by
  rw [← @kept_placeDarner s j b idle, h]
@[simp] theorem kept_cmeKeygenDo {job} : (cmeKeygenDo job s).kept = s.kept := by simp [cmeKeygenDo]
@[simp] theorem kept_kemOut {j src alg_ ct k} : (kemOut j src alg_ ct k s).kept = s.kept := by simp [kemOut]
@[simp] theorem kept_digestFails {j} : (digestFails j s).kept = s.kept := by simp [digestFails]
@[simp] theorem kept_keepStreamed {j} : (keepStreamed j s).kept = s.kept := (rfl)
@[simp] theorem kept_cmeEncapsDo {job} : (cmeEncapsDo job s).kept = s.kept := by simp [cmeEncapsDo]
@[simp] theorem kept_decapsOut {j alg_ k} : (decapsOut j alg_ k s).kept = s.kept := by simp [decapsOut]
@[simp] theorem kept_cmeDecapsDo {job} : (cmeDecapsDo job s).kept = s.kept := by simp [cmeDecapsDo]
@[simp] theorem kept_hqcKeygenDo {job} : (hqcKeygenDo job s).kept = s.kept := by simp [hqcKeygenDo]
@[simp] theorem kept_hqcEncapsDo {job} : (hqcEncapsDo job s).kept = s.kept := by simp [hqcEncapsDo]
@[simp] theorem kept_hqcDecapsDo {job} : (hqcDecapsDo job s).kept = s.kept := by simp [hqcDecapsDo]
@[simp] theorem kept_cbPublicKeyDo {job} : (cbPublicKeyDo job s).kept = s.kept := by simp [cbPublicKeyDo]
@[simp] theorem kept_cbPreloadDo {job} : (cbPreloadDo job s).kept = s.kept := by simp [cbPreloadDo]

/-! ## Digest opcodes -/

@[simp] theorem kept_deliver {j cmp cmpLen d} : (deliver j cmp cmpLen d s).kept = s.kept := by simp [deliver]
@[simp] theorem kept_digestDo {job} : (digestDo job s).kept = s.kept := by simp [digestDo]
@[simp] theorem kept_sessionOpenDo {job} : (sessionOpenDo job s).kept = s.kept := by
  refine kept_runOp fun j s => ?_
  split <;> simp
@[simp] theorem kept_sessionUpdateDo {job} : (sessionUpdateDo job s).kept = s.kept := by simp [sessionUpdateDo]
@[simp] theorem kept_sessionFinalDo {job} : (sessionFinalDo job s).kept = s.kept := by simp [sessionFinalDo]
@[simp] theorem kept_sessionCloseDo {job} : (sessionCloseDo job s).kept = s.kept := by simp [sessionCloseDo]

/-! ## Stateful keys -/

@[simp] theorem kept_modHbs {i f} : (s.modHbs i f).kept = s.kept := (rfl)
@[simp] theorem kept_startCommit {i high upper} : (startCommit i high upper s).kept = s.kept := (rfl)
@[simp] theorem kept_takePair {n c} : (takePair n c s).kept = s.kept := (rfl)
@[simp] theorem kept_wakeCommit : (wakeCommit s).kept = s.kept := (rfl)
@[simp] theorem kept_commitEnds {i good} : (commitEnds i good s).kept = s.kept := by
  unfold commitEnds
  dsimp only
  (repeat' split) <;> simp
@[simp] theorem kept_assignIndex {i} : (assignIndex i s).1.kept = s.kept := by
  unfold assignIndex
  dsimp only
  (repeat' split) <;> simp
theorem kept_of_assignIndex {i t r} (h : assignIndex i s = (t, r)) : t.kept = s.kept := by
  rw [← @kept_assignIndex s i, h]
@[simp] theorem kept_dropPast {i} : (dropPast i s).kept = s.kept := (rfl)
@[simp] theorem kept_tornCommit {i} : (tornCommit i s).kept = s.kept := by
  unfold tornCommit
  dsimp only
  (repeat' split) <;> simp
@[simp] theorem kept_tornCommits : (tornCommits s).kept = s.kept := by simp [tornCommits]
@[simp] theorem kept_scanPair {i} : (scanPair i s).kept = s.kept := by
  unfold scanPair
  dsimp only
  (repeat' split) <;> simp
@[simp] theorem kept_pairScan : (pairScan s).kept = s.kept := by simp [pairScan]
@[simp] theorem kept_readPath {j base alg_ h q} : (readPath j base alg_ h q s).kept = s.kept := by simp [readPath]

/-! ## Hash-based signature opcodes -/

@[simp] theorem kept_slhDsaKeygenDo {job} : (slhDsaKeygenDo job s).kept = s.kept := by simp [slhDsaKeygenDo]
@[simp] theorem kept_slhDsaSignDo {job} : (slhDsaSignDo job s).kept = s.kept := by simp [slhDsaSignDo]
@[simp] theorem kept_slhDsaVerifyDo {job} : (slhDsaVerifyDo job s).kept = s.kept := by simp [slhDsaVerifyDo]
@[simp] theorem kept_hbsKeygenDo {job} : (hbsKeygenDo job s).kept = s.kept := by
  refine kept_runOp fun j s => ?_
  split <;> simp
@[simp] theorem kept_withRecord {j} {f : State → State} (h : ∀ s, (f s).kept = s.kept) : (withRecord j f s).kept = s.kept := by
  simp [withRecord, h]
@[simp] theorem kept_finishTop {j i t seg nodes root sig} : (finishTop j i t seg nodes root sig s).kept = s.kept := by simp [finishTop]
@[simp] theorem kept_upperBuild {j i t seg nodes root} : (upperBuild j i t seg nodes root s).kept = s.kept := by
  unfold upperBuild
  dsimp only
  (repeat' split) <;> simp
@[simp] theorem kept_hbsTreeBuildDo {job} : (hbsTreeBuildDo job s).kept = s.kept := by simp [hbsTreeBuildDo]
@[simp] theorem kept_hbsSignDo {job} : (hbsSignDo job s).kept = s.kept := by
  refine kept_runOp fun j s => kept_withRecord fun s => ?_
  split
  · rfl
  · dsimp only
    split <;> split <;> simp
@[simp] theorem kept_hbsVerifyDo {job} : (hbsVerifyDo job s).kept = s.kept := by simp [hbsVerifyDo]
@[simp] theorem kept_hbsStateDo {job} : (hbsStateDo job s).kept = s.kept := by simp [hbsStateDo]
@[simp] theorem kept_hbsPublicKeyDo {job} : (hbsPublicKeyDo job s).kept = s.kept := by simp [hbsPublicKeyDo]

/-! ## Classical opcodes -/

@[simp] theorem kept_pkKeygenDo {job} : (pkKeygenDo job s).kept = s.kept := by simp [pkKeygenDo]
@[simp] theorem kept_ecdsaSignDo {job} : (ecdsaSignDo job s).kept = s.kept := by simp [ecdsaSignDo]
@[simp] theorem kept_pkVerify {a more j} : (pkVerify a more j s).kept = s.kept := by
  unfold pkVerify
  dsimp only
  (repeat' split) <;> simp
@[simp] theorem kept_ecdsaVerifyDo {job} : (ecdsaVerifyDo job s).kept = s.kept := by simp [ecdsaVerifyDo]
@[simp] theorem kept_keyAgreeDo {job} : (keyAgreeDo job s).kept = s.kept := by
  refine kept_runOp fun j s => ?_
  dsimp only
  (repeat' split) <;> simp
@[simp] theorem kept_eddsaSignDo {job} : (eddsaSignDo job s).kept = s.kept := by simp [eddsaSignDo]
@[simp] theorem kept_eddsaVerifyDo {job} : (eddsaVerifyDo job s).kept = s.kept := by simp [eddsaVerifyDo]
@[simp] theorem kept_rsaChecked {j args} {k : State → State} (h : ∀ s, (k s).kept = s.kept) : (rsaChecked j args k s).kept = s.kept := by
  simp [rsaChecked, h]
@[simp] theorem kept_rsaSignDo {job} : (rsaSignDo job s).kept = s.kept := by simp [rsaSignDo]
@[simp] theorem kept_rsaVerifyDo {job} : (rsaVerifyDo job s).kept = s.kept := by simp [rsaVerifyDo]
@[simp] theorem kept_rsaOaepEncryptDo {job} : (rsaOaepEncryptDo job s).kept = s.kept := by
  refine kept_runOp fun j s => ?_
  dsimp only
  (repeat' split) <;> simp
@[simp] theorem kept_rsaOaepDecryptDo {job} : (rsaOaepDecryptDo job s).kept = s.kept := by simp [rsaOaepDecryptDo]
@[simp] theorem kept_ecCurveLoadDo {job} : (ecCurveLoadDo job s).kept = s.kept := by simp [ecCurveLoadDo]
@[simp] theorem kept_ecCurveClearDo {job} : (ecCurveClearDo job s).kept = s.kept := by simp [ecCurveClearDo]
@[simp] theorem kept_pkPublicKeyDo {job} : (pkPublicKeyDo job s).kept = s.kept := by simp [pkPublicKeyDo]

/-! ## Key vault opcodes -/

@[simp] theorem kept_keyGenerateDo {job} : (keyGenerateDo job s).kept = s.kept := by simp [keyGenerateDo]
@[simp] theorem kept_keyDeleteDo {job} : (keyDeleteDo job s).kept = s.kept := by
  refine kept_runOp fun j s => ?_
  split <;> simp
@[simp] theorem kept_keyGetAttrDo {job} : (keyGetAttrDo job s).kept = s.kept := by simp [keyGetAttrDo]
@[simp] theorem kept_setAttr {kt i a} : (setAttr kt i a s).kept = s.kept := by simp [setAttr]
@[simp] theorem kept_keySetAttrDo {job} : (keySetAttrDo job s).kept = s.kept := by
  refine kept_runOp fun j s => ?_
  split <;> simp
@[simp] theorem kept_keyPersistDo {job} : (keyPersistDo job s).kept = s.kept := by simp [keyPersistDo]
@[simp] theorem kept_replaceShadow {j} : (replaceShadow j s).kept = s.kept := by
  unfold replaceShadow
  dsimp only
  (repeat' split) <;> simp
@[simp] theorem kept_supersede {kt i g} : (supersede kt i g s).kept = s.kept := (rfl)
@[simp] theorem kept_replaceSwap {j i} : (replaceSwap j i s).kept = s.kept := by simp [replaceSwap]
@[simp] theorem kept_keyReplaceDo {job} : (keyReplaceDo job s).kept = s.kept := by
  refine kept_runOp fun j s => ?_
  dsimp only
  (repeat' split) <;> simp
@[simp] theorem kept_keyExportWrappedDo {job} : (keyExportWrappedDo job s).kept = s.kept := by simp [keyExportWrappedDo]
theorem kept_withPair {j a} {k : (Nat → State → State) → State} {fin : Nat → State → State}
    (hk : ∀ f, (∀ i s, (f i s).kept = s.kept) → (k f).kept = s.kept) (hf : ∀ i s, (fin i s).kept = s.kept) : (withPair j a k s fin).kept = s.kept := by
  unfold withPair
  split
  · exact hk _ hf
  · split
    · simp
    · exact hk _ (fun i s => by simp [hf])
@[simp] theorem kept_storeKey {j cls a origin m} : (storeKey j cls a origin m s).kept = s.kept := by
  unfold storeKey
  split
  · simp
  · exact kept_withPair (fun _ hf => kept_withKey hf) (by simp)
@[simp] theorem kept_keyImportWrappedDo {job} : (keyImportWrappedDo job s).kept = s.kept := by
  refine kept_runOp fun j s => ?_
  split <;> simp
@[simp] theorem kept_keyDeriveDo {job} : (keyDeriveDo job s).kept = s.kept := by simp [keyDeriveDo]
@[simp] theorem kept_keyProveDo {job} : (keyProveDo job s).kept = s.kept := by
  refine kept_runOp fun j s => ?_
  dsimp only
  (repeat' split) <;> simp
@[simp] theorem kept_rngGenerateDo {job} : (rngGenerateDo job s).kept = s.kept := by simp [rngGenerateDo]

/-! ## Composite keys, certificates, quorum -/

@[simp] theorem kept_compositeBindDo {job} : (compositeBindDo job s).kept = s.kept := by
  refine kept_runOp fun j s => ?_
  dsimp only
  (repeat' split) <;> simp
@[simp] theorem kept_capEvent {j} : (capEvent j s).kept = s.kept := by
  unfold capEvent
  split <;> simp
@[simp] theorem kept_hybSignDo {job} : (hybSignDo job s).kept = s.kept := by simp [hybSignDo]
@[simp] theorem kept_hybVerifyDo {job} : (hybVerifyDo job s).kept = s.kept := by
  refine kept_runOp fun j s => ?_
  dsimp only
  (repeat' split) <;> simp
@[simp] theorem kept_hybDeliver {j attr outs k} : (hybDeliver j attr outs k s).kept = s.kept := by simp [hybDeliver]
@[simp] theorem kept_hybKemEncapsDo {job} : (hybKemEncapsDo job s).kept = s.kept := by
  refine kept_runOp fun j s => ?_
  dsimp only
  (repeat' split) <;> simp
@[simp] theorem kept_hybKemDecapsDo {job} : (hybKemDecapsDo job s).kept = s.kept := by simp [hybKemDecapsDo]
@[simp] theorem kept_hybPublicKeyDo {job} : (hybPublicKeyDo job s).kept = s.kept := by simp [hybPublicKeyDo]
@[simp] theorem kept_withSig {j ph pss m salt} {k : Bytes → State → State} (h : ∀ b s, (k b s).kept = s.kept) :
    (withSig j ph pss m salt k s).kept = s.kept := by
  simp [withSig, h]
@[simp] theorem kept_certIssueDo {job} : (certIssueDo job s).kept = s.kept := by simp [certIssueDo]
@[simp] theorem kept_mdocIssueDo {job} : (mdocIssueDo job s).kept = s.kept := by simp [mdocIssueDo]
@[simp] theorem kept_tplLoadDo {job} : (tplLoadDo job s).kept = s.kept := by simp [tplLoadDo]
@[simp] theorem kept_tplDeleteDo {job} : (tplDeleteDo job s).kept = s.kept := by simp [tplDeleteDo]
@[simp] theorem kept_credIssueDo {job} : (credIssueDo job s).kept = s.kept := by
  refine kept_runOp fun j s => ?_
  split <;> simp
@[simp] theorem kept_quorumOpenDo {job} : (quorumOpenDo job s).kept = s.kept := by simp [quorumOpenDo]
@[simp] theorem kept_quorumCloseDo {job} : (quorumCloseDo job s).kept = s.kept := by simp [quorumCloseDo]
@[simp] theorem kept_quorumStatusDo {job} : (quorumStatusDo job s).kept = s.kept := by simp [quorumStatusDo]
@[simp] theorem kept_quorumEnrollDo {job} : (quorumEnrollDo job s).kept = s.kept := by
  refine kept_runOp fun j s => ?_
  dsimp only
  (repeat' split) <;> simp

end Sys2Proof.Machine
end

section
/-! SUPPORT. What time, queues, slices and management leave of the fuses, the seal state and the queue. -/
namespace Sys2Proof.Machine

variable {s : State}

/-! ## The Time Base -/

@[simp] theorem kept_stepEpoch {dst} : (stepEpoch dst s).kept = s.kept := by simp [stepEpoch]
@[simp] theorem kept_loadSeconds {dst} : (loadSeconds dst s).kept = s.kept := by simp [loadSeconds]
@[simp] theorem kept_lock {ref} : (lock ref s).kept = s.kept := by simp [lock]
@[simp] theorem kept_loseReference : (loseReference s).kept = s.kept := by
  unfold loseReference
  split <;> simp
@[simp] theorem kept_qualify {good need ref} : (qualify good need ref s).kept = s.kept := by
  unfold qualify
  split <;> simp
@[simp] theorem kept_tickBoundaryDo : (tickBoundaryDo s).kept = s.kept := (rfl)
@[simp] theorem kept_timeSourceWriteDo {value} : (timeSourceWriteDo value s).kept = s.kept := by simp [timeSourceWriteDo]
@[simp] theorem kept_taiSetDo {value} : (taiSetDo value s).kept = s.kept := by simp [taiSetDo]
@[simp] theorem kept_ppsEdgeDo {cycles} : (ppsEdgeDo cycles s).kept = s.kept := by
  unfold ppsEdgeDo
  dsimp only
  (repeat' split) <;> simp
@[simp] theorem kept_ptmExchangeDo {master good} : (ptmExchangeDo master good s).kept = s.kept := by simp [ptmExchangeDo]
@[simp] theorem kept_referenceLossDo {cause} : (referenceLossDo cause s).kept = s.kept := by simp [referenceLossDo]
@[simp] theorem kept_classCfgWriteDo {cls value} : (classCfgWriteDo cls value s).kept = s.kept := by simp [classCfgWriteDo]

/-! ## Event Recorder and service link frames -/

@[simp] theorem kept_eventClear {authority} : (eventClear authority s).kept = s.kept := by simp [eventClear]
@[simp] theorem kept_sendFrame {kind seq more payload} : (sendFrame kind seq more payload s).kept = s.kept := by simp [sendFrame]
@[simp] theorem kept_sendAll {kind seq} : ∀ {fuel bs} {s : State}, (sendAll kind seq fuel bs s).kept = s.kept
  | 0, _, _ => rfl
  | fuel + 1, bs, s => by simp [sendAll, kept_sendAll (fuel := fuel)]
@[simp] theorem kept_rslAnswer {seq status data} : (rslAnswer seq status data s).kept = s.kept := by simp [rslAnswer]
@[simp] theorem kept_rslRequest {seq permitted} {f : State → State} (h : ∀ s, (f s).kept = s.kept) :
    (rslRequest seq permitted f s).kept = s.kept := by
  simp [rslRequest, h]
@[simp] theorem kept_servePatRead : (servePatRead s).kept = s.kept := by
  unfold servePatRead
  split <;> simp

/-! ## The Metrology Domain -/

@[simp] theorem kept_newMetKey : (newMetKey s).kept = s.kept := (rfl)
@[simp] theorem kept_metCtrlWriteDo {value} : (metCtrlWriteDo value s).kept = s.kept := by simp [metCtrlWriteDo]
@[simp] theorem kept_metroLoadDo {seq image data} : (metroLoadDo seq image data s).kept = s.kept := by simp [metroLoadDo]

/-! ## Queues -/

@[simp] theorem kept_issueFetch {i k idx} : (issueFetch i k idx s).kept = s.kept := by simp [issueFetch]
@[simp] theorem kept_fetchWindow {i k} : (fetchWindow i k s).kept = s.kept := by simp [fetchWindow]
@[simp] theorem kept_refetchSlice {i} : (refetchSlice i s).kept = s.kept := kept_foldl (fun _ _ => kept_fetchWindow) _ _
@[simp] theorem kept_refetchAll : (refetchAll s).kept = s.kept := by simp [refetchAll]
@[simp] theorem kept_sqTailDoorbellDo {slice queue value} : (sqTailDoorbellDo slice queue value s).kept = s.kept := by simp [sqTailDoorbellDo]
@[simp] theorem kept_cqHeadDoorbellDo {slice queue value} : (cqHeadDoorbellDo slice queue value s).kept = s.kept := by simp [cqHeadDoorbellDo]
@[simp] theorem kept_takeCell {i k c} : (takeCell i k c s).kept = s.kept := (rfl)
@[simp] theorem kept_dropSlot {i k} : (dropSlot i k s).kept = s.kept := by
  unfold dropSlot
  split <;> simp
@[simp] theorem kept_fetchFault {i k e} : (fetchFault i k e s).kept = s.kept := by simp [fetchFault]
@[simp] theorem kept_cellFetchReturnDo {slice queue cells err} : (cellFetchReturnDo slice queue cells err s).kept = s.kept := by
  unfold cellFetchReturnDo
  split <;> simp
@[simp] theorem kept_cellRefetchTimerDo {slice queue} : (cellRefetchTimerDo slice queue s).kept = s.kept := by simp [cellRefetchTimerDo]
@[simp] theorem kept_sqStallWatchdogDo {slice queue} : (sqStallWatchdogDo slice queue s).kept = s.kept := by simp [sqStallWatchdogDo]
@[simp] theorem kept_writeSqCfg {value} : (writeSqCfg value s).kept = s.kept := by simp [writeSqCfg]
@[simp] theorem kept_writeCqCfg {value} : (writeCqCfg value s).kept = s.kept := by simp [writeCqCfg]
@[simp] theorem kept_sqEnableDo {value} : (sqEnableDo value s).kept = s.kept := by simp [sqEnableDo]
@[simp] theorem kept_sqDisableDo {value} : (sqDisableDo value s).kept = s.kept := by simp [sqDisableDo]
@[simp] theorem kept_cqEnableDo {value} : (cqEnableDo value s).kept = s.kept := by simp [cqEnableDo]
@[simp] theorem kept_cqDisableDo {value} : (cqDisableDo value s).kept = s.kept := by simp [cqDisableDo]
@[simp] theorem kept_sqFaultClearDo {value} : (sqFaultClearDo value s).kept = s.kept := by simp [sqFaultClearDo]
@[simp] theorem kept_cqModerationTimerDo {slice queue} : (cqModerationTimerDo slice queue s).kept = s.kept := by simp [cqModerationTimerDo]

/-! ## Slices -/

@[simp] theorem kept_requestReset {i} : (requestReset i s).kept = s.kept := by simp [requestReset]
@[simp] theorem kept_writeSliceCfg {i value} : (writeSliceCfg i value s).kept = s.kept := by simp [writeSliceCfg]
@[simp] theorem kept_sliceEnableDo {slice value} : (sliceEnableDo slice value s).kept = s.kept := by simp [sliceEnableDo]
@[simp] theorem kept_sliceDisableDo {slice value} : (sliceDisableDo slice value s).kept = s.kept := by simp [sliceDisableDo]
@[simp] theorem kept_sliceResetDo {slice value} : (sliceResetDo slice value s).kept = s.kept := by simp [sliceResetDo]
@[simp] theorem kept_sliceResetPendingActDo {slice} : (sliceResetPendingActDo slice s).kept = s.kept := by simp [sliceResetPendingActDo]
@[simp] theorem kept_freezeDrainLimitDo {slice} : (freezeDrainLimitDo slice s).kept = s.kept := by simp [freezeDrainLimitDo]
@[simp] theorem kept_migNonceExpiryDo : (migNonceExpiryDo s).kept = s.kept := (rfl)

/-! ## Slice Images -/

@[simp] theorem kept_setMig {c} : (setMig c s).kept = s.kept := (rfl)
@[simp] theorem kept_saveFirst {j i} : (saveFirst j i s).kept = s.kept := by
  unfold saveFirst
  dsimp only
  (repeat' split) <;> simp
@[simp] theorem kept_exhaustKey {i} : (exhaustKey i s).kept = s.kept := (rfl)
@[simp] theorem kept_saveNext {j c} : (saveNext j c s).kept = s.kept := by simp [saveNext]
@[simp] theorem kept_cancelRestore {i} : (cancelRestore i s).kept = s.kept := by simp [cancelRestore]
theorem kept_of_placeMoved {i h qk qp attr material t} (e : placeMoved i h qk qp attr material s = .inl t) : t.1.kept = s.kept := by
  unfold placeMoved at e
  dsimp only at e
  (repeat' split at e) <;> cases e <;> exact kept_layRun
theorem kept_of_placeRecord {i qk qp kwrap r placed t} (e : placeRecord i qk qp kwrap r placed s = .inl t) : t.1.kept = s.kept := by
  unfold placeRecord at e
  dsimp only at e
  (repeat' split at e) <;> cases e
  · exact kept_of_placeMoved ‹_›
  · rfl
  · exact kept_of_placeMoved ‹_›
  · exact kept_of_placeMoved ‹_›
theorem kept_placeAll {i qk qp kwrap} : ∀ {rs placed out} {s : State},
    (placeAll i qk qp kwrap rs placed out s).elim (fun r => r.1.kept = s.kept) (fun r => r.1.kept = s.kept)
  | [], _, _, _ => rfl
  | r :: rs, placed, out, s => by
    unfold placeAll
    split
    · split
      · next h => rw [← kept_of_placeRecord h]; exact kept_placeAll
      · simp
    · exact kept_placeAll
theorem kept_of_placeAll {i qk qp kwrap rs placed out r} (h : placeAll i qk qp kwrap rs placed out s = r) :
    r.elim (fun r => r.1.kept = s.kept) (fun r => r.1.kept = s.kept) := h ▸ kept_placeAll
@[simp] theorem kept_applyRecord {i placed r} : (applyRecord i placed r s).kept = s.kept := by
  unfold applyRecord
  (repeat' split) <;> simp
@[simp] theorem kept_restoreCommit {c gen recs} : (restoreCommit c gen recs s).kept = s.kept := by simp [restoreCommit]
@[simp] theorem kept_restorePart {j i part} : (restorePart j i part s).kept = s.kept := by
  have hstop : ∀ st s, (fail j st (cancelRestore i s)).kept = s.kept := fun st s => kept_fail.trans kept_cancelRestore
  unfold restorePart
  extract_lets img first c h extra n src ct sig seq nonce keys area body recs stop recs'
  generalize (if first = true then chainStatus (j.input 1) src (h ++ ct) sig else 0) = chain
  generalize (if first = true then zeros 32 else c.prevTag) = tag
  generalize (if first = true then s.admission i (parseContract (if first = true then (recs'.headD (1, [])).2 else c.stateRec))
    else none) = admission
  split
  · exact hstop ..
  split
  · split
    · exact hstop ..
    split
    · exact hstop ..
    split
    · exact hstop ..
    split
    · split
      case h_1 hp => exact (hstop ..).trans (kept_of_placeAll hp)
      case h_2 hp =>
        have hp := kept_of_placeAll hp
        split <;> simpa using hp
    · exact hstop ..
  · exact hstop ..

/-! ## Metrology and management opcodes -/

@[simp] theorem kept_metSourceAddDo {job} : (metSourceAddDo job s).kept = s.kept := by
  refine kept_runOp fun j s => ?_
  split <;> simp
@[simp] theorem kept_metStart {j session stamp} : (metStart j session stamp s).kept = s.kept := by simp [metStart]
@[simp] theorem kept_metEnd {j session stamp} : (metEnd j session stamp s).kept = s.kept := by
  unfold metEnd
  (repeat' split) <;> simp
@[simp] theorem kept_metEventDo {job} : (metEventDo job s).kept = s.kept := by
  refine kept_runOp fun j s => ?_
  dsimp only
  (repeat' split) <;> simp
@[simp] theorem kept_metInfoDo {job} : (metInfoDo job s).kept = s.kept := by simp [metInfoDo]
@[simp] theorem kept_metRecordGetDo {job} : (metRecordGetDo job s).kept = s.kept := by
  refine kept_runOp fun j s => ?_
  split <;> simp
@[simp] theorem kept_sliceFreezeDo {job} : (sliceFreezeDo job s).kept = s.kept := by simp [sliceFreezeDo]
@[simp] theorem kept_thawQueues {i f} : (thawQueues i f s).kept = s.kept := kept_foldl (fun _ _ => kept_modCq.trans kept_modSq) _ _
@[simp] theorem kept_sliceThawDo {job} : (sliceThawDo job s).kept = s.kept := by simp [sliceThawDo]
@[simp] theorem kept_releaseSlice {i} : (releaseSlice i s).kept = s.kept := by simp [releaseSlice]
@[simp] theorem kept_sliceReleaseDo {job} : (sliceReleaseDo job s).kept = s.kept := by simp [sliceReleaseDo]
@[simp] theorem kept_sliceSaveDo {job} : (sliceSaveDo job s).kept = s.kept := by
  refine kept_runOp fun j s => ?_
  dsimp only
  (repeat' split) <;> simp
@[simp] theorem kept_migPrepareDo {job} : (migPrepareDo job s).kept = s.kept := by simp [migPrepareDo]
@[simp] theorem kept_sliceRestoreDo {job} : (sliceRestoreDo job s).kept = s.kept := by simp [sliceRestoreDo]
@[simp] theorem kept_contractSetDo {job} : (contractSetDo job s).kept = s.kept := by
  refine kept_runOp fun j s => ?_
  dsimp only
  (repeat' split) <;> simp
@[simp] theorem kept_contractGetDo {job} : (contractGetDo job s).kept = s.kept := by simp [contractGetDo]
@[simp] theorem kept_timeReadDo {job} : (timeReadDo job s).kept = s.kept := by simp [timeReadDo]
@[simp] theorem kept_eventReadDo {job} : (eventReadDo job s).kept = s.kept := by simp [eventReadDo]
@[simp] theorem kept_eventVerifyDo {job} : (eventVerifyDo job s).kept = s.kept := by simp [eventVerifyDo]
@[simp] theorem kept_eventClearDo {job} : (eventClearDo job s).kept = s.kept := by simp [eventClearDo]
@[simp] theorem kept_fwInfoDo {job} : (fwInfoDo job s).kept = s.kept := by simp [fwInfoDo]

/-! ## Symmetric opcodes -/

@[simp] theorem kept_cipherEncryptDo {job} : (cipherEncryptDo job s).kept = s.kept := by simp [cipherEncryptDo]
@[simp] theorem kept_cipherDecryptDo {job} : (cipherDecryptDo job s).kept = s.kept := by simp [cipherDecryptDo]
@[simp] theorem kept_gcmEncryptDo {job} : (gcmEncryptDo job s).kept = s.kept := by simp [gcmEncryptDo]
@[simp] theorem kept_streamOut {j bs} : (streamOut j bs s).1.kept = s.kept := by
  unfold streamOut
  dsimp only
  split
  · rfl
  · split
    · exact kept_translatePages
    · exact kept_modJob.trans (kept_foldl (fun _ _ => kept_emit) _ _)
@[simp] theorem kept_streamNow {id} : (streamNow id s).kept = s.kept := by
  unfold streamNow
  split <;> simp
@[simp] theorem kept_gcmDecryptDo {job} : (gcmDecryptDo job s).kept = s.kept := by
  refine kept_runOp fun j s => ?_
  dsimp only
  split
  · simp
  · have hs : (streamOut j ((gcmData (j.pb 0) (symKey j.keyB) j.iv (j.input 0)).drop j.streamed) s).1.kept = s.kept := kept_streamOut
    split <;> next h => rw [h] at hs; simpa using hs
@[simp] theorem kept_gcmSessionOpenDo {job} : (gcmSessionOpenDo job s).kept = s.kept := by
  refine kept_runOp fun j s => ?_
  split <;> simp
@[simp] theorem kept_gcmSessionUpdateDo {job} : (gcmSessionUpdateDo job s).kept = s.kept := by simp [gcmSessionUpdateDo]
@[simp] theorem kept_gcmSessionFinalDo {job} : (gcmSessionFinalDo job s).kept = s.kept := by simp [gcmSessionFinalDo]
@[simp] theorem kept_gcmSessionCloseDo {job} : (gcmSessionCloseDo job s).kept = s.kept := by simp [gcmSessionCloseDo]
@[simp] theorem kept_cmacGenerateDo {job} : (cmacGenerateDo job s).kept = s.kept := by simp [cmacGenerateDo]
@[simp] theorem kept_cmacVerifyDo {job} : (cmacVerifyDo job s).kept = s.kept := by simp [cmacVerifyDo]
@[simp] theorem kept_kwWrapDo {job} : (kwWrapDo job s).kept = s.kept := by simp [kwWrapDo]
@[simp] theorem kept_kwUnwrapDo {job} : (kwUnwrapDo job s).kept = s.kept := by simp [kwUnwrapDo]

/-! ## Payment opcodes -/

@[simp] theorem kept_pinTranslateDo {job} : (pinTranslateDo job s).kept = s.kept := by simp [pinTranslateDo]
@[simp] theorem kept_pinVerifyDo {job} : (pinVerifyDo job s).kept = s.kept := by simp [pinVerifyDo]
@[simp] theorem kept_emvArqcVerifyDo {job} : (emvArqcVerifyDo job s).kept = s.kept := by simp [emvArqcVerifyDo]
@[simp] theorem kept_emvArpcGenerateDo {job} : (emvArpcGenerateDo job s).kept = s.kept := by simp [emvArpcGenerateDo]
@[simp] theorem kept_bdkGenerateDo {job} : (bdkGenerateDo job s).kept = s.kept := by simp [bdkGenerateDo]
@[simp] theorem kept_dukptDeriveIkDo {job} : (dukptDeriveIkDo job s).kept = s.kept := by simp [dukptDeriveIkDo]
@[simp] theorem kept_kbImportDo {job} : (kbImportDo job s).kept = s.kept := by
  refine kept_runOp fun j s => ?_
  dsimp only
  (repeat' split) <;> simp
@[simp] theorem kept_kbExportDo {job} : (kbExportDo job s).kept = s.kept := by simp [kbExportDo]
@[simp] theorem kept_paySetPolicyDo {job} : (paySetPolicyDo job s).kept = s.kept := by simp [paySetPolicyDo]

end Sys2Proof.Machine
end

section
/-! SUPPORT. What intake, dispatch and the Needles leave of the fuses, the seal state and the queue. -/
namespace Sys2Proof.Machine

variable {s : State}

/-! ## Intake of jobs -/

@[simp] theorem kept_chargeIn {sl cls charge bound} : (chargeIn sl cls charge bound s).1.kept = s.kept := by simp [chargeIn]
@[simp] theorem kept_makeReady {id r} : (makeReady id r s).kept = s.kept := by
  unfold makeReady
  dsimp only
  (repeat' split) <;> simp
@[simp] theorem kept_issueTask {id k} : (issueTask id k s).kept = s.kept := by
  unfold issueTask
  split <;> simp
@[simp] theorem kept_issueTasks {id} : (issueTasks id s).kept = s.kept := by
  unfold issueTasks
  split <;> simp
@[simp] theorem kept_chargeMore {id n} : (chargeMore id n s).kept = s.kept := by
  unfold chargeMore
  split <;> simp
@[simp] theorem kept_chargeOrder {id} : (chargeOrder id s).kept = s.kept := by
  unfold chargeOrder
  split <;> simp
@[simp] theorem kept_chargeExponent {id} : (chargeExponent id s).kept = s.kept := by
  unfold chargeExponent
  split <;> simp
@[simp] theorem kept_beginRun {id} : (beginRun id s).kept = s.kept := by simp [beginRun]
@[simp] theorem kept_checkArgs {id} : (checkArgs id s).kept = s.kept := by
  unfold checkArgs
  (repeat' split) <;> simp
@[simp] theorem kept_checkHeader {id clean} : (checkHeader id clean s).kept = s.kept := by
  unfold checkHeader
  (repeat' split) <;> simp
@[simp] theorem kept_reserve {i k} : (reserve i k s).kept = s.kept := (rfl)
@[simp] theorem kept_consume {i k n} : (consume i k n s).kept = s.kept := (rfl)
@[simp] theorem kept_writeDone {i k idx c} : (writeDone i k idx c s).kept = s.kept := by simp [writeDone]
theorem kept_of_takeSlot {i k cq t} (h : takeSlot i k cq s = some t) : t.kept = s.kept := by
  unfold takeSlot at h
  (repeat' split at h) <;> cases h
  · rfl
  · simp
@[simp] theorem kept_consumeBad {i k cq n e} : (consumeBad i k cq n e s).kept = s.kept := by simp [consumeBad]
theorem kept_of_intakeQueue {i k t} (h : intakeQueue i k s = some t) : t.1.kept = s.kept := by
  unfold intakeQueue at h
  dsimp only at h
  repeat' split at h
  all_goals simp only [Option.map_eq_some_iff, reduceCtorEq, Option.some.injEq] at h
  · obtain ⟨u, hu, rfl⟩ := h; simp [kept_of_takeSlot hu]
  · obtain ⟨u, hu, rfl⟩ := h; simp [kept_of_takeSlot hu]
  · obtain ⟨u, hu, rfl⟩ := h; simp [kept_of_takeSlot hu]
  · obtain ⟨u, hu, rfl⟩ := h; simp [kept_of_takeSlot hu]
  · next hu _ => subst h; simp [kept_of_takeSlot hu]
  · next hu _ => subst h; simp [kept_of_takeSlot hu]
@[simp] theorem kept_intakeFirst {i} : ∀ {ks} {s : State}, (intakeFirst i ks s).kept = s.kept
  | [], _ => rfl
  | k :: ks, s => by
    unfold intakeFirst
    split
    · next h => simpa using kept_of_intakeQueue h
    · next h => exact kept_intakeFirst.trans (kept_of_intakeQueue h)
    · exact kept_intakeFirst
@[simp] theorem kept_jobIntakeDo {slice} : (jobIntakeDo slice s).kept = s.kept := by simp [jobIntakeDo]
@[simp] theorem kept_inputsRead {id} : (inputsRead id s).kept = s.kept := by
  unfold inputsRead
  (repeat' split) <;> simp
@[simp] theorem kept_readDone {r} : (readDone r s).kept = s.kept := by
  unfold readDone
  (repeat' split) <;> simp
@[simp] theorem kept_readFails {r e} : (readFails r e s).kept = s.kept := by
  unfold readFails
  (repeat' split) <;> simp
@[simp] theorem kept_dropRead {tag} : (dropRead tag s).kept = s.kept := (rfl)
@[simp] theorem kept_dmaReadCompletionDo {tag offset data err} : (dmaReadCompletionDo tag offset data err s).kept = s.kept := by
  unfold dmaReadCompletionDo
  (repeat' split) <;> simp
@[simp] theorem kept_completionTimeoutDo {tag} : (completionTimeoutDo tag s).kept = s.kept := by simp [completionTimeoutDo]

/-! ## Dispatch and the end of jobs -/

@[simp] theorem kept_grantCredits : ∀ {q} {s : State}, (grantCredits q s).kept = s.kept
  | [], _ => kept_mk
  | u :: q, s => by simp [grantCredits, kept_grantCredits (q := q)]
@[simp] theorem kept_requestCredit {u} : (requestCredit u s).kept = s.kept := by simp [requestCredit]
@[simp] theorem kept_ungate {u} : (ungate u s).kept = s.kept := (rfl)
@[simp] theorem kept_bound {id bs index} : (bound id bs index s).kept = s.kept := (rfl)
@[simp] theorem kept_startOn {id code staged} : (startOn id code staged s).kept = s.kept := by
  unfold startOn
  dsimp only
  (repeat' split) <;> simp
/-- The state in which key resolution, or another step of taking a job on, ends. -/
def Bind.state : Bind → State | .go s | .waits s | .ended s => s
@[simp] theorem Bind.state_go : (Bind.go s).state = s := rfl
@[simp] theorem Bind.state_waits : (Bind.waits s).state = s := rfl
@[simp] theorem Bind.state_ended : (Bind.ended s).state = s := rfl
@[simp] theorem kept_reserveUses {i b} : (reserveUses i b s).state.kept = s.kept := by
  unfold reserveUses; split <;> simp
@[simp] theorem kept_resolveJob {j r} : (resolveJob j r s).state.kept = s.kept := by
  unfold resolveJob
  dsimp only
  split
  · rfl
  split
  · simp
  split
  · simp
  split
  · next h => simp [kept_of_resolveAll h]
  · next h =>
    have ht := kept_of_resolveAll h
    split
    · simp [ht]
    split
    · simp [ht]
    split
    · simp [ht]
    split
    · next ha => simp [kept_of_assignIndex ha]
    · next ha => simp [kept_of_assignIndex ha]
    · next ha => simp [kept_of_assignIndex ha]
    · next ha => split <;> next hr => simp [kept_of_resolveAll hr, kept_of_assignIndex ha]
@[simp] theorem kept_drawFirst {j n} : (drawFirst j n s).state.kept = s.kept := by
  unfold drawFirst; split <;> simp
@[simp] theorem kept_lookupJob {j} : (lookupJob j s).state.kept = s.kept := by
  unfold lookupJob
  split
  · split
    · split <;> next h => simp [kept_of_ekcLookup h]
    · rfl
  · rfl
@[simp] theorem kept_openFirst {j} : (openFirst j s).state.kept = s.kept := by
  unfold openFirst
  split
  · split
    · next h => exact kept_of_allocCtx h
    · simp
  · rfl
theorem kept_of_stepFirst {j b} (h : stepFirst j s = some b) : b.state.kept = s.kept := by
  unfold stepFirst at h
  (repeat' split at h) <;> cases h <;> simp
theorem kept_of_lookupJob {j b} (h : lookupJob j s = b) : b.state.kept = s.kept := h ▸ kept_lookupJob
theorem kept_of_resolveJob {j r b} (h : resolveJob j r s = b) : b.state.kept = s.kept := h ▸ kept_resolveJob
theorem kept_of_drawFirst {j n b} (h : drawFirst j n s = b) : b.state.kept = s.kept := h ▸ kept_drawFirst
theorem kept_of_openFirst {j b} (h : openFirst j s = b) : b.state.kept = s.kept := h ▸ kept_openFirst
theorem kept_of_startDarner {j m n t} (h : startDarner j m n s = some t) : t.kept = s.kept := by
  unfold startDarner at h
  dsimp only at h
  split at h
  · split at h
    · next hp =>
      have hk := kept_of_placeDarner hp
      (repeat' split at h) <;> cases h <;> simp [hk]
    · cases h; simp
    · cases h
  · (repeat' split at h) <;> cases h <;> simp
theorem kept_of_tryTask {j t} (h : tryTask j s = some t) : t.kept = s.kept := by
  unfold tryTask at h
  split at h
  · cases h
  · cases h; simp
  · cases h; simp
  · split at h
    · exact kept_of_startDarner h
    · split at h
      · cases h; simp
      · split at h <;> next hb =>
          have hl := kept_of_lookupJob hb
          cases h
          simpa using hl
theorem kept_of_tryJob {i t} (h : tryJob i s = some t) : t.kept = s.kept := by
  unfold tryJob at h
  dsimp only at h
  split at h
  · cases h
  split at h
  · exact kept_of_tryTask h
  split at h
  · cases h
  · next hf => cases h; exact kept_of_stepFirst hf
  · next hf => cases h; exact kept_of_stepFirst hf
  next hf =>
  have hs := kept_of_stepFirst hf
  rw [Bind.state_go] at hs
  rw [← hs]
  split at h
  · cases h
  · cases h; simp
  · cases h; simp
  split at h
  · cases h
  split at h
  · next hr => cases h; exact kept_of_resolveJob hr
  · next hr => cases h; exact kept_of_resolveJob hr
  next hr =>
  rw [← kept_of_resolveJob hr, Bind.state_go]
  split at h
  · next hd => cases h; exact kept_of_drawFirst hd
  · next hd => cases h; exact kept_of_drawFirst hd
  next hd =>
  rw [← kept_of_drawFirst hd, Bind.state_go]
  split at h
  · split at h <;> cases h; rfl
  split at h
  · exact kept_of_startDarner h
  split at h
  · next ho => cases h; exact kept_of_openFirst ho
  · next ho => cases h; exact kept_of_openFirst ho
  next ho =>
  rw [← kept_of_openFirst ho, Bind.state_go]
  split at h
  · next hl => cases h; exact kept_of_lookupJob hl
  · next hl => cases h; exact kept_of_lookupJob hl
  next hl =>
  rw [← kept_of_lookupJob hl, Bind.state_go]
  cases h; simp
@[simp] theorem kept_dispatchFirst {c} : ∀ {js} {s : State}, (dispatchFirst c js s).kept = s.kept
  | [], _ => rfl
  | j :: js, s => by
    unfold dispatchFirst
    split
    · next h => simpa using kept_of_tryJob h
    · exact kept_dispatchFirst
@[simp] theorem kept_jobDispatchDo {cls} : (jobDispatchDo cls s).kept = s.kept := by simp [jobDispatchDo]
@[simp] theorem kept_countEff {j} : (countEff j s).kept = s.kept := by
  unfold countEff
  split <;> simp
@[simp] theorem kept_taskComplete {t p} : (taskComplete t p s).kept = s.kept := by simp [taskComplete]
@[simp] theorem kept_engineComputationCompleteDo {job} : (engineComputationCompleteDo job s).kept = s.kept := by
  unfold engineComputationCompleteDo
  (repeat' split) <;> simp
@[simp] theorem kept_safePointStopDo {job} : (safePointStopDo job s).kept = s.kept := by
  unfold safePointStopDo
  split <;> simp
@[simp] theorem kept_engineWipeCompleteDo {job} : (engineWipeCompleteDo job s).kept = s.kept := by
  unfold engineWipeCompleteDo
  (repeat' split) <;> simp

/-! ## Instructions of a Needle -/

@[simp] theorem kept_needleTrap {k j} : (needleTrap k j s).kept = s.kept := by simp [needleTrap]
@[simp] theorem kept_settle {k j x3} : (settle k j s x3).kept = s.kept := by
  unfold settle
  split <;> simp
@[simp] theorem kept_onNeedle {k} {f : Job → Needle → State → State} (h : ∀ j n s, (f j n s).kept = s.kept) : (onNeedle k f s).kept = s.kept := by
  unfold onNeedle
  split <;> simp [h]
@[simp] theorem kept_stitch {k f} : (stitch k f s).kept = s.kept := by simp [stitch]

/-! ## Vector instructions -/

@[simp] theorem kept_bolt {k f} : (bolt k f s).kept = s.kept := by simp [bolt]
@[simp] theorem kept_vecOp {k m vd vs1 vs2 f} : (vecOp k m vd vs1 vs2 f s).kept = s.kept := kept_bolt
@[simp] theorem kept_vecCmp {k m vd vs1 vs2 f} : (vecCmp k m vd vs1 vs2 f s).kept = s.kept := kept_bolt
@[simp] theorem kept_vecFp2 {k m vd vs1 vs2 f} : (vecFp2 k m vd vs1 vs2 f s).kept = s.kept := kept_bolt
@[simp] theorem kept_vecFp1 {k m vd vs1 vs2 f} : (vecFp1 k m vd vs1 vs2 f s).kept = s.kept := kept_bolt

end Sys2Proof.Machine
end

section
/-! SUPPORT. What cards, engines, the links and the registers leave of the fuses, the seal state and the queue. -/
namespace Sys2Proof.Machine

variable {s : State}

/-! ## The Backup Volume -/

@[simp] theorem kept_nextWrite {addr b} : (nextWrite addr b s).kept = s.kept := by simp [nextWrite]
@[simp] theorem kept_nextRead {addr} : (nextRead addr s).kept = s.kept := (rfl)
@[simp] theorem kept_modRun {f} : (s.modRun f).kept = s.kept := (rfl)
@[simp] theorem kept_startWrites {step plan} : (startWrites step plan s).kept = s.kept := by
  unfold startWrites
  split <;> simp
@[simp] theorem kept_startReadsAt {step l} : (startReadsAt step l s).kept = s.kept := by
  unfold startReadsAt
  split <;> simp
@[simp] theorem kept_areaStep {r} : (areaStep r s).kept = s.kept := by
  unfold areaStep
  dsimp only
  (repeat' split) <;> simp
@[simp] theorem kept_beginWrite {r volume} : (beginWrite r volume s).kept = s.kept := by simp [beginWrite]
@[simp] theorem kept_beginRestore {r volume} : (beginRestore r volume s).kept = s.kept := by
  unfold beginRestore
  dsimp only
  (repeat' split) <;> simp
theorem kept_of_installKey {kwrap r t} (h : installKey kwrap r s = .inl t) : t.kept = s.kept := by
  unfold installKey at h
  extract_lets at h
  split at h
  · cases h
  split at h
  · cases h; rfl
  split at h
  · cases h
  · rw [← Sum.inl.inj h]
    exact kept_fresh.trans (kept_mk.trans kept_layRun)
theorem kept_of_installAll {kwrap} : ∀ {rs t} {s : State}, installAll kwrap rs s = .inl t → t.kept = s.kept
  | [], _, _, h => by cases h; rfl
  | r :: rs, t, s, h => by
    unfold installAll at h
    split at h
    · next hk => exact (kept_of_installAll h).trans (kept_of_installKey hk)
    · cases h
@[simp] theorem kept_finishRestore {r} : (finishRestore r s).kept = s.kept := by
  unfold finishRestore
  dsimp only
  split
  · simp
  split
  · simp
  split
  · next h => simp [kept_of_installAll h]
  · simp
@[simp] theorem kept_addShare {id z} : (addShare id z s).kept = s.kept := by
  unfold addShare
  dsimp only
  (repeat' split) <;> simp
@[simp] theorem kept_stepDone {r} : (stepDone r s).kept = s.kept := by
  unfold stepDone
  (repeat' split) <;> simp
@[simp] theorem kept_blockDone : (blockDone s).kept = s.kept := by
  unfold blockDone
  dsimp only
  (repeat' split) <;> simp
@[simp] theorem kept_readArrives {b} : (readArrives b s).kept = s.kept := by
  unfold readArrives
  (repeat' split) <;> simp
@[simp] theorem kept_writeAdvances : (writeAdvances s).kept = s.kept := by simp [writeAdvances]
@[simp] theorem kept_cardReady {wide hs blocks} : (cardReady wide hs blocks s).kept = s.kept := by
  unfold cardReady
  split <;> simp
@[simp] theorem kept_writeBkpCtrl {value} : (writeBkpCtrl value s).kept = s.kept := by
  unfold writeBkpCtrl
  dsimp only
  (repeat' split) <;> simp

/-! ## Card ports -/

@[simp] theorem kept_tryClass {k c} : (tryClass k c s).kept = s.kept := by
  unfold tryClass
  split <;> simp
@[simp] theorem kept_ocCardInsertDo {port} : (ocCardInsertDo port s).kept = s.kept := by simp [ocCardInsertDo]
@[simp] theorem kept_ocCardRemovalDo {port} : (ocCardRemovalDo port s).kept = s.kept := by simp [ocCardRemovalDo]
@[simp] theorem kept_ocWaitingTimeExpiryDo {port} : (ocWaitingTimeExpiryDo port s).kept = s.kept := by simp [ocWaitingTimeExpiryDo]
@[simp] theorem kept_startSelect {k} : (startSelect k s).kept = s.kept := (rfl)
@[simp] theorem kept_ocAtrReceivedDo {port atr} : (ocAtrReceivedDo port atr s).kept = s.kept := by
  unfold ocAtrReceivedDo
  (repeat' split) <;> simp
@[simp] theorem kept_ocPpsResponseDo {port good} : (ocPpsResponseDo port good s).kept = s.kept := by simp [ocPpsResponseDo]
@[simp] theorem kept_countCustodian {r id sig} : (countCustodian r id sig s).kept = s.kept := by simp [countCustodian]
@[simp] theorem kept_ocApduResponseDo {port answer sw} : (ocApduResponseDo port answer sw s).kept = s.kept := by
  unfold ocApduResponseDo
  dsimp only
  (repeat' split) <;> simp
@[simp] theorem kept_quorumWaitExpiryDo : (quorumWaitExpiryDo s).kept = s.kept := by
  unfold quorumWaitExpiryDo
  split <;> simp
@[simp] theorem kept_quorumTtlExpiryDo : (quorumTtlExpiryDo s).kept = s.kept := (rfl)
@[simp] theorem kept_sdCardInsertDo {wp} : (sdCardInsertDo wp s).kept = s.kept := by simp [sdCardInsertDo]
@[simp] theorem kept_sdCardRemovalDo : (sdCardRemovalDo s).kept = s.kept := by
  unfold sdCardRemovalDo
  dsimp only
  (repeat' split) <;> simp
@[simp] theorem kept_sdResponseDo {answer wp} : (sdResponseDo answer wp s).kept = s.kept := by
  unfold sdResponseDo
  split <;> simp
@[simp] theorem kept_sdTimeoutDo : (sdTimeoutDo s).kept = s.kept := by simp [sdTimeoutDo]
@[simp] theorem kept_bkpFormatDo {value} : (bkpFormatDo value s).kept = s.kept := by simp [bkpFormatDo]
@[simp] theorem kept_bkpWriteDo {value} : (bkpWriteDo value s).kept = s.kept := by simp [bkpWriteDo]
@[simp] theorem kept_bkpRestoreDo {value} : (bkpRestoreDo value s).kept = s.kept := by simp [bkpRestoreDo]
@[simp] theorem kept_bkpAbortDo {value} : (bkpAbortDo value s).kept = s.kept := by simp [bkpAbortDo]
@[simp] theorem kept_bkpWaitExpiryDo : (bkpWaitExpiryDo s).kept = s.kept := by
  unfold bkpWaitExpiryDo
  split <;> simp

/-! ## Engine faults and key caches -/

@[simp] theorem kept_engineFault {code event kind} : (engineFault code event kind s).kept = s.kept := by simp [engineFault]
@[simp] theorem kept_mangleFaultDo {mangle} : (mangleFaultDo mangle s).kept = s.kept := by simp [mangleFaultDo]
@[simp] theorem kept_darnerFaultDo {darner} : (darnerFaultDo darner s).kept = s.kept := by simp [darnerFaultDo]
@[simp] theorem kept_needleMemUncorrDo {needle} : (needleMemUncorrDo needle s).kept = s.kept := by simp [needleMemUncorrDo]
@[simp] theorem kept_engineMemoryTestDoneDo {engine passed} : (engineMemoryTestDoneDo engine passed s).kept = s.kept := by
  simp [engineMemoryTestDoneDo]
@[simp] theorem kept_correctedMemoryErrorDo {engine} : (correctedMemoryErrorDo engine s).kept = s.kept := by simp [correctedMemoryErrorDo]
@[simp] theorem kept_wringerLaneErrorDo {engine job} : (wringerLaneErrorDo engine job s).kept = s.kept := by
  unfold wringerLaneErrorDo
  dsimp only
  split
  · split
    · simp
    split
    · rw [kept_raiseEvent]
      split <;> simp
    · rfl
  · exact kept_raiseEvent.trans ((kept_elim (fun _ => kept_endWiping) rfl).trans kept_moveSuspended)
@[simp] theorem kept_wringerBlockBoundaryDo {engine} : (wringerBlockBoundaryDo engine s).kept = s.kept := by
  unfold wringerBlockBoundaryDo
  dsimp only
  (repeat' split) <;> simp
@[simp] theorem kept_indexCommitCompleteDo {key good} : (indexCommitCompleteDo key good s).kept = s.kept := by simp [indexCommitCompleteDo]
@[simp] theorem kept_ekcFillCompleteDo {job} : (ekcFillCompleteDo job s).kept = s.kept := by simp [ekcFillCompleteDo]
@[simp] theorem kept_writeEkcCtrl {value} : (writeEkcCtrl value s).kept = s.kept := by simp [writeEkcCtrl]
@[simp] theorem kept_ekcFlushDo {value} : (ekcFlushDo value s).kept = s.kept := by simp [ekcFlushDo]
@[simp] theorem kept_ekcEnableWriteDo {value} : (ekcEnableWriteDo value s).kept = s.kept := by simp [ekcEnableWriteDo]
@[simp] theorem kept_ekcQuotaWriteDo {slice value} : (ekcQuotaWriteDo slice value s).kept = s.kept := by simp [ekcQuotaWriteDo]
@[simp] theorem kept_writeDrnCtrl {value} : (writeDrnCtrl value s).kept = s.kept := by simp [writeDrnCtrl]
@[simp] theorem kept_dpkFlushDo {value} : (dpkFlushDo value s).kept = s.kept := by simp [dpkFlushDo]
@[simp] theorem kept_dpkQuotaWriteDo {slice value} : (dpkQuotaWriteDo slice value s).kept = s.kept := by simp [dpkQuotaWriteDo]
@[simp] theorem kept_dpkFillCompleteDo {job} : (dpkFillCompleteDo job s).kept = s.kept := by simp [dpkFillCompleteDo]

/-! ## Firmware banks -/

@[simp] theorem kept_loadPatch {k ws ms} : (loadPatch k ws ms s).kept = s.kept := by
  unfold loadPatch
  exact kept_mk
@[simp] theorem kept_modInactive {f} : (s.modInactive f).kept = s.kept := by simp [State.modInactive]
@[simp] theorem kept_selectOther {old} : (selectOther old s).kept = s.kept := by simp [selectOther]
@[simp] theorem kept_firmwareDefaults : (firmwareDefaults s).kept = s.kept := by simp [firmwareDefaults]
@[simp] theorem kept_swapBanks : (swapBanks s).kept = s.kept := by simp [swapBanks]
@[simp] theorem kept_doeReady : (doeReady s).kept = s.kept := by simp [doeReady]
@[simp] theorem kept_answerDiscovery : (answerDiscovery s).kept = s.kept := by simp [answerDiscovery]
@[simp] theorem kept_answerHeld : (answerHeld s).kept = s.kept := by simp [answerHeld]
@[simp] theorem kept_endActivation : (endActivation s).kept = s.kept := by simp [endActivation]

/-! ## The host link -/

@[simp] theorem kept_linkStateChangeDo {speed width flit dlActive} : (linkStateChangeDo speed width flit dlActive s).kept = s.kept := by
  simp [linkStateChangeDo]
@[simp] theorem kept_linkDown : (linkDown s).kept = s.kept := (rfl)
@[simp] theorem kept_writeLinkCtrl {value} : (writeLinkCtrl value s).kept = s.kept := by simp [writeLinkCtrl]
@[simp] theorem kept_retrainDo {value} : (retrainDo value s).kept = s.kept := by simp [retrainDo]
@[simp] theorem kept_atConfig {f : State → State} (h : ∀ s, (f s).kept = s.kept) : (atConfig f s).kept = s.kept := by simp [atConfig, h]
@[simp] theorem kept_busMasterEnableWriteDo {bme mse more} : (busMasterEnableWriteDo bme mse more s).kept = s.kept := by simp [busMasterEnableWriteDo]
@[simp] theorem kept_msixControlWriteDo {enable mask} : (msixControlWriteDo enable mask s).kept = s.kept := by simp [msixControlWriteDo]
@[simp] theorem kept_setVectorField {v fieldNo x} : (setVectorField v fieldNo x s).kept = s.kept := (rfl)
@[simp] theorem kept_msixTableWriteDo {offset wide value} : (msixTableWriteDo offset wide value s).kept = s.kept := by simp [msixTableWriteDo]
@[simp] theorem kept_retranslate : (retranslate s).kept = s.kept := by simp [retranslate]
@[simp] theorem kept_atsInvalidationRequestDo {tag glob slice page count} : (atsInvalidationRequestDo tag glob slice page count s).kept = s.kept := by
  simp [atsInvalidationRequestDo]
@[simp] theorem kept_atsInvalidationCompleteDo {tag} : (atsInvalidationCompleteDo tag s).kept = s.kept := by
  unfold atsInvalidationCompleteDo
  split <;> simp
@[simp] theorem kept_translationCompletionDo {slice page granted writeOk} : (translationCompletionDo slice page granted writeOk s).kept = s.kept := by
  simp [translationCompletionDo]
@[simp] theorem kept_doeRequestDo {protocol data} : (doeRequestDo protocol data s).kept = s.kept := by simp [doeRequestDo]
@[simp] theorem kept_doeAbortDo : (doeAbortDo s).kept = s.kept := by simp [doeAbortDo]
@[simp] theorem kept_spdmReply {code content} : (spdmReply code content s).kept = s.kept := by simp [spdmReply]
@[simp] theorem kept_spdmRefuse {code} : (spdmRefuse code s).kept = s.kept := by simp [spdmRefuse]
@[simp] theorem kept_spdmAt {ok} {f : State → State} (h : ∀ s, (f s).kept = s.kept) : (spdmAt ok f s).kept = s.kept := by
  simp [spdmAt, h]
@[simp] theorem kept_spdmGetVersionDo : (spdmGetVersionDo s).kept = s.kept := by simp [spdmGetVersionDo]
@[simp] theorem kept_spdmGetCapabilitiesDo {flags} : (spdmGetCapabilitiesDo flags s).kept = s.kept := by simp [spdmGetCapabilitiesDo]
@[simp] theorem kept_spdmNegotiateAlgorithmsDo {base hash} : (spdmNegotiateAlgorithmsDo base hash s).kept = s.kept := by
  simp [spdmNegotiateAlgorithmsDo]
@[simp] theorem kept_spdmGetDigestsDo : (spdmGetDigestsDo s).kept = s.kept := by simp [spdmGetDigestsDo]
@[simp] theorem kept_spdmGetCertificateDo {slot offset length} : (spdmGetCertificateDo slot offset length s).kept = s.kept := by
  unfold spdmGetCertificateDo
  split <;> simp
@[simp] theorem kept_spdmChallengeDo {slot nonce} : (spdmChallengeDo slot nonce s).kept = s.kept := by
  unfold spdmChallengeDo
  split <;> simp
@[simp] theorem kept_spdmGetMeasurementsDo {index sign nonce} : (spdmGetMeasurementsDo index sign nonce s).kept = s.kept := by
  refine kept_spdmAt fun s => ?_
  dsimp only
  split
  · simp
  · split <;> simp
@[simp] theorem kept_spdmKeyExchangeDo {slot random exchange} : (spdmKeyExchangeDo slot random exchange s).kept = s.kept := by
  unfold spdmKeyExchangeDo
  split <;> simp
@[simp] theorem kept_spdmFinishDo {verify} : (spdmFinishDo verify s).kept = s.kept := by simp [spdmFinishDo]
@[simp] theorem kept_spdmKeyUpdateDo : (spdmKeyUpdateDo s).kept = s.kept := by simp [spdmKeyUpdateDo]
@[simp] theorem kept_spdmHeartbeatDo : (spdmHeartbeatDo s).kept = s.kept := by simp [spdmHeartbeatDo]
@[simp] theorem kept_spdmEndSessionDo : (spdmEndSessionDo s).kept = s.kept := by simp [spdmEndSessionDo]
@[simp] theorem kept_ideStreamSecureDo {stream link} : (ideStreamSecureDo stream link s).kept = s.kept := by simp [ideStreamSecureDo]
@[simp] theorem kept_ideIntegrityFailureDo {stream} : (ideIntegrityFailureDo stream s).kept = s.kept := by simp [ideIntegrityFailureDo]

/-! ## The Pattern microcode store -/

@[simp] theorem kept_machineCheck {k cause parFail} : (machineCheck k cause parFail s).kept = s.kept := by simp [machineCheck]
@[simp] theorem kept_runWord {k w} : (runWord k w s).kept = s.kept := by
  unfold runWord
  dsimp only
  (repeat' split) <;> simp
@[simp] theorem kept_microwordExecuteDo {mangle} : (microwordExecuteDo mangle s).kept = s.kept := by
  simp only [microwordExecuteDo, kept_ite, kept_modMangle, kept_machineCheck, kept_runWord, kept_fresh]
  (repeat' split) <;> simp
@[simp] theorem kept_safePointWatchdogDo {mangle} : (safePointWatchdogDo mangle s).kept = s.kept := by simp [safePointWatchdogDo]
@[simp] theorem kept_patchReloadDo {mangle} : (patchReloadDo mangle s).kept = s.kept := by simp [patchReloadDo]
@[simp] theorem kept_patternPatchLoadDo {mangle} : (patternPatchLoadDo mangle s).kept = s.kept := by
  unfold patternPatchLoadDo
  split <;> simp

/-! ## The service link -/

@[simp] theorem kept_rslLinkUpDo : (rslLinkUpDo s).kept = s.kept := by simp [rslLinkUpDo]
@[simp] theorem kept_rslLinkDownDo : (rslLinkDownDo s).kept = s.kept := by simp [rslLinkDownDo]
@[simp] theorem kept_rslCloseDo : (rslCloseDo s).kept = s.kept := by simp [rslCloseDo]
@[simp] theorem kept_rslSessionTimeoutDo : (rslSessionTimeoutDo s).kept = s.kept := by simp [rslSessionTimeoutDo]
@[simp] theorem kept_svcFrameErrorDo : (svcFrameErrorDo s).kept = s.kept := (rfl)
@[simp] theorem kept_rslHelloDo {seq} : (rslHelloDo seq s).kept = s.kept := by simp [rslHelloDo]
@[simp] theorem kept_rslKexDo {seq point} : (rslKexDo seq point s).kept = s.kept := by simp [rslKexDo]
@[simp] theorem kept_rslKexDoneDo {seq ciphertext} : (rslKexDoneDo seq ciphertext s).kept = s.kept := by simp [rslKexDoneDo]
@[simp] theorem kept_imageBeginDo {seq} : (imageBeginDo seq s).kept = s.kept := by simp [imageBeginDo]
@[simp] theorem kept_imageDataDo {seq data} : (imageDataDo seq data s).kept = s.kept := by simp [imageDataDo]
@[simp] theorem kept_imageEndDo {seq} : (imageEndDo seq s).kept = s.kept := by
  refine kept_rslRequest fun s => ?_
  dsimp only
  split <;> simp
@[simp] theorem kept_activateDo {seq} : (activateDo seq s).kept = s.kept := by
  refine kept_rslRequest fun s => ?_
  dsimp only
  split <;> simp
@[simp] theorem kept_activationDrainCompleteDo : (activationDrainCompleteDo s).kept = s.kept := by simp [activationDrainCompleteDo]
@[simp] theorem kept_activationDrainTimeoutDo : (activationDrainTimeoutDo s).kept = s.kept := by
  unfold activationDrainTimeoutDo
  split <;> simp
@[simp] theorem kept_rslEventReadDo {seq first count} : (rslEventReadDo seq first count s).kept = s.kept := by simp [rslEventReadDo]
@[simp] theorem kept_rslEventClearDo {seq} : (rslEventClearDo seq s).kept = s.kept := by simp [rslEventClearDo]
@[simp] theorem kept_rslPatternReadDo {seq mangle} : (rslPatternReadDo seq mangle s).kept = s.kept := by simp [rslPatternReadDo]

/-! ## Tamper sources and the Vent -/

@[simp] theorem kept_tamperAlarm {code detail} : (tamperAlarm code detail s).kept = s.kept := by simp [tamperAlarm]
@[simp] theorem kept_sourceAlarm {n code detail} : (sourceAlarm n code detail s).kept = s.kept := by simp [sourceAlarm]
@[simp] theorem kept_tloopAlarmDo {loop bit} : (tloopAlarmDo loop bit s).kept = s.kept := by simp [tloopAlarmDo]
@[simp] theorem kept_caseSwAlarmDo {switch} : (caseSwAlarmDo switch s).kept = s.kept := by simp [caseSwAlarmDo]
@[simp] theorem kept_tamperAlarmDo {detector detail} : (tamperAlarmDo detector detail s).kept = s.kept := by simp [tamperAlarmDo]
@[simp] theorem kept_vbatLowWarningDo {mv} : (vbatLowWarningDo mv s).kept = s.kept := by simp [vbatLowWarningDo]
@[simp] theorem kept_tamperCommitDo {value} : (tamperCommitDo value s).kept = s.kept := by simp [tamperCommitDo]
@[simp] theorem kept_shadowMismatchDo {code detail} : (shadowMismatchDo code detail s).kept = s.kept := by
  unfold shadowMismatchDo
  dsimp only
  split
  · rfl
  · rw [kept_raiseEvent]
    split
    · exact kept_elim (fun _ => kept_endWiping) rfl
    · rfl
@[simp] theorem kept_lockstepMismatchDo : (lockstepMismatchDo s).kept = s.kept := by simp [lockstepMismatchDo]
@[simp] theorem kept_thimbleRestartCompleteDo : (thimbleRestartCompleteDo s).kept = s.kept := by simp [thimbleRestartCompleteDo]
@[simp] theorem kept_acknowledgeClass {c} : (acknowledgeClass c s).kept = s.kept := by simp [acknowledgeClass]
@[simp] theorem kept_ventAcknowledgeDo {high value} : (ventAcknowledgeDo high value s).kept = s.kept := by simp [ventAcknowledgeDo]
@[simp] theorem kept_ventAutoAcknowledgeDo {cls} : (ventAutoAcknowledgeDo cls s).kept = s.kept := by simp [ventAutoAcknowledgeDo]
@[simp] theorem kept_ventResumeDo {value} : (ventResumeDo value s).kept = s.kept := by simp [ventResumeDo]
@[simp] theorem kept_ventInjectDo {value} : (ventInjectDo value s).kept = s.kept := by
  unfold ventInjectDo
  dsimp only
  (repeat' split) <;> simp

/-! ## Life-cycle, debug rights, TAP -/

@[simp] theorem kept_eraseAll : (eraseAll s).kept = s.kept := by simp [eraseAll]
@[simp] theorem kept_wipe : (wipe s).kept = s.kept := by simp [wipe]
@[simp] theorem kept_startBurn {target seq repair} : (startBurn target seq repair s).kept = s.kept := by simp [startBurn]
@[simp] theorem kept_applyCert {c} : (applyCert c s).kept = s.kept := by
  unfold applyCert
  split <;> simp
@[simp] theorem kept_takeCert {seq c} : (takeCert seq c s).kept = s.kept := by simp [takeCert]
@[simp] theorem kept_takeTransition {seq target} : (takeTransition seq target s).kept = s.kept := by simp [takeTransition]
@[simp] theorem kept_takeLcsReq {r} : (takeLcsReq r s).kept = s.kept := by
  unfold takeLcsReq
  (repeat' split) <;> simp
@[simp] theorem kept_rslNonceDo {seq} : (rslNonceDo seq s).kept = s.kept := by
  refine kept_rslRequest fun s => ?_
  dsimp only
  split <;> simp
@[simp] theorem kept_rslCertDo {seq cert} : (rslCertDo seq cert s).kept = s.kept := by simp [rslCertDo]
@[simp] theorem kept_rslDeactivateDo {seq} : (rslDeactivateDo seq s).kept = s.kept := by simp [rslDeactivateDo]
@[simp] theorem kept_rslLcsTransitionDo {seq target} : (rslLcsTransitionDo seq target s).kept = s.kept := by simp [rslLcsTransitionDo]
@[simp] theorem kept_dacExpiryDo : (dacExpiryDo s).kept = s.kept := (rfl)
@[simp] theorem kept_haltThimble : (haltThimble s).kept = s.kept := by simp [haltThimble]
@[simp] theorem kept_thimbleHaltDo {seq sub} : (thimbleHaltDo seq sub s).kept = s.kept := by
  unfold thimbleHaltDo
  split <;> simp
@[simp] theorem kept_needleTraceDo {seq needle} : (needleTraceDo seq needle s).kept = s.kept := by simp [needleTraceDo]
@[simp] theorem kept_selectIr {ir} : (selectIr ir s).kept = s.kept := (rfl)
@[simp] theorem kept_tapResetDo : (tapResetDo s).kept = s.kept := (rfl)
@[simp] theorem kept_bypassDo : (bypassDo s).kept = s.kept := (rfl)
@[simp] theorem kept_drivePins {ir} : (drivePins ir s).kept = s.kept := by simp [drivePins]
@[simp] theorem kept_extestDo : (extestDo s).kept = s.kept := by simp [extestDo]
@[simp] theorem kept_extestPulseDo : (extestPulseDo s).kept = s.kept := by simp [extestPulseDo]
@[simp] theorem kept_extestTrainDo : (extestTrainDo s).kept = s.kept := by simp [extestTrainDo]
@[simp] theorem kept_clampDo : (clampDo s).kept = s.kept := by simp [clampDo]
@[simp] theorem kept_highzDo : (highzDo s).kept = s.kept := by simp [highzDo]
@[simp] theorem kept_samplePreloadDo {pins preload} : (samplePreloadDo pins preload s).kept = s.kept := (rfl)
@[simp] theorem kept_idcodeDo : (idcodeDo s).kept = s.kept := (rfl)
@[simp] theorem kept_ftmEnterDo : (ftmEnterDo s).kept = s.kept := by simp [ftmEnterDo]

/-! ## Resets, power and scrub events -/

@[simp] theorem kept_pinTo {was p level} : (pinTo was p level s).kept = s.kept := by simp [pinTo]
@[simp] theorem kept_cardsOff : (cardsOff s).kept = s.kept := by simp [cardsOff]
@[simp] theorem kept_pinsInReset : (pinsInReset s).kept = s.kept := by simp [pinsInReset]
@[simp] theorem kept_mainPowerReturnDo : (mainPowerReturnDo s).kept = s.kept := (rfl)
@[simp] theorem kept_bootBank : (bootBank s).kept = s.kept := by simp [bootBank]
@[simp] theorem kept_freshRoot : (freshRoot s).kept = s.kept := by simp [freshRoot]
@[simp] theorem kept_restartUses : (restartUses s).kept = s.kept := (rfl)
@[simp] theorem kept_moveEntry {e} : (moveEntry e s).kept = s.kept := by simp [moveEntry]
@[simp] theorem kept_moveBattLog : (moveBattLog s).kept = s.kept := by simp [moveBattLog]
@[simp] theorem kept_loadMirror : (loadMirror s).kept = s.kept := by simp [loadMirror]
@[simp] theorem kept_loadPatches : (loadPatches s).kept = s.kept := by
  unfold loadPatches
  exact kept_foldl (fun _ _ => kept_loadPatch) _ _
@[simp] theorem kept_thimbleStart : (thimbleStart s).kept = s.kept := by simp [thimbleStart]
@[simp] theorem kept_conventionalResetDo : (conventionalResetDo s).kept = s.kept := by simp [conventionalResetDo]
@[simp] theorem kept_perstDeassertDo : (perstDeassertDo s).kept = s.kept := (rfl)
@[simp] theorem kept_hifReadyDo : (hifReadyDo s).kept = s.kept := by simp [hifReadyDo]
@[simp] theorem kept_functionLevelResetDo : (functionLevelResetDo s).kept = s.kept := by simp [functionLevelResetDo]
@[simp] theorem kept_droopTripDo : (droopTripDo s).kept = s.kept := by simp [droopTripDo]
@[simp] theorem kept_droopClearDo : (droopClearDo s).kept = s.kept := (rfl)
@[simp] theorem kept_thermalHoldDo {tj} : (thermalHoldDo tj s).kept = s.kept := by simp [thermalHoldDo]
@[simp] theorem kept_thermalHoldReleaseDo {tj} : (thermalHoldReleaseDo tj s).kept = s.kept := by simp [thermalHoldReleaseDo]
@[simp] theorem kept_thermtripDo {tj} : (thermtripDo tj s).kept = s.kept := by simp [thermtripDo]
@[simp] theorem kept_startCreditTickDo : (startCreditTickDo s).kept = s.kept := by simp [startCreditTickDo]
@[simp] theorem kept_enginePowerGateDo {engine} : (enginePowerGateDo engine s).kept = s.kept := by simp [enginePowerGateDo]
@[simp] theorem kept_erefMeasurementDo {eref} : (erefMeasurementDo eref s).kept = s.kept := by simp [erefMeasurementDo]
@[simp] theorem kept_effWindowEndDo {cls energy} : (effWindowEndDo cls energy s).kept = s.kept := by simp [effWindowEndDo]
@[simp] theorem kept_smbAnswer {data} : (smbAnswer data s).kept = s.kept := by simp [smbAnswer]
@[simp] theorem kept_smbTemperatureDo : (smbTemperatureDo s).kept = s.kept := by simp [smbTemperatureDo]
@[simp] theorem kept_smbStatusDo : (smbStatusDo s).kept = s.kept := by simp [smbStatusDo]
@[simp] theorem kept_smbVbatDo : (smbVbatDo s).kept = s.kept := by simp [smbVbatDo]
@[simp] theorem kept_smbSerialDo : (smbSerialDo s).kept = s.kept := by simp [smbSerialDo]
@[simp] theorem kept_smbSuffixDo : (smbSuffixDo s).kept = s.kept := by simp [smbSuffixDo]
@[simp] theorem kept_smbDeviceIdDo : (smbDeviceIdDo s).kept = s.kept := by simp [smbDeviceIdDo]
@[simp] theorem kept_smbRevisionDo : (smbRevisionDo s).kept = s.kept := by simp [smbRevisionDo]
@[simp] theorem kept_sessionError {c} : (sessionError c s).kept = s.kept := by simp [sessionError]
@[simp] theorem kept_otherError {codes} : (otherError codes s).kept = s.kept := by simp [otherError]
@[simp] theorem kept_sramScrubErrorDo {region uncorrectable} : (sramScrubErrorDo region uncorrectable s).kept = s.kept := by
  unfold sramScrubErrorDo
  (repeat' split) <;> simp

/-! ## The Press -/

@[simp] theorem kept_pldaDo {k rd rs1 rs2} : (pldaDo k rd rs1 rs2 s).kept = s.kept := by simp [pldaDo]

/-! ## Registers of BAR0 -/

@[simp] theorem kept_clearRc {off} : (clearRc off s).kept = s.kept := by
  unfold clearRc
  (repeat' split) <;> simp
@[simp] theorem kept_readWord {off} : (readWord off s).1.kept = s.kept := by
  unfold readWord
  (repeat' split) <;> simp
@[simp] theorem kept_readBar {wide off} : (readBar wide off s).kept = s.kept := by simp [readBar]
@[simp] theorem kept_rcRegisterReadDo {offset} : (rcRegisterReadDo offset s).kept = s.kept := by simp [rcRegisterReadDo]
@[simp] theorem kept_counterLowReadDo {offset wide} : (counterLowReadDo offset wide s).kept = s.kept := by simp [counterLowReadDo]
@[simp] theorem kept_hostRead {bar offset size} : (hostRead bar offset size s).kept = s.kept := by
  unfold hostRead
  (repeat' split) <;> simp
@[simp] theorem kept_barAccessUnsupportedDo {bar offset size} : (barAccessUnsupportedDo bar offset size s).kept = s.kept := by
  simp [barAccessUnsupportedDo]
@[simp] theorem kept_writeLock {b value} : (writeLock b value s).kept = s.kept := by simp [writeLock]
@[simp] theorem kept_writeIdeBind {i v} : (writeIdeBind i v s).kept = s.kept := by simp [writeIdeBind]
@[simp] theorem kept_writeHif {o v} : (writeHif o v s).kept = s.kept := by
  unfold writeHif
  (repeat' split) <;> simp
@[simp] theorem kept_writeSlc {o v} : (writeSlc o v s).kept = s.kept := by
  unfold writeSlc
  (repeat' split) <;> simp
@[simp] theorem kept_writeSch {o v} : (writeSch o v s).kept = s.kept := by
  unfold writeSch
  (repeat' split) <;> simp
@[simp] theorem kept_writeEng {o v} : (writeEng o v s).kept = s.kept := by
  unfold writeEng
  (repeat' split) <;> simp
@[simp] theorem kept_writeCrd {o v} : (writeCrd o v s).kept = s.kept := by
  unfold writeCrd
  split <;> simp

/-! ## Task instructions -/

@[simp] theorem kept_fxinDo {k rd rs1 rs2 arg} : (fxinDo k rd rs1 rs2 arg s).kept = s.kept := by simp [fxinDo]
@[simp] theorem kept_fxoutDo {k rd rs1 rs2 arg} : (fxoutDo k rd rs1 rs2 arg s).kept = s.kept := by simp [fxoutDo]
@[simp] theorem kept_krecvDo {k rd rs1 rs2 arg} : (krecvDo k rd rs1 rs2 arg s).kept = s.kept := by
  refine kept_onNeedle fun j n s => ?_
  split
  · simp
  · split <;> simp
@[simp] theorem kept_randDo {k rd rs1 rs2 arg} : (randDo k rd rs1 rs2 arg s).kept = s.kept := by simp [randDo]
@[simp] theorem kept_endTaskDo {k rd rs1 rs2 arg} : (endTaskDo k rd rs1 rs2 arg s).kept = s.kept := by simp [endTaskDo]

/-! ## The Key Vault's own events -/

@[simp] theorem kept_wakeUses : (wakeUses s).kept = s.kept := (rfl)
@[simp] theorem kept_useReservationCommitDo {key} : (useReservationCommitDo key s).kept = s.kept := by simp [useReservationCommitDo]
@[simp] theorem kept_tmkRotationDo : (tmkRotationDo s).kept = s.kept := by simp [tmkRotationDo]
@[simp] theorem kept_tmkSweepCompleteDo : (tmkSweepCompleteDo s).kept = s.kept := by simp [tmkSweepCompleteDo]
@[simp] theorem kept_vrkShareRefreshDo : (vrkShareRefreshDo s).kept = s.kept := by simp [vrkShareRefreshDo]
@[simp] theorem kept_psRetentionRefreshDo : (psRetentionRefreshDo s).kept = s.kept := (rfl)
@[simp] theorem kept_rinseAssertDo {source detail} : (rinseAssertDo source detail s).kept = s.kept := by simp [rinseAssertDo]
@[simp] theorem kept_sramClearCompleteDo : (sramClearCompleteDo s).kept = s.kept := by simp [sramClearCompleteDo]

end Sys2Proof.Machine
end

section
/-! SUPPORT. What the commands that burn a fuse or change the seal state keep. -/
namespace Sys2Proof.Machine
variable {s t u : State}

/-- Fuses, seal and queue are as the statement on every step asks: the seal stays well-formed, no fuse goes back to 0, the queue is the same. -/
def KeepsFuses (s t : State) : Prop := sealOk s → sealOk t ∧ fusesKept s.otp t.otp ∧ t.pending = s.pending

theorem within_refl {n : Nat} (a : BitVec n) : within a a := BitVec.and_self
theorem within_or {n : Nat} (a b : BitVec n) : within a (a ||| b) := by
  ext i hi
  simp +contextual
theorem within_trans {n : Nat} {a b c : BitVec n} (hab : within a b) (hbc : within b c) : within a c := by
  unfold within at *
  rw [← hab, BitVec.and_assoc, hbc]

theorem fusesKept_refl (o : Otp) : fusesKept o o := by simp [fusesKept, within]
theorem fusesKept_trans {o p q : Otp} (h : fusesKept o p) (k : fusesKept p q) : fusesKept o q := by
  obtain ⟨ha, hb, hc, hma, hmb, hmc, ht, hv⟩ := h
  obtain ⟨ka, kb, kc, kma, kmb, kmc, kt, kv⟩ := k
  exact ⟨within_trans ha ka, within_trans hb kb, within_trans hc kc, within_trans hma kma, within_trans hmb kmb, within_trans hmc kmc,
    within_trans ht kt, kv.trans hv⟩

theorem KeepsFuses.of_kept (h : t.kept = s.kept) : KeepsFuses s t := by
  obtain ⟨ho, hm, hp⟩ := kept_eq_iff.mp h
  refine fun hs => ⟨?_, ho ▸ fusesKept_refl _, hp⟩
  rwa [sealOk, ho, hm]
theorem KeepsFuses.refl : KeepsFuses s s := .of_kept rfl
theorem KeepsFuses.trans (h : KeepsFuses s t) (k : KeepsFuses t u) : KeepsFuses s u := fun hs =>
  have ⟨ht, hst, hp⟩ := h hs
  have ⟨hu, htu, hq⟩ := k ht
  ⟨hu, fusesKept_trans hst htu, hq.trans hp⟩
theorem KeepsFuses.before (k : u.kept = t.kept) (h : KeepsFuses s t) : KeepsFuses s u := h.trans (.of_kept k)
theorem KeepsFuses.then (h : KeepsFuses s t) (k : u.kept = t.kept) : KeepsFuses s u := h.trans (.of_kept k)

theorem keepsFuses_atBar {f : State → State} (h : KeepsFuses s (f s)) : KeepsFuses s (atBar f s) := by
  unfold atBar
  split
  · exact h
  · exact .of_kept (by split <;> rfl)

theorem keepsFuses_tdisBurnDo {v} : KeepsFuses s (tdisBurnDo v s) := by
  unfold tdisBurnDo
  split
  · exact fun hs => ⟨hs, ⟨within_refl _, within_refl _, within_refl _, within_refl _, within_refl _, within_refl _, within_or .., rfl⟩, rfl⟩
  · exact .refl

theorem within_burnBits {target : BitVec 32} : ∀ {n w}, within w (burnBits target n w)
  | 0, w => within_refl w
  | n + 1, w => by
    unfold burnBits
    split
    · exact within_trans (within_or ..) within_burnBits
    · exact within_refl w

theorem fusesKept_burnUpTo {target n} {o : Otp} : fusesKept o (burnUpTo target n o) := by
  simp only [fusesKept, burnUpTo]
  exact ⟨within_burnBits, within_burnBits, within_burnBits, within_refl _, within_refl _, within_refl _, within_refl _, trivial⟩

theorem keepsFuses_interruptBurn : KeepsFuses s (interruptBurn s) := by
  unfold interruptBurn
  split
  · exact .refl
  · exact fun hs => ⟨hs, fusesKept_burnUpTo, rfl⟩

theorem keepsFuses_internalReset {c} : KeepsFuses s (internalReset c s) := by
  have h : KeepsFuses s (tornCommits (interruptBurn (pinsInReset s))) :=
    ((KeepsFuses.of_kept kept_pinsInReset).trans keepsFuses_interruptBurn).then kept_tornCommits
  exact h.then kept_mk

theorem keepsFuses_porstAssertDo {p} : KeepsFuses s (porstAssertDo p s) := keepsFuses_internalReset

theorem keepsFuses_brownOutDo {p} : KeepsFuses s (brownOutDo p s) := by
  unfold brownOutDo
  split
  · exact .of_kept (by simp)
  · exact keepsFuses_internalReset

theorem keepsFuses_mainPowerLossDo : KeepsFuses s (mainPowerLossDo s) := keepsFuses_internalReset.then kept_mk

theorem toNat_of_thermometer {w : BitVec 32} (h : thermometer w = true) : ∃ n ≤ 32, w.toNat = 2 ^ n - 1 := by
  have hw := w.isLt
  by_cases hm : w.toNat = 2 ^ 32 - 1
  · exact ⟨32, le_rfl, hm⟩
  have hs : (w + 1).toNat = w.toNat + 1 := by bv_omega
  have ha : (w.toNat + 1) &&& (w.toNat + 1 - 1) = 0 := by
    rw [Nat.and_comm, Nat.add_sub_cancel, ← hs, ← BitVec.toNat_and, eq_of_beq h]
    rfl
  obtain ⟨n, hn⟩ := (Nat.and_sub_one_eq_zero_iff_isPowerOfTwo (by omega)).mp ha
  refine ⟨n, (Nat.pow_le_pow_iff_right (by decide : 1 < 2)).mp (by omega), by omega⟩

theorem thermometer_of_toNat {w : BitVec 32} {n : Nat} (h : w.toNat = 2 ^ n - 1) : thermometer w = true := by
  have hw := w.isLt
  have hp := Nat.one_le_two_pow (n := n)
  by_cases hm : w.toNat = 2 ^ 32 - 1
  · rw [BitVec.eq_of_toNat_eq (y := BitVec.allOnes 32) hm]; decide
  have hs : (w + 1).toNat = w.toNat + 1 := by bv_omega
  refine beq_iff_eq.mpr (BitVec.eq_of_toNat_eq ?_)
  rw [BitVec.toNat_and, hs, Nat.and_comm]
  exact (Nat.and_sub_one_eq_zero_iff_isPowerOfTwo (n := w.toNat + 1) (by omega)).mpr ⟨n, by omega⟩

theorem within_of_le_thermometer {v w : BitVec 32} (hw : thermometer w = true) (h : v ≤ w) : v &&& w = v := by
  obtain ⟨n, -, hn⟩ := toNat_of_thermometer hw
  have hp := Nat.one_le_two_pow (n := n)
  rw [BitVec.le_def] at h
  refine BitVec.eq_of_toNat_eq ?_
  rw [BitVec.toNat_and, hn, Nat.and_two_pow_sub_one_eq_mod, Nat.mod_eq_of_lt (by omega)]

def nextBreak (w : BitVec 32) : BitVec 32 := (w <<< 1) ||| 1

theorem toNat_nextBreak (w : BitVec 32) : (nextBreak w).toNat = 2 * w.toNat % 2 ^ 32 + 1 := by
  have h : 2 * w.toNat % 2 ^ 32 = (w.toNat % 2 ^ 31) <<< 1 := by rw [Nat.shiftLeft_eq]; omega
  rw [nextBreak, BitVec.toNat_or, BitVec.toNat_shiftLeft, Nat.shiftLeft_eq, Nat.mul_comm, pow_one, h]
  exact (Nat.shiftLeft_add_eq_or_of_lt (by decide : 1 < 2 ^ 1) _).symm

theorem thermometer_nextBreak {w : BitVec 32} (h : thermometer w = true) : thermometer (nextBreak w) = true := by
  obtain ⟨n, hn, hw⟩ := toNat_of_thermometer h
  have hp := Nat.one_le_two_pow (n := n)
  rcases hn.lt_or_eq with hn | rfl
  · have hk : 2 ^ n ≤ 2 ^ 31 := Nat.pow_le_pow_right (by decide) (by omega)
    exact thermometer_of_toNat (n := n + 1) (by rw [toNat_nextBreak, pow_succ]; omega)
  · exact thermometer_of_toNat (n := 32) (by rw [toNat_nextBreak, hw]; rfl)

theorem le_nextBreak {w : BitVec 32} (h : thermometer w = true) : w ≤ nextBreak w := by
  obtain ⟨n, hn, hw⟩ := toNat_of_thermometer h
  have hp := Nat.one_le_two_pow (n := n)
  rw [BitVec.le_def, toNat_nextBreak]
  rcases hn.lt_or_eq with hn | rfl
  · have hk : 2 ^ n ≤ 2 ^ 31 := Nat.pow_le_pow_right (by decide) (by omega)
    omega
  · rw [hw]; decide

theorem within_nextBreak {w : BitVec 32} (h : thermometer w = true) : within w (nextBreak w) :=
  within_of_le_thermometer (thermometer_nextBreak h) (le_nextBreak h)

/-- The higher of the best copy so far and the next one, where that is valid. -/
def higher (m w : BitVec 32) : BitVec 32 := if thermometer w && decide (m < w) then w else m

theorem highestOf_eq (l : List (BitVec 32)) : highestOf l = l.foldl higher 0 := rfl

theorem thermometer_higher {m w : BitVec 32} (h : thermometer m = true) : thermometer (higher m w) = true := by
  unfold higher
  split
  · next hw => exact (Bool.and_eq_true_iff.mp hw).1
  · exact h

theorem le_higher (m w : BitVec 32) : m ≤ higher m w := by
  unfold higher
  split
  · next hw => exact BitVec.le_of_lt (of_decide_eq_true (Bool.and_eq_true_iff.mp hw).2)
  · exact BitVec.le_refl m

theorem le_higher_of_thermometer {m w : BitVec 32} (h : thermometer w = true) : w ≤ higher m w := by
  unfold higher
  split
  · exact BitVec.le_refl w
  · next hw => simpa [h] using hw

theorem le_foldl_higher {l : List (BitVec 32)} {m v : BitVec 32} (h : v ≤ m) : v ≤ l.foldl higher m :=
  List.foldlRecOn l higher h fun _ hb w _ => BitVec.le_trans hb (le_higher _ w)

theorem thermometer_highestOf (l : List (BitVec 32)) : thermometer (highestOf l) = true :=
  List.foldlRecOn l higher (motive := fun w => thermometer w = true) (by decide) fun _ h _ _ => thermometer_higher h

theorem le_highestOf {l : List (BitVec 32)} {w : BitVec 32} (hw : w ∈ l) (ht : thermometer w = true) : w ≤ highestOf l := by
  rw [highestOf_eq]
  generalize (0 : BitVec 32) = m
  induction hw generalizing m with
  | head l => exact le_foldl_higher (l := l) (le_higher_of_thermometer ht)
  | tail v _ ih => exact ih _

theorem keepsFuses_metStartup : KeepsFuses s (metStartup s) := by
  unfold metStartup
  dsimp only
  split
  · exact .refl
  split
  · exact fun _ => ⟨Or.inl rfl, fusesKept_refl _, rfl⟩
  next _ hall =>
  obtain ⟨ha, hb, hc⟩ : thermometer s.otp.msealA = true ∧ thermometer s.otp.msealB = true ∧ thermometer s.otp.msealC = true := by
    simpa [Otp.mseal] using hall
  split
  · exact fun _ => ⟨Or.inr ⟨ha, hb, hc⟩, fusesKept_refl _, rfl⟩
  · have ht := thermometer_highestOf s.otp.mseal
    have hw : ∀ {w}, w ∈ s.otp.mseal → thermometer w = true → within w (highestOf s.otp.mseal) :=
      fun hm h => within_of_le_thermometer ht (le_highestOf hm h)
    exact fun _ => ⟨Or.inr ⟨ht, ht, ht⟩, ⟨within_refl _, within_refl _, within_refl _, hw (by simp [Otp.mseal]) ha, hw (by simp [Otp.mseal]) hb,
      hw (by simp [Otp.mseal]) hc, within_refl _, rfl⟩, rfl⟩

theorem kept_afterBoot : (updateAttn (if s.svc.bootFailed then s else thimbleStart s)).kept = s.kept := by simp

theorem keepsFuses_startUpDo : KeepsFuses s (startUpDo s) := by
  unfold startUpDo
  split
  · exact .refl
  · refine .before kept_afterBoot (.trans ?_ keepsFuses_metStartup)
    exact .before kept_bootBank (.of_kept kept_mk)

theorem keepsFuses_rslRequest {q p} {f : State → State} (h : p s = true → KeepsFuses s (f s)) : KeepsFuses s (rslRequest q p f s) := by
  unfold rslRequest
  split
  · exact .refl
  split
  · exact .of_kept kept_sendAll
  split
  · next hp => exact h hp
  · exact .of_kept kept_rslAnswer

theorem sealOk_iff_of_ne (h : s.met.st ≠ .fuseInvalid) :
    sealOk s ↔ thermometer s.otp.msealA = true ∧ thermometer s.otp.msealB = true ∧ thermometer s.otp.msealC = true := or_iff_right h

theorem keepsFuses_metroUnsealDo {q} : KeepsFuses s (metroUnsealDo q s) := by
  refine keepsFuses_rslRequest fun hp => ?_
  obtain ⟨⟨⟨⟨-, hst⟩, -⟩, -⟩, -⟩ := by simpa only [Bool.and_eq_true] using hp
  have hok := (sealOk_iff_of_ne (s := s) (by rw [eq_of_beq hst]; decide)).mp
  refine .before (kept_rslAnswer.trans kept_logRecord) fun hs => ?_
  obtain ⟨ha, hb, hc⟩ := hok hs
  exact ⟨Or.inr ⟨thermometer_nextBreak ha, thermometer_nextBreak hb, thermometer_nextBreak hc⟩,
    ⟨within_refl _, within_refl _, within_refl _, within_nextBreak ha, within_nextBreak hb, within_nextBreak hc, within_refl _, rfl⟩, rfl⟩

/-- A change of the shown seal state alone keeps the fuses where the seal was valid. -/
theorem keepsFuses_of_valid (h : s.met.st ≠ .fuseInvalid) (ho : t.otp = s.otp) (hp : t.pending = s.pending) : KeepsFuses s t :=
  fun hs => ⟨Or.inr (ho ▸ (sealOk_iff_of_ne h).mp hs), ho ▸ fusesKept_refl _, hp⟩

theorem keepsFuses_metroResealDo {q} : KeepsFuses s (metroResealDo q s) := by
  refine keepsFuses_rslRequest fun hp => ?_
  obtain ⟨-, hst⟩ := by simpa only [Bool.and_eq_true] using hp
  dsimp only
  split
  · exact .of_kept kept_rslAnswer
  refine .before (kept_rslAnswer.trans kept_logRecord) ?_
  have hk : (if s.met.key = [] ∧ s.lcs.state ≠ .analysis then newMetKey s else s).kept = s.kept := by simp
  obtain ⟨ho, -, hq⟩ := kept_eq_iff.mp hk
  exact keepsFuses_of_valid (by rw [eq_of_beq hst]; decide) ho hq

/-- The three life-cycle words hold a target. -/
def burned (target : BitVec 32) (s : State) : State :=
  { s with otp.lcsA := s.otp.lcsA ||| target, otp.lcsB := s.otp.lcsB ||| target, otp.lcsC := s.otp.lcsC ||| target }

theorem keepsFuses_burned {target} : KeepsFuses s (burned target s) :=
  fun hs => ⟨hs, ⟨within_or .., within_or .., within_or .., within_refl _, within_refl _, within_refl _, within_refl _, rfl⟩, rfl⟩

theorem kept_lcsBurnCompleteDo {b} (h : s.lcs.burning = some b) : (lcsBurnCompleteDo s).kept = (burned b.target s).kept := by
  unfold lcsBurnCompleteDo burned
  rw [h]
  cases hq : b.seq <;> simp [hq]

theorem keepsFuses_lcsBurnCompleteDo : KeepsFuses s (lcsBurnCompleteDo s) := by
  cases h : s.lcs.burning with
  | none => simp only [lcsBurnCompleteDo, h]; exact .refl
  | some b => exact .before (kept_lcsBurnCompleteDo h) keepsFuses_burned

theorem keepsFuses_writeTmp {o v} : KeepsFuses s (writeTmp o v s) := by
  unfold writeTmp
  split
  · exact .of_kept kept_mk
  split
  · exact .of_kept kept_tamperCommitDo
  · exact .of_kept kept_mk
  · exact keepsFuses_tdisBurnDo
  · exact .of_kept kept_mk
  · exact .refl

theorem keepsFuses_writeReg {off v} : KeepsFuses s (writeReg off v s) := by
  unfold writeReg
  dsimp only
  split
  · exact .refl
  split
  · exact .of_kept kept_writeLock
  split
  case h_6 => exact keepsFuses_writeTmp
  all_goals exact .of_kept (by simp)

theorem keepsFuses_registerWriteDo {off w v} : KeepsFuses s (registerWriteDo off w v s) := by
  by_cases ha : off.toNat % (if w then 8 else 4) ≠ 0
  · exact .of_kept (by rw [registerWriteDo, if_pos ha, kept_emit])
  · rw [registerWriteDo, if_neg ha]
    cases w
    · exact keepsFuses_writeReg
    · exact keepsFuses_writeReg.trans keepsFuses_writeReg

end Sys2Proof.Machine
end

section
/-! SUPPORT. The statement on every step. -/
namespace Sys2Proof.Machine

variable {s t u : State}

theorem keepsFuses_of_next (h : (.next u : Host.Outcome State Fault Refusal) = .next t) (k : KeepsFuses s u) : KeepsFuses s t :=
  Host.Outcome.next.inj h ▸ k

/-- Ten commands can burn a fuse or change the seal state. The instructions of a Needle act through `stitch`, the vector ones through
`bolt`; every other command keeps all three parts by the lemmas on its function. -/
theorem exec_keepsFuses (c : Instr) (h : exec c s = .next t) : KeepsFuses s t := by
  cases c with
  | porstAssert => exact keepsFuses_of_next h keepsFuses_porstAssertDo
  | startUp => exact keepsFuses_of_next h keepsFuses_startUpDo
  | brownOut => exact keepsFuses_of_next h keepsFuses_brownOutDo
  | mainPowerLoss => exact keepsFuses_of_next h keepsFuses_mainPowerLossDo
  | tdisBurn => exact keepsFuses_of_next h (keepsFuses_atBar keepsFuses_tdisBurnDo)
  | blockLock => exact keepsFuses_of_next h (keepsFuses_atBar keepsFuses_writeReg)
  | registerWrite => exact keepsFuses_of_next h (keepsFuses_atBar keepsFuses_registerWriteDo)
  | lcsBurnComplete => exact keepsFuses_of_next h keepsFuses_lcsBurnCompleteDo
  | metroUnseal => exact keepsFuses_of_next h keepsFuses_metroUnsealDo
  | metroReseal => exact keepsFuses_of_next h keepsFuses_metroResealDo
  | add | sub | and | or | xor | sll | srl | sra | slt | sltu | mul | mulh | mulhu | divs | divu | rems | remu | movnz | addi | andi | ori
  | xori | slli | srli | srai | lui | ld8u | ld16u | ld32u | ld64 | ld8s | ld16s | ld32s | st8 | st16 | st32 | st64 | fld | fst | cbr | jr
  | callr | ret | call | fadd | fsub | fmul | fdiv | fsqrt | fma | fmin | fmax | fcmpEq | fcmpLt | fcmpLe | fcvtDL | fcvtLD | fmvXD | fmvDX
  | fcsrR | fcsrW | pmac | pshr | prd | pclr | pldacc =>
    exact keepsFuses_of_next h (.of_kept kept_stitch)
  | vadd | vsub | vand | vor | vxor | vmul | vmulhu | vsll | vsrl | vsra | vmin | vmax | vminu | vmaxu =>
    exact keepsFuses_of_next h (.of_kept kept_vecOp)
  | vcmpEq | vcmpLt | vcmpLtu => exact keepsFuses_of_next h (.of_kept kept_vecCmp)
  | vfadd | vfsub | vfmul | vfdiv => exact keepsFuses_of_next h (.of_kept kept_vecFp2)
  | vfsqrt | vfcvtDL | vfcvtLD => exact keepsFuses_of_next h (.of_kept kept_vecFp1)
  | vsetvl | vbcast | vext | vredAdd | vsad | vfma | vld | vlds | vgather | vst | vsts | vscatter =>
    exact keepsFuses_of_next h (.of_kept kept_bolt)
  | _ => exact keepsFuses_of_next h (.of_kept (by simp))

/-- Settles O60: `exec_keepsFuses` for the command at the front, which acts on the state whose queue has lost it. -/
theorem everyStepKeepsFusesAndQueue : Obligations.EveryStepKeepsFusesAndQueue := by
  unfold Obligations.EveryStepKeepsFusesAndQueue
  intro s t hs h
  unfold step at h
  split at h
  case h_1 hq =>
    cases Host.Outcome.next.inj h
    exact ⟨hs, fusesKept_refl _, by simp [hq]⟩
  case h_2 c rest hq =>
    obtain ⟨ht, hf, hp⟩ := exec_keepsFuses (s := { s with pending := rest }) c h hs
    exact ⟨ht, hf, by simpa [hq] using hp⟩

end Sys2Proof.Machine
end

section
/-! SUPPORT. What becomes of a job that ends with a fault of its engine. -/
namespace Sys2Proof.Machine

variable {s t : State} {id k status : Nat} {P Q : Job → Prop}

/-! ## Operations that leave the jobs alone -/

@[simp] theorem countLoad_jobs {c : Nat} : (countLoad c s).jobs = s.jobs := by unfold countLoad; split <;> rfl
@[simp] theorem leaveWho_jobs {c : Nat} {w : Who} : (leaveWho c w s).jobs = s.jobs := by
  unfold leaveWho
  dsimp only
  (repeat' split) <;> simp
@[simp] theorem leaveLane_jobs {j : Job} : (leaveLane j s).jobs = s.jobs := by unfold leaveLane; split <;> simp
@[simp] theorem leaveTree_jobs {c : Nat} : (leaveTree c s).jobs = s.jobs := by
  unfold leaveTree
  split
  · exact foldl_keeps State.jobs _ (fun _ _ => leaveWho_jobs) _ _
  · rfl
@[simp] theorem freeSlots_jobs {kt : Bool} {i n : Nat} : (freeSlots kt i n s).jobs = s.jobs :=
  foldl_keeps State.jobs _ (fun _ _ => modSlot_jobs ..) _ _
@[simp] theorem sweepRuns_jobs : (sweepRuns s).jobs = s.jobs := foldl_keeps State.jobs _ (fun _ _ => freeSlots_jobs) _ _
@[simp] theorem sweepOld_jobs : (sweepOld s).jobs = s.jobs := by unfold sweepOld; rw [sweepRuns_jobs]; split <;> rfl
@[simp] theorem releaseRun_jobs {kt : Bool} {first count i : Nat} {g : BitVec 16} : (releaseRun kt first count i g s).jobs = s.jobs := by
  unfold releaseRun; split <;> simp
@[simp] theorem invalidateKey_jobs {kt : Bool} {i : Nat} {g : BitVec 16} : (invalidateKey kt i g s).jobs = s.jobs := rfl
@[simp] theorem deleteKey_jobs {kt : Bool} {i : Nat} : (deleteKey kt i s).jobs = s.jobs := by
  unfold deleteKey
  dsimp only
  rw [modSlot_jobs]
  split <;> simp

/-! ## Every job of a number -/

/-- What the end of a computation reads and writes of a job. -/
def Job.standing (j : Job) : Option Nat × Phase × Nat × List (Nat × Bytes) := (j.parent, j.phase, j.status, j.outs)

/-- There is a job of that number, and `P` holds of every one. -/
def State.each (s : State) (id : Nat) (P : Job → Prop) : Prop := (∃ j ∈ s.jobs, j.id = id) ∧ ∀ j ∈ s.jobs, j.id = id → P j

theorem each_of_jobs (h : t.jobs = s.jobs) (hs : s.each id P) : t.each id P := by rwa [State.each, h]

theorem each_of_map {g : Job → Job} (h : t.jobs = s.jobs.map g) (hid : ∀ j, (g j).id = j.id) (hg : ∀ j, j.id = id → P j → Q (g j))
    (hs : s.each id P) : t.each id Q := by
  obtain ⟨⟨j, hj, hi⟩, hall⟩ := hs
  rw [State.each, h]
  refine ⟨⟨g j, List.mem_map_of_mem hj, (hid j).trans hi⟩, fun u hu hui => ?_⟩
  obtain ⟨v, hv, rfl⟩ := List.mem_map.mp hu
  have hvi := (hid v).symm.trans hui
  exact hg v hvi (hall v hv hvi)

theorem each_of_mapIf {p : Job → Bool} {f : Job → Job} (h : t.jobs = mapIf p f s.jobs) (hid : ∀ j, (f j).id = j.id)
    (hf : ∀ j, j.id = id → p j = true → P j → P (f j)) (hs : s.each id P) : t.each id P := by
  refine each_of_map h (fun j => ?_) (fun j hj hPj => ?_) hs
  · split
    · exact hid j
    · rfl
  · split
    · next hp => exact hf j hj hp hPj
    · exact hPj

theorem each_modJob {f : Job → Job} (hid : ∀ j, (f j).id = j.id) (hf : k = id → ∀ j, P j → P (f j)) (hs : s.each id P) :
    (s.modJob k f).each id P :=
  each_of_mapIf rfl hid (fun j hj hk => hf ((eq_of_beq hk).symm.trans hj) j) hs

theorem each_modJob_same {f : Job → Job} (hid : ∀ j, (f j).id = j.id) (hf : ∀ j, Q (f j)) (hs : s.each id P) :
    (s.modJob id f).each id Q := by
  refine each_of_map (s := s) rfl (fun j => ?_) (fun j hj _ => ?_) hs
  · split
    · exact hid j
    · rfl
  · rw [if_pos (beq_iff_eq.mpr hj)]
    exact hf j

theorem each_dropJob (h : k ≠ id) (hs : s.each id P) : (s.dropJob k).each id P := by
  obtain ⟨⟨j, hj, hi⟩, hall⟩ := hs
  refine ⟨⟨j, List.mem_filter.mpr ⟨hj, ?_⟩, hi⟩, fun u hu => hall u (List.mem_filter.mp hu).1⟩
  simpa [hi] using h.symm

theorem each_foldl {α : Type} {f : State → α → State} {l : List α} (h : ∀ u, ∀ a ∈ l, u.each id P → (f u a).each id P) (hs : s.each id P) :
    (l.foldl f s).each id P := List.foldlRecOn (motive := fun u => u.each id P) l f hs fun u hu a ha => h u a ha hu

theorem job_of_each (h : s.each id P) : ∃ j, s.job? id = some j ∧ P j := by
  obtain ⟨⟨j, hj, hi⟩, hall⟩ := h
  obtain ⟨u, hu⟩ := Option.isSome_iff_exists.mp (List.find?_isSome (p := fun j => j.id == id) |>.mpr ⟨j, hj, by simpa using hi⟩)
  exact ⟨u, hu, hall u (List.mem_of_find?_eq_some hu) (job_id hu)⟩

/-! ## What lasts while other jobs end -/

/-- The end of a job with its status. -/
def Job.wiped (status : Nat) (j : Job) : Job := { j with status := status, outs := [], phase := .wiping, stop := none }

/-- A property that no end of another job takes from a job: it reads the standing alone, it outlives a cache fill that is given up, and of an
engine task it outlives the stop of all tasks of its job, which drops a task only before it runs. -/
structure Lasting (P : Job → Prop) : Prop where
  same : ∀ {j i : Job}, i.standing = j.standing → P j → P i
  woken : ∀ {j : Job}, j.phase = .held .cacheFill → P j → P { j with phase := .ready }
  stopped : ∀ {j i : Job} {status : Nat}, j.phase = .running → P j → P i → P (i.wiped status)
  runs : ∀ {j : Job}, j.parent.isSome → P j → j.phase = .running ∨ j.phase = .decided ∨ j.phase = .wiping

/-- A job that the stop of the tasks of a job does not drop. -/
def Job.outlasts (j : Job) : Prop := j.parent = none ∨ j.phase = .running ∨ j.phase = .decided ∨ j.phase = .wiping

/-- A job that has ended with a fault of its engine and is wiped. -/
def Job.faultWiped (j : Job) : Prop := (j.phase, j.status, j.outs) = (.wiping, stEngineFault, [])

theorem lasting_outlasts : Lasting Job.outlasts where
  same h := by
    obtain ⟨hp, hq, -⟩ := by simpa only [Job.standing, Prod.mk.injEq] using h
    simp only [Job.outlasts, hp, hq, imp_self]
  woken h := by simp [Job.outlasts, h]
  stopped _ _ _ := Or.inr (Or.inr (Or.inr rfl))
  runs h hj := hj.resolve_left (Option.isSome_iff_ne_none.mp h)

theorem lasting_faultWiped : Lasting Job.faultWiped where
  same h := by
    obtain ⟨-, hp, hs, ho⟩ := by simpa only [Job.standing, Prod.mk.injEq] using h
    simp only [Job.faultWiped, hp, hs, ho, imp_self]
  woken h := by simp [Job.faultWiped, h]
  stopped h := by simp [Job.faultWiped, h]
  runs _ hj := Or.inr (Or.inr (congrArg Prod.fst hj))

theorem each_mono (h : ∀ j, P j → Q j) (hs : s.each id P) : s.each id Q := ⟨hs.1, fun j hj hi => h j (hs.2 j hj hi)⟩

theorem each_outlasts (hs : s.each id Job.faultWiped) : s.each id Job.outlasts :=
  each_mono (fun _ hj => Or.inr (Or.inr (Or.inr (congrArg Prod.fst hj)))) hs

section
variable (hP : Lasting P)
include hP

theorem each_modJob_standing {f : Job → Job} (hid : ∀ j, (f j).id = j.id) (hf : ∀ j, (f j).standing = j.standing) (hs : s.each id P) :
    (s.modJob k f).each id P := each_modJob hid (fun _ j => hP.same (hf j)) hs

theorem each_dropSession {j : Job} (hs : s.each id P) : (dropSession j s).each id P := by
  unfold dropSession
  split
  · exact each_modJob_standing hP (fun _ => rfl) (fun _ => rfl) (each_of_jobs (modCtx_jobs ..) hs)
  · exact hs

theorem each_restoreCtx {j : Job} (hs : s.each id P) : (restoreCtx j s).each id P := by
  unfold restoreCtx
  split
  · exact each_modJob_standing hP (fun _ => rfl) (fun _ => rfl) (each_of_jobs (modCtx_jobs ..) hs)
  · exact hs

theorem each_dropMade {j : Job} (hs : s.each id P) : (dropMade j s).each id P := by
  unfold dropMade
  split
  · exact each_modJob_standing hP (fun _ => rfl) (fun _ => rfl) (each_of_jobs deleteKey_jobs hs)
  · exact hs

theorem each_wakeFill {e : CacheEntry} (hs : s.each id P) : (wakeFill e s).each id P := by
  refine each_of_mapIf rfl (fun _ => rfl) (fun j _ hw => hP.woken ?_) hs
  simp only [Bool.and_eq_true, beq_iff_eq] at hw
  exact hw.1.1

theorem each_dropFills (hs : s.each id P) : (dropFills k s).each id P := by
  unfold dropFills
  dsimp only
  split
  · exact hs
  · exact each_foldl (fun _ _ _ => each_wakeFill hP) (each_of_jobs rfl hs)

omit hP in
theorem each_dropReplacing (hs : s.each id P) : (dropReplacing k s).each id P := by
  unfold dropReplacing
  split
  · exact hs
  · exact each_of_jobs freeSlots_jobs hs

theorem each_undo (hs : s.each id P) : (undo k s).each id P := by
  unfold undo
  split
  · refine each_dropReplacing (each_dropFills hP (each_dropMade hP (each_restoreCtx hP (each_dropSession hP (each_of_jobs ?_ hs)))))
    split <;> simp
  · exact hs

theorem each_beginWipe (hf : k = id → ∀ j, P j → P (j.wiped status)) (hs : s.each id P) : (beginWipe k status s).each id P :=
  each_modJob (fun _ => rfl) hf (each_undo hP hs)

omit hP in
theorem each_retire {j : Job} (h : j.id ≠ id) (hs : s.each id P) : (retire j s).each id P :=
  each_of_jobs (by simp [retire]) (each_dropJob h hs)

theorem each_decideLate (hs : s.each id P) : (decideLate k s).each id P := by
  unfold decideLate
  split
  · exact hs
  · next j _ =>
    let late := j.parent.isNone && (s.effDeadline j).elim false (fun d => tickAfter s.tick d)
    have hm := each_modJob_standing (k := k) (f := fun j => { j with late := late }) hP (fun _ => rfl) (fun _ => rfl) hs
    dsimp only
    split
    · exact each_of_jobs rfl hm
    · exact hm

theorem each_stopTasks (hs : s.each id P) : (stopTasks k status s).each id P := by
  refine each_foldl (fun u t ht hu => ?_) hs
  obtain ⟨htm, htp⟩ := List.mem_filter.mp ht
  have htP : t.id = id → P t := hs.2 t htm
  have hmod {f : Job → Job} := @each_modJob_standing u id t.id P hP f
  split
  · next hr =>
    have hu := hmod (f := fun t => { t with suppressed := true, stop := some (t.stop.getD status) }) (fun _ => rfl) (fun _ => rfl) hu
    dsimp only
    split
    · exact each_beginWipe hP (fun hi _ => hP.stopped hr (htP hi)) hu
    · exact hu
  · exact hmod (fun _ => rfl) (fun _ => rfl) hu
  · exact hmod (fun _ => rfl) (fun _ => rfl) hu
  · next hr hd hw =>
    have hsome : t.parent.isSome := by simp [eq_of_beq htp]
    refine each_retire (fun hi => ?_) (each_undo hP hu)
    rcases hP.runs hsome (htP hi) with h | h | h
    · exact hr h
    · exact hd h
    · exact hw h

theorem each_taskFailed {p : Nat} (hs : s.each id P) : (taskFailed p k status s).each id P :=
  each_stopTasks hP (each_modJob_standing hP (fun _ => rfl) (fun _ => rfl) hs)

/-- The end of a job is its wiping and then what happens to its tasks or to its parent, which takes nothing lasting away. -/
theorem each_endWiping_of_beginWipe (hn : s.job? k = none → s.each id P) (hw : (beginWipe k status s).each id P) :
    (endWiping k status s).each id P := by
  unfold endWiping
  split
  · next h => exact hn h
  · dsimp only
    split
    · split
      · exact hw
      · exact each_taskFailed hP hw
    · exact each_stopTasks hP (each_decideLate hP hw)

theorem each_endWiping (hf : ∀ j, P j → P (j.wiped status)) (hs : s.each id P) : (endWiping k status s).each id P :=
  each_endWiping_of_beginWipe hP (fun _ => hs) (each_beginWipe hP (fun _ => hf) hs)

end

/-! ## The fault of several jobs -/

theorem each_endWiping_same (hs : s.each id Job.outlasts) : (endWiping id stEngineFault s).each id Job.faultWiped := by
  refine each_endWiping_of_beginWipe lasting_faultWiped (fun hn => ?_) ?_
  · obtain ⟨j, hj, -⟩ := job_of_each hs
    cases hn.symm.trans hj
  · exact each_modJob_same (fun _ => rfl) (fun _ => rfl) (each_undo lasting_outlasts hs)

/-- A job that the stop of tasks does not drop is wiped with ENGINE_FAULT once the faults of all jobs of a list with it are through. -/
theorem each_foldl_endWiping {j : Job} {l : List Job} (hj : j ∈ l) (hs : s.each j.id Job.outlasts) :
    (l.foldl (fun s j => endWiping j.id stEngineFault s) s).each j.id Job.faultWiped := by
  obtain ⟨a, b, rfl⟩ := List.append_of_mem hj
  rw [List.foldl_append, List.foldl_cons]
  have ha := each_foldl (f := fun s j => endWiping j.id stEngineFault s) (l := a)
    (fun _ _ _ => each_endWiping lasting_outlasts fun _ _ => Or.inr (Or.inr (Or.inr rfl))) hs
  exact each_foldl (fun _ _ _ => each_endWiping lasting_faultWiped fun _ _ => rfl) (each_endWiping_same ha)

/-! ## An uncorrectable error in a session context (R184) -/

/-- A job that an error in context `c` ends. -/
def Job.uses (c : Nat) (j : Job) : Bool := (j.session == some c || (isStep j.opcode && j.ctxOf == c)) && j.faulted

/-- The state in which the event of an error in context `c` is raised: the jobs that use it are ended and it is freed. -/
def sessionEnded (c : Nat) (s : State) : State :=
  let s := (s.jobs.filter (Job.uses c)).foldl (fun s j => endWiping j.id stEngineFault s) s
  if (s.ctx c).isOpen then freeCtx c s else s

theorem sessionError_eq {c : Nat} : sessionError c s = raiseNote 0x13 0 (sessionEnded c s) := rfl

theorem ctx_freeCtx {c : Nat} : (freeCtx c s).ctx c = { sgen := (s.ctx c).sgen + 1 } :=
  ctx_modCtx s c fun x => { sgen := x.sgen + 1 }

theorem ctx_sessionEnded {c : Nat} : ((sessionEnded c s).ctx c).isOpen = false := by
  unfold sessionEnded
  dsimp only
  split
  · rw [ctx_freeCtx]
  · next h => exact eq_false_of_ne_true h

theorem each_freeCtx {c : Nat} (hP : Lasting P) (hs : s.each id P) : (freeCtx c s).each id P :=
  each_of_map (P := P) (Q := P) rfl (fun _ => rfl) (fun j _ hj => hP.same (j := j) rfl hj) hs

theorem sessionEnded_wipes {c : Nat} {j : Job} (hj : s.job? id = some j) (hu : j.uses c = true)
    (h : ∀ t ∈ s.jobs, t.id = id → t.outlasts) : ∃ i, (sessionEnded c s).job? id = some i ∧ i.faultWiped := by
  obtain rfl := job_id hj
  have hm := List.mem_of_find?_eq_some hj
  have hw := each_foldl_endWiping (List.mem_filter.mpr ⟨hm, hu⟩) ⟨⟨j, hm, rfl⟩, h⟩
  refine job_of_each ?_
  unfold sessionEnded
  dsimp only
  split
  · exact each_freeCtx lasting_faultWiped hw
  · exact hw

end Sys2Proof.Machine
end

section
/-! SUPPORT. The statement on clock, temperature, credit, efficiency, SMBus and scrub events. -/
namespace Sys2Proof.Machine

variable {s : State}

/-! ## In reset, and the SMBus target (R523, R540) -/

/-- In reset a power event does nothing. -/
theorem exec_powerEvent_reset (h : s.pwr.inReset = true) {tj : BitVec 8} {eref energy : Nat} {cls : BitVec 3} {region : SramRegion} :
    ∀ c ∈ [Instr.droopTrip, .thermalHold tj, .thermalHoldRelease tj, .thermtrip tj, .startCreditTick, .erefMeasurement eref,
      .effWindowEnd cls energy, .sramScrubError region true, .sramScrubError region false], exec c s = .next s := by
  simp only [List.forall_mem_cons]
  exact ⟨congrArg _ (if_pos h), congrArg _ (if_pos h), congrArg _ (if_pos h), congrArg _ (if_pos (.inl h)), congrArg _ (if_pos h),
    congrArg _ (if_pos h), congrArg _ (if_pos (.inl h)), congrArg _ (if_pos h), congrArg _ (if_pos h), List.forall_mem_nil _⟩

/-- Each read of the SMBus target with the bytes that answer it. -/
def smbReads (s : State) : List (Instr × Bytes) :=
  [(.smbTemperature, [s.pwr.tj]), (.smbVbat, leBytes 2 s.tmp.vbat.toNat), (.smbSerial, leBytes 8 Config.serial.toNat),
    (.smbSuffix, [if s.otp.variantL then 0x4C else 0x53]), (.smbDeviceId, [0x80, 0x64]), (.smbRevision, [Config.revision]),
    (.smbStatus, leBytes 1 (flag s.pwr.thermtrip + 2 * flag s.vent.halt + 4 * flag s.tmp.rinse + 16 * s.lcs.state.code))]

theorem exec_of_mem_smbReads : ∀ c b, (c, b) ∈ smbReads s → exec c s = .next (smbAnswer b s) := by
  refine forall_pair_of_forall_mem ?_
  simp only [smbReads, List.forall_mem_cons]
  exact ⟨rfl, rfl, rfl, rfl, rfl, rfl, rfl, List.forall_mem_nil _⟩

/-! ## Gating an idle engine and Start Credits (R524, R525) -/

theorem idleEngine_iff {e : Nat} : s.idleEngine e = true ↔ s.busy e = false ∧ (isLane e = false ∨ s.held e = 0) := by
  simp [State.idleEngine]

theorem enginePowerGate_idle {engine : BitVec 7} (h : s.pwr.inReset = false ∧ s.pwr.gateIdle ≠ 0 ∧ engine.toNat < 0x70 ∧
    s.busy engine.toNat = false ∧ (isLane engine.toNat = false ∨ s.held engine.toNat = 0)) :
    exec (.enginePowerGate engine) s = .next { s with pwr.gated := tput s.pwr.gated false engine.toNat true } := by
  obtain ⟨hup, hg, he, hidle⟩ := h
  exact congrArg _ ((if_neg (by simp [hup])).trans (if_pos ⟨hg, he, idleEngine_iff.mpr hidle⟩))

theorem enginePowerGate_busy {engine : BitVec 7} (h : ¬(s.pwr.inReset = false ∧ s.pwr.gateIdle ≠ 0 ∧ engine.toNat < 0x70 ∧
    s.busy engine.toNat = false ∧ (isLane engine.toNat = false ∨ s.held engine.toNat = 0))) :
    exec (.enginePowerGate engine) s = .next s := by
  have hgate : powered (enginePowerGateDo engine) s = s := by
    unfold powered
    split
    · rfl
    · next hr => exact if_neg fun ⟨hg, he, hidle⟩ => h ⟨eq_false_of_ne_true hr, hg, he, idleEngine_iff.mp hidle⟩
  exact congrArg Host.Outcome.next hgate

theorem exec_startCreditTick (h : s.pwr.inReset = false) :
    exec .startCreditTick s = .next (grantCredits s.pwr.creditQueue { s with pwr.credits := min 16 (s.pwr.credits + 1) }) :=
  congrArg _ (if_neg (by simp [h]))

theorem grantCredits_empty (h : s.pwr.creditQueue = []) : grantCredits [] s = s := by simp only [grantCredits, ← h]

theorem grantCredits_short {u : Nat} {q : List Nat} (h : s.pwr.creditQueue = u :: q) (hc : s.pwr.credits < creditCost u) :
    grantCredits (u :: q) s = s := by
  rw [grantCredits, if_neg (Nat.not_le.mpr hc), ← h]

/-- One waiting unit that the credits cover ungates; from 0x80 on it is the vector unit of a Needle, which then runs. -/
theorem grantCredits_one {u : Nat} (hc : creditCost u ≤ s.pwr.credits) : (grantCredits [u] s).pwr.credits = s.pwr.credits - creditCost u ∧
    (grantCredits [u] s).pwr.creditQueue = [] ∧ (grantCredits [u] s).isGated u = false ∧ (grantCredits [u] s).jobs = s.jobs ∧
    (0x80 ≤ u → ((grantCredits [u] s).needle (u - 0x80)).bolt = (s.needle (u - 0x80)).running) := by
  have hgate := tget_tput_same s.pwr.gated false u false
  rw [grantCredits, if_pos hc]
  dsimp only
  split
  · exact ⟨rfl, rfl, hgate, rfl, fun _ => congrArg Needle.bolt (needle_modNeedle s _ fun n => { n with bolt := n.running })⟩
  · next h => exact ⟨rfl, rfl, hgate, rfl, fun hu => absurd hu h⟩

/-! ## Uncorrectable errors (R26) -/

theorem otherError_of_ne_nil {codes : List Nat} (h : codes ≠ []) : ∃ c ∈ codes, otherError codes s = raiseOpen c (fresh s) := by
  have hn := Nat.mod_lt (Config.freeNat s.freeCtr) (List.length_pos_iff.mpr h)
  exact ⟨_, List.getElem_mem hn, by rw [otherError, List.getD_eq_getElem _ _ hn]⟩

theorem exec_scrub {region : SramRegion} {uncorrectable : Bool} {t : State} (h : sramScrubErrorDo region uncorrectable s = t) :
    exec (.sramScrubError region uncorrectable) s = .next t := congrArg _ h

section
variable (h : s.pwr.inReset = false)
include h

theorem scrub_corrected_engine {region : SramRegion} {x : Nat} (hr : regionEngine region = some x) :
    sramScrubErrorDo region false s = raiseEvent 0x04 x (.engine x) .own s := by
  simp [sramScrubErrorDo, h, hr]

theorem scrub_corrected_other {region : SramRegion} (hr : regionEngine region = none) : sramScrubErrorDo region false s = raiseOpen 0x04 s := by
  simp [sramScrubErrorDo, h, hr]

theorem scrub_needle {k : BitVec 5} : sramScrubErrorDo (.needle k) true s = needleMemUncorrDo k s := by
  simp [sramScrubErrorDo, h, needleMemUncorrDo]
theorem scrub_darner {k : BitVec 2} : sramScrubErrorDo (.darner k) true s = darnerFaultDo k s := by
  simp [sramScrubErrorDo, h, darnerFaultDo]
theorem scrub_mangle {k : BitVec 5} : sramScrubErrorDo (.mangle k) true s = mangleFaultDo k s := by
  simp [sramScrubErrorDo, h, mangleFaultDo]
theorem scrub_session {c : BitVec 12} : sramScrubErrorDo (.session c) true s = sessionError c.toNat s := by simp [sramScrubErrorDo, h]
theorem scrub_emram : sramScrubErrorDo .emram true s = raiseOpen 0x43 s := by simp [sramScrubErrorDo, h]

end

theorem exec_scrub_unlisted {region : SramRegion} {codes : List Nat} (hc : codes ≠ []) (hr : sramScrubErrorDo region true s = otherError codes s) :
    ∃ c ∈ codes, exec (.sramScrubError region true) s = .next (raiseOpen c (fresh s)) := by
  obtain ⟨c, hm, he⟩ := otherError_of_ne_nil hc
  exact ⟨c, hm, exec_scrub (hr.trans he)⟩

/-- Settles O52: each clause is the branch of its command; only the error in a session context needs its jobs followed through the ends of
all the users. -/
theorem powerAndScrubEventsAct : Obligations.PowerAndScrubEventsAct := by
  unfold Obligations.PowerAndScrubEventsAct
  intro s tj engine eref energy cls region u q k dk cx blk
  refine ⟨fun hr => ?_, rfl, enginePowerGate_idle, enginePowerGate_busy, fun hup => ?_⟩
  · have hr := eq_true_of_ne_false hr
    exact ⟨exec_powerEvent_reset hr, fun c b hm => (exec_of_mem_smbReads c b hm).trans (congrArg _ (if_pos hr))⟩
  have hn : ¬s.pwr.inReset = true := by simp [hup]
  refine ⟨fun c b hm => (exec_of_mem_smbReads c b hm).trans (congrArg _ (if_neg hn)), congrArg _ (if_neg hn), congrArg _ (if_neg hn),
    congrArg _ (if_neg hn), fun h => congrArg _ (if_pos (.inr h)), fun ht htrip => congrArg _ (if_neg ?_), fun hq => ?_, fun hq hc => ?_,
    fun hq hc => ?_, congrArg _ (if_neg hn), fun h => congrArg _ (if_pos (.inr h)), fun hc => ⟨effWindowEndDo cls energy s, rfl, ?_⟩,
    forall_pair_of_forall_mem ?_, exec_scrub (scrub_emram hup), ?_, forall_pair_of_forall_mem ?_,
    forall_pair_of_forall_mem ?_, sessionEnded cx.toNat s, exec_scrub (scrub_session hup), ctx_sessionEnded,
    fun id j hj huse hf h => ?_⟩
  · simp [hup, htrip, ht]
  · rw [exec_startCreditTick hup, hq, grantCredits_empty (by exact hq)]
  · rw [exec_startCreditTick hup, hq, grantCredits_short (by exact hq) hc]
  · rw [exec_startCreditTick hup, hq]
    exact ⟨_, rfl, grantCredits_one hc⟩
  · rw [effWindowEndDo, if_neg (by simp [hup, hc])]
    exact ⟨rfl, by rw [tget_tmod_same]; rfl⟩
  · simp only [List.forall_mem_cons]
    have hc {r x} (hr : regionEngine r = some x) := exec_scrub (scrub_corrected_engine hup hr)
    exact ⟨hc rfl, hc rfl, hc rfl, List.forall_mem_nil _⟩
  · simp only [List.forall_mem_cons]
    have hc {r} (hr : regionEngine r = none) := exec_scrub (scrub_corrected_other hup hr)
    exact ⟨hc rfl, hc rfl, hc rfl, hc rfl, hc rfl, hc rfl, hc rfl, hc rfl, List.forall_mem_nil _⟩
  · simp only [List.forall_mem_cons]
    exact ⟨exec_scrub (scrub_needle hup), exec_scrub (scrub_darner hup),
      exec_scrub (scrub_mangle hup), List.forall_mem_nil _⟩
  · simp only [List.forall_mem_cons]
    refine ⟨?_, ?_, ?_, ?_, ?_, ?_, List.forall_mem_nil _⟩ <;>
      exact exec_scrub_unlisted (List.cons_ne_nil _ _) (by simp [sramScrubErrorDo, hup])
  · have huses : j.uses cx.toNat = true := by simpa [Job.uses, hf] using huse
    obtain ⟨i, hi, hw⟩ := sessionEnded_wipes hj huses fun t ht hid => (h t ht hid).imp_right (.imp_right .inl)
    rw [hi, Option.map_some, hw]

end Sys2Proof.Machine
end

section
/-! SUPPORT. The SPDM responder (R57, R58). -/
namespace Sys2Proof.Machine

variable {s t : State} {c : Instr} {ok cond : Bool} {f : State → State}

/-- Thimble serves the SPDM request that stands in the mailbox (R58). -/
def spdmServed (s : State) : Prop :=
  s.svc.paused = false ∧ s.thm.restarting = false ∧ s.thm.halted = false ∧ s.svc.bootFailed = false ∧ s.pwr.hifReady = true ∧ s.spdmAsked = true

/-- Command `c` is a request that stands at its stage when `ok` and then, where `cond` holds, leads to `t`; out of order it is
UnexpectedRequest. -/
def spdmLeads (s : State) (c : Instr) (ok cond : Bool) (t : State) : Prop :=
  ∃ u, exec c s = .next u ∧ (ok = true → cond = true → u = t) ∧ (ok = false → u = spdmRefuse 0x04 s)

theorem spdmAt_served (h : spdmServed s) : spdmAt ok f s = if ok then f s else spdmRefuse 0x04 s := by
  obtain ⟨hp, hr, hh, hb, hf, ha⟩ := h
  exact if_neg (by simp [hp, hr, hh, hb, hf, ha])

theorem spdmLeads_of_spdmAt (h : spdmServed s) (hc : exec c s = .next (spdmAt ok f s)) (ht : cond = true → f s = t) :
    spdmLeads s c ok cond t := by
  refine ⟨_, hc.trans (congrArg _ (spdmAt_served h)), fun hok hcond => ?_, fun hok => by simp [hok]⟩
  rw [if_pos hok, ht hcond]

/-! ## Requests whose answer looks up a certificate chain or a measurement -/

variable {o : State → Option Bytes} {g : State → Bytes → State}

/-- The answer from what has been looked up: what is not there is InvalidRequest. -/
def spdmFound (g : State → Bytes → State) (s : State) : Option Bytes → State
  | none => spdmRefuse 0x01 s
  | some a => g s a

/-- A request after ALGORITHMS whose answer looks something up. -/
def spdmLookup (o : State → Option Bytes) (g : State → Bytes → State) (s : State) : State := spdmAt s.spdmReady (fun s => spdmFound g s (o s)) s

theorem spdmLeads_of_isNone (h : spdmServed s) (hc : exec c s = .next (spdmLookup o g s)) :
    spdmLeads s c s.spdmReady (o s).isNone (spdmRefuse 0x01 s) :=
  spdmLeads_of_spdmAt h hc fun hn => by rw [Option.isNone_iff_eq_none.mp hn, spdmFound]

theorem spdmLeads_of_isSome (h : spdmServed s) (hc : exec c s = .next (spdmLookup o g s)) (a : Bytes)
    (ho : cond = true → (o s).isSome = true) (ht : cond = true → g s ((o s).getD a) = t) : spdmLeads s c s.spdmReady cond t :=
  spdmLeads_of_spdmAt h hc fun hcond => by
    obtain ⟨b, hb⟩ := Option.isSome_iff_exists.mp (ho hcond)
    rw [← ht hcond, hb, spdmFound, Option.getD_some]

/-- A request is a lookup where its answer is, whether what it looks up is there or not. -/
theorem lookup_of_answer {F : State → State} (h : ∀ u, F u = spdmFound g u (o u)) (hc : exec c s = .next (spdmAt s.spdmReady F s)) :
    exec c s = .next (spdmLookup o g s) := by rw [hc, spdmLookup, funext h]

/-- The certificate chain of a slot. -/
def certOf (slot : BitVec 3) (_ : State) : Option Bytes := Config.certChain slot.toNat

/-- The measurement blocks that an index asks for (R57). -/
def State.measured (index : BitVec 8) (s : State) : Option Bytes :=
  let all := (List.range 7).filterMap s.measurement
  if index = 0 then some (leBytes 1 all.length) else if index = 0xFF then some all.flatten else s.measurement index.toNat

/-- The state in which measurement blocks have been sent, signed where that is asked. -/
def measurementSent (sign : Bool) (nonce : Bytes) (s : State) (b : Bytes) : State :=
  if sign then fresh (spdmReply 0x60 (b ++ identitySign (s.hif.transcript ++ nonce ++ b) (freeBytes s 48)) s) else spdmReply 0x60 b s

/-- The state in which the handshake of a session has begun (R57). -/
def keyExchanged (random exchange : Bytes) (s : State) : State :=
  let d := freeBytes s 48
  let share := alg .ecPk 96 [num 0x02, d]
  let th := s.hif.transcript ++ random ++ exchange ++ share
  fresh { spdmReply 0x64 (share ++ identitySign th d) s with
    hif.session := .handshake, hif.spdmUpdates := 0, hif.spdmSeq := 0, hif.spdmKeys := alg .hkdf 96 [alg .ecdh 48 [num 0x02, d, exchange], th] }

section
variable {slot : BitVec 3} {nonce random exchange : Bytes} {index : BitVec 8} {sign : Bool}

theorem exec_spdmGetCertificate {off len : BitVec 16} : exec (.spdmGetCertificate slot off len) s =
    .next (spdmLookup (certOf slot) (fun s c => spdmReply 0x02 ((c.drop off.toNat).take len.toNat) s) s) :=
  lookup_of_answer (fun u => by unfold certOf; cases Config.certChain slot.toNat <;> rfl) rfl

theorem exec_spdmChallenge : exec (.spdmChallenge slot nonce) s = .next (spdmLookup (certOf slot) (fun s c =>
      let n := freeBytes s 32
      fresh (spdmReply 0x03 (sha384 c ++ n ++ identitySign (s.hif.transcript ++ nonce ++ n) (freeBytes s 48)) s)) s) :=
  lookup_of_answer (fun u => by unfold certOf; cases Config.certChain slot.toNat <;> rfl) rfl

theorem exec_spdmKeyExchange : exec (.spdmKeyExchange slot random exchange) s =
    .next (spdmLookup (certOf slot) (fun s _ => keyExchanged random exchange s) s) :=
  lookup_of_answer (fun u => by unfold certOf; cases Config.certChain slot.toNat <;> rfl) rfl

theorem exec_spdmGetMeasurements : exec (.spdmGetMeasurements index sign nonce) s =
    .next (spdmLookup (State.measured index) (measurementSent sign nonce) s) := by
  refine lookup_of_answer (fun u => ?_) rfl
  cases h : u.measured index <;>
  · unfold State.measured at h
    dsimp only at h ⊢
    rw [h]
    rfl

end

/-- Settles O34: each request is `spdmAt` at its stage; what its answer looks up decides which row it is. -/
theorem spdmRequestsAreAnsweredInOrder : Obligations.SpdmRequestsAreAnsweredInOrder := by
  unfold Obligations.SpdmRequestsAreAnsweredInOrder
  intro s flags base hash slot off len nonce random exchange verify index sign hp hr hh hb hf ha h said error chain n all body b d share th
    good agreed
  have hs : spdmServed s := ⟨hp, hr, hh, hb, hf, ha⟩
  have lead {c ok cond f t} := spdmLeads_of_spdmAt (c := c) (ok := ok) (cond := cond) (f := f) (t := t) hs
  refine forall_quadruple_of_forall_mem (P := spdmLeads s) ?_
  simp only [List.forall_mem_cons]
  refine ⟨lead rfl fun _ => rfl, lead rfl fun _ => rfl, lead rfl fun _ => rfl, lead rfl fun _ => rfl,
    spdmLeads_of_isNone hs exec_spdmGetCertificate, spdmLeads_of_isSome hs exec_spdmGetCertificate [] id fun _ => rfl,
    spdmLeads_of_isNone hs exec_spdmChallenge, spdmLeads_of_isSome hs exec_spdmChallenge [] id fun _ => rfl,
    spdmLeads_of_isNone hs exec_spdmGetMeasurements,
    spdmLeads_of_isSome hs exec_spdmGetMeasurements [] (fun x => ?_) fun x => if_neg ?_,
    spdmLeads_of_isSome hs exec_spdmGetMeasurements [] (fun x => ?_) fun x => if_pos ?_,
    spdmLeads_of_isNone hs exec_spdmKeyExchange, spdmLeads_of_isSome hs exec_spdmKeyExchange [] id fun _ => rfl,
    lead rfl fun x => if_pos (eq_of_beq x), lead rfl fun x => if_neg (by simpa [good] using x), lead rfl fun _ => rfl,
    lead rfl fun _ => rfl, lead rfl fun _ => rfl, List.forall_mem_nil _⟩
  · exact (Bool.and_eq_true_iff.mp x).1
  · simpa using (Bool.and_eq_true_iff.mp x).2
  · exact (Bool.and_eq_true_iff.mp x).1
  · exact (Bool.and_eq_true_iff.mp x).2

end Sys2Proof.Machine
end

section
/-! SUPPORT. What the ends of jobs leave alone (R35, R106, R113 to R115, R386). -/
namespace Sys2Proof.Machine

variable {r s t : State} {k status : Nat}

/-- The state without what the end of a job or a slice reset can change: jobs and their tables, queues, the slices (which `Slice.lasting`
covers), engines and session contexts, key slots, migration contexts, pending messages and the counters of ended jobs. -/
def State.beneathJobs (s : State) : State :=
  { s with jobs := [], sqs := [], cqs := [], slices := [], ctxs := [], eng := {}, kv := {}, outbox := [], sched.misses := [],
           rng.queue := [], thm.run := none, met.mailbox := [], mig.contexts := [], hif.pba := [], hif.dmaFaults := 0 }

/-- A slice without its FREEZE, which the end of its last job completes (R393). -/
def Slice.lasting (sl : Slice) : Slice := { sl with state := .disabled, freeze := none }

/-- Every completion is suppressed (R386). -/
def State.hushed (s : State) : Prop := ∀ j ∈ s.jobs, j.suppressed = true

/-- From `r` to `s` jobs have gone on to their end: what lies beneath the jobs is as it was, and where every completion was suppressed it
still is. -/
structure JobsEnd (r s : State) : Prop where
  beneath : s.beneathJobs = r.beneathJobs
  slice (i : Nat) : (s.slice i).lasting = (r.slice i).lasting
  hushed : r.hushed → s.hushed

theorem JobsEnd.refl : JobsEnd s s := ⟨rfl, fun _ => rfl, id⟩

section
variable (h : JobsEnd r s)
include h

/-- Neither jobs nor slices change. -/
theorem jobsEnd_of_eq (hb : t.beneathJobs = s.beneathJobs) (hs : t.slices = s.slices) (hj : t.jobs = s.jobs) : JobsEnd r t :=
  ⟨hb.trans h.beneath, fun i => by rw [State.slice, hs, ← h.slice i, State.slice], fun hr => by rw [State.hushed, hj]; exact h.hushed hr⟩

theorem jobsEnd_of_map {g : Job → Job} (hb : t.beneathJobs = s.beneathJobs) (hs : t.slices = s.slices) (hj : t.jobs = s.jobs.map g)
    (hg : ∀ j, j.suppressed = true → (g j).suppressed = true) : JobsEnd r t := by
  refine ⟨hb.trans h.beneath, fun i => by rw [State.slice, hs, ← h.slice i, State.slice], fun hr j hm => ?_⟩
  obtain ⟨i, hi, rfl⟩ := List.mem_map.mp (hj ▸ hm)
  exact hg i (h.hushed hr i hi)

theorem jobsEnd_of_mapIf {p : Job → Bool} {f : Job → Job} (hb : t.beneathJobs = s.beneathJobs) (hs : t.slices = s.slices)
    (hj : t.jobs = mapIf p f s.jobs) (hf : ∀ j, j.suppressed = true → (f j).suppressed = true) : JobsEnd r t := by
  refine jobsEnd_of_map h hb hs hj fun j hj => ?_
  split
  · exact hf j hj
  · exact hj

theorem jobsEnd_foldl {α : Type} {f : State → α → State} {l : List α} (hf : ∀ u a, JobsEnd r u → JobsEnd r (f u a)) :
    JobsEnd r (l.foldl f s) := List.foldlRecOn (motive := JobsEnd r) l f h fun u hu a _ => hf u a hu

/-! ## One job, one slice -/

theorem jobsEnd_emit {o : Output} : JobsEnd r (emit o s) := jobsEnd_of_eq h rfl rfl rfl
theorem jobsEnd_modCtx {c : Nat} {f : Ctx → Ctx} : JobsEnd r (s.modCtx c f) := jobsEnd_of_eq h rfl rfl rfl
theorem jobsEnd_modLane {c : Nat} {f : LaneState → LaneState} : JobsEnd r (s.modLane c f) := jobsEnd_of_eq h rfl rfl rfl
theorem jobsEnd_modCq {i q : Nat} {f : Cq → Cq} : JobsEnd r (s.modCq i q f) := jobsEnd_of_eq h rfl rfl rfl
theorem jobsEnd_modSlot {kt : Bool} {i : Nat} {f : Slot → Slot} : JobsEnd r (s.modSlot kt i f) := by
  cases kt <;> exact jobsEnd_of_eq h rfl rfl rfl
theorem jobsEnd_modJob {f : Job → Job} (hf : ∀ j, j.suppressed = true → (f j).suppressed = true) : JobsEnd r (s.modJob k f) :=
  jobsEnd_of_mapIf h rfl rfl rfl hf
theorem jobsEnd_dropJob : JobsEnd r (s.dropJob k) :=
  ⟨h.beneath, h.slice, fun hr j hj => h.hushed hr j (List.mem_filter.mp hj).1⟩
theorem jobsEnd_modSlice {i : Nat} {f : Slice → Slice} (hf : ∀ sl, (f sl).lasting = sl.lasting) : JobsEnd r (s.modSlice i f) := by
  refine ⟨h.beneath, fun n => ?_, h.hushed⟩
  by_cases hn : n = i
  · rw [hn, slice_modSlice, hf, h.slice]
  · rw [State.slice, State.modSlice, tget_tmod_ne _ _ _ hn, ← h.slice n, State.slice]

/-! ## Lanes -/

theorem jobsEnd_countLoad {c : Nat} : JobsEnd r (countLoad c s) := by
  unfold countLoad
  split
  · exact jobsEnd_of_eq h rfl rfl rfl
  · exact h
theorem jobsEnd_leaveWho {c : Nat} {w : Who} : JobsEnd r (leaveWho c w s) := by
  unfold leaveWho
  dsimp only
  split
  · split
    · exact jobsEnd_modLane h
    · exact jobsEnd_countLoad (jobsEnd_modLane h)
  · exact jobsEnd_modLane h
theorem jobsEnd_leaveLane {j : Job} : JobsEnd r (leaveLane j s) := by
  unfold leaveLane
  split
  · exact jobsEnd_leaveWho h
  · exact h
theorem jobsEnd_leaveTree {c : Nat} : JobsEnd r (leaveTree c s) := by
  unfold leaveTree
  split
  · exact jobsEnd_foldl h fun _ _ hu => jobsEnd_leaveWho hu
  · exact h

/-! ## Slots and caches -/

theorem jobsEnd_freeSlots {kt : Bool} {i n : Nat} : JobsEnd r (freeSlots kt i n s) := jobsEnd_foldl h fun _ _ hu => jobsEnd_modSlot hu
theorem jobsEnd_sweepRuns : JobsEnd r (sweepRuns s) := by
  unfold sweepRuns
  exact jobsEnd_foldl (jobsEnd_of_eq h (by rfl) (by rfl) (by rfl)) fun _ _ hu => jobsEnd_freeSlots hu
theorem jobsEnd_sweepOld : JobsEnd r (sweepOld s) := by
  refine jobsEnd_sweepRuns ?_
  split
  · exact jobsEnd_of_eq h rfl rfl rfl
  · exact h
theorem jobsEnd_releaseRun {kt : Bool} {first count i : Nat} {g : BitVec 16} : JobsEnd r (releaseRun kt first count i g s) := by
  unfold releaseRun
  split
  · exact jobsEnd_of_eq h rfl rfl rfl
  · exact jobsEnd_freeSlots h
theorem jobsEnd_deleteKey {kt : Bool} {i : Nat} : JobsEnd r (deleteKey kt i s) := by
  have hi : JobsEnd r (invalidateKey kt i (s.slot kt i).gen s) := jobsEnd_of_eq h rfl rfl rfl
  unfold deleteKey
  dsimp only
  refine jobsEnd_modSlot ?_
  split
  · exact jobsEnd_releaseRun hi
  · exact jobsEnd_of_eq (jobsEnd_releaseRun hi) rfl rfl rfl
theorem jobsEnd_wakeFill {e : CacheEntry} : JobsEnd r (wakeFill e s) := jobsEnd_of_mapIf h rfl rfl rfl fun _ hj => hj
theorem jobsEnd_dropFills : JobsEnd r (dropFills k s) := by
  unfold dropFills
  dsimp only
  split
  · exact h
  · exact jobsEnd_foldl (jobsEnd_of_eq h (by rfl) (by rfl) (by rfl)) fun _ _ hu => jobsEnd_wakeFill hu
theorem jobsEnd_dropReplacing : JobsEnd r (dropReplacing k s) := by
  unfold dropReplacing
  split
  · exact h
  · exact jobsEnd_of_eq (jobsEnd_freeSlots h) rfl rfl rfl
theorem jobsEnd_dropMade {j : Job} : JobsEnd r (dropMade j s) := by
  unfold dropMade
  split
  · exact jobsEnd_modJob (jobsEnd_deleteKey h) fun _ hj => hj
  · exact h

/-! ## Session contexts -/

theorem jobsEnd_dropSession {j : Job} : JobsEnd r (dropSession j s) := by
  unfold dropSession
  split
  · exact jobsEnd_modJob (jobsEnd_modCtx h) fun _ hj => hj
  · exact h
theorem jobsEnd_restoreCtx {j : Job} : JobsEnd r (restoreCtx j s) := by
  unfold restoreCtx
  split
  · exact jobsEnd_modJob (jobsEnd_modCtx h) fun _ hj => hj
  · exact h
theorem jobsEnd_freeCtx {c : Nat} : JobsEnd r (freeCtx c s) := by
  have hc := jobsEnd_modCtx (c := c) (f := fun x => { sgen := x.sgen + 1 }) h
  exact jobsEnd_of_map hc rfl rfl rfl fun _ hj => hj

/-! ## The end of a job -/

theorem jobsEnd_undo : JobsEnd r (undo k s) := by
  unfold undo
  split
  · refine jobsEnd_dropReplacing (jobsEnd_dropFills (jobsEnd_dropMade (jobsEnd_restoreCtx (jobsEnd_dropSession ?_))))
    split
    · exact jobsEnd_leaveLane h
    · exact h
  · exact h
theorem jobsEnd_retire {j : Job} : JobsEnd r (retire j s) := by
  have hl : JobsEnd r (sweepOld (leaveTree j.engine (leaveLane j (s.dropJob j.id)))) :=
    jobsEnd_sweepOld (jobsEnd_leaveTree (jobsEnd_leaveLane (jobsEnd_dropJob h)))
  unfold retire
  dsimp only
  generalize sweepOld (leaveTree j.engine (leaveLane j (s.dropJob j.id))) = u at *
  exact jobsEnd_of_eq hl rfl rfl rfl
theorem jobsEnd_decideLate : JobsEnd r (decideLate k s) := by
  unfold decideLate
  split
  · exact h
  · next j _ =>
    have hm := jobsEnd_modJob (k := k) h (f := fun i => { i with
      late := j.parent.isNone && (s.effDeadline j).elim false (fun d => tickAfter s.tick d) }) fun _ hj => hj
    dsimp only
    split
    · exact jobsEnd_of_eq hm rfl rfl rfl
    · exact hm
theorem jobsEnd_decideJob {outs : List (Nat × Bytes)} : JobsEnd r (decideJob k status outs s) := by
  unfold decideJob
  dsimp only
  refine jobsEnd_decideLate (jobsEnd_modJob ?_ fun _ hj => hj)
  split
  · split
    · exact h
    · exact jobsEnd_dropSession h
  · exact h
theorem jobsEnd_beginWipe : JobsEnd r (beginWipe k status s) := jobsEnd_modJob (jobsEnd_undo h) fun _ hj => hj
theorem jobsEnd_stopTasks : JobsEnd r (stopTasks k status s) := by
  refine jobsEnd_foldl h fun u t hu => ?_
  dsimp only
  split
  · have hm := jobsEnd_modJob (k := t.id) hu (f := fun t => { t with suppressed := true, stop := some (t.stop.getD status) }) fun _ _ => rfl
    split
    · exact jobsEnd_beginWipe hm
    · exact hm
  · exact jobsEnd_modJob hu fun _ _ => rfl
  · exact jobsEnd_modJob hu fun _ _ => rfl
  · exact jobsEnd_retire (jobsEnd_undo hu)
theorem jobsEnd_taskFailed {p : Nat} : JobsEnd r (taskFailed p k status s) := jobsEnd_stopTasks (jobsEnd_modJob h fun _ hj => hj)
theorem jobsEnd_endWiping : JobsEnd r (endWiping k status s) := by
  unfold endWiping
  dsimp only
  split
  · exact h
  · split
    · split
      · exact jobsEnd_beginWipe h
      · exact jobsEnd_taskFailed (jobsEnd_beginWipe h)
    · exact jobsEnd_stopTasks (jobsEnd_decideLate (jobsEnd_beginWipe h))
theorem jobsEnd_settleTasks : JobsEnd r (settleTasks k s) := by
  unfold settleTasks
  split
  · split
    · split
      · exact jobsEnd_endWiping h
      · exact h
    · exact h
  · exact h
theorem jobsEnd_endTaskOf {t : Job} {p : Nat} : JobsEnd r (endTaskOf t p s) := by
  refine jobsEnd_settleTasks (jobsEnd_retire ?_)
  split
  · exact jobsEnd_modJob h fun _ hj => hj
  · exact h

/-! ## Completion entries -/

theorem jobsEnd_msixDue {v : Nat} : JobsEnd r (msixDue v s) := by
  unfold msixDue
  split
  · exact jobsEnd_emit h
  · exact jobsEnd_of_eq h rfl rfl rfl
theorem jobsEnd_moderate {i q : Nat} : JobsEnd r (moderate i q s) := by
  unfold moderate
  dsimp only
  split
  · exact jobsEnd_msixDue (jobsEnd_modCq h)
  · exact h
theorem jobsEnd_postEntry {i q : Nat} {e : Entry} : JobsEnd r (postEntry i q e s) := by
  unfold postEntry
  dsimp only
  exact jobsEnd_moderate (jobsEnd_modCq (jobsEnd_emit h))
theorem jobsEnd_countFreeze {j : Job} : JobsEnd r (countFreeze j s) := jobsEnd_modSlice h fun _ => rfl
theorem jobsEnd_settleFreeze {i : Nat} : JobsEnd r (settleFreeze i s) := by
  have hm := jobsEnd_modSlice (i := i) h (f := fun sl => { sl with state := .frozen }) fun _ => rfl
  unfold settleFreeze
  dsimp only
  split
  · split
    · split
      · split
        · exact jobsEnd_decideJob hm
        · exact hm
      · exact hm
    · exact h
  · exact h
theorem jobsEnd_complete : JobsEnd r (complete k s) := by
  unfold complete
  split
  · exact h
  · split
    · exact jobsEnd_endTaskOf h
    · split
      · exact jobsEnd_retire h
      · split
        · refine jobsEnd_settleFreeze (jobsEnd_countFreeze (jobsEnd_retire (jobsEnd_postEntry ?_)))
          split
          · exact jobsEnd_of_eq h rfl rfl rfl
          · exact h
        · exact jobsEnd_modJob h fun _ hj => hj
theorem jobsEnd_endNow {engine : Nat} : JobsEnd r (endNow k status engine s) := by
  unfold endNow
  dsimp only
  split
  · exact h
  · have hm := jobsEnd_modJob (k := k) (jobsEnd_undo (k := k) h)
      (f := fun j => { j with status := status, outs := [], engine := engine }) fun _ hj => hj
    split
    · exact jobsEnd_settleTasks (jobsEnd_retire (jobsEnd_taskFailed hm))
    · exact jobsEnd_complete (jobsEnd_decideLate (jobsEnd_stopTasks hm))

/-! ## Stop requests and suppression -/

theorem jobsEnd_stopJob {j : Job} : JobsEnd r (stopJob status j s) := by
  have hm := jobsEnd_modJob (k := j.id) h (f := fun j => { j with stop := some (j.stop.getD status) }) fun _ hj => hj
  unfold stopJob
  split
  iterate 4 exact jobsEnd_endNow h
  iterate 2
    split
    · exact jobsEnd_endWiping h
    · exact hm
  · split
    · exact jobsEnd_endWiping h
    · exact h
  · exact jobsEnd_endNow h
  · exact h
theorem jobsEnd_stopJobs {p : Job → Bool} : JobsEnd r (stopJobs p status s) := jobsEnd_foldl h fun _ _ hu => jobsEnd_stopJob hu

end

/-- The state in which the completions of the jobs that `p` names are suppressed, and none of them has gone on yet. -/
def suppressedBy (p : Job → Bool) (s : State) : State := { s with jobs := mapIf p (fun j => { j with suppressed := true }) s.jobs }

theorem jobsEnd_suppressJobs_of_suppressedBy {p : Job → Bool} (h : JobsEnd r (suppressedBy p s)) : JobsEnd r (suppressJobs p s) := by
  refine jobsEnd_foldl h fun u j hu => ?_
  have hm := jobsEnd_modJob (k := j.id) hu (f := fun j => { j with stop := some (j.stop.getD stAborted) }) fun _ hj => hj
  split
  iterate 2
    split
    · exact jobsEnd_endWiping hu
    · exact hm
  iterate 2 exact hu
  exact jobsEnd_retire (jobsEnd_undo hu)

theorem jobsEnd_suppressJobs {p : Job → Bool} (h : JobsEnd r s) : JobsEnd r (suppressJobs p s) :=
  jobsEnd_suppressJobs_of_suppressedBy (jobsEnd_of_mapIf h rfl rfl rfl fun _ _ => rfl)

/-- Once every completion is suppressed, none is posted whatever becomes of its job. -/
theorem hushed_suppressJobs : (suppressJobs (fun _ => true) s).hushed := by
  refine (jobsEnd_suppressJobs_of_suppressedBy .refl).hushed fun j hj => ?_
  obtain ⟨i, -, rfl⟩ := List.mem_map.mp hj
  rfl

end Sys2Proof.Machine
end

section
/-! SUPPORT. IDE streams and the slices bound to them (R59 to R61, R447). -/
namespace Sys2Proof.Machine

variable {s t : State} {i n : Nat} {kind : Fence}

theorem JobsEnd.fence (h : JobsEnd s t) (i : Nat) : (t.slice i).fence = (s.slice i).fence :=
  (congrArg Slice.fence (h.slice i) :)
theorem JobsEnd.streams (h : JobsEnd s t) : t.hif.streams = s.hif.streams := (congrArg (·.hif.streams) h.beneath :)

/-! ## Fenced slices (R447) -/

theorem fence_modSlice : ((s.modSlice i fun sl => { sl with fence := kind }).slice n).fence = if n = i then kind else (s.slice n).fence := by
  unfold State.slice State.modSlice tmod
  rw [tget_tput]
  split <;> rfl

/-- A FENCE of a slice fences it and no other; the stop of its jobs fences none. -/
theorem fence_fenceUnit : ((fenceUnit (.slice i) kind s).slice n).fence = if n = i then kind else (s.slice n).fence :=
  ((jobsEnd_stopJobs .refl).fence n).trans fence_modSlice

theorem fence_foldl_fenceUnit {l : List Nat} :
    ((l.foldl (fun s i => fenceUnit (.slice i) kind s) s).slice n).fence = if n ∈ l then kind else (s.slice n).fence := by
  induction l generalizing s with
  | nil => simp
  | cons i l ih =>
    rw [List.foldl_cons, ih, fence_fenceUnit]
    by_cases hl : n ∈ l <;> simp [hl]

theorem streams_fenceUnit : (fenceUnit (.slice i) kind s).hif.streams = s.hif.streams := (jobsEnd_stopJobs .refl).streams

theorem streams_foldl_fenceUnit {l : List Nat} : (l.foldl (fun s i => fenceUnit (.slice i) kind s) s).hif.streams = s.hif.streams :=
  foldl_keeps (·.hif.streams) _ (fun _ _ => streams_fenceUnit) l s

/-! ## An integrity failure (R61) -/

/-- A slice is bound to a stream: it requires that stream, or the stream is the link stream. -/
def boundTo (s : State) (n i : Nat) : Bool :=
  (tget s.hif.streams {} n).link || ((tget s.hif.ideBind {} i).required && (tget s.hif.ideBind {} i).stream == n)

/-- The state in which event 0x22 is raised: the stream is Insecure, the slices bound to it are fenced and their jobs stopped. -/
def insecured (n : Nat) (s : State) : State :=
  let hit := below 256 (boundTo s n)
  hit.foldl (fun s i => fenceUnit (.slice i) .own s) (stopJobs (fun j => hit.contains j.slice) stDmaFault
    { s with hif.streams := tput s.hif.streams {} n { tget s.hif.streams {} n with secure := false } })

theorem ideIntegrityFailure_insecure {stream : BitVec 6} (h : (tget s.hif.streams {} stream.toNat).secure = false) :
    exec (.ideIntegrityFailure stream) s = .next s := congrArg Host.Outcome.next (if_pos (by simp [h]))

theorem ideIntegrityFailure_secure {stream : BitVec 6} (h : (tget s.hif.streams {} stream.toNat).secure = true) :
    exec (.ideIntegrityFailure stream) s = .next (raiseEvent 0x22 stream.toNat .none .own (insecured stream.toNat s)) :=
  congrArg Host.Outcome.next (if_neg (by simp [h]))

theorem insecured_streams :
    (insecured n s).hif.streams = tput s.hif.streams {} n { tget s.hif.streams {} n with secure := false } :=
  streams_foldl_fenceUnit.trans (jobsEnd_stopJobs .refl).streams

theorem insecured_fence : ((insecured n s).slice i).fence = if i < 256 ∧ boundTo s n i = true then .own else (s.slice i).fence := by
  refine fence_foldl_fenceUnit.trans (ite_congr ?_ (fun _ => rfl) fun _ => (jobsEnd_stopJobs .refl).fence i)
  simp [below]

/-- Settles O35: what becomes Secure or Insecure is read off the two commands; the fences are those of the slices bound to the stream,
whatever the stop of their jobs does. -/
theorem ideStreamsAreSecuredAndFailClosed : Obligations.IdeStreamsAreSecuredAndFailClosed := by
  unfold Obligations.IdeStreamsAreSecuredAndFailClosed
  intro s stream link n x others u bound
  refine ⟨fun hp hs => congrArg _ (if_pos ?_), fun h => congrArg _ (if_neg ?_), ideIntegrityFailure_insecure, fun h =>
    ⟨insecured n s, ideIntegrityFailure_secure h, insecured_streams, fun i hi hb => ?_, fun i hi hb => ?_⟩⟩
  · simpa [hs] using hp
  · have h : (tget s.hif.streams {} stream.toNat).programmed = true ∨ s.hif.session = .secured := h
    rcases h with h | h <;> simp [h]
  · exact insecured_fence.trans (if_pos ⟨hi, hb⟩)
  · exact insecured_fence.trans (if_neg fun hc => absurd (hb.symm.trans hc.2) Bool.false_ne_true)

end Sys2Proof.Machine
end

section
/-! SUPPORT. Function Level Reset (R63, R385, R386). -/
namespace Sys2Proof.Machine

variable {r s t : State} {i n : Nat}

theorem JobsEnd.gen (h : JobsEnd s t) (i : Nat) : (t.slice i).gen = (s.slice i).gen := (congrArg Slice.gen (h.slice i) :)
theorem JobsEnd.enable (h : JobsEnd s t) (i : Nat) : (t.slice i).enable = (s.slice i).enable := (congrArg Slice.enable (h.slice i) :)
theorem JobsEnd.time (h : JobsEnd s t) : t.time = s.time := (congrArg State.time h.beneath :)
theorem JobsEnd.quorum (h : JobsEnd s t) : t.thm.quorum = s.thm.quorum := (congrArg (·.thm.quorum) h.beneath :)

/-! ## What a slice reset clears before the slice enters its next generation (R385) -/

section
variable (h : JobsEnd r s)
include h

theorem jobsEnd_abortFreeze : JobsEnd r (abortFreeze i s) := jobsEnd_foldl h fun _ _ hu => jobsEnd_endNow hu
theorem jobsEnd_resetQueues : JobsEnd r (resetQueues i s) := jobsEnd_of_eq h rfl rfl rfl
theorem jobsEnd_freeSessions : JobsEnd r (freeSessions i s) := jobsEnd_foldl h fun _ _ hu => jobsEnd_freeCtx hu
theorem jobsEnd_dropEphemeral : JobsEnd r (dropEphemeral i s) := by
  refine jobsEnd_foldl h fun u k hu => ?_
  split
  · exact jobsEnd_deleteKey hu
  · exact hu
theorem jobsEnd_dropMigration : JobsEnd r (dropMigration i s) := by
  unfold dropMigration
  dsimp only
  exact jobsEnd_of_eq (jobsEnd_foldl h fun _ _ hu => jobsEnd_freeSlots hu) rfl rfl rfl

end

/-- The state in which a slice enters its next generation: its jobs, queues, sessions, keys and migration are gone. -/
def sliceCleared (i : Nat) (s : State) : State :=
  dropMigration i (dropEphemeral i (freeSessions i (resetQueues i (suppressJobs (fun j => j.slice == i) (abortFreeze i s)))))

theorem jobsEnd_sliceCleared : JobsEnd s (sliceCleared i s) :=
  jobsEnd_dropMigration (jobsEnd_dropEphemeral (jobsEnd_freeSessions (jobsEnd_resetQueues
    (jobsEnd_suppressJobs (jobsEnd_abortFreeze .refl)))))

/-- A slice as it enters its next generation. -/
def Slice.next (sl : Slice) : Slice :=
  { sl with gen := sl.gen + 1, resetPending := false, freeze := none, fence := .none,
            state := if sl.state = .disabled then .disabled else .active }

/-- A slice enters its next generation; the quorum ends with that of slice 0 (R388). -/
def enterNext (i : Nat) (s : State) : State :=
  let s := s.modSlice i Slice.next
  if i = 0 then endQuorum { s with thm.run := none } else s

theorem sliceReset_eq : sliceReset i s = enterNext i (sliceCleared i s) := rfl

theorem slice_enterNext : (enterNext i s).slice n = if n = i then (s.slice i).next else s.slice n := by
  have hm : (s.modSlice i Slice.next).slice n = if n = i then (s.slice i).next else s.slice n := tget_tput ..
  unfold enterNext
  dsimp only
  split <;> exact hm

theorem quorum_enterNext : (enterNext i s).thm.quorum = if i = 0 then none else s.thm.quorum := by
  unfold enterNext
  dsimp only
  split <;> rfl

/-- Nothing but that slice and the quorum changes. -/
theorem rest_enterNext : (enterNext i s).time = s.time ∧ (enterNext i s).jobs = s.jobs := by
  unfold enterNext
  dsimp only
  split <;> exact ⟨rfl, rfl⟩

/-- From `s` to `t` the slices below `m` have been reset, and the operator quorum has ended with slice 0 (R388). -/
structure SlicesReset (m : Nat) (s t : State) : Prop where
  gen (n : Nat) : (t.slice n).gen = if n < m then (s.slice n).gen + 1 else (s.slice n).gen
  enable (n : Nat) : (t.slice n).enable = (s.slice n).enable
  quorum : 0 < m → t.thm.quorum = none
  time : t.time = s.time
  hushed : s.hushed → t.hushed

theorem SlicesReset.sliceReset {m : Nat} (h : SlicesReset m s t) : SlicesReset (m + 1) s (sliceReset m t) := by
  have hc : JobsEnd t (sliceCleared m t) := jobsEnd_sliceCleared
  rw [sliceReset_eq]
  generalize sliceCleared m t = u at hc
  obtain ⟨htime, hjobs⟩ := rest_enterNext (i := m) (s := u)
  refine ⟨fun n => ?_, fun n => ?_, fun _ => ?_, htime.trans (hc.time.trans h.time), fun hs => ?_⟩
  · rw [slice_enterNext]
    by_cases hn : n = m
    · rw [if_pos hn, if_pos (by omega), hn, Slice.next, hc.gen, h.gen, if_neg (lt_irrefl m)]
    · rw [if_neg hn, hc.gen, h.gen]
      exact if_congr (by omega) rfl rfl
  · rw [slice_enterNext, ← h.enable, ← hc.enable]
    split
    · next hn => rw [hn, Slice.next]
    · rfl
  · rw [quorum_enterNext]
    split
    · rfl
    · exact hc.quorum.trans (h.quorum (by omega))
  · rw [State.hushed, hjobs]
    exact hc.hushed (h.hushed hs)

theorem slicesReset_range (m : Nat) : SlicesReset m s ((List.range m).foldl (fun s i => sliceReset i s) s) := by
  induction m with
  | zero => exact ⟨fun _ => rfl, fun _ => rfl, fun h => absurd h (lt_irrefl 0), rfl, id⟩
  | succ m ih =>
    rw [List.range_succ, List.foldl_append]
    exact ih.sliceReset

/-! ## The function (R63) -/

/-- The state in which every job is suppressed and every slice has been reset. -/
def functionReset (s : State) : State := (List.range 256).foldl (fun s i => sliceReset i s) (suppressJobs (fun _ => true) s)

theorem functionReset_slices : SlicesReset 256 (suppressJobs (fun _ => true) s) (functionReset s) := slicesReset_range 256

/-- The state after a Function Level Reset of a function that is ready: what the configuration space and the host link held is cleared. -/
def functionCleared (s : State) : State :=
  { s with
    hif.vectors := [], hif.pba := [], hif.atc := [], hif.translating := [], hif.invals := [], hif.streams := [], hif.dmaStatus := 0, hif.dmaFaults := 0
    hif.bme := false, hif.mse := false, hif.atsEn := false, hif.msixEn := false, hif.fnMask := false, hif.d3hot := false
    kv.rotations := 0 }

theorem exec_functionLevelReset : exec .functionLevelReset s = .next (atConfig (fun s => functionCleared (functionReset s)) s) := rfl

/-! What the cleared function shows of the slices is what they show after their resets. -/

theorem hushed_functionCleared (h : s.hushed) : (functionCleared s).hushed := h
theorem slice_functionCleared : (functionCleared s).slice i = s.slice i := rfl
theorem quorum_functionCleared : (functionCleared s).thm.quorum = s.thm.quorum := rfl
theorem time_functionCleared : (functionCleared s).time = s.time := rfl

theorem functionReset_hushed : (functionReset s).hushed := functionReset_slices.hushed hushed_suppressJobs
theorem functionReset_gen (hi : i < 256) : ((functionReset s).slice i).gen = (s.slice i).gen + 1 := by
  rw [functionReset_slices.gen, if_pos hi, (jobsEnd_suppressJobs .refl).gen]
theorem functionReset_enable : ((functionReset s).slice i).enable = (s.slice i).enable :=
  (functionReset_slices.enable i).trans ((jobsEnd_suppressJobs .refl).enable i)
theorem functionReset_quorum : (functionReset s).thm.quorum = none := functionReset_slices.quorum (by omega)
theorem functionReset_time : (functionReset s).time = s.time := functionReset_slices.time.trans (jobsEnd_suppressJobs .refl).time

end Sys2Proof.Machine
end

section
/-! SUPPORT. What event records and the stores of keys and microcode leave alone (R508, R319, R211, R169). -/
namespace Sys2Proof.Machine

variable {s : State} {i k : Nat}

/-! ## Event records (R506 to R508) -/

/-- The state without the Event Recorder. -/
def State.unrecorded (s : State) : State := { s with evr := {} }

theorem unrecorded_writeRecord {r : EvRec} : (writeRecord r s).unrecorded = s.unrecorded := by
  unfold State.unrecorded writeRecord
  rfl

theorem unrecorded_drainRecords : (drainRecords s).unrecorded = s.unrecorded := by
  have hf := foldl_keeps State.unrecorded (fun s r => writeRecord r s) (fun _ _ => unrecorded_writeRecord) s.evr.queue
    { s with evr.queue := [], vent.held := s.vent.held }
  unfold drainRecords
  dsimp only
  split
  · generalize List.foldl _ _ _ = u at hf ⊢
    split
    · exact hf
    · exact unrecorded_writeRecord.trans hf
  · rfl

theorem unrecorded_queueRecord {r : EvRec} : (queueRecord r s).unrecorded = s.unrecorded := by
  unfold queueRecord
  refine unrecorded_drainRecords.trans ?_
  split <;> rfl

theorem unrecorded_logRecord {code : Nat} {data : Bytes} : (logRecord code data s).unrecorded = s.unrecorded := unrecorded_queueRecord

theorem logRecord_kv {code : Nat} {data : Bytes} : (logRecord code data s).kv = s.kv := (congrArg State.kv (unrecorded_logRecord (s := s)) :)

/-! ## Stores -/

/-- The state without the stores that a start-up and a conventional reset look through, which are the Key Vault, the Event Recorder with
what the Vent holds for it, the microcode stores and what Thimble holds; and without what has been sent and the count of free values. -/
def State.beneathStores (s : State) : State :=
  { s with kv := {}, evr := {}, eng.patch := [], eng.matchRegs := [], eng.patSetId := 0, vent.held := [], thm := {}, outbox := [], freeCtr := 0 }

theorem beneathStores_of_unrecorded {t : State} (h : t.unrecorded = s.unrecorded) : t.beneathStores = s.beneathStores :=
  (congrArg State.beneathStores h :)

theorem beneathStores_foldl {α : Type} {f : State → α → State} (h : ∀ s a, (f s a).beneathStores = s.beneathStores) (l : List α) (s : State) :
    (l.foldl f s).beneathStores = s.beneathStores := foldl_keeps State.beneathStores f h l s

@[simp] theorem beneathStores_fresh : (fresh s).beneathStores = s.beneathStores := rfl
@[simp] theorem beneathStores_pinTo {was level : Bool} {p : Pin} : (pinTo was p level s).beneathStores = s.beneathStores := by
  unfold pinTo
  split <;> rfl
@[simp] theorem beneathStores_modSlot {kt : Bool} {f : Slot → Slot} : (s.modSlot kt i f).beneathStores = s.beneathStores := by
  cases kt <;> rfl
@[simp] theorem beneathStores_freeSlots {kt : Bool} {n : Nat} : (freeSlots kt i n s).beneathStores = s.beneathStores :=
  beneathStores_foldl (fun _ _ => beneathStores_modSlot) _ _
@[simp] theorem beneathStores_sweepRuns : (sweepRuns s).beneathStores = s.beneathStores :=
  beneathStores_foldl (fun _ _ => beneathStores_freeSlots) _ _
@[simp] theorem beneathStores_modHbs {f : Hbs → Hbs} : (s.modHbs i f).beneathStores = s.beneathStores := rfl
@[simp] theorem beneathStores_queueRecord {r : EvRec} : (queueRecord r s).beneathStores = s.beneathStores :=
  beneathStores_of_unrecorded unrecorded_queueRecord
@[simp] theorem beneathStores_logRecord {code : Nat} {data : Bytes} : (logRecord code data s).beneathStores = s.beneathStores :=
  beneathStores_of_unrecorded unrecorded_logRecord
@[simp] theorem beneathStores_drainRecords : (drainRecords s).beneathStores = s.beneathStores :=
  beneathStores_of_unrecorded unrecorded_drainRecords
@[simp] theorem beneathStores_takeHeldRecords : (takeHeldRecords s).beneathStores = s.beneathStores :=
  beneathStores_foldl (fun _ _ => beneathStores_queueRecord) _ _
@[simp] theorem beneathStores_loadPatch {ws : List (BitVec 160)} {ms : List MatchEntry} :
    (loadPatch k ws ms s).beneathStores = s.beneathStores := by
  unfold State.beneathStores loadPatch
  rfl
@[simp] theorem beneathStores_loadPatches : (loadPatches s).beneathStores = s.beneathStores :=
  (beneathStores_foldl (fun _ _ => beneathStores_loadPatch) _ _).trans rfl
@[simp] theorem beneathStores_restartUses : (restartUses s).beneathStores = s.beneathStores := rfl
@[simp] theorem beneathStores_tornCommit : (tornCommit i s).beneathStores = s.beneathStores := by
  unfold tornCommit
  dsimp only
  split <;> rfl
@[simp] theorem beneathStores_tornCommits : (tornCommits s).beneathStores = s.beneathStores :=
  beneathStores_foldl (fun _ _ => beneathStores_tornCommit) _ _
@[simp] theorem beneathStores_scanPair : (scanPair i s).beneathStores = s.beneathStores := by
  unfold scanPair
  dsimp only
  split <;> split <;> simp
@[simp] theorem beneathStores_pairScan : (pairScan s).beneathStores = s.beneathStores :=
  beneathStores_foldl (fun _ _ => beneathStores_scanPair) _ _

/-! ## The journal replay (R319) -/

/-- A record goes into its base slot. -/
def journalPut (s : State) (r : Journal) : State :=
  let s := s.modSlot false r.index (fun _ => r.image)
  if r.image.kind = .moved then s.modSlot false r.image.data (fun d => { d with kind := .run }) else s

/-- The state in which every good record has gone into its base slot. -/
def recordsPlaced (s : State) : State := (s.kv.journal.filter (·.good)).foldl journalPut s

/-- The state in which the shadow runs, and the runs that no job needs, are free. -/
def shadowsFreed (s : State) : State :=
  sweepRuns (((s.kv.ps.filter (fun e => e.2.kind == .shadow)).map (fun e => (e.1, e.2.count))).foldl (fun s e => freeSlots false e.1 e.2 s) s)

/-- The state in which the journal is clear. -/
def journalCleared (found : Bool) (s : State) : State :=
  { s with kv.journal := [], kv.replacing := [], kv.journalReplayed := s.kv.journalReplayed || found }

theorem replayJournal_eq : replayJournal s =
    let good := s.kv.journal.filter (·.good)
    let u := journalCleared (!good.isEmpty) (shadowsFreed (recordsPlaced s))
    if good = [] then u else logRecord 0x0301 (leBytes 1 good.length) u := rfl

/-- A replay ends with a clear journal and at most a record of it. -/
theorem unrecorded_replayJournal : ∃ found, (replayJournal s).unrecorded = (journalCleared found (shadowsFreed (recordsPlaced s))).unrecorded := by
  rw [replayJournal_eq]
  dsimp only
  split
  · exact ⟨_, rfl⟩
  · exact ⟨_, unrecorded_logRecord⟩

@[simp] theorem beneathStores_journalPut {r : Journal} : (journalPut s r).beneathStores = s.beneathStores := by
  unfold journalPut
  dsimp only
  split <;> simp
@[simp] theorem beneathStores_recordsPlaced : (recordsPlaced s).beneathStores = s.beneathStores :=
  beneathStores_foldl (fun _ _ => beneathStores_journalPut) _ _
@[simp] theorem beneathStores_shadowsFreed : (shadowsFreed s).beneathStores = s.beneathStores :=
  beneathStores_sweepRuns.trans (beneathStores_foldl (fun _ _ => beneathStores_freeSlots) _ _)
@[simp] theorem beneathStores_replayJournal : (replayJournal s).beneathStores = s.beneathStores := by
  obtain ⟨found, h⟩ := unrecorded_replayJournal (s := s)
  have hc : (journalCleared found (shadowsFreed (recordsPlaced s))).beneathStores = s.beneathStores := by
    unfold journalCleared
    generalize hu : shadowsFreed (recordsPlaced s) = u
    have : u.beneathStores = s.beneathStores := by simp [← hu]
    exact this
  exact (beneathStores_of_unrecorded h).trans hc

/-! ## Key slots -/

theorem freeSlots_kt {kt : Bool} {n : Nat} (h : s.kv.kt = []) : (freeSlots kt i n s).kv.kt = [] :=
  List.foldlRecOn (motive := fun u : State => u.kv.kt = []) _ _ h fun u hu k _ => by
    cases kt
    · exact hu
    · unfold State.modSlot
      simp [hu, tmod, tput, tget, terase]

theorem sweepRuns_kt (h : s.kv.kt = []) : (sweepRuns s).kv.kt = [] :=
  List.foldlRecOn (motive := fun u : State => u.kv.kt = []) _ _ h fun _ hu _ _ => freeSlots_kt hu

theorem recordsPlaced_kt : (recordsPlaced s).kv.kt = s.kv.kt :=
  foldl_keeps (fun u : State => u.kv.kt) journalPut (fun u r => by unfold journalPut; dsimp only; split <;> rfl) _ _

theorem shadowsFreed_kt (h : s.kv.kt = []) : (shadowsFreed s).kv.kt = [] :=
  sweepRuns_kt (List.foldlRecOn (motive := fun u : State => u.kv.kt = []) _ _ h fun _ hu _ _ => freeSlots_kt hu)

theorem replayJournal_kt (h : s.kv.kt = []) : (replayJournal s).kv.kt = [] := by
  obtain ⟨found, hr⟩ := unrecorded_replayJournal (s := s)
  exact (congrArg (·.kv.kt) hr).trans (shadowsFreed_kt (recordsPlaced_kt.trans h))

theorem replayJournal_journal : (replayJournal s).kv.journal = [] := by
  obtain ⟨found, hr⟩ := unrecorded_replayJournal (s := s)
  exact congrArg (·.kv.journal) hr

theorem recordsPlaced_nil (h : s.kv.journal = []) : recordsPlaced s = s := by rw [recordsPlaced, h]; rfl

theorem shadowsFreed_nil (hp : s.kv.ps = []) (hd : s.kv.dying = []) : (shadowsFreed s).kv = s.kv := by
  have hs : shadowsFreed s = sweepRuns s := by
    unfold shadowsFreed
    rw [hp]
    rfl
  rw [hs, sweepRuns, hd]
  exact congrArg (fun d => { s.kv with dying := d }) hd.symm

/-- With no record, no key and no run to free a replay finds nothing. -/
theorem replayJournal_nil (hj : s.kv.journal = []) (hp : s.kv.ps = []) (hd : s.kv.dying = []) :
    (replayJournal s).kv.ps = [] ∧ (replayJournal s).kv.hbs = s.kv.hbs := by
  obtain ⟨found, hr⟩ := unrecorded_replayJournal (s := s)
  rw [recordsPlaced_nil hj] at hr
  have hkv : (replayJournal s).kv = (journalCleared found (shadowsFreed s)).kv := (congrArg State.kv hr :)
  have hs := shadowsFreed_nil hp hd
  have hps : (shadowsFreed s).kv.ps = [] := (congrArg KvState.ps hs).trans hp
  have hhbs : (shadowsFreed s).kv.hbs = s.kv.hbs := congrArg KvState.hbs hs
  exact ⟨(congrArg KvState.ps hkv).trans hps, (congrArg KvState.hbs hkv).trans hhbs⟩

/-- The scan of the pairs changes the index state of stateful keys alone. -/
theorem pairScan_kv : { (pairScan s).kv with hbs := [] } = { s.kv with hbs := [] } := by
  refine foldl_keeps (fun u : State => { u.kv with hbs := [] }) (fun s i => scanPair i s) (fun u i => ?_) _ s
  unfold scanPair
  dsimp only
  split
  · split <;> rfl
  · rw [logRecord_kv]
    split <;> rfl

theorem takeHeldRecords_kv : (takeHeldRecords s).kv = s.kv :=
  (foldl_keeps State.kv (fun s r => queueRecord r s) (fun u _ => (congrArg State.kv (unrecorded_queueRecord (s := u)) :)) _ _)
theorem drainRecords_kv : (drainRecords s).kv = s.kv := (congrArg State.kv (unrecorded_drainRecords (s := s)) :)
theorem loadPatches_kv : (loadPatches s).kv = s.kv := foldl_keeps State.kv _ (fun _ _ => by unfold loadPatch; rfl) _ _

end Sys2Proof.Machine
end

section
/-! SUPPORT. The start-up (R441, R445, R467, R504, R518). -/
namespace Sys2Proof.Machine

variable {s t : State}

/-! ## What a start-up leaves in view -/

/-- What the statement on resets reads after a start-up, apart from the Key Vault. -/
structure BootView where
  pwr : PwrState
  lcs : LcsState
  tmp : TmpState
  stored : Option (BitVec 7)
  maxQueue : BitVec 7
  batt : Bool
  failed : Bool

def State.bootView (s : State) : BootView := ⟨s.pwr, s.lcs, s.tmp, s.met.stored, s.met.maxQueue, s.vent.batt, s.svc.bootFailed⟩

theorem lcs_of_bootView (h : t.bootView.lcs = s.bootView.lcs) : t.lcs = s.lcs := h

theorem bootView_of_beneathStores (h : t.beneathStores = s.beneathStores) : t.bootView = s.bootView := (congrArg State.bootView h :)

theorem bootView_queueRecord {r : EvRec} : (queueRecord r s).bootView = s.bootView := bootView_of_beneathStores beneathStores_queueRecord
theorem queueRecord_kv {r : EvRec} : (queueRecord r s).kv = s.kv := (congrArg State.kv (unrecorded_queueRecord (s := s)) :)

/-! ## The boot ROM and the fuses (R425, R504) -/

theorem bootBank_boots (h : s.bootOk s.activeBank = true ∨ s.bootOk s.inactive = true) :
    (bootBank s).bootView = s.bootView ∧ (bootBank s).kv = s.kv := by
  unfold bootBank
  split
  · exact ⟨rfl, rfl⟩
  · rw [if_pos (h.resolve_left ‹_›), bootView_of_beneathStores beneathStores_logRecord, logRecord_kv, selectOther]
    split <;> exact ⟨rfl, rfl⟩

theorem bootBank_fails (ha : s.bootOk s.activeBank = false) (hi : s.bootOk s.inactive = false) :
    bootBank s = { s with svc.bootFailed := true } := by simp [bootBank, ha, hi]

theorem metStartup_view : (metStartup s).bootView = s.bootView ∧ (metStartup s).kv = s.kv := by
  unfold metStartup
  dsimp only
  (repeat' split) <;> exact ⟨rfl, rfl⟩

/-! ## A fresh root (R327) -/

/-- The state in which the keys that a RINSE destroys have been made afresh, before any record of it. -/
def rootMade (s : State) : State :=
  let v := freeBytes s 192
  fresh { s with
    kv.vrk0 := BitVec.ofNat 256 (ofLE (v.take 32)), kv.vrk1 := BitVec.ofNat 256 (ofLE (cut v 32 32))
    kv.ps := [], kv.journal := [], kv.dying := [], kv.hbs := []
    kv.pairs := tmap s.kv.pairs {} (fun _ p => if p.unusable then { p with used := false } else {})
    kv.migKey := cut v 64 64, kv.chainKey := cut v 128 64, evr.lastMac := zeros 8, evr.chainStart := true }

theorem freshRoot_view : (freshRoot s).bootView = s.bootView ∧ (freshRoot s).kv = (rootMade s).kv := by
  have hv : (logRecord 0x0303 [] (rootMade s)).bootView = s.bootView := bootView_of_beneathStores beneathStores_logRecord
  have hk : (logRecord 0x0303 [] (rootMade s)).kv = (rootMade s).kv := logRecord_kv
  have hf : freshRoot s = if (logRecord 0x0303 [] (rootMade s)).met.key = [] then logRecord 0x0303 [] (rootMade s)
    else newMetKey (logRecord 0x0303 [] (rootMade s)) := rfl
  rw [hf]
  generalize logRecord 0x0303 [] (rootMade s) = u at hv hk ⊢
  split
  · exact ⟨hv, hk⟩
  · exact ⟨hv, hk⟩

/-! ## The tamper settings and the battery log (R441, R445) -/

theorem ventRecord_view {r : EvRec} : (ventRecord r s).bootView = s.bootView ∧ (ventRecord r s).kv = s.kv := by
  unfold ventRecord
  split
  · split <;> exact ⟨rfl, rfl⟩
  · exact ⟨bootView_queueRecord, queueRecord_kv⟩

/-- A class without a base response does not rise (R449). -/
theorem ventLevel_zero {v : VentClass} {cls : Nat} : ventLevel v cls 0 = 0 := by simp [ventLevel]

/-- At level 0 an event has no effect beyond its record (R446). -/
theorem applyLevel_zero {code detail cls base : Nat} {kind : Fence} {u : FenceUnit} : applyLevel code detail cls base 0 u kind s = s := by
  simp [applyLevel]

/-- The event of a failed mirror is recorded and counted, and no more. -/
theorem raiseOpen_mirror : (raiseOpen 0x80 s).bootView = s.bootView ∧ (raiseOpen 0x80 s).kv = s.kv := by
  have he : eventInfo 0x80 = some (5, 0) := rfl
  unfold raiseOpen raiseOpenAt raiseEvent
  simp only [he, ventLevel_zero, applyLevel_zero]
  exact ventRecord_view

/-- The Tamper Unit with the mirror loaded. -/
def TmpState.mirrorLoaded (t : TmpState) : TmpState :=
  if t.mirrorGood then { t with stage := t.mirror, active := t.mirror } else { t with stage := {}, active := {}, mirror := {}, mirrorGood := true }

theorem loadMirror_view : (loadMirror s).bootView = { s.bootView with tmp := s.bootView.tmp.mirrorLoaded } ∧ (loadMirror s).kv = s.kv := by
  unfold loadMirror
  split
  · next h => exact ⟨by simp [State.bootView, TmpState.mirrorLoaded, h], rfl⟩
  · next h =>
    obtain ⟨hv, hk⟩ := raiseOpen_mirror (s := { s with tmp.stage := {}, tmp.active := {}, tmp.mirror := {}, tmp.mirrorGood := true })
    exact ⟨hv.trans (by simp [State.bootView, TmpState.mirrorLoaded, h]), hk⟩

theorem moveEntry_view {e : BattEntry} : (moveEntry e s).bootView = s.bootView ∧ (moveEntry e s).kv = s.kv :=
  ⟨bootView_queueRecord, queueRecord_kv⟩

theorem updateAlert_view : (updateAlert s).bootView = s.bootView ∧ (updateAlert s).kv = s.kv := by
  unfold updateAlert
  dsimp only
  split <;> exact ⟨rfl, rfl⟩

theorem updateAttn_view : (updateAttn s).bootView = s.bootView ∧ (updateAttn s).kv = s.kv := by
  unfold updateAttn
  dsimp only
  split <;> exact ⟨rfl, rfl⟩

theorem moveBattLog_view : (moveBattLog s).bootView = { s.bootView with
      tmp := { s.bootView.tmp with battLog := [], battOver := 0, tamperOut := false }
      batt := s.bootView.batt || !s.bootView.tmp.battLog.isEmpty } ∧ (moveBattLog s).kv = s.kv := by
  have hv := foldl_keeps State.bootView (fun s e => moveEntry e s) (fun _ _ => moveEntry_view.1) s.tmp.battLog s
  have hk := foldl_keeps State.kv (fun s e => moveEntry e s) (fun _ _ => moveEntry_view.2) s.tmp.battLog s
  unfold moveBattLog
  dsimp only
  generalize s.tmp.battLog.foldl (fun s e => moveEntry e s) s = u at hv hk ⊢
  have hl : s.tmp.battLog = u.tmp.battLog := (congrArg (·.tmp.battLog) hv.symm :)
  rw [updateAlert_view.1, updateAlert_view.2, ← hk, ← hv, hl]
  unfold pinTo
  split <;> exact ⟨rfl, rfl⟩

/-! ## Thimble's part (R518) -/

/-- The state in which keys are there again: root, journal, uses and index states (R211, R313, R319, R327). -/
def keysStarted (s : State) : State :=
  pairScan (restartUses (replayJournal (if (s.kv.vrk0 = 0 ∧ s.kv.vrk1 = 0) ∨ !s.tmp.mirrorGood then freshRoot s else s)))

theorem keysStarted_bootView : (keysStarted s).bootView = s.bootView := by
  unfold keysStarted
  rw [bootView_of_beneathStores beneathStores_pairScan, bootView_of_beneathStores beneathStores_restartUses,
    bootView_of_beneathStores beneathStores_replayJournal]
  split
  · exact freshRoot_view.1
  · rfl

theorem keysStarted_journal : (keysStarted s).kv.journal = [] :=
  (congrArg KvState.journal (pairScan_kv (s := restartUses _)) :).trans replayJournal_journal

theorem keysStarted_ps (h : (s.kv.vrk0 = 0 ∧ s.kv.vrk1 = 0) ∨ s.tmp.mirrorGood = false) : (keysStarted s).kv.ps = [] := by
  unfold keysStarted
  rw [if_pos (by simpa using h)]
  obtain ⟨-, hk⟩ := freshRoot_view (s := s)
  obtain ⟨hp, hh⟩ := replayJournal_nil (s := freshRoot s) (by rw [hk]; rfl) (by rw [hk]; rfl) (by rw [hk]; rfl)
  have hps : (restartUses (replayJournal (freshRoot s))).kv.ps = [] := by
    unfold restartUses
    rw [hp]
    rfl
  exact (congrArg KvState.ps (pairScan_kv (s := restartUses _)) :).trans hps

/-- The state in which ring intake opens, with a new Table Master Key. -/
def intakeOpened (s : State) : State :=
  let s := fresh { s with kv.tmk := BitVec.ofNat 512 (ofLE (freeBytes s 64)) }
  { s with met.maxQueue := s.met.stored.getD 0x40, pwr.intake := true }

theorem thimbleStart_eq : thimbleStart s = intakeOpened (loadPatches (moveBattLog (loadMirror (keysStarted s)))) := by
  unfold thimbleStart intakeOpened keysStarted
  rfl

theorem intakeOpened_bootView : (intakeOpened s).bootView =
    { s.bootView with pwr := { s.bootView.pwr with intake := true }, maxQueue := s.bootView.stored.getD 0x40 } := by
  simp only [State.bootView, intakeOpened, fresh]

theorem intakeOpened_kv : (intakeOpened s).kv = { s.kv with tmk := (intakeOpened s).kv.tmk } := by
  unfold intakeOpened
  rfl

theorem thimbleStart_kv : (thimbleStart s).kv = { (keysStarted s).kv with tmk := (thimbleStart s).kv.tmk } := by
  rw [thimbleStart_eq, intakeOpened_kv, loadPatches_kv, moveBattLog_view.2, loadMirror_view.2]

theorem thimbleStart_bootView : (thimbleStart s).bootView = { s.bootView with
    pwr := { s.bootView.pwr with intake := true }
    tmp := { s.bootView.tmp.mirrorLoaded with battLog := [], battOver := 0, tamperOut := false }
    maxQueue := s.bootView.stored.getD 0x40
    batt := s.bootView.batt || !s.bootView.tmp.mirrorLoaded.battLog.isEmpty } := by
  rw [thimbleStart_eq, intakeOpened_bootView, bootView_of_beneathStores beneathStores_loadPatches, moveBattLog_view.1, loadMirror_view.1,
    keysStarted_bootView]

theorem mirrorLoaded_battLog {t : TmpState} : t.mirrorLoaded.battLog = t.battLog := by unfold TmpState.mirrorLoaded; split <;> rfl
theorem mirrorLoaded_active {t : TmpState} : t.mirrorLoaded.active = t.mirrorLoaded.mirror := by unfold TmpState.mirrorLoaded; split <;> rfl

/-! ## The command -/

/-- The state in which internal reset has ended and the LCS Unit has decoded its fuses, before the boot ROM runs. -/
def outOfReset (s : State) : State :=
  { s with
    pwr.inReset := false, lcs.state := decodeLcs s.otp, lcs.powerCycles := s.lcs.powerCycles + 1
    lcs.dac := s.lcs.dac.bind Dac.startUp, met.marks := s.met.marks + 1 }

/-- The state once the boot ROM has looked for a bank and Metrology has started. -/
def afterBoot (s : State) : State := metStartup (bootBank (outOfReset s))

/-- The state once Thimble has started, where a bank did. -/
def startedUp (s : State) : State := if (afterBoot s).svc.bootFailed then afterBoot s else thimbleStart (afterBoot s)

theorem exec_startUp_stays (h : s.pwr.inReset = false ∨ s.pwr.mainPower = false) : exec .startUp s = .next s :=
  congrArg Host.Outcome.next (if_pos (by simpa using h))

theorem exec_startUp (hr : s.pwr.inReset = true) (hp : s.pwr.mainPower = true) : exec .startUp s = .next (updateAttn (startedUp s)) :=
  congrArg Host.Outcome.next (if_neg (by simp [hr, hp]))

theorem afterBoot_boots (h : s.bootOk s.activeBank = true ∨ s.bootOk s.inactive = true) :
    (afterBoot s).bootView = (outOfReset s).bootView ∧ (afterBoot s).kv = s.kv := by
  obtain ⟨hv, hk⟩ := bootBank_boots (s := outOfReset s) h
  exact ⟨metStartup_view.1.trans hv, metStartup_view.2.trans hk⟩

theorem afterBoot_fails (ha : s.bootOk s.activeBank = false) (hi : s.bootOk s.inactive = false) :
    (afterBoot s).bootView = { (outOfReset s).bootView with failed := true } :=
  metStartup_view.1.trans (congrArg State.bootView (bootBank_fails (s := outOfReset s) ha hi))

/-- Whether a bank boots or not, internal reset has ended and the life-cycle state is decoded. -/
theorem startedUp_lcs : (startedUp s).pwr.inReset = false ∧ (startedUp s).lcs = (outOfReset s).lcs := by
  have ht := thimbleStart_bootView (s := afterBoot s)
  have ha : (afterBoot s).pwr.inReset = false ∧ (afterBoot s).lcs = (outOfReset s).lcs := by
    by_cases hb : s.bootOk s.activeBank = true ∨ s.bootOk s.inactive = true
    · exact ⟨(congrArg (·.pwr.inReset) (afterBoot_boots hb).1 :), (congrArg BootView.lcs (afterBoot_boots hb).1 :)⟩
    · obtain ⟨hx, hi⟩ := not_or.mp hb
      have hv := afterBoot_fails (Bool.eq_false_iff.mpr hx) (Bool.eq_false_iff.mpr hi)
      exact ⟨(congrArg (·.pwr.inReset) hv :), (congrArg BootView.lcs hv :)⟩
  unfold startedUp
  split
  · exact ha
  · exact ⟨(congrArg (·.pwr.inReset) ht :).trans ha.1, (lcs_of_bootView (congrArg BootView.lcs ht :)).trans ha.2⟩

theorem startedUp_fails (ha : s.bootOk s.activeBank = false) (hi : s.bootOk s.inactive = false) :
    (startedUp s).bootView = { (outOfReset s).bootView with failed := true } := by
  have hv := afterBoot_fails ha hi
  have hf : (afterBoot s).svc.bootFailed = true := (congrArg BootView.failed hv :)
  rw [startedUp, if_pos hf, hv]

/-- Where a bank boots, Thimble finds the state that the end of internal reset left, and the keys. -/
theorem startedUp_boots (h : s.bootOk s.activeBank = true ∨ s.bootOk s.inactive = true) (hf : s.svc.bootFailed = false) :
    ∃ u, u.bootView = (outOfReset s).bootView ∧ u.kv = s.kv ∧ startedUp s = thimbleStart u := by
  obtain ⟨hv, hk⟩ := afterBoot_boots h
  have hb : (afterBoot s).svc.bootFailed = false := (congrArg BootView.failed hv :).trans hf
  exact ⟨afterBoot s, hv, hk, if_neg (by simp [hb])⟩

end Sys2Proof.Machine
end

section
/-! SUPPORT. Internal reset (R459, R519, R520). -/
namespace Sys2Proof.Machine

variable {s t : State}

/-! ## A burn that a reset interrupts (R459) -/

theorem or_bit_or_of_bit {target w : BitVec 32} {i : Nat} (h : bit target i = true) : (w ||| (1 <<< i : Nat)) ||| target = w ||| target := by
  refine BitVec.eq_of_getLsbD_eq fun k hk => ?_
  simp only [BitVec.getLsbD_or, BitVec.natCast_eq_ofNat, BitVec.getLsbD_ofNat, Nat.one_shiftLeft, Nat.testBit_two_pow]
  by_cases he : i = k
  · subst he
    have ht : target.getLsbD i = true := h
    simp [ht]
  · simp [he]

/-- A burn sets no bit that is not in its target. -/
theorem burnBits_within {target : BitVec 32} : ∀ {n w}, within (burnBits target n w) (w ||| target)
  | 0, w => within_or w target
  | n + 1, w => by
    unfold burnBits
    split
    · next i hi =>
      have hbit := List.find?_some (p := fun i => bit target i && !bit w i) hi
      rw [← or_bit_or_of_bit (w := w) (Bool.and_eq_true_iff.mp hbit).1]
      exact burnBits_within
    · exact within_or w target

theorem burnUpTo_lcs {target : BitVec 32} {n : Nat} {o : Otp} {p : Otp → BitVec 32} (hp : p = Otp.lcsA ∨ p = Otp.lcsB ∨ p = Otp.lcsC) :
    within (p o) (p (burnUpTo target n o)) ∧ within (p (burnUpTo target n o)) (p o ||| target) := by
  unfold burnUpTo
  rcases hp with rfl | rfl | rfl <;>
  · dsimp only
    exact ⟨within_burnBits, burnBits_within⟩

/-! ## What internal reset finds -/

/-- The state that internal reset finds once pins, burn and commits have stopped. -/
def stopped (s : State) : State := tornCommits (interruptBurn (pinsInReset s))

/-- The state without the fuses, the records of stateful keys, what has been sent and the count of free values. -/
def State.beneathStop (s : State) : State := { s with otp := {}, kv.hbs := [], kv.pairs := [], outbox := [], freeCtr := 0 }

theorem beneathStop_pinTo {was level : Bool} {p : Pin} : (pinTo was p level s).beneathStop = s.beneathStop := by
  unfold pinTo
  split <;> rfl

theorem beneathStop_cardsOff : (cardsOff s).beneathStop = s.beneathStop :=
  (foldl_keeps State.beneathStop _ (fun _ _ => beneathStop_pinTo) _ _).trans beneathStop_pinTo

theorem beneathStop_pinsInReset : (pinsInReset s).beneathStop = s.beneathStop :=
  beneathStop_pinTo.trans (beneathStop_pinTo.trans (beneathStop_pinTo.trans (beneathStop_pinTo.trans beneathStop_cardsOff)))

theorem beneathStop_interruptBurn : (interruptBurn s).beneathStop = s.beneathStop := by
  unfold interruptBurn
  split <;> rfl

theorem beneathStop_tornCommits : (tornCommits s).beneathStop = s.beneathStop :=
  foldl_keeps State.beneathStop (fun s i => tornCommit i s) (fun _ _ => by unfold tornCommit; dsimp only; split <;> rfl) _ _

theorem beneathStop_stopped : (stopped s).beneathStop = s.beneathStop :=
  beneathStop_tornCommits.trans (beneathStop_interruptBurn.trans beneathStop_pinsInReset)

theorem stopped_otp : (stopped s).otp = (interruptBurn (pinsInReset s)).otp := (kept_eq_iff.mp kept_tornCommits).1

theorem pinsInReset_otp : (pinsInReset s).otp = s.otp := (kept_eq_iff.mp kept_pinsInReset).1

theorem pinsInReset_lcs : (pinsInReset s).lcs = s.lcs := (congrArg State.lcs (beneathStop_pinsInReset (s := s)) :)

theorem stopped_otp_of_none (h : s.lcs.burning = none) : (stopped s).otp = s.otp := by
  rw [stopped_otp, ← pinsInReset_otp (s := s)]
  generalize hu : pinsInReset s = u
  have hb : u.lcs.burning = none := by rw [← hu, pinsInReset_lcs, h]
  rw [interruptBurn, hb]

theorem stopped_otp_of_some {b : Burn} (h : s.lcs.burning = some b) : ∃ n, (stopped s).otp = burnUpTo b.target n s.otp := by
  rw [stopped_otp, ← pinsInReset_otp (s := s)]
  generalize hu : pinsInReset s = u
  have hb : u.lcs.burning = some b := by rw [← hu, pinsInReset_lcs, h]
  rw [interruptBurn, hb]
  exact ⟨_, rfl⟩

end Sys2Proof.Machine
end

section
/-! SUPPORT. Conventional reset (R62, R519). -/
namespace Sys2Proof.Machine

variable {s u : State} {draws : List DrbgFor}

/-! ## What a conventional reset stops first -/

/-- The state without the stores of `State.beneathStores` and without the card ports. -/
def State.beneathCards (s : State) : State := { s.beneathStores with crd := {} }

theorem beneathCards_of_beneathStores (h : u.beneathStores = s.beneathStores) : u.beneathCards = s.beneathCards :=
  congrArg (fun t : State => { t with crd := {} }) h

theorem beneathCards_ocOff {k last : Nat} : (ocOff k last s).beneathCards = s.beneathCards := by
  unfold ocOff
  dsimp only
  split <;> rfl

theorem beneathCards_bkpEnd {code detail : Nat} {block : Option Nat} : (bkpEnd code detail block s).beneathCards = s.beneathCards := by
  unfold bkpEnd
  split
  · rfl
  · refine (beneathCards_of_beneathStores beneathStores_logRecord).trans ?_
    split
    · exact beneathCards_ocOff.trans beneathCards_ocOff
    · rfl

/-- The state in which the backup, the commits and the cards have stopped. -/
def hostStopped (s : State) : State := cardsOff (tornCommits (bkpEnd stAborted 0 none s))

theorem beneathStores_cardsOff : (cardsOff s).beneathStores = s.beneathStores :=
  (beneathStores_foldl (fun _ _ => beneathStores_pinTo) _ _).trans beneathStores_pinTo

theorem beneathCards_hostStopped : (hostStopped s).beneathCards = s.beneathCards :=
  (beneathCards_of_beneathStores (beneathStores_cardsOff.trans beneathStores_tornCommits)).trans beneathCards_bkpEnd

/-! ## What it clears, and what Thimble does then -/

/-- The state in which PERST# has cleared the host side; `back` tells whether the TAP gives the pins back, `draws` are the draws that stay. -/
def hostCleared (back : Bool) (draws : List DrbgFor) (s : State) : State :=
  { s with
    pwr.perst := true, pwr.hifReady := false, locks := 0, hold := [], hif := {}, ring := {}, sqs := [], cqs := [], jobs := []
    slices := [(0, { enable := true, state := .active })], freezeLimit := 0x1388
    mig := { imageSeq := s.mig.imageSeq }
    eng := { fence := keepFences s.eng.fence }, ctxs := tmap s.ctxs {} (fun _ x => { sgen := if x.isOpen then x.sgen + 1 else x.sgen }), pwr.creditQueue := []
    kv.kt := [], kv.rotations := 0, kv.tmk := BitVec.ofNat 512 (ofLE (freeBytes s 64)), kv.tmkOld := 0, kv.sweep := false
    rng.queue := draws
    thm.run := none, met.mailbox := [], crd := {}
    svc.bank0 := s.svc.bank0.settled, svc.bank1 := s.svc.bank1.settled, svc.activating := none, svc.paused := false, svc.loaded := [], svc.patRead := none
    tap.driving := s.tap.driving && !back }

/-- Thimble starts again, unless it failed to start before or a RINSE is in force. -/
def thimbleAgain (s : State) : State :=
  if s.svc.bootFailed then s
  else if s.tmp.rinse then { s with kv.tmk := 0 }
  else
    let s := { s with thm.restarting := false, thm.fenced := false, thm.halted := false }
    drainRecords (takeHeldRecords (loadPatches (pairScan (replayJournal s))))

/-- The state after a conventional reset of a device that is out of internal reset. -/
def hostReset (draws : List DrbgFor) (s : State) : State :=
  let back := s.tap.driving && s.tap.left
  thimbleAgain (fresh (pinTo back .boundary false (hostCleared back draws s)))

theorem exec_conventionalReset (h : s.pwr.inReset = false) :
    ∃ draws, exec .conventionalReset s = .next (hostReset draws (hostStopped s)) :=
  ⟨_, congrArg Host.Outcome.next (if_neg (by simp [h]))⟩

theorem beneathStores_thimbleAgain : (thimbleAgain s).beneathStores = s.beneathStores := by
  unfold thimbleAgain
  dsimp only
  split
  · rfl
  · split
    · rfl
    · rw [beneathStores_drainRecords, beneathStores_takeHeldRecords, beneathStores_loadPatches, beneathStores_pairScan,
        beneathStores_replayJournal]
      rfl

theorem thimbleAgain_kt (h : s.kv.kt = []) : (thimbleAgain s).kv.kt = [] := by
  unfold thimbleAgain
  dsimp only
  split
  · exact h
  · split
    · exact h
    · rw [drainRecords_kv, takeHeldRecords_kv, loadPatches_kv]
      exact (congrArg KvState.kt (pairScan_kv (s := replayJournal _)) :).trans (replayJournal_kt h)

/-- What the clearing leaves comes from what lies beneath stores and cards. -/
theorem beneathStores_hostCleared {back : Bool} (h : u.beneathCards = s.beneathCards) :
    (hostCleared back draws u).beneathStores = (hostCleared back draws s).beneathStores :=
  (congrArg (fun v => (hostCleared back draws v).beneathStores) h :)

theorem beneathStores_hostReset : ∃ back, (hostReset draws (hostStopped s)).beneathStores = (hostCleared back draws s).beneathStores :=
  ⟨_, beneathStores_thimbleAgain.trans (beneathStores_fresh.trans (beneathStores_pinTo.trans (beneathStores_hostCleared beneathCards_hostStopped)))⟩

theorem hostReset_kt : (hostReset draws s).kv.kt = [] := by
  refine thimbleAgain_kt ?_
  unfold pinTo
  split <;> rfl

end Sys2Proof.Machine
end

section
/-! SUPPORT. The resets (R62, R63, R444, R459, R504, R517 to R519). -/
namespace Sys2Proof.Machine

variable {s : State} {cause : BitVec 2}

/-! ## Internal reset -/

theorem internalReset_otp : (internalReset cause s).otp = (stopped s).otp := rfl

/-- A fuse word that a reset finds under a burn has kept its bits and gained none but the target's. -/
theorem internalReset_lcs {b : Burn} {p : Otp → BitVec 32} (h : s.lcs.burning = some b) (hp : p = Otp.lcsA ∨ p = Otp.lcsB ∨ p = Otp.lcsC) :
    within (p s.otp) (p (internalReset cause s).otp) ∧ within (p (internalReset cause s).otp) (p s.otp ||| b.target) := by
  obtain ⟨n, hn⟩ := stopped_otp_of_some h
  rw [internalReset_otp, hn]
  exact burnUpTo_lcs hp

theorem exec_brownOut_fast : exec (.brownOut true) s = .next (if s.pwr.inReset ∨ !s.pwr.mainPower then s else tamperAlarm 0x72 0 s) := rfl

/-! ## Start-up -/

/-- A certificate that survives the start-ups it has left takes one. -/
theorem bind_dacStartUp {d : Option Dac} :
    d.bind Dac.startUp = match d with
      | some d => if d.cycles = 0 then none else some { d with cycles := d.cycles - 1 }
      | none => none := by cases d <;> rfl

/-- What `startedUp` shows it still shows when the attention pin has followed. -/
theorem bootView_updateAttn {v : BootView} (h : s.bootView = v) : (updateAttn s).bootView = v := updateAttn_view.1.trans h

theorem startUp_lcs : (updateAttn (startedUp s)).pwr.inReset = false ∧ (updateAttn (startedUp s)).lcs = (outOfReset s).lcs := by
  have hv := (updateAttn_view (s := startedUp s)).1
  exact ⟨(congrArg (·.pwr.inReset) hv :).trans startedUp_lcs.1, (lcs_of_bootView (congrArg BootView.lcs hv :)).trans startedUp_lcs.2⟩

theorem startUp_fails (ha : s.bootOk s.activeBank = false) (hi : s.bootOk s.inactive = false) :
    (updateAttn (startedUp s)).svc.bootFailed = true ∧ (updateAttn (startedUp s)).pwr.intake = s.pwr.intake := by
  have hv := bootView_updateAttn (startedUp_fails ha hi)
  exact ⟨(congrArg BootView.failed hv :), (congrArg (·.pwr.intake) hv :)⟩

/-- Where a bank boots, the start-up shows what Thimble's part of it shows, with the keys that it finds. -/
theorem startUp_boots (hb : s.bootOk s.activeBank = true ∨ s.bootOk s.inactive = true) (hf : s.svc.bootFailed = false) :
    ∃ u, u.bootView = (outOfReset s).bootView ∧ u.kv = s.kv ∧ (updateAttn (startedUp s)).bootView = (thimbleStart u).bootView ∧
      (updateAttn (startedUp s)).kv = (thimbleStart u).kv := by
  obtain ⟨u, hv, hk, he⟩ := startedUp_boots hb hf
  rw [he]
  exact ⟨u, hv, hk, updateAttn_view⟩

theorem startUp_boots_keys (hb : s.bootOk s.activeBank = true ∨ s.bootOk s.inactive = true) (hf : s.svc.bootFailed = false) :
    (updateAttn (startedUp s)).kv.journal = [] ∧
      ((s.kv.vrk0 = 0 ∧ s.kv.vrk1 = 0) ∨ s.tmp.mirrorGood = false → (updateAttn (startedUp s)).kv.ps = []) := by
  obtain ⟨u, hv, hk, -, htk⟩ := startUp_boots hb hf
  have hm : u.tmp.mirrorGood = s.tmp.mirrorGood := (congrArg (·.tmp.mirrorGood) hv :)
  have hkv := htk.trans thimbleStart_kv
  rw [← hk, ← hm]
  have hp := keysStarted_ps (s := u)
  have hj := keysStarted_journal (s := u)
  generalize keysStarted u = v at hkv hp hj
  exact ⟨(congrArg KvState.journal hkv :).trans hj, fun h => (congrArg KvState.ps hkv :).trans (hp h)⟩

/-- A start-up opens intake with the tamper settings of the mirror and the battery log moved. -/
theorem startUp_boots_view (hb : s.bootOk s.activeBank = true ∨ s.bootOk s.inactive = true) (hf : s.svc.bootFailed = false) :
    (updateAttn (startedUp s)).svc.bootFailed = false ∧ (updateAttn (startedUp s)).pwr.intake = true ∧
      (updateAttn (startedUp s)).tmp.tamperOut = false ∧ (updateAttn (startedUp s)).tmp.battLog = [] ∧
      (updateAttn (startedUp s)).vent.batt = (s.vent.batt || !s.tmp.battLog.isEmpty) ∧
      (updateAttn (startedUp s)).tmp.active = (updateAttn (startedUp s)).tmp.mirror ∧
      (updateAttn (startedUp s)).met.maxQueue = s.met.stored.getD 0x40 := by
  obtain ⟨u, hv, -, ht, -⟩ := startUp_boots hb hf
  have hw := ht.trans thimbleStart_bootView
  rw [hv] at hw
  generalize updateAttn (startedUp s) = t at hw ⊢
  refine ⟨(congrArg BootView.failed hw :).trans hf, (congrArg (·.pwr.intake) hw :), (congrArg (·.tmp.tamperOut) hw :),
    (congrArg (·.tmp.battLog) hw :), (congrArg BootView.batt hw :).trans ?_, (congrArg (·.tmp.active) hw :).trans ?_,
    (congrArg BootView.maxQueue hw :)⟩
  · rw [mirrorLoaded_battLog]
    rfl
  · exact mirrorLoaded_active.trans (congrArg (·.tmp.mirror) hw.symm :)

/-! ## The statement -/

/-- Settles O51: each reset is a chain of steps that stop, clear or start something, followed by an assignment of reset values. What the
assignment names is read off it; the rest is what the chain leaves alone (`beneathStop`, `bootView`, `beneathStores`, `SlicesReset`). -/
theorem resetsKeepWhatTheyMust : Obligations.ResetsKeepWhatTheyMust := by
  unfold Obligations.ResetsKeepWhatTheyMust
  intro s powerOn slices0 isReset boots
  have hreset (c : BitVec 2) : isReset (internalReset c s) s.pwr.mainPower c := by
    have hk := beneathStop_stopped (s := s)
    refine ⟨?_, rfl, rfl, rfl, rfl, rfl, rfl, rfl, rfl, rfl, rfl, rfl, rfl, rfl, rfl, rfl, rfl, rfl, rfl, ?_, ?_, ?_, ?_, ?_, ?_, ?_, rfl,
      ?_, ?_, ?_, ?_, ?_, rfl, ?_, fun h => stopped_otp_of_none h, fun b hb p hp => internalReset_lcs hb hp⟩
    · exact (congrArg (fun t : State => ({ mainPower := t.pwr.mainPower, perst := t.pwr.perst, cause := c } : PwrState)) hk :)
    · exact (congrArg (·.kv.ps) hk :)
    · exact (congrArg (·.kv.vrk0) hk :)
    · exact (congrArg (·.kv.vrk1) hk :)
    · exact (congrArg (·.evr.records) hk :)
    · exact (congrArg (·.evr.opTicks) hk :)
    · exact (congrArg (·.thm.custodians) hk :)
    · exact (congrArg (·.thm.templates) hk :)
    · exact (congrArg (·.met.key) hk :)
    · exact (congrArg (·.tmp.battLog) hk :)
    · exact (congrArg (·.tmp.active) hk :)
    · exact (congrArg (·.svc.svnFloor) hk :)
    · exact (congrArg (·.lcs.state) hk :)
    · exact (congrArg (·.mig.imageSeq) hk :)
  refine ⟨⟨_, congrArg (fun c => Host.Outcome.next (internalReset c s)) ?_, hreset _⟩, ⟨_, rfl, hreset 2⟩, fun h => ?_, fun hr hm => ?_,
    ?_, rfl, exec_startUp_stays, fun hr hm => ?_, rfl, rfl, fun hr => ?_, fun hr => ?_, fun h => ?_, fun hr hp hh => ?_, fun hr hp hh => ?_⟩
  · simp
  · exact exec_brownOut_fast.trans (congrArg Host.Outcome.next (if_pos (by simpa using h)))
  · have hd : tamperAlarm 0x72 0 s = raiseEvent 0x72 0 .none .own s := if_neg (by simp [hr])
    exact exec_brownOut_fast.trans (congrArg Host.Outcome.next ((if_neg (by simp [hr, hm])).trans hd))
  · obtain ⟨hpwr, hin, rest⟩ := hreset (if s.pwr.inReset then s.pwr.cause else 2)
    exact ⟨_, rfl, ⟨(congrArg (fun p : PwrState => { p with mainPower := false }) hpwr :), hin, rest⟩, rfl⟩
  · refine ⟨_, exec_startUp hr hm, startUp_lcs.1, ?_, ?_, ?_, startUp_fails, fun hb hf => ?_⟩
    · rw [startUp_lcs.2]; rfl
    · rw [startUp_lcs.2]; rfl
    · rw [startUp_lcs.2]; exact bind_dacStartUp
    · obtain ⟨hfail, hin, hout, hlog, hbatt, hact, hmax⟩ := startUp_boots_view hb hf
      exact ⟨hfail, hin, hout, hlog, hbatt, hact, hmax, startUp_boots_keys hb hf⟩
  · exact congrArg Host.Outcome.next (if_pos hr)
  · obtain ⟨draws, he⟩ := exec_conventionalReset hr
    obtain ⟨back, hb⟩ := beneathStores_hostReset (s := s) (draws := draws)
    have hk := hostReset_kt (s := hostStopped s) (draws := draws)
    refine ⟨_, he, ?_⟩
    generalize hostReset draws (hostStopped s) = t at hb hk ⊢
    exact ⟨(congrArg (·.pwr.perst) hb :), (congrArg (·.pwr.hifReady) hb :), (congrArg State.locks hb :), (congrArg State.hif hb :),
      (congrArg State.ring hb :), (congrArg State.sqs hb :), (congrArg State.cqs hb :), (congrArg State.jobs hb :),
      (congrArg State.slices hb :), hk, (congrArg State.crd hb :), (congrArg State.ctxs hb :), (congrArg (·.eng.fence) hb :),
      (congrArg State.time hb :), (congrArg (·.rng.state) hb :), (congrArg (·.vent.halt) hb :), (congrArg (·.vent.cls) hb :),
      (congrArg (·.lcs.state) hb :), (congrArg State.otp hb :), (congrArg (·.tmp.rinse) hb :)⟩
  · exact (congrArg Host.Outcome.next (atConfig_reset h) :)
  · exact (congrArg Host.Outcome.next (atConfig_notReady hr hp hh) :)
  · have he : exec .functionLevelReset s = .next (functionCleared (functionReset s)) := by
      rw [exec_functionLevelReset, atConfig_ready hr hp hh]
    refine ⟨_, he, hushed_functionCleared functionReset_hushed, fun i hi => ⟨?_, ?_⟩, rfl, rfl, rfl, rfl, rfl, rfl, rfl, rfl, rfl, ?_, rfl, ?_⟩
    · rw [slice_functionCleared, functionReset_gen hi]
    · rw [slice_functionCleared, functionReset_enable]
    · rw [quorum_functionCleared, functionReset_quorum]
    · rw [time_functionCleared, functionReset_time]

end Sys2Proof.Machine
end

section
/-! SUPPORT. Changes of a queue, and what the operations on queues leave alone (R50, R76, R82, R90, R93, R97). -/
namespace Sys2Proof.Machine

/-! ## Two writes of one key of a table are the second -/

theorem terase_terase {α : Type} (t : Tbl α) (k : Nat) : terase (terase t k) k = terase t k := by
  induction t with
  | nil => rfl
  | cons p r ih => by_cases h : p.1 = k <;> simp [terase, h, ih]

theorem terase_tinsert {α : Type} (t : Tbl α) (k : Nat) (v : α) : terase (tinsert t k v) k = terase t k := by
  induction t with
  | nil => simp [terase, tinsert]
  | cons p r ih => by_cases h : p.1 < k <;> simp [terase, tinsert, h, ih]

theorem tput_tput {α : Type} [DecidableEq α] (t : Tbl α) (d : α) (k : Nat) (v w : α) : tput (tput t d k v) d k w = tput t d k w := by
  have he : terase (tput t d k v) k = terase t k := by
    unfold tput
    split
    · exact terase_terase t k
    · rw [terase_tinsert, terase_terase]
  exact (congrArg (fun u => if w = d then u else tinsert u k w) he :)

theorem tmod_tmod {α : Type} [DecidableEq α] (t : Tbl α) (d : α) (k : Nat) (f g : α → α) :
    tmod (tmod t d k f) d k g = tmod t d k (fun x => g (f x)) := by
  rw [tmod, tget_tmod_same, tmod, tput_tput, tmod]

variable {s t : State} {i k : Nat}

/-! ## Queues -/

@[simp] theorem modSq_modSq (f g : Sq → Sq) : (s.modSq i k f).modSq i k g = s.modSq i k (fun q => g (f q)) :=
  congrArg (fun t => { s with sqs := t }) (tmod_tmod ..)
@[simp] theorem modCq_modCq (f g : Cq → Cq) : (s.modCq i k f).modCq i k g = s.modCq i k (fun c => g (f c)) :=
  congrArg (fun t => { s with cqs := t }) (tmod_tmod ..)
@[simp] theorem cq_modSq (f : Sq → Sq) (a b : Nat) : (s.modSq i k f).cq a b = s.cq a b := rfl
@[simp] theorem sqActive_modSq (f : Sq → Sq) (a b : Nat) : (s.modSq i k f).sqActive a b = s.sqActive a b := rfl
@[simp] theorem errCqUsed_modCq (f : Cq → Cq) (a b : Nat) : (s.modCq i k f).errCqUsed a b = s.errCqUsed a b := rfl

theorem sq_of_sqs (h : t.sqs = s.sqs) : t.sq i k = s.sq i k := congrArg (fun x => tget x ({} : Sq) (16 * i + k)) h
theorem cq_of_cqs (h : t.cqs = s.cqs) : t.cq i k = s.cq i k := congrArg (fun x => tget x ({} : Cq) (16 * i + k)) h

/-! ## Doorbells (R54, R76) -/

theorem barOn_of_doorbells (h : s.doorbells i = true) : s.barOn = true := by
  simp only [State.doorbells, Bool.and_eq_true] at h
  obtain ⟨⟨⟨⟨hb, -⟩, -⟩, -⟩, -⟩ := h
  exact hb

/-! ## The slot that a waiting job holds (R90) -/

theorem dropSlot_sq : (dropSlot i k s).sq i k = { s.sq i k with slot := none } := by
  unfold dropSlot
  split
  next h => rw [← h]
  next c h => exact sq_modSq ..

theorem dropSlot_jobs : (dropSlot i k s).jobs = s.jobs := by
  unfold dropSlot
  split <;> rfl

/-- What a dropped slot gives back depends on the completion queues and on the slot alone. -/
theorem dropSlot_cqs_congr (hc : t.cqs = s.cqs) (hs : (t.sq i k).slot = (s.sq i k).slot) : (dropSlot i k t).cqs = (dropSlot i k s).cqs := by
  unfold dropSlot
  rw [hs]
  split
  next => exact hc
  next c _ => exact congrArg (fun x => tmod x {} (16 * i + c) (fun q : Cq => { q with resv := q.resv - 1 })) hc

/-! ## Reports of a failed read (R50) -/

theorem setDmaStatus_sqs {e : ReadError} : (setDmaStatus e s).sqs = s.sqs := rfl
theorem reportAer_sqs {e : ReadError} : (reportAer e s).sqs = s.sqs := by
  unfold reportAer
  split <;> rfl

/-! ## Moderation (R93) -/

theorem msixDue_cqs {n : Nat} : (msixDue n s).cqs = s.cqs := by
  unfold msixDue
  split <;> rfl

theorem cqMessage_cq : (cqMessage i k s).cq i k = { s.cq i k with unsig := 0 } := (cq_of_cqs msixDue_cqs).trans (cq_modCq ..)

/-- The entry-count rule touches the count of unsignalled entries and no other field of the queue. -/
theorem moderate_cq : ∃ n, (moderate i k s).cq i k = { s.cq i k with unsig := n } := by
  by_cases h : ((s.cq i k).ien && decide (max 1 (s.cq i k).thresh.toNat ≤ (s.cq i k).unsig)) = true
  · have hm : moderate i k s = cqMessage i k s := if_pos h
    exact ⟨0, hm ▸ cqMessage_cq⟩
  · have hm : moderate i k s = s := if_neg h
    exact ⟨(s.cq i k).unsig, by rw [hm]⟩

end Sys2Proof.Machine
end

section
/-! SUPPORT. The commands on the queues (R75 to R78, R82, R91, R93 to R97). -/
namespace Sys2Proof.Machine

variable {s : State}

/-! ## Doorbells (R54, R75, R76, R91) -/

section Doorbells
variable {slice : BitVec 8} {queue : BitVec 4} {value : BitVec 64}

theorem exec_sqTailDoorbell_unsupported (h : s.barOn = false) : exec (.sqTailDoorbell slice queue value) s = .next (emit .unsupported s) :=
  congrArg Host.Outcome.next (if_pos (by simp [h]))
theorem exec_sqTailDoorbell_ignored (hb : s.barOn = true) (h : s.doorbells slice.toNat = false ∨ (s.sq slice.toNat queue.toNat).enable = false) :
    exec (.sqTailDoorbell slice queue value) s = .next s :=
  congrArg Host.Outcome.next ((if_neg (by simp [hb])).trans (if_pos (by simpa using h)))
theorem exec_sqTailDoorbell (hd : s.doorbells slice.toNat = true) (he : (s.sq slice.toNat queue.toNat).enable = true)
    (ht : (fld value 0 16).toNat % qsize (s.sq slice.toNat queue.toNat).log2 ≠ (s.sq slice.toNat queue.toNat).tail) :
    exec (.sqTailDoorbell slice queue value) s = .next (fetchWindow slice.toNat queue.toNat (s.modSq slice.toNat queue.toNat
      (fun q => { q with tail := (fld value 0 16).toNat % qsize (s.sq slice.toNat queue.toNat).log2 }))) :=
  congrArg Host.Outcome.next <|
    (if_neg (by simp [barOn_of_doorbells hd])).trans <| (if_neg (by simp [hd, he])).trans (if_neg ht)

theorem exec_cqHeadDoorbell_unsupported (h : s.barOn = false) : exec (.cqHeadDoorbell slice queue value) s = .next (emit .unsupported s) :=
  congrArg Host.Outcome.next (if_pos (by simp [h]))
theorem exec_cqHeadDoorbell_ignored (hb : s.barOn = true) (h : s.doorbells slice.toNat = false ∨ (s.cq slice.toNat queue.toNat).enable = false) :
    exec (.cqHeadDoorbell slice queue value) s = .next s :=
  congrArg Host.Outcome.next ((if_neg (by simp [hb])).trans (if_pos (by simpa using h)))
theorem exec_cqHeadDoorbell {c : Cq} (hd : s.doorbells slice.toNat = true) (hc : s.cq slice.toNat queue.toNat = c) (he : c.enable = true) :
    exec (.cqHeadDoorbell slice queue value) s = .next (s.modCq slice.toNat queue.toNat (fun x => { x with
      head := (fld value 0 16).toNat % qsize c.log2
      written := x.written - min (((fld value 0 16).toNat % qsize c.log2 + qsize c.log2 - c.head) % qsize c.log2) c.written })) := by
  subst hc
  exact congrArg Host.Outcome.next ((if_neg (by simp [barOn_of_doorbells hd])).trans (if_neg (by simp [hd, he])))

end Doorbells

/-! ## Returned cells (R77, R82) -/

section Fetches
variable {i k : Nat} {slice : BitVec 8} {queue : BitVec 4}

theorem takeCell_sq {c : Nat × Bytes} (h : (s.sq i k).outst.contains c.1 = true) : (takeCell i k c s).sq i k =
    if bit (byteAt (fit 64 c.2) 63) 0 = (s.sq i k).phaseAt c.1 then
      { s.sq i k with
        outst := (s.sq i k).outst.filter (· != c.1)
        held := tput (s.sq i k).held [] c.1 (fit 64 c.2), missed := (s.sq i k).missed.filter (· != c.1) }
    else if (s.sq i k).ahead c.1 < (s.sq i k).declared then
      { s.sq i k with outst := (s.sq i k).outst.filter (· != c.1), missed := c.1 :: (s.sq i k).missed.filter (· != c.1) }
    else { s.sq i k with outst := (s.sq i k).outst.filter (· != c.1) } :=
  (sq_modSq ..).trans (if_neg (by rw [h]; decide))

theorem exec_cellFetchReturn_one {idx : BitVec 16} {bytes : Bytes} (he : (s.sq slice.toNat queue.toNat).enable = true)
    (ho : (s.sq slice.toNat queue.toNat).outst ≠ []) : exec (.cellFetchReturn slice queue [(idx, bytes)] none) s =
      .next (takeCell slice.toNat queue.toNat (idx.toNat % qsize (s.sq slice.toNat queue.toNat).log2, bytes) s) :=
  congrArg Host.Outcome.next (if_neg (by simp [he, ho]))

theorem exec_cellFetchReturn_error {cells : List (BitVec 16 × Bytes)} {e : ReadError} (he : (s.sq slice.toNat queue.toNat).enable = true)
    (ho : (s.sq slice.toNat queue.toNat).outst ≠ []) : exec (.cellFetchReturn slice queue cells (some e)) s =
      .next (fetchFault slice.toNat queue.toNat e s) :=
  congrArg Host.Outcome.next (if_neg (by simp [he, ho]))

/-- A failed fetch stops the queue and drops what it held; the rest is the event. -/
theorem fetchFault_eq {e : ReadError} : ∃ u, fetchFault i k e s = raiseEvent 0x21 i (.slice i) .own u ∧
    u.sq i k = { s.sq i k with fault := true, held := [], outst := [], missed := [], slot := none } :=
  ⟨_, rfl, (sq_of_sqs reportAer_sqs).trans ((sq_of_sqs setDmaStatus_sqs).trans ((sq_modSq ..).trans (by rw [dropSlot_sq])))⟩

theorem exec_cellRefetchTimer (he : (s.sq slice.toNat queue.toNat).enable = true) (hf : (s.sq slice.toNat queue.toNat).fault = false) :
    exec (.cellRefetchTimer slice queue) s = .next (issueFetch slice.toNat queue.toNat ((s.sq slice.toNat queue.toNat).missed.filter
      (fun x => (s.sq slice.toNat queue.toNat).toFetch.contains x)) s) :=
  congrArg Host.Outcome.next (if_pos (by simp [he, hf]))

theorem exec_sqStallWatchdog (he : (s.sq slice.toNat queue.toNat).enable = true) (hw : (s.sq slice.toNat queue.toNat).wdog ≠ 0)
    (hm : (s.sq slice.toNat queue.toNat).missed ≠ []) : exec (.sqStallWatchdog slice queue) s =
      .next (raiseEvent 0x20 slice.toNat (.slice slice.toNat) .own (s.modSq slice.toNat queue.toNat (fun q => { q with stalled := true }))) :=
  congrArg Host.Outcome.next (if_pos (by simpa [he, hm] using hw))

theorem exec_cqModerationTimer (he : (s.cq slice.toNat queue.toNat).enable = true) (hi : (s.cq slice.toNat queue.toNat).ien = true)
    (ht : (s.cq slice.toNat queue.toNat).timer ≠ 0) (hu : 1 ≤ (s.cq slice.toNat queue.toNat).unsig) :
    exec (.cqModerationTimer slice queue) s = .next (cqMessage slice.toNat queue.toNat s) :=
  congrArg Host.Outcome.next (if_pos (by simpa [he, hi] using ⟨ht, hu⟩))

end Fetches

/-! ## The enable bit of a configuration word (R95) -/

variable {v : Word}

theorem bit_or_one_zero : bit (v ||| 1) 0 = true := by simp [bit]
theorem bit_or_one {n : Nat} (h : n ≠ 0) : bit (v ||| 1) n = bit v n := by simp [bit, h]
theorem bit_and_not_one_zero : bit (v &&& ~~~1) 0 = false := by simp [bit]

theorem fld_or_one {lo w : Nat} (h : lo ≠ 0) : fld (v ||| 1) lo w = fld v lo w := by
  ext i hi
  simp [fld, h]

theorem fld_and_not_one {lo w : Nat} (h : lo ≠ 0) (hw : lo + w ≤ 32) : fld (v &&& ~~~1) lo w = fld v lo w := by
  ext i hi
  have hn : BitVec.getLsbD (~~~1 : Word) (lo + i) = true := by
    rw [BitVec.getLsbD_not]
    simp [h]
    omega
  simp only [fld, BitVec.getElem_extractLsb', BitVec.getLsbD_and, hn, Bool.and_true]

/-! ## Configuration of the selected queue (R95 to R97) -/

/-- A disabled SQ takes all its fields and starts, where its size, its error queue and its jobs allow it. -/
theorem writeSqCfg_start (hb : bit v 0 = true) (he : (s.sq s.sel.1 s.sel.2).enable = false) (hn : sizeOk (fld v 4 5) = true)
    (hc : (s.cq s.sel.1 (fld v 12 4).toNat).enable = true) (ha : s.sqActive s.sel.1 s.sel.2 = false) :
    writeSqCfg v s = s.modSq s.sel.1 s.sel.2 (fun q => { q with
      enable := true, head := 0, phase := true, tail := 0, held := [], outst := [], missed := []
      wdog := fld v 16 8, errCq := fld v 12 4, log2 := fld v 4 5 }) := by
  simp [writeSqCfg, hb, he, hn, hc, ha]

theorem writeSqCfg_stop (hb : bit v 0 = false) (he : (s.sq s.sel.1 s.sel.2).enable = true) : writeSqCfg v s =
    (dropSlot s.sel.1 s.sel.2 (s.modSq s.sel.1 s.sel.2 (fun q => { q with wdog := fld v 16 8 }))).modSq s.sel.1 s.sel.2
      (fun q => { q with enable := false, held := [], outst := [], missed := [] }) := by
  simp [writeSqCfg, hb, he]

/-- A CQ whose moderation fields are written; without IEN it counts no entries (R93, R95). -/
def Cq.moderated (v : Word) (c : Cq) : Cq :=
  { c with timer := fld v 24 8, thresh := fld v 16 8, ien := bit v 15, vec := fld v 12 3, unsig := if bit v 15 then c.unsig else 0 }

theorem writeCqCfg_start (hb : bit v 0 = true) (he : (s.cq s.sel.1 s.sel.2).enable = false) (hn : sizeOk (fld v 4 5) = true) :
    writeCqCfg v s = s.modCq s.sel.1 s.sel.2 (fun c => { c with
      enable := true, tail := 0, phase := true, head := 0, resv := 0, written := 0, unsig := 0
      timer := fld v 24 8, thresh := fld v 16 8, ien := bit v 15, vec := fld v 12 3, log2 := fld v 4 5 }) := by
  simp [writeCqCfg, hb, he, hn]

theorem writeCqCfg_stop (hb : bit v 0 = false) (he : (s.cq s.sel.1 s.sel.2).enable = true) (hr : (s.cq s.sel.1 s.sel.2).resv = 0)
    (hu : s.errCqUsed s.sel.1 s.sel.2 = false) : writeCqCfg v s = s.modCq s.sel.1 s.sel.2 (fun c => { c.moderated v with
      enable := false, written := 0, unsig := 0 }) := by
  simp [writeCqCfg, Cq.moderated, hb, he, hr, hu]

/-- A CQ with reserved slots, or named as an enabled SQ's ERR_CQ, is not disabled. -/
theorem writeCqCfg_stays (hb : bit v 0 = false) (he : (s.cq s.sel.1 s.sel.2).enable = true)
    (h : (s.cq s.sel.1 s.sel.2).resv ≠ 0 ∨ s.errCqUsed s.sel.1 s.sel.2 = true) :
    writeCqCfg v s = moderate s.sel.1 s.sel.2 (s.modCq s.sel.1 s.sel.2 (·.moderated v)) := by
  simp [writeCqCfg, hb, he, h, Cq.moderated]

theorem exec_sqEnable (ho : barOpen s) (he : (s.sq s.sel.1 s.sel.2).enable = false) (hn : sizeOk (fld v 4 5) = true)
    (hc : (s.cq s.sel.1 (fld v 12 4).toNat).enable = true) (ha : s.sqActive s.sel.1 s.sel.2 = false) :
    exec (.sqEnable v) s = .next (s.modSq s.sel.1 s.sel.2 (fun q => { q with
      enable := true, head := 0, phase := true, tail := 0, held := [], outst := [], missed := []
      wdog := fld v 16 8, errCq := fld v 12 4, log2 := fld v 4 5 })) := by
  have hw := writeSqCfg_start (v := v ||| 1) bit_or_one_zero he (by rwa [fld_or_one (by decide)]) (by rwa [fld_or_one (by decide)]) ha
  simp only [fld_or_one, ne_eq, OfNat.ofNat_ne_zero, not_false_eq_true] at hw
  exact congrArg Host.Outcome.next ((atBar_open ho).trans hw)

theorem exec_sqDisable (ho : barOpen s) (he : (s.sq s.sel.1 s.sel.2).enable = true) : exec (.sqDisable v) s = .next
    ((dropSlot s.sel.1 s.sel.2 (s.modSq s.sel.1 s.sel.2 (fun q => { q with wdog := fld v 16 8 }))).modSq s.sel.1 s.sel.2
      (fun q => { q with enable := false, held := [], outst := [], missed := [] })) := by
  have hw := writeSqCfg_stop (v := v &&& ~~~1) bit_and_not_one_zero he
  rw [fld_and_not_one (by decide) (by decide)] at hw
  exact congrArg Host.Outcome.next ((atBar_open ho).trans hw)

theorem exec_cqEnable (ho : barOpen s) (he : (s.cq s.sel.1 s.sel.2).enable = false) (hn : sizeOk (fld v 4 5) = true) :
    exec (.cqEnable v) s = .next (s.modCq s.sel.1 s.sel.2 (fun c => { c with
      enable := true, tail := 0, phase := true, head := 0, resv := 0, written := 0, unsig := 0
      timer := fld v 24 8, thresh := fld v 16 8, ien := bit v 15, vec := fld v 12 3, log2 := fld v 4 5 })) := by
  have hw := writeCqCfg_start (v := v ||| 1) bit_or_one_zero he (by rwa [fld_or_one (by decide)])
  simp only [fld_or_one, bit_or_one, ne_eq, OfNat.ofNat_ne_zero, not_false_eq_true] at hw
  exact congrArg Host.Outcome.next ((atBar_open ho).trans hw)

theorem exec_cqDisable (ho : barOpen s) (he : (s.cq s.sel.1 s.sel.2).enable = true) (hr : (s.cq s.sel.1 s.sel.2).resv = 0)
    (hu : s.errCqUsed s.sel.1 s.sel.2 = false) : exec (.cqDisable v) s = .next (s.modCq s.sel.1 s.sel.2
      (fun c => { c.moderated (v &&& ~~~1) with enable := false, written := 0, unsig := 0 })) :=
  congrArg Host.Outcome.next ((atBar_open ho).trans (writeCqCfg_stop bit_and_not_one_zero he hr hu))

theorem exec_cqDisable_refused (ho : barOpen s) (he : (s.cq s.sel.1 s.sel.2).enable = true)
    (h : (s.cq s.sel.1 s.sel.2).resv ≠ 0 ∨ s.errCqUsed s.sel.1 s.sel.2 = true) : exec (.cqDisable v) s =
      .next (moderate s.sel.1 s.sel.2 (s.modCq s.sel.1 s.sel.2 (·.moderated (v &&& ~~~1)))) :=
  congrArg Host.Outcome.next ((atBar_open ho).trans (writeCqCfg_stays bit_and_not_one_zero he h))

/-! ## Clearing STALLED and FAULT (R82, R95) -/

theorem exec_sqFaultClear_faulted (ho : barOpen s) (hf : (s.sq s.sel.1 s.sel.2).fault = true) (hb : bit v 19 = true) :
    exec (.sqFaultClear v) s = .next (fetchWindow s.sel.1 s.sel.2 (s.modSq s.sel.1 s.sel.2
      (fun q => { q with stalled := q.stalled && !bit v 18, fault := false }))) := by
  have hd : sqFaultClearDo v s = fetchWindow s.sel.1 s.sel.2 (s.modSq s.sel.1 s.sel.2
      (fun q => { q with stalled := q.stalled && !bit v 18, fault := q.fault && !bit v 19 })) :=
    if_pos (Bool.and_eq_true_iff.mpr ⟨hf, hb⟩)
  simp only [hb, Bool.not_true, Bool.and_false] at hd
  exact congrArg Host.Outcome.next ((atBar_open ho).trans hd)

theorem exec_sqFaultClear_unfaulted (ho : barOpen s) (h : (s.sq s.sel.1 s.sel.2).fault = false ∨ bit v 19 = false) :
    exec (.sqFaultClear v) s = .next (s.modSq s.sel.1 s.sel.2
      (fun q => { q with stalled := q.stalled && !bit v 18, fault := q.fault && !bit v 19 })) := by
  have hn : ((s.sq s.sel.1 s.sel.2).fault && bit v 19) ≠ true := by rcases h with h | h <;> simp [h]
  exact congrArg Host.Outcome.next ((atBar_open ho).trans (if_neg hn))

end Sys2Proof.Machine
end

section
/-! SUPPORT. The statement on doorbells, returned cells, and the enabling and disabling of queues. -/
namespace Sys2Proof.Machine

/-- Settles O36: each clause is the law of its command; the fields of the queue it changes are then read off. -/
theorem doorbellsMoveTheQueues : Obligations.DoorbellsMoveTheQueues := by
  unfold Obligations.DoorbellsMoveTheQueues
  intro s slice queue value v idx bytes e i k q c tail head freed sel S C at_ cell left
  refine ⟨fun h => ⟨exec_sqTailDoorbell_unsupported h, exec_cqHeadDoorbell_unsupported h⟩, exec_sqTailDoorbell_ignored,
    exec_cqHeadDoorbell_ignored, exec_sqTailDoorbell, fun hd he => ?head, fun he ho => ?cell, fun he ho => ?error, exec_cellRefetchTimer,
    exec_sqStallWatchdog, exec_cqModerationTimer, fun ho he hn hc ha => ?sqOn, fun ho he => ?sqOff, fun ho he hn => ?cqOn,
    fun ho he hr hu => ?cqOff, fun ho he h => ?cqStays, fun ho h => ?unfaulted, exec_sqFaultClear_faulted⟩
  case head => exact exec_cqHeadDoorbell hd rfl he
  case cell =>
    have hne : q.outst ≠ [] := fun h => by simp [h] at ho
    exact ⟨_, exec_cellFetchReturn_one he hne, rfl, takeCell_sq ho⟩
  case error =>
    obtain ⟨u, hf, hu⟩ := fetchFault_eq (s := s) (i := i) (k := k) (e := e)
    exact ⟨u, (exec_cellFetchReturn_error he ho).trans (congrArg Host.Outcome.next hf), hu⟩
  case sqOn => exact ⟨_, exec_sqEnable ho he hn hc ha, rfl, rfl, sq_modSq ..⟩
  case sqOff =>
    refine ⟨_, exec_sqDisable ho he, dropSlot_cqs_congr rfl (by rw [sq_modSq]), dropSlot_jobs, ?_⟩
    rw [sq_modSq, dropSlot_sq, sq_modSq]
  case cqOn => exact ⟨_, exec_cqEnable ho he hn, rfl, cq_modCq ..⟩
  case cqOff => exact ⟨_, exec_cqDisable ho he hr hu, rfl, by rw [cq_modCq], by rw [cq_modCq]⟩
  case cqStays =>
    refine ⟨_, exec_cqDisable_refused ho he h, ?_⟩
    obtain ⟨n, hm⟩ := moderate_cq (s := s.modCq sel.1 sel.2 (·.moderated (v &&& ~~~1))) (i := sel.1) (k := sel.2)
    rw [hm, cq_modCq]
    exact ⟨he, rfl⟩
  case unfaulted =>
    refine ⟨_, exec_sqFaultClear_unfaulted ho h, ?_⟩
    have hf : (S.fault && !bit v 19) = S.fault := by rcases h with h | h <;> simp [h]
    rw [sq_modSq, hf]

end Sys2Proof.Machine
end

section
/-! SUPPORT. How the digest, cipher, AEAD, CMAC and key-wrap opcodes end their jobs (R187, R268, R270), and the statement on them. -/
namespace Sys2Proof.Machine

theorem forall_quintuple_of_forall_mem {α β γ δ ε : Type} {l : List (α × β × γ × δ × ε)} {P : α → β → γ → δ → ε → Prop}
    (h : ∀ p ∈ l, P p.1 p.2.1 p.2.2.1 p.2.2.2.1 p.2.2.2.2) (a : α) (b : β) (c : γ) (d : δ) (e : ε) (hm : (a, b, c, d, e) ∈ l) :
    P a b c d e := h (a, b, c, d, e) hm

variable {s u : State} {id op status : Nat} {j : Job} {f : Job → State → State} {outs : List (Nat × Bytes)}

/-! ## How a computation ends -/

/-- A commit that succeeds where a check passes and fails elsewhere. -/
theorem decided_ite {p : Prop} [Decidable p] (h : s.job? id = some j) (hs : status ≠ 0) :
    ends s (if p then done j outs s else fail j status s) id (if p then 0 else status) (if p then outs else []) := by
  split
  · exact decided_ok h
  · exact decided_fail h hs

theorem runOp_ends_of_done (h : computes s id op j) (hf : f j s = done j outs s) : ends s (runOp op f id s) id 0 outs := by
  rw [runOp_computes f h, hf]
  exact decided_ok h.1

theorem runOp_ends_of_fail (h : computes s id op j) (hf : f j s = fail j status s) (hs : status ≠ 0) :
    ends s (runOp op f id s) id status [] := by
  rw [runOp_computes f h, hf]
  exact decided_fail h.1 hs

/-- A computation that only compares succeeds or fails without outputs. -/
theorem runOp_ends_of_check {p : Prop} [Decidable p] (h : computes s id op j)
    (hf : f j s = if p then done j [] s else fail j status s) (hs : status ≠ 0) :
    ends s (runOp op f id s) id (if p then 0 else status) [] := by
  rw [runOp_computes f h, hf]
  simpa only [ite_self] using decided_ite (outs := []) h.1 hs

/-! ## Digests -/

theorem deliver_outputs {cmp : Bool} {n : Nat} {d : Bytes} (hc : cmp = false) : deliver j cmp n d s = done j [(0, d)] s := by
  rw [deliver, hc]; rfl

theorem deliver_compares {cmp : Bool} {n : Nat} {d : Bytes} (hc : cmp = true) :
    deliver j cmp n d s = if d.take n = j.input 1 then done j [] s else fail j stNotEqual s := if_pos hc

/-- The digest that a DIGEST job asks for. -/
def Job.digestValue (j : Job) : Bytes :=
  digestOf (j.pb 0) (fieldLE j.params 8 4) (if isKeyed (j.pb 0) then macKey j.keyB else []) (cut j.params 16 (j.pb 12))
    (cut j.params (16 + j.pb 12) (j.pb 13)) (j.input 0)

theorem digestDo_outputs (h : computes s id 0x0601 j) (hc : (j.pb 1).testBit 0 = false) :
    ends s (digestDo id s) id 0 [(0, j.digestValue)] := runOp_ends_of_done h (deliver_outputs hc)

theorem digestDo_compares (h : computes s id 0x0601 j) (hc : (j.pb 1).testBit 0 = true) :
    ends s (digestDo id s) id (if j.digestValue.take (fieldLE j.params 2 2) = j.input 1 then 0 else stNotEqual) [] :=
  runOp_ends_of_check h (deliver_compares hc) (by decide)

/-! ## Ciphers and CMAC -/

theorem cipherEncryptDo_ends (h : computes s id 0x0501 j) : ends s (cipherEncryptDo id s) id 0
    [(0, cipher true (j.pb 0) (j.pb 1) (symKey j.keyB) (cut j.params 8 16) (j.input 0))] := runOp_ends_of_done h rfl

theorem cipherDecryptDo_ends (h : computes s id 0x0502 j) : ends s (cipherDecryptDo id s) id 0
    [(0, cipher false (j.pb 0) (j.pb 1) (symKey j.keyB) (cut j.params 8 16) (j.input 0))] := runOp_ends_of_done h rfl

theorem cmacGenerateDo_ends (h : computes s id 0x0521 j) : ends s (cmacGenerateDo id s) id 0
    [(0, cmacOf (j.pb 0) (j.pb 2) (symKey j.keyB) (j.input 0))] := runOp_ends_of_done h rfl

theorem cmacVerifyDo_ends (h : computes s id 0x0522 j) : ends s (cmacVerifyDo id s) id
    (if cmacOf (j.pb 0) (j.pb 2) (symKey j.keyB) (j.input 0) = j.input 1 then 0 else stAuthFailed) [] :=
  runOp_ends_of_check h rfl (by decide)

/-! ## AEAD -/

/-- The text that a GCM job makes of its input 0: ciphertext of GCM_ENCRYPT, plaintext of GCM_DECRYPT. -/
def Job.gcmText (j : Job) : Bytes := gcmData (j.pb 0) (symKey j.keyB) j.iv (j.input 0)

/-- The tag of a GCM job over a ciphertext. -/
def Job.gcmTagOf (j : Job) (ct : Bytes) : Bytes := gcmTag (j.pb 0) (j.pb 2) (symKey j.keyB) j.iv (j.input 1) ct

/-- The tag that a GCM_DECRYPT job was given is that of its ciphertext. -/
def Job.gcmGenuine (j : Job) : Bool := j.gcmTagOf (j.input 0) == cut j.params 24 (j.pb 2)

theorem Job.iv_drawn (hi : j.pb 1 = 1) : j.iv = fit 12 j.seed := if_pos hi
theorem Job.iv_given (hi : j.pb 1 ≠ 1) : j.iv = cut j.params 12 12 := if_neg hi

theorem gcmEncryptDo_ivDrawn (h : computes s id 0x0511 j) (hi : j.pb 1 = 1) : ends s (gcmEncryptDo id s) id 0
    [(0, j.gcmText), (1, j.gcmTagOf j.gcmText), (2, fit 12 j.seed)] := by
  refine runOp_ends_of_done h ?_
  simp only [if_pos hi, ← Job.iv_drawn hi]
  rfl

theorem gcmEncryptDo_ivGiven (h : computes s id 0x0511 j) (hi : j.pb 1 ≠ 1) : ends s (gcmEncryptDo id s) id 0
    [(0, j.gcmText), (1, j.gcmTagOf j.gcmText)] := by
  refine runOp_ends_of_done h ?_
  simp only [if_neg hi]
  rfl

/-- The end of GCM_DECRYPT, once its plaintext is staged or streamed: the tag decides. -/
def gcmOpen (j : Job) (s : State) : State := if j.gcmGenuine then done j [(0, j.gcmText)] s else fail j stAuthFailed s

theorem gcmOpen_ends (h : s.job? id = some j) :
    ends s (gcmOpen j s) id (if j.gcmGenuine then 0 else stAuthFailed) (if j.gcmGenuine then [(0, j.gcmText)] else []) :=
  decided_ite h (by decide)

theorem gcmDecryptDo_staged (h : computes s id 0x0512 j) (hl : (j.input 0).length ≤ 1048576) : gcmDecryptDo id s = gcmOpen j s :=
  (runOp_computes _ h).trans (if_pos hl)

theorem gcmDecryptDo_streamed (h : computes s id 0x0512 j) (hl : 1048576 < (j.input 0).length)
    (hu : streamOut j (j.gcmText.drop j.streamed) s = (u, true)) : gcmDecryptDo id s = gcmOpen j u := by
  refine ((runOp_computes _ h).trans (if_neg (by omega))).trans ?_
  unfold Job.gcmText at hu
  simp only [hu]
  rfl

theorem gcmDecryptDo_opens (h : computes s id 0x0512 j) (hl : (j.input 0).length ≤ 1048576) (hg : j.gcmGenuine = true) :
    ends s (gcmDecryptDo id s) id 0 [(0, j.gcmText)] := by
  rw [gcmDecryptDo_staged h hl]
  simpa only [hg, if_true] using gcmOpen_ends h.1

theorem gcmDecryptDo_refuses (h : computes s id 0x0512 j) (hl : (j.input 0).length ≤ 1048576) (hg : j.gcmGenuine = false) :
    ends s (gcmDecryptDo id s) id stAuthFailed [] := by
  rw [gcmDecryptDo_staged h hl]
  simpa only [hg, Bool.false_eq_true, if_false] using gcmOpen_ends h.1

/-- A stream that goes on leaves its job as it was but for the count of its bytes. -/
theorem streamOut_job {bs : Bytes} (h : s.job? id = some j) (hu : streamOut j bs s = (u, true)) :
    ∃ n, u.job? id = some { j with streamed := n } := by
  obtain rfl := job_id h
  unfold streamOut at hu
  dsimp only at hu
  split at hu
  · cases hu
  · split at hu
    · cases hu
    · cases hu
      refine ⟨j.streamed + bs.length, ?_⟩
      rw [job_modJob _ _ _ _ (by simp), if_pos rfl, job_congr (foldl_keeps State.jobs _ (fun _ _ => by simp) _ _), h]
      rfl

/-- The end of a job whose plaintext was streamed: the count of streamed bytes plays no part in it. -/
theorem gcmDecryptDo_ends_streamed (h : computes s id 0x0512 j) (hl : 1048576 < (j.input 0).length)
    (hu : streamOut j (j.gcmText.drop j.streamed) s = (u, true)) :
    ends u (gcmDecryptDo id s) id (if j.gcmGenuine then 0 else stAuthFailed) (if j.gcmGenuine then [(0, j.gcmText)] else []) := by
  obtain ⟨n, hj⟩ := streamOut_job h.1 hu
  rw [gcmDecryptDo_streamed h hl hu]
  exact gcmOpen_ends (j := { j with streamed := n }) hj

/-! ## Key wrap -/

theorem kwWrapDo_kw (h : computes s id 0x0531 j) (hp : j.pb 1 ≠ 1) : ends s (kwWrapDo id s) id 0
    [(0, alg .kw ((j.input 0).length + 8) [symKey j.keyB, j.input 0])] :=
  runOp_ends_of_done h (by simp only [if_neg hp])

theorem kwWrapDo_kwp (h : computes s id 0x0531 j) (hp : j.pb 1 = 1) : ends s (kwWrapDo id s) id 0
    [(0, alg .kwp (roundUp (j.input 0).length 8 + 8) [symKey j.keyB, j.input 0])] :=
  runOp_ends_of_done h (by simp only [if_pos hp])

theorem kwUnwrapDo_kw (h : computes s id 0x0532 j) (hp : j.pb 1 ≠ 1) (hk : Config.check .kwOk [symKey j.keyB, j.input 0] = true) :
    ends s (kwUnwrapDo id s) id 0 [(0, alg .kwUnwrap ((j.input 0).length - 8) [symKey j.keyB, j.input 0])] :=
  runOp_ends_of_done h (by simp only [if_neg hp, if_pos hk])

theorem kwUnwrapDo_kwp (h : computes s id 0x0532 j) (hp : j.pb 1 = 1) (hk : Config.check .kwpOk [symKey j.keyB, j.input 0] = true) :
    ends s (kwUnwrapDo id s) id 0 [(0, (Config.crypto .kwpUnwrap [symKey j.keyB, j.input 0]).take ((j.input 0).length - 8))] :=
  runOp_ends_of_done h (by simp only [if_pos hp, if_pos hk])

theorem kwUnwrapDo_refuses (h : computes s id 0x0532 j)
    (hk : Config.check (if j.pb 1 = 1 then .kwpOk else .kwOk) [symKey j.keyB, j.input 0] = false) :
    ends s (kwUnwrapDo id s) id stAuthFailed [] :=
  runOp_ends_of_fail h (if_neg (by simp [hk])) (by decide)

end Sys2Proof.Machine
end

section
/-! SUPPORT. The statement on digest, cipher, AEAD, CMAC and key-wrap jobs. -/
namespace Sys2Proof.Machine

/-- Settles O19: each row is a law of its opcode under the row's condition, and the long ciphertext is the law of the streamed job. -/
theorem digestAndSymmetricJobsDecide : Obligations.DigestAndSymmetricJobsDecide := by
  unfold Obligations.DigestAndSymmetricJobsDecide
  intro s id j p x k f d ct kwp cmp good
  have hkwp : kwp = true ↔ j.pb 1 = 1 := beq_iff_eq
  refine ⟨forall_quintuple_of_forall_mem ?rows, fun u hl hu hc => ⟨_, rfl, gcmDecryptDo_ends_streamed hc hl hu⟩⟩
  simp only [List.forall_mem_cons, Bool.and_eq_true, Bool.not_eq_true', decide_eq_true_eq, beq_iff_eq, bne_iff_ne, hkwp,
    ← Bool.not_eq_true kwp]
  exact ⟨fun hc => ⟨_, rfl, digestDo_outputs hc⟩,
    fun hc => ⟨_, rfl, digestDo_compares hc⟩,
    fun hc => ⟨_, rfl, fun _ => cipherEncryptDo_ends hc⟩,
    fun hc => ⟨_, rfl, fun _ => cipherDecryptDo_ends hc⟩,
    fun hc => ⟨_, rfl, gcmEncryptDo_ivDrawn hc⟩,
    fun hc => ⟨_, rfl, fun hi => Job.iv_given hi ▸ gcmEncryptDo_ivGiven hc hi⟩,
    fun hc => ⟨_, rfl, fun ⟨hl, hg⟩ => gcmDecryptDo_opens hc hl hg⟩,
    fun hc => ⟨_, rfl, fun ⟨hl, hg⟩ => gcmDecryptDo_refuses hc hl hg⟩,
    fun hc => ⟨_, rfl, fun _ => cmacGenerateDo_ends hc⟩,
    fun hc => ⟨_, rfl, fun _ => cmacVerifyDo_ends hc⟩,
    fun hc => ⟨_, rfl, kwWrapDo_kw hc⟩,
    fun hc => ⟨_, rfl, kwWrapDo_kwp hc⟩,
    fun hc => ⟨_, rfl, fun ⟨hp, hk⟩ => kwUnwrapDo_kwp hc hp hk⟩,
    fun hc => ⟨_, rfl, fun ⟨hp, hk⟩ => kwUnwrapDo_kw hc hp hk⟩,
    fun hc => ⟨_, rfl, kwUnwrapDo_refuses hc⟩,
    List.forall_mem_nil _⟩

end Sys2Proof.Machine
end

section
/-! SUPPORT. The Expanded Key Cache and the Darner public-key cache (R128 to R131, R151, R152, R229, R230, R244, R245). -/
namespace Sys2Proof.Machine

variable {s : State} {job : Nat} {value : BitVec 32} {slice : BitVec 8} {es : List CacheEntry}

/-! ## Jobs that wait for a fill (R130) -/

/-- The job is held for the fill of one of some entries. -/
abbrev Job.heldFor (es : List CacheEntry) (j : Job) : Prop :=
  j.phase = .held .cacheFill ∧ ∃ e ∈ es, j.slice = e.slice ∧ ∃ b ∈ j.bound, b.kt = e.kt ∧ b.index = e.index ∧ b.gen = e.gen

/-- A job as the end of the fills of some entries leaves it. -/
def Job.woken (es : List CacheEntry) (j : Job) : Job := if j.heldFor es then { j with phase := .ready } else j

theorem wakeFill_jobs {e : CacheEntry} : (wakeFill e s).jobs = s.jobs.map (Job.woken [e]) :=
  List.map_congr_left fun _ _ => if_congr (by simp [and_assoc]) rfl rfl

/-- A job that one entry has woken is held no more; any other entry finds the job as it was. -/
theorem woken_cons {e : CacheEntry} {j : Job} : Job.woken es (Job.woken [e] j) = Job.woken (e :: es) j := by
  unfold Job.woken
  by_cases he : j.heldFor [e]
  · have hc : j.heldFor (e :: es) := by
      obtain ⟨hp, i, hi, h⟩ := he
      exact ⟨hp, i, List.mem_cons.mpr (Or.inl (List.mem_singleton.mp hi)), h⟩
    have hn : ¬ Job.heldFor es { j with phase := .ready } := fun h => absurd h.1 (by simp)
    rw [if_pos he, if_neg hn, if_pos hc]
  · rw [if_neg he]
    refine if_congr ⟨fun h => ?_, fun h => ?_⟩ rfl rfl
    · obtain ⟨hp, i, hi, h⟩ := h
      exact ⟨hp, i, List.mem_cons_of_mem _ hi, h⟩
    · obtain ⟨hp, i, hi, h⟩ := h
      rcases List.mem_cons.mp hi with rfl | hi
      · exact absurd ⟨hp, i, List.mem_singleton.mpr rfl, h⟩ he
      · exact ⟨hp, i, hi, h⟩

theorem wakeFills_jobs : (wakeFills es s).jobs = s.jobs.map (Job.woken es) := by
  induction es generalizing s with
  | nil =>
    have hid : Job.woken [] = id := funext fun j => if_neg (by simp [Job.heldFor])
    rw [hid, List.map_id]
    rfl
  | cons e es ih =>
    calc (wakeFills es (wakeFill e s)).jobs = (s.jobs.map (Job.woken [e])).map (Job.woken es) := by rw [ih, wakeFill_jobs]
      _ = s.jobs.map (Job.woken (e :: es)) := by
        rw [List.map_map]
        exact List.map_congr_left fun j _ => woken_cons

/-! ## The end of a fill -/

theorem filter_filledBy_eq_nil {l : List CacheEntry} : l.filter (·.filledBy job) = [] ↔ ∀ e ∈ l, e.filledBy job = false := by
  simp [List.filter_eq_nil_iff]

theorem filter_filledBy_ne_nil {l : List CacheEntry} : l.filter (·.filledBy job) ≠ [] ↔ ∃ e ∈ l, e.filledBy job = true := by
  simp

theorem ekcFillCompleteDo_idle (h : (∀ e ∈ s.eng.ekc.entries, e.filledBy job = false) ∨ s.tasksLeft job = true) :
    ekcFillCompleteDo job s = s := if_pos (h.imp_left filter_filledBy_eq_nil.mpr)

theorem ekcFillCompleteDo_ends (h : ∃ e ∈ s.eng.ekc.entries, e.filledBy job = true) (ht : s.tasksLeft job = false) :
    ekcFillCompleteDo job s = sweepOld (wakeFills (s.eng.ekc.entries.filter (·.filledBy job))
      { s with eng.ekc := endFill job (fun e => some (if s.isCurrent e then .valid else .old)) s.eng.ekc }) :=
  if_neg (not_or.mpr ⟨filter_filledBy_ne_nil.mpr h, by simp [ht]⟩)

/-- The job streams the public key that it fills the Darner cache with, and has not found its digest to match yet (R228). -/
def State.streaming (s : State) (job : Nat) : Bool :=
  (s.job? job).elim false (fun j => j.stoppable && isCme j.keyB.alg && (j.opcode == 0x0302 || j.opcode == 0x03F1))

theorem dpkFillCompleteDo_idle (h : s.streaming job = true ∨ ∀ e ∈ s.eng.dpk.entries, e.filledBy job = false) :
    dpkFillCompleteDo job s = s := if_pos (h.imp_right filter_filledBy_eq_nil.mpr)

theorem dpkFillCompleteDo_ends (hs : s.streaming job = false) (h : ∃ e ∈ s.eng.dpk.entries, e.filledBy job = true) :
    dpkFillCompleteDo job s = wakeFills (s.eng.dpk.entries.filter (·.filledBy job))
      { s with eng.dpk := endFill job (fun e => if s.isCurrent e then some .valid else none) s.eng.dpk } :=
  if_neg (not_or.mpr ⟨by simpa [State.streaming] using hs, filter_filledBy_ne_nil.mpr h⟩)

/-! ## Control writes (R11, R14, R131, R151, R152, R230, R244, R245) -/

/-- A cache flushed: valid entries are gone, one that is filling keeps its place until the fill ends. -/
def Cache.flushed (c : Cache) : Cache :=
  { c with entries := c.entries.filterMap (fun e => match e.st with | .valid | .old => none | _ => some { e with st := .invalid }) }

theorem dropEntries_all {c : Cache} : dropEntries (fun _ => true) c = c.flushed := rfl

theorem writeEkcCtrl_unlocked (h : s.locks.getLsbD 9 = false) : writeEkcCtrl value s =
    if (bit value 1 || !bit value 0) = true then { s with eng.ekcEnable := bit value 0, eng.ekc := s.eng.ekc.flushed }
    else { s with eng.ekcEnable := bit value 0 } := by
  unfold writeEkcCtrl
  rw [writeRwl_unlocked h]
  rfl

theorem writeEkcCtrl_locked_same (h : s.locks.getLsbD 9 = true) (he : bit value 0 = s.eng.ekcEnable) : writeEkcCtrl value s =
    if (bit value 1 || !bit value 0) = true then { s with eng.ekc := s.eng.ekc.flushed } else s := by
  unfold writeEkcCtrl
  rw [writeRwl_locked_same h (by simp [he]), he]
  rfl

theorem writeEkcCtrl_locked_differs (h : s.locks.getLsbD 9 = true) (he : bit value 0 ≠ s.eng.ekcEnable) (hf : bit value 1 = false)
    (hr : (raiseOpen 0x01 s).eng.ekcEnable = true) : writeEkcCtrl value s = raiseOpen 0x01 s := by
  unfold writeEkcCtrl
  rw [writeRwl_locked_differs h (by simp [he])]
  exact if_neg (by simp [hf, hr])

theorem writeDrnCtrl_unlocked (h : s.locks.getLsbD 9 = false) : writeDrnCtrl value s =
    if bit value 5 = true then { s with eng.drnSpill := bit value 4, eng.drnKgMax := fld value 0 3, eng.dpk := s.eng.dpk.flushed }
    else { s with eng.drnSpill := bit value 4, eng.drnKgMax := fld value 0 3 } := by
  unfold writeDrnCtrl
  rw [writeRwl_unlocked h]
  rfl

theorem writeDrnCtrl_locked_same (h : s.locks.getLsbD 9 = true) (hs : bit value 4 = s.eng.drnSpill) (hk : fld value 0 3 = s.eng.drnKgMax) :
    writeDrnCtrl value s = if bit value 5 = true then { s with eng.dpk := s.eng.dpk.flushed } else s := by
  unfold writeDrnCtrl
  rw [writeRwl_locked_same h (by simp [hs, hk])]
  rfl

theorem writeDrnCtrl_locked_differs (h : s.locks.getLsbD 9 = true) (hd : bit value 4 ≠ s.eng.drnSpill ∨ fld value 0 3 ≠ s.eng.drnKgMax)
    (hf : bit value 5 = false) : writeDrnCtrl value s = raiseOpen 0x01 s := by
  unfold writeDrnCtrl
  rw [writeRwl_locked_differs h (by simpa using hd)]
  exact if_neg (by simp [hf])

/-- After LOCK no quota is taken, and one that differs is event 0x01. -/
theorem writeRwl_quota_locked {q old : Nat} {f : State → State} (h : s.locks.getLsbD 9 = true) :
    writeRwl 9 (q != old) f s = if q = old then s else raiseOpen 0x01 s := by
  by_cases hq : q = old
  · rw [if_pos hq, writeRwl_locked_same h (by simp [hq])]
  · rw [if_neg hq, writeRwl_locked_differs h (by simp [hq])]

theorem ekcQuotaWriteDo_locked (h : s.locks.getLsbD 9 = true) : ekcQuotaWriteDo slice value s =
    if (fld value 0 15).toNat = tget s.eng.ekc.quota 0 slice.toNat then s else raiseOpen 0x01 s := by
  unfold ekcQuotaWriteDo
  exact writeRwl_quota_locked h

theorem dpkQuotaWriteDo_locked (h : s.locks.getLsbD 9 = true) : dpkQuotaWriteDo slice value s =
    if (fld value 0 11).toNat = tget s.eng.dpk.quota 0 slice.toNat then s else raiseOpen 0x01 s := by
  unfold dpkQuotaWriteDo
  exact writeRwl_quota_locked h

theorem ekcQuotaWriteDo_unlocked (h : s.locks.getLsbD 9 = false) : ekcQuotaWriteDo slice value s =
    if s.eng.ekc.quotaSum - tget s.eng.ekc.quota 0 slice.toNat + (fld value 0 15).toNat ≤ 16384 then
      { s with eng.ekc.quota := tput s.eng.ekc.quota 0 slice.toNat (fld value 0 15).toNat } else s := by
  unfold ekcQuotaWriteDo
  dsimp only
  rw [writeRwl_unlocked h]
  unfold Cache.setQuota
  split <;> rfl

theorem dpkQuotaWriteDo_unlocked (h : s.locks.getLsbD 9 = false) : dpkQuotaWriteDo slice value s =
    if s.eng.dpk.quotaSum - tget s.eng.dpk.quota 0 slice.toNat + (fld value 0 11).toNat ≤ 1536 then
      { s with eng.dpk.quota := tput s.eng.dpk.quota 0 slice.toNat (fld value 0 11).toNat } else s := by
  unfold dpkQuotaWriteDo
  dsimp only
  rw [writeRwl_unlocked h]
  unfold Cache.setQuota
  split <;> rfl

/-! ## The commands -/

/-- A write of a control register of the caches, once BAR0 answers. -/
theorem exec_ctrlWrite {c : Instr} {f : State → State} {t : State} (ho : barOpen s) (hc : exec c s = .next (atBar f s)) (hf : f s = t) :
    exec c s = .next t := by rw [hc, atBar_open ho, hf]

/-- FLUSH and ENABLE of the Expanded Key Cache are written by either command, with one meaning. -/
theorem exec_ekcCtrl {t : State} (ho : barOpen s) (h : writeEkcCtrl value s = t) :
    ∀ c ∈ [Instr.ekcFlush value, .ekcEnableWrite value], exec c s = .next t := by
  simp only [List.forall_mem_cons]
  exact ⟨exec_ctrlWrite ho rfl h, exec_ctrlWrite ho rfl h, List.forall_mem_nil _⟩

/-- Settles O42: a fill ends by the laws of the two fill commands; a control write is the law of its register before and after LOCK. -/
theorem cachesFillAndFlush : Obligations.CachesFillAndFlush := by
  unfold Obligations.CachesFillAndFlush
  intro s slice value job i mine filled current dropped streaming room flushE kg q1 q2 ekc dpk
  have hstream : streaming = s.streaming job := by
    simp only [streaming, State.streaming]
    cases s.job? job <;> rfl
  rw [hstream]
  refine ⟨fun h => congrArg _ (ekcFillCompleteDo_idle h), fun h ht => congrArg _ (ekcFillCompleteDo_ends h ht),
    fun h => congrArg _ (dpkFillCompleteDo_idle h), fun hs h => congrArg _ (dpkFillCompleteDo_ends hs h), fun es u => wakeFills_jobs,
    fun ho hl => ⟨exec_ekcCtrl ho ?_, exec_ctrlWrite ho rfl ?_, exec_ctrlWrite ho rfl ?_, exec_ctrlWrite ho rfl ?_⟩,
    fun ho hl => ⟨fun he => exec_ekcCtrl ho (writeEkcCtrl_locked_same hl he), fun hs hk => exec_ctrlWrite ho rfl (writeDrnCtrl_locked_same hl hs hk),
      exec_ctrlWrite ho rfl (ekcQuotaWriteDo_locked hl), exec_ctrlWrite ho rfl (dpkQuotaWriteDo_locked hl),
      fun he hf hr => exec_ekcCtrl ho (writeEkcCtrl_locked_differs hl he hf hr),
      fun hd hf => exec_ctrlWrite ho rfl (writeDrnCtrl_locked_differs hl hd hf)⟩⟩
  · exact writeEkcCtrl_unlocked hl
  · exact writeDrnCtrl_unlocked hl
  · refine (ekcQuotaWriteDo_unlocked hl).trans ?_
    simp only [room, decide_eq_true_eq]
    rfl
  · refine (dpkQuotaWriteDo_unlocked hl).trans ?_
    simp only [room, decide_eq_true_eq]
    rfl

end Sys2Proof.Machine
end

section
/-! SUPPORT. What holds while jobs end: the walk through the end of a job, once for every property of jobs and lanes (R35, R106, R113 to
R115). -/
namespace Sys2Proof.Machine

variable {s t : State} {k status : Nat} {M : State → Prop}

/-! ## Operations that leave engines or lanes alone -/

@[simp] theorem freeSlots_eng {kt : Bool} {i n : Nat} : (freeSlots kt i n s).eng = s.eng :=
  foldl_keeps State.eng _ (fun _ _ => modSlot_eng ..) _ _
@[simp] theorem sweepRuns_eng : (sweepRuns s).eng = s.eng := foldl_keeps State.eng _ (fun _ _ => freeSlots_eng) _ _
@[simp] theorem sweepOld_lanes : (sweepOld s).eng.lanes = s.eng.lanes := by
  unfold sweepOld
  rw [sweepRuns_eng]
  split <;> rfl
@[simp] theorem releaseRun_eng {kt : Bool} {first count i : Nat} {g : BitVec 16} : (releaseRun kt first count i g s).eng = s.eng := by
  unfold releaseRun
  split
  · rfl
  · exact freeSlots_eng
@[simp] theorem deleteKey_lanes {kt : Bool} {i : Nat} : (deleteKey kt i s).eng.lanes = s.eng.lanes := by
  unfold deleteKey
  dsimp only
  rw [modSlot_eng]
  split <;> simp [invalidateKey]

/-! ## The walk -/

/-- `M` outlives what the failure of a job undoes: it speaks of lanes and of numbers, engines and standings of jobs alone, and outlives a
requester that leaves its lane and a cache fill that is given up. -/
structure UndoStable (M : State → Prop) : Prop where
  aside : ∀ {s t : State}, t.jobs = s.jobs → t.eng.lanes = s.eng.lanes → M s → M t
  leave : ∀ {s : State} {c : Nat} {w : Who}, M s → M (leaveWho c w s)
  mod : ∀ {s : State} {k : Nat} {f : Job → Job}, (∀ j, (f j).id = j.id) → (∀ j, (f j).engine = j.engine) →
    (∀ j, (f j).standing = j.standing) → M s → M (s.modJob k f)
  woken : ∀ {s : State} {e : CacheEntry}, M s → M (wakeFill e s)

/-- `M` outlives the wiping of a job and its leaving the device too. -/
structure EndStable (M : State → Prop) : Prop extends UndoStable M where
  wiped : ∀ {s : State} {k status : Nat}, M s → M (s.modJob k (Job.wiped status))
  drop : ∀ {s : State} {k : Nat}, M s → M (s.dropJob k)

theorem UndoStable.leaveLane {j : Job} (h : UndoStable M) (hs : M s) : M (leaveLane j s) := by
  unfold Machine.leaveLane
  split
  · exact h.leave hs
  · exact hs

theorem UndoStable.leaveTree {c : Nat} (h : UndoStable M) (hs : M s) : M (leaveTree c s) := by
  unfold Machine.leaveTree
  split
  · exact List.foldlRecOn (motive := M) _ _ hs fun _ hu _ _ => h.leave hu
  · exact hs

theorem UndoStable.dropSession {j : Job} (h : UndoStable M) (hs : M s) : M (dropSession j s) := by
  unfold Machine.dropSession
  split
  · exact h.mod (fun _ => rfl) (fun _ => rfl) (fun _ => rfl) (h.aside (s := s) rfl rfl hs)
  · exact hs

theorem UndoStable.restoreCtx {j : Job} (h : UndoStable M) (hs : M s) : M (restoreCtx j s) := by
  unfold Machine.restoreCtx
  split
  · exact h.mod (fun _ => rfl) (fun _ => rfl) (fun _ => rfl) (h.aside (s := s) rfl rfl hs)
  · exact hs

theorem UndoStable.dropMade {j : Job} (h : UndoStable M) (hs : M s) : M (dropMade j s) := by
  unfold Machine.dropMade
  split
  · exact h.mod (fun _ => rfl) (fun _ => rfl) (fun _ => rfl) (h.aside deleteKey_jobs deleteKey_lanes hs)
  · exact hs

theorem UndoStable.dropFills (h : UndoStable M) (hs : M s) : M (dropFills k s) := by
  unfold Machine.dropFills
  dsimp only
  split
  · exact hs
  · exact List.foldlRecOn (motive := M) _ _ (h.aside (s := s) rfl rfl hs) fun _ hu _ _ => h.woken hu

theorem UndoStable.dropReplacing (h : UndoStable M) (hs : M s) : M (dropReplacing k s) := by
  unfold Machine.dropReplacing
  split
  · exact hs
  · exact h.aside freeSlots_jobs (congrArg EngState.lanes freeSlots_eng) hs

theorem UndoStable.undo (h : UndoStable M) (hs : M s) : M (undo k s) := by
  unfold Machine.undo
  split
  · refine h.dropReplacing (h.dropFills (h.dropMade (h.restoreCtx (h.dropSession ?_))))
    split
    · exact h.leaveLane hs
    · exact hs
  · exact hs

theorem EndStable.beginWipe (h : EndStable M) (hs : M s) : M (beginWipe k status s) := h.wiped (h.undo hs)

theorem EndStable.retire {j : Job} (h : EndStable M) (hs : M s) : M (retire j s) :=
  h.aside sweepOld_jobs sweepOld_lanes (h.leaveTree (h.leaveLane (h.drop hs)))

theorem EndStable.decideLate (h : EndStable M) (hs : M s) : M (decideLate k s) := by
  unfold Machine.decideLate
  split
  · exact hs
  · next j _ =>
    have hm : M (s.modJob k fun i => { i with late := j.parent.isNone && (s.effDeadline j).elim false (fun d => tickAfter s.tick d) }) :=
      h.mod (fun _ => rfl) (fun _ => rfl) (fun _ => rfl) hs
    dsimp only
    split
    · exact h.aside (s := s.modJob k _) rfl rfl hm
    · exact hm

theorem EndStable.stopTasks (h : EndStable M) (hs : M s) : M (stopTasks k status s) := by
  refine List.foldlRecOn (motive := M) _ _ hs fun u hu t _ => ?_
  have hmod {f : Job → Job} := h.mod (s := u) (k := t.id) (f := f)
  dsimp only
  split
  · have hm := hmod (f := fun t => { t with suppressed := true, stop := some (t.stop.getD status) }) (fun _ => rfl) (fun _ => rfl)
      (fun _ => rfl) hu
    split
    · exact h.beginWipe hm
    · exact hm
  · exact hmod (fun _ => rfl) (fun _ => rfl) (fun _ => rfl) hu
  · exact hmod (fun _ => rfl) (fun _ => rfl) (fun _ => rfl) hu
  · exact h.retire (h.undo hu)

theorem EndStable.taskFailed {p : Nat} (h : EndStable M) (hs : M s) : M (taskFailed p k status s) :=
  h.stopTasks (h.mod (fun _ => rfl) (fun _ => rfl) (fun _ => rfl) hs)

/-- What holds once the wipe of a job has begun holds at its end: of its tasks and its parent nothing is touched that `M` speaks of. -/
theorem EndStable.endWiping_of_beginWipe (h : EndStable M) (hn : s.job? k = none → M s) (hw : M (Machine.beginWipe k status s)) :
    M (endWiping k status s) := by
  unfold Machine.endWiping
  split
  · next hk => exact hn hk
  · dsimp only
    split
    · split
      · exact hw
      · exact h.taskFailed hw
    · exact h.stopTasks (h.decideLate hw)

theorem EndStable.endWiping (h : EndStable M) (hs : M s) : M (endWiping k status s) :=
  h.endWiping_of_beginWipe (fun _ => hs) (h.beginWipe hs)

end Sys2Proof.Machine
end

section
/-! SUPPORT. Faults of an engine (R24, R153, R188, R245, R288). -/
namespace Sys2Proof.Machine

variable {s t : State} {x k id status : Nat} {Q : Nat → Prop}

/-! ## The jobs that a fault ends -/

/-- The job runs on engine `x`, or its success is still held there: a fault of `x` ends it. -/
def Job.faultsOn (x : Nat) (j : Job) : Bool := j.engine == x && j.faulted

/-- The numbers of the jobs that a fault of engine `x` ends satisfy `Q`. -/
def State.faultsIn (s : State) (x : Nat) (Q : Nat → Prop) : Prop := ∀ j ∈ s.jobs, j.faultsOn x = true → Q j.id

theorem faulted_standing {i j : Job} (h : i.standing = j.standing) : i.faulted = j.faulted := by
  obtain ⟨-, hp, hs, -⟩ := by simpa only [Job.standing, Prod.mk.injEq] using h
  simp only [Job.faulted, Job.stoppable, hp, hs]

theorem faultsOn_wiped {j : Job} : (j.wiped status).faultsOn x = false := by
  simp [Job.faultsOn, Job.wiped, Job.faulted, Job.stoppable]

theorem faultsIn_of_mapIf {p : Job → Bool} {f : Job → Job} (h : t.jobs = mapIf p f s.jobs) (hid : ∀ j, (f j).id = j.id)
    (hf : ∀ j, (f j).faultsOn x = true → j.faultsOn x = true) (hs : s.faultsIn x Q) : t.faultsIn x Q := by
  intro j hj hx
  obtain ⟨i, hi, rfl⟩ := List.mem_map.mp (h ▸ hj)
  split at hx
  · next hp => rw [if_pos hp, hid]; exact hs i hi (hf i hx)
  · next hp => rw [if_neg hp]; exact hs i hi hx

theorem endStable_faultsIn : EndStable (fun s => s.faultsIn x Q) where
  aside hj _ hs := by rwa [State.faultsIn, hj]
  leave hs := by rwa [State.faultsIn, leaveWho_jobs]
  mod hid he hst hs := faultsIn_of_mapIf rfl hid (fun j => by simp only [Job.faultsOn, he, faulted_standing (hst j), imp_self]) hs
  woken hs := faultsIn_of_mapIf rfl (fun _ => rfl) (fun _ hx => by simp [Job.faultsOn, Job.faulted, Job.stoppable] at hx) hs
  wiped hs := faultsIn_of_mapIf rfl (fun _ => rfl) (fun _ hx => absurd hx (by simp [faultsOn_wiped])) hs
  drop hs := fun j hj => hs j (List.mem_filter.mp hj).1

/-- The end of job `k` takes it out of the jobs that a fault ends, and brings none in. -/
theorem faultsIn_endWiping (hs : s.faultsIn x Q) : (endWiping k status s).faultsIn x (fun i => i ≠ k ∧ Q i) := by
  refine endStable_faultsIn.endWiping_of_beginWipe (fun hn j hj hx => ⟨fun hk => ?_, hs j hj hx⟩) fun j hj hx => ?_
  · exact List.find?_eq_none.mp hn j hj (beq_iff_eq.mpr hk)
  · obtain ⟨i, hi, rfl⟩ := List.mem_map.mp hj
    have hu : (undo k s).faultsIn x Q := endStable_faultsIn.undo hs
    dsimp only at hx ⊢
    split at hx
    · exact nomatch hx.symm.trans (faultsOn_wiped (j := i) (status := status))
    · next hk => rw [if_neg hk]; exact ⟨fun h => hk (beq_iff_eq.mpr h), hu i hi hx⟩

/-- The state in which a fault of engine `x` is raised: the jobs it ends are ended. -/
def faultEnded (x : Nat) (s : State) : State := (s.jobs.filter (Job.faultsOn x)).foldl (fun s j => endWiping j.id stEngineFault s) s

theorem engineFault_eq {event : Nat} {kind : Fence} :
    engineFault x event kind s = raiseEvent event x (.engine x) kind (faultEnded x s) := rfl

theorem faultEnded_idle (h : ∀ j ∈ s.jobs, j.faultsOn x = false) : faultEnded x s = s := by
  unfold faultEnded
  rw [List.filter_eq_nil_iff.mpr fun j hj => by simp [h j hj]]
  rfl

theorem faultsIn_foldl_endWiping {l : List Job} (hs : s.faultsIn x (· ∈ l.map (·.id))) :
    (l.foldl (fun s j => endWiping j.id stEngineFault s) s).faultsIn x (fun _ => False) := by
  induction l generalizing s with
  | nil => exact fun j hj hx => List.not_mem_nil (hs j hj hx)
  | cons a l ih =>
    refine ih fun j hj hx => ?_
    obtain ⟨hne, hm⟩ := faultsIn_endWiping hs j hj hx
    exact (List.mem_cons.mp hm).resolve_left hne

theorem faultEnded_clears : ∀ j ∈ (faultEnded x s).jobs, j.faultsOn x = false := fun j hj =>
  eq_false_of_ne_true <| faultsIn_foldl_endWiping
    (fun i hi hx => List.mem_map.mpr ⟨i, List.mem_filter.mpr ⟨hi, hx⟩, rfl⟩) j hj

theorem map_faultWiped {j : Job} (h : j.faultWiped) : (some j).map (fun j => (j.phase, j.status, j.outs)) = some (.wiping, stEngineFault, []) :=
  congrArg some h

theorem faultEnded_wipes {j : Job} (hj : s.job? id = some j) (hx : j.faultsOn x = true) (h : ∀ t ∈ s.jobs, t.id = id → t.outlasts) :
    ((faultEnded x s).job? id).map (fun j => (j.phase, j.status, j.outs)) = some (.wiping, stEngineFault, []) := by
  obtain rfl := job_id hj
  have hm := List.mem_of_find?_eq_some hj
  obtain ⟨i, hi, hw⟩ := job_of_each (each_foldl_endWiping (List.mem_filter.mpr ⟨hm, hx⟩) ⟨⟨j, hm, rfl⟩, h⟩)
  exact (congrArg _ hi).trans (map_faultWiped hw)

/-! ## Memory tests (R153, R245, R288, R447) -/

theorem engineMemoryTestDoneDo_unfenced {engine : BitVec 7} {ok : Bool} (h : s.fence engine.toNat ≠ .memTest ∨ s.thm.restarting = true) :
    engineMemoryTestDoneDo engine ok s = s := if_neg (by rcases h with h | h <;> simp [h])

theorem engineMemoryTestDoneDo_fenced {engine : BitVec 7} {ok : Bool} (h : s.fence engine.toNat = .memTest) (hr : s.thm.restarting = false) :
    engineMemoryTestDoneDo engine ok s =
      if ok then clearEngine engine.toNat (s.setFence engine.toNat .none) else s.setFence engine.toNat .porst := if_pos (by simp [h, hr])

/-- A cleared engine loses its own memories; fences, jobs and the rest of the state are as before. -/
theorem clearEngine_keeps {α : Type} {p : State → α} (hm : ∀ k f, p (s.modMangle k f) = p s) (hn : ∀ k f, p (s.modNeedle k f) = p s)
    (hd : ∀ m, p { s with eng.darnerMem := m } = p s) {c : Nat} : p (clearEngine c s) = p s := by
  unfold clearEngine
  split
  · exact hm ..
  · split
    · exact hn ..
    · split
      · exact hd _
      · rfl

theorem clearEngine_fence {c i : Nat} : (clearEngine c s).fence i = s.fence i :=
  clearEngine_keeps (p := (·.fence i)) (fun _ _ => rfl) (fun _ _ => rfl) fun _ => rfl

theorem clearEngine_jobs {c : Nat} : (clearEngine c s).jobs = s.jobs :=
  clearEngine_keeps (p := State.jobs) (fun _ _ => rfl) (fun _ _ => rfl) fun _ => rfl

theorem clearEngine_mangle {c : Nat} (h : c < 0x20) : (clearEngine c s).mangle c = {} := by
  unfold clearEngine
  rw [if_pos h, mangle_modMangle]

theorem clearEngine_needle {c : Nat} (h : 0x40 ≤ c) (h' : c < 0x60) : (clearEngine c s).needle (c - 0x40) = {} := by
  unfold clearEngine
  rw [if_neg (by omega), if_pos ⟨h, h'⟩, needle_modNeedle]

theorem fence_setFence_ne {c i : Nat} {f : Fence} (h : i ≠ c) : (s.setFence c f).fence i = s.fence i := tget_tput_ne _ _ _ h

end Sys2Proof.Machine
end

section
/-! SUPPORT. Errors and block boundaries of lanes (R176 to R179, R188, R195, R266), and index commits (R210). -/
namespace Sys2Proof.Machine

variable {s t : State} {e id job status : Nat} {engine : BitVec 7} {r n : Requester} {rest : List Requester} {j : Job}

/-! ## Lanes -/

theorem lane_of_lanes {c : Nat} (h : t.eng.lanes = s.eng.lanes) : t.lane c = s.lane c := congrArg (fun l => tget l ({} : LaneState) c) h

theorem lane_modLane_ne {c i : Nat} {f : LaneState → LaneState} (h : i ≠ c) : (s.modLane c f).lane i = s.lane i := tget_tmod_ne _ _ _ h

theorem countLoad_lane {c i : Nat} : (countLoad c s).lane i = s.lane i := by
  unfold countLoad
  split <;> rfl

theorem countLoad_switches {c : Nat} : (countLoad c s).eng.switches = if c < 0x40 then satInc s.eng.switches else s.eng.switches := by
  unfold countLoad
  split <;> rfl

theorem switchLane_lane {c : Nat} : (switchLane c r n rest s).lane c =
    { running := some { n with fresh := false, turnCtx := none }
      waiting := rest ++ [{ r with fresh := false, turnCtx := s.turnCtxFor c r.who }] } := countLoad_lane.trans (lane_modLane ..)

theorem switchLane_lane_ne {c i : Nat} (h : i ≠ c) : (switchLane c r n rest s).lane i = s.lane i := countLoad_lane.trans (lane_modLane_ne h)

theorem switchLane_jobs {c : Nat} : (switchLane c r n rest s).jobs = s.jobs := countLoad_jobs

theorem switchLane_switches {c : Nat} :
    (switchLane c r n rest s).eng.switches = if c < 0x40 then satInc s.eng.switches else s.eng.switches := countLoad_switches

/-! ## A lane on which no requester waits any more -/

theorem leaveWho_waiting_nil {c : Nat} {w : Who} (h : (s.lane e).waiting = []) : ((leaveWho c w s).lane e).waiting = [] := by
  unfold leaveWho
  dsimp only
  by_cases hc : e = c
  · subst hc
    rw [h]
    split <;> simp
  · (repeat' split) <;> simp only [countLoad_lane, lane_modLane_ne hc, h]

theorem endStable_waiting_nil : EndStable (fun s => (s.lane e).waiting = []) where
  aside _ hl hs := by rwa [lane_of_lanes hl]
  leave hs := leaveWho_waiting_nil hs
  mod _ _ _ hs := hs
  woken hs := hs
  wiped hs := hs
  drop hs := hs

theorem pickLane_ok {lo m c : Nat} {ok : Nat → Bool} (h : s.pickLane lo m ok = some c) : ok c = true := by
  obtain ⟨k, -, hk⟩ := List.mem_filterMap.mp (List.mem_of_head? h)
  have hm := (List.mem_filter.mp (List.mem_of_find?_eq_some hk)).2
  exact (Bool.and_eq_true_iff.mp hm).2

theorem joinLane_lane_ne {c i : Nat} {w : Who} (h : i ≠ c) : (joinLane c w s).lane i = s.lane i := by
  unfold joinLane
  split
  · exact lane_modLane_ne h
  · split
    · exact switchLane_lane_ne h
    · exact lane_modLane_ne h

theorem joinLane_jobs {c : Nat} {w : Who} : (joinLane c w s).jobs = s.jobs := by
  unfold joinLane
  split
  · rfl
  · split
    · exact switchLane_jobs
    · rfl

/-- A Tree Sequencer takes its spare lane anywhere but on the lane that it leaves. -/
theorem joinSpare_lane {tree : Nat} : (joinSpare tree e s).lane e = s.lane e := by
  unfold joinSpare
  cases h : s.pickLane 0x20 32 (fun c => c != e && !s.laneHas c (.tree tree) && !(s.homeLanes tree).contains c) with
  | none => rfl
  | some c =>
    have hc : c ≠ e := fun hce => by simpa [hce] using pickLane_ok h
    exact joinLane_lane_ne hc.symm

theorem joinSpare_jobs {tree : Nat} : (joinSpare tree e s).jobs = s.jobs := by
  unfold joinSpare
  cases s.pickLane 0x20 32 (fun c => c != e && !s.laneHas c (.tree tree) && !(s.homeLanes tree).contains c) with
  | none => rfl
  | some c => exact joinLane_jobs

theorem foldl_who_keeps {α : Type} {p : State → α} {f : State → Who → State} (ht : ∀ u tree, p (f u (.tree tree)) = p u)
    (hj : ∀ u id, p (f u (.job id)) = p u) (l : List Who) : p (l.foldl f s) = p s := by
  refine foldl_keeps p f (fun u w => ?_) l s
  cases w with
  | tree tree => exact ht u tree
  | job id => exact hj u id

theorem moveSuspended_waiting : ((moveSuspended e s).lane e).waiting = [] := by
  unfold moveSuspended
  dsimp only
  split
  · refine (foldl_who_keeps (p := fun u => (u.lane e).waiting) (fun _ _ => congrArg _ joinSpare_lane) (fun _ _ => rfl) _).trans ?_
    exact congrArg LaneState.waiting (lane_modLane ..)
  · exact congrArg LaneState.waiting (lane_modLane ..)

/-- A job moved off a fenced lane keeps its number. -/
theorem moveSuspended_jobs : ∃ f : Job → Job, (∀ j, (f j).id = j.id) ∧ (moveSuspended e s).jobs = s.jobs.map f := by
  unfold moveSuspended
  dsimp only
  split
  · refine ⟨_, fun j => ?_, foldl_who_keeps (p := State.jobs) (fun _ _ => joinSpare_jobs) (fun _ _ => rfl) _⟩
    split <;> rfl
  · refine ⟨_, fun j => ?_, rfl⟩
    split <;> rfl

/-! ## The end of a job that is there -/

theorem undoStable_present : UndoStable (fun s => ∃ j ∈ s.jobs, j.id = id) where
  aside hj _ hs := by rwa [hj]
  leave hs := by rwa [leaveWho_jobs]
  mod hid _ _ hs := by
    obtain ⟨j, hj, hi⟩ := hs
    refine ⟨_, List.mem_map_of_mem hj, ?_⟩
    split
    · exact (hid j).trans hi
    · exact hi
  woken hs := by
    obtain ⟨j, hj, hi⟩ := hs
    refine ⟨_, List.mem_map_of_mem hj, ?_⟩
    split <;> exact hi

/-- A job that ends with a fault of its engine is wiped with ENGINE_FAULT, whatever becomes of its tasks. -/
theorem endWiping_wipes (h : ∃ j ∈ s.jobs, j.id = id) :
    ((endWiping id stEngineFault s).job? id).map (fun j => (j.phase, j.status, j.outs)) = some (.wiping, stEngineFault, []) := by
  have hu : (undo id s).each id (fun _ => True) := ⟨undoStable_present.undo h, fun _ _ _ => trivial⟩
  have hw : (beginWipe id stEngineFault s).each id Job.faultWiped := each_modJob_same (fun _ => rfl) (fun _ => rfl) hu
  have hn : s.job? id ≠ none := fun hn => by
    obtain ⟨j, hj, hi⟩ := h
    exact List.find?_eq_none.mp hn j hj (beq_iff_eq.mpr hi)
  obtain ⟨i, hi, hf⟩ := job_of_each (each_endWiping_of_beginWipe lasting_faultWiped (fun h => absurd h hn) hw)
  exact (congrArg _ hi).trans (map_faultWiped hf)

/-! ## Lane errors (R188) -/

/-- The job that an error of lane `c` ends: the one that runs there, or of a Tree Sequencer that runs there the one that is named. -/
def laneVictim (c job : Nat) (s : State) : Option Nat :=
  (s.lane c).running.bind (fun r => match r.who with
    | .job id => (s.job? id).bind (fun j => if j.faulted then some id else none)
    | .tree t => (s.job? job).bind (fun j => if j.engine = engTree t ∧ j.faulted then some job else none))

/-- The state in which an error of lane `c` is raised: no requester waits there and the job it ends is ended. -/
def laneErrorEnded (c job : Nat) (s : State) : State :=
  (laneVictim c job s).elim (moveSuspended c s) (fun id => endWiping id stEngineFault (moveSuspended c s))

theorem wringerLaneErrorDo_lane (h : isLane engine.toNat = true) : wringerLaneErrorDo engine job s =
    raiseEvent 0x32 engine.toNat (.engine engine.toNat) .own (laneErrorEnded engine.toNat job s) := by
  unfold wringerLaneErrorDo
  dsimp only
  rw [if_neg (by simp [h])]
  rfl

theorem laneErrorEnded_waiting : ((laneErrorEnded e job s).lane e).waiting = [] := by
  unfold laneErrorEnded
  cases laneVictim e job s with
  | none => exact moveSuspended_waiting
  | some id => exact endStable_waiting_nil.endWiping moveSuspended_waiting

theorem laneErrorEnded_wipes (hr : (s.lane e).running = some { r with who := .job id }) (hf : (s.job? id).any (·.faulted) = true) :
    ((laneErrorEnded e job s).job? id).map (fun j => (j.phase, j.status, j.outs)) = some (.wiping, stEngineFault, []) := by
  obtain ⟨j, hj, hf⟩ := (Option.any_eq_true ..).mp hf
  have hv : laneVictim e job s = some id := by simp [laneVictim, hr, hj, hf]
  obtain ⟨f, hid, hm⟩ := moveSuspended_jobs (e := e) (s := s)
  unfold laneErrorEnded
  rw [hv]
  refine endWiping_wipes ⟨f j, ?_, (hid j).trans (job_id hj)⟩
  rw [hm]
  exact List.mem_map_of_mem (List.mem_of_find?_eq_some hj)

/-! ## Fabric errors of a Needle and of a Tree Sequencer (R24, R245) -/

theorem wringerLaneErrorDo_needle (h : 0x40 ≤ engine.toNat) (h' : engine.toNat < 0x60) :
    wringerLaneErrorDo engine job s = engineFault engine.toNat 0x32 .memTest s := by
  have hl : isLane engine.toNat = false := by simp [isLane]; omega
  unfold wringerLaneErrorDo
  dsimp only
  rw [if_pos (by simp [hl]), if_pos ⟨h, h'⟩]

theorem wringerLaneErrorDo_other (hl : isLane engine.toNat = false)
    (h : engine.toNat < 0x40 ∨ (0x60 ≤ engine.toNat ∧ engine.toNat < 0x64) ∨ 0x68 ≤ engine.toNat) : wringerLaneErrorDo engine job s = s := by
  unfold wringerLaneErrorDo
  dsimp only
  rw [if_pos (by simp [hl]), if_neg (by omega), if_neg (by omega)]

theorem wringerLaneErrorDo_tree (h : 0x64 ≤ engine.toNat) (h' : engine.toNat < 0x68) : wringerLaneErrorDo engine job s =
    raiseEvent 0x32 engine.toNat (.engine engine.toNat) .own ((s.job? job).elim s fun j =>
      if j.engine = engine.toNat ∧ j.faulted = true then endWiping job stEngineFault s else s) := by
  have hl : isLane engine.toNat = false := by simp [isLane]; omega
  unfold wringerLaneErrorDo
  dsimp only
  rw [if_pos (by simp [hl]), if_neg (by omega), if_pos ⟨h, h'⟩]
  cases s.job? job <;> rfl

/-! ## Block boundaries (R177 to R179) -/

/-- The lane is in service. -/
def State.laneUp (s : State) (c : Nat) : Prop := isLane c = true ∧ s.fence c = .none

theorem wringerBlockBoundaryDo_down (h : ¬ s.laneUp engine.toNat) : wringerBlockBoundaryDo engine s = s :=
  if_neg (by simpa [State.laneUp] using h)

theorem wringerBlockBoundaryDo_idle (h : (s.lane engine.toNat).running = none) : wringerBlockBoundaryDo engine s = s := by
  unfold wringerBlockBoundaryDo
  dsimp only
  split
  · rw [h]
    simp [boundary, h]
  · rfl

theorem wringerBlockBoundaryDo_job (hu : s.laneUp engine.toNat) (hr : (s.lane engine.toNat).running = some { r with who := .job id })
    (hj : s.job? id = some j) : wringerBlockBoundaryDo engine s =
      if !j.stoppable then s else if j.stop.isSome then safePoint id s else boundary engine.toNat s := by
  unfold wringerBlockBoundaryDo
  dsimp only
  rw [if_pos (by simp [hu.1, hu.2]), hr]
  simp only [hj]

theorem safePoint_stop {st : Nat} (hj : s.job? id = some j) (hs : j.stop = some st) (h : j.stoppable = true) :
    safePoint id s = endWiping id st s := by
  unfold safePoint
  simp only [hj, hs, h, if_true]

/-- Where no stop request meets the running requester, the turn goes on or ends. -/
theorem wringerBlockBoundaryDo_goes (hu : s.laneUp engine.toNat) (hr : (s.lane engine.toNat).running = some r)
    (h : ∀ id, r.who = .job id → ∃ j, s.job? id = some j ∧ j.stoppable = true ∧ j.stop = none) :
    wringerBlockBoundaryDo engine s = boundary engine.toNat s := by
  obtain ⟨who, fresh, turnCtx⟩ := r
  cases who with
  | job id =>
    obtain ⟨j, hj, hs, hn⟩ := h id rfl
    rw [wringerBlockBoundaryDo_job (r := ⟨.job id, fresh, turnCtx⟩) hu hr hj]
    simp [hs, hn]
  | tree tree =>
    unfold wringerBlockBoundaryDo
    dsimp only
    rw [if_pos (by simp [hu.1, hu.2]), hr]

theorem boundary_alone (hr : (s.lane e).running = some r) (hw : (s.lane e).waiting = []) :
    boundary e s = s.modLane e (fun l => { l with turn := min (l.turn + 1) 4096 }) := by
  unfold boundary
  simp only [hr, hw]

theorem boundary_shared (hr : (s.lane e).running = some r) (hw : (s.lane e).waiting = n :: rest) : boundary e s =
    if n.fresh = true ∨ s.turn e ≤ (s.lane e).turn + 1 then switchLane e r n rest s else s.modLane e (fun l => { l with turn := l.turn + 1 }) := by
  unfold boundary
  simp only [hr, hw]

/-! ## Index commits (R210) -/

variable {i p : Nat} {w : Commit}

/-- The state with one record pair changed. -/
def State.modPair (s : State) (n : Nat) (f : Pair → Pair) : State := { s with kv.pairs := tmod s.kv.pairs {} n f }

theorem hbs_modHbs {f : Hbs → Hbs} : (s.modHbs i f).hbs i = f (s.hbs i) := tget_tmod_same ..
theorem pair_modPair {f : Pair → Pair} : (s.modPair p f).pair p = f (s.pair p) := tget_tmod_same ..
theorem hbs_modPair {f : Pair → Pair} : (s.modPair p f).hbs i = s.hbs i := rfl
theorem pair_takePair {c : PairCopy} : (takePair p c s).pair p = { a := c, b := c, used := true } := tget_tput_same ..
theorem pair_takePair_ne {c : PairCopy} {q : Nat} (h : q ≠ p) : (takePair p c s).pair q = s.pair q := tget_tput_ne _ _ _ h

/-- The record that a commit writes. -/
def State.recordOf (s : State) (i : Nat) (w : Commit) : PairCopy :=
  { keyId := s.keyId i, seq := (s.hbs i).seq + 1, high := w.high, upper := w.upper, good := true }

/-- The state in which the record of a commit stands and the jobs that waited for it go on. -/
def commitStands (i : Nat) (w : Commit) (s : State) : State :=
  wakeCommit { s.modHbs i (fun k => { k with seq := k.seq + 1, high := w.high, upper := w.upper, writing := none }) with
    eng.hbsCommits := satInc s.eng.hbsCommits }

theorem commitStands_hbs : (commitStands i w s).hbs i =
    { s.hbs i with seq := (s.hbs i).seq + 1, high := w.high, upper := w.upper, writing := none } := hbs_modHbs (s := s)

theorem commitStands_pair : (commitStands i w s).pair p = s.pair p := rfl

/-- Jobs that waited for the commit go on. -/
theorem commitStands_jobs : (commitStands i w s).jobs = mapIf (fun j => j.phase == .held .indexCommit) (fun j => { j with phase := .ready }) s.jobs :=
  rfl

theorem commitEnds_idle {good : Bool} (h : (s.hbs i).writing = none) : commitEnds i good s = s := by
  unfold commitEnds
  simp only [h]

theorem commitEnds_good (h : (s.hbs i).writing = some w) : commitEnds i true s =
    commitStands i w (s.modPair (s.hbs i).pair (fun p => p.write (s.recordOf i w))) := by
  unfold commitEnds
  simp only [h]
  rfl

theorem commitEnds_again (h : (s.hbs i).writing = some w) (ha : w.again = false) : commitEnds i false s =
    (s.modHbs i (fun k => { k with writing := some { w with again := true } })).modPair (s.hbs i).pair
      (fun p => p.write { s.recordOf i w with good := false }) := by
  unfold commitEnds
  simp only [h, ha]
  rfl

/-- The state in which a pair that cannot be written is left for a free one. -/
def pairMoved (i n : Nat) (c : PairCopy) (s : State) : State :=
  (takePair n c (s.modPair (s.hbs i).pair (fun p => { p with used := false, unusable := true }))).modHbs i (fun k => { k with pair := n })

theorem commitEnds_moves (h : (s.hbs i).writing = some w) (ha : w.again = true) (hp : s.freePair = some p) : commitEnds i false s =
    raiseOpenAt 0x33 (.engine engVault) (commitStands i w (pairMoved i p (s.recordOf i w) s)) := by
  unfold commitEnds
  simp only [h, ha, hp]
  rfl

theorem commitEnds_noPair (h : (s.hbs i).writing = some w) (ha : w.again = true) (hp : s.freePair = none) :
    commitEnds i false s = wakeCommit (s.modHbs i (fun k => { k with writing := none, noPair := true })) := by
  unfold commitEnds
  simp only [h, ha, hp]
  rfl

theorem pairMoved_hbs {c : PairCopy} : (pairMoved i p c s).hbs i = { s.hbs i with pair := p } := hbs_modHbs

theorem pairMoved_jobs {c : PairCopy} : (pairMoved i p c s).jobs = s.jobs := rfl

theorem pairMoved_pair {c : PairCopy} : (pairMoved i p c s).pair p = { a := c, b := c, used := true } := pair_takePair

theorem pairMoved_pair_old {c : PairCopy} (h : p ≠ (s.hbs i).pair) : ((pairMoved i p c s).pair (s.hbs i).pair).unusable = true :=
  congrArg Pair.unusable ((pair_takePair_ne h.symm).trans pair_modPair)

end Sys2Proof.Machine
end

section
/-! SUPPORT. The statement on faults and errors of engines, memory tests, block boundaries and index commits. -/
namespace Sys2Proof.Machine

variable {s : State} {c : Instr} {x id ev : Nat}

theorem next_congr {u t : State} (h : u = t) : (.next u : Host.Outcome State Fault Refusal) = .next t := congrArg _ h

theorem toNat_needleEngine (needle : BitVec 5) : (0x40 + needle.zeroExtend 7 : BitVec 7).toNat = 0x40 + needle.toNat := by
  have := needle.isLt
  simp [BitVec.toNat_add]
  omega

/-- A fabric error of a Needle is a fault of that engine. -/
theorem exec_wringerLaneError_needle {needle : BitVec 5} {job : Nat} : exec (.wringerLaneError (0x40 + needle.zeroExtend 7) job) s =
    .next (engineFault (0x40 + needle.toNat) 0x32 .memTest s) := by
  have he := toNat_needleEngine needle
  have := needle.isLt
  refine next_congr ((wringerLaneErrorDo_needle ?_ ?_).trans (by rw [he])) <;> omega

/-- The four commands that report an uncorrectable fault of one engine. -/
theorem exec_fault (hc : exec c s = .next (engineFault x ev .memTest s)) :
    ((∀ j ∈ s.jobs, j.faultsOn x = false) → exec c s = .next (raiseEvent ev x (.engine x) .memTest s)) ∧
    ∃ u, exec c s = .next (raiseEvent ev x (.engine x) .memTest u) ∧ (∀ j ∈ u.jobs, j.faultsOn x = false) ∧
      ∀ id j, s.job? id = some j → j.faultsOn x = true → (∀ t ∈ s.jobs, t.id = id → t.parent = none ∨ t.phase = .running ∨ t.phase = .decided) →
        (u.job? id).map (fun j => (j.phase, j.status, j.outs)) = some (.wiping, stEngineFault, []) := by
  rw [engineFault_eq] at hc
  refine ⟨fun h => by rw [hc, faultEnded_idle h], faultEnded x s, hc, faultEnded_clears, fun id j hj hx h => ?_⟩
  exact faultEnded_wipes hj hx fun t ht hi => (h t ht hi).imp_right (Or.imp_right Or.inl)

/-- Settles O41: an engine fault ends the jobs of its engine by the walk through the end of a job; tests, lane errors, block boundaries and
index commits are the laws of their commands. -/
theorem engineErrorsEndTheirJobs : Obligations.EngineErrorsEndTheirJobs := by
  unfold Obligations.EngineErrorsEndTheirJobs
  intro s mangle needle darner engine job key r n rest w p j e hit lane up go k rec_ awake
  refine ⟨forall_triple_of_forall_mem ?faults, rfl, fun h ok => next_congr (engineMemoryTestDoneDo_unfenced h), fun h hr => ?tests,
    fun hl h => next_congr (wringerLaneErrorDo_other hl h), fun h h' hj => next_congr ((wringerLaneErrorDo_tree h h').trans (by rw [hj]; rfl)),
    fun h h' hj => next_congr ((wringerLaneErrorDo_tree h h').trans (by rw [hj]; rfl)),
    fun hl => ⟨laneErrorEnded e job s, next_congr (wringerLaneErrorDo_lane hl), laneErrorEnded_waiting, fun id => laneErrorEnded_wipes⟩,
    fun h => next_congr (h.elim wringerBlockBoundaryDo_down wringerBlockBoundaryDo_idle), fun hu id st hr hj hs hst => next_congr ?stops,
    fun hu id hr hj hs => next_congr ?held, fun hg hr hw => next_congr ?alone, fun hg hr hw => ?shared,
    fun h ok => next_congr (commitEnds_idle h), fun h => ⟨?good, fun ha => ?again, fun ha hp hne => ?moves, fun ha hp => ?noPair⟩⟩
  case faults =>
    simp only [List.forall_mem_cons]
    exact ⟨exec_fault rfl, exec_fault rfl, exec_fault rfl, exec_fault (next_congr (by
      rw [wringerLaneErrorDo_needle (by rw [toNat_needleEngine]; omega) (by rw [toNat_needleEngine]; omega), toNat_needleEngine])),
      List.forall_mem_nil _⟩
  case tests =>
    refine ⟨next_congr (engineMemoryTestDoneDo_fenced h hr), _, next_congr (engineMemoryTestDoneDo_fenced h hr), ?_, fun i hi => ?_, ?_,
      clearEngine_mangle, clearEngine_needle⟩
    · exact clearEngine_fence.trans (fence_setFence ..)
    · exact clearEngine_fence.trans (fence_setFence_ne hi)
    · exact clearEngine_jobs
  case stops =>
    rw [wringerBlockBoundaryDo_job hu hr hj, safePoint_stop hj hst hs]
    simp [hs, hst]
  case held =>
    rw [wringerBlockBoundaryDo_job hu hr hj]
    simp [hs]
  case alone =>
    obtain ⟨hu, hg⟩ := hg
    rw [wringerBlockBoundaryDo_goes hu hr fun id hid => hg id (by rw [hr]; exact congrArg some hid), boundary_alone hr hw]
  case shared =>
    obtain ⟨hu, hg⟩ := hg
    have hb : exec (.wringerBlockBoundary engine) s = .next _ := next_congr (
      (wringerBlockBoundaryDo_goes hu hr fun id hid => hg id (by rw [hr]; exact congrArg some hid)).trans (boundary_shared hr hw))
    refine ⟨fun hf ht => hb.trans (next_congr (if_neg ?_)), fun ht => ⟨_, hb.trans (next_congr (if_pos ht)), switchLane_lane,
      fun i => switchLane_lane_ne, switchLane_jobs, switchLane_switches⟩⟩
    exact not_or.mpr ⟨by simp [hf], Nat.not_le.mpr ht⟩
  case good => exact ⟨_, next_congr (commitEnds_good h), commitStands_hbs, commitStands_pair.trans pair_modPair, commitStands_jobs, rfl⟩
  case again => exact ⟨_, next_congr (commitEnds_again h ha), hbs_modPair.trans hbs_modHbs, pair_modPair, rfl⟩
  case moves =>
    refine ⟨_, next_congr (commitEnds_moves h ha hp), ?_, commitStands_pair.trans pairMoved_pair, (congrArg Pair.unusable commitStands_pair).trans (pairMoved_pair_old hne),
      commitStands_jobs.trans (congrArg _ pairMoved_jobs)⟩
    rw [commitStands_hbs, pairMoved_hbs]
  case noPair => exact ⟨_, next_congr (commitEnds_noPair h ha hp), hbs_modHbs, rfl, rfl⟩

end Sys2Proof.Machine
end

section
/-! SUPPORT. How the lattice and code-based opcodes end their jobs (R139, R144 to R148, R228, R239 to R242). -/
namespace Sys2Proof.Machine

theorem forall_sextuple_of_forall_mem {α β γ δ ε ζ : Type} {l : List (α × β × γ × δ × ε × ζ)} {P : α → β → γ → δ → ε → ζ → Prop}
    (h : ∀ p ∈ l, P p.1 p.2.1 p.2.2.1 p.2.2.2.1 p.2.2.2.2.1 p.2.2.2.2.2) (a : α) (b : β) (c : γ) (d : δ) (e : ε) (f : ζ)
    (hm : (a, b, c, d, e, f) ∈ l) : P a b c d e f := h (a, b, c, d, e, f) hm

variable {s u : State} {id op status : Nat} {j : Job} {f : Job → State → State} {outs : List (Nat × Bytes)}

/-! ## Computations that change more than their job -/

theorem runOp_ends_in_of_done (h : computes s id op j) (hu : u.job? id = some j) (hf : f j s = done j outs u) :
    ends u (runOp op f id s) id 0 outs := by
  rw [runOp_computes f h, hf]
  exact decided_ok hu

theorem running_of_computes (h : computes s id op j) : j.phase = .running := by
  have hc := h.2.2
  simp only [State.canCommit, Bool.and_eq_true, beq_iff_eq] at hc
  exact hc.1.1.1

/-! ## Verifications (R149) -/

theorem runOp_ends_of_verdict {ok : Bool} {p : Prop} [Decidable p] (h : computes s id op j) (hf : f j s = verdict j ok s) (hp : ok = true ↔ p) :
    ends s (runOp op f id s) id (if p then 0 else stSignatureInvalid) [] :=
  runOp_ends_of_check h (hf.trans (if_congr hp rfl rfl)) (by decide)

/-! ## Fills that a job gives up (R130, R228) -/

theorem woken_id {es : List CacheEntry} : (j.woken es).id = j.id := by unfold Job.woken; split <;> rfl

theorem job_wakeFills {es : List CacheEntry} : (wakeFills es s).job? id = (s.job? id).map (Job.woken es) := by
  have hw : (fun j : Job => j.id == id) ∘ Job.woken es = fun j => j.id == id := funext fun j => by simp [woken_id]
  rw [State.job?, wakeFills_jobs, List.find?_map, hw]
  rfl

/-- Fills that are given up leave a job alone that is not held for one. -/
theorem job_dropFills {k : Nat} (hj : s.job? id = some j) (hp : j.phase ≠ .held .cacheFill) : (dropFills k s).job? id = some j := by
  unfold dropFills
  dsimp only
  split
  · exact hj
  · rw [job_wakeFills]
    refine (congrArg (Option.map _) hj).trans (congrArg some (if_neg fun h => hp h.1))

theorem job_digestFails (h : computes s id op j) :
    (dropFills j.id { s with eng.dpk.other := satInc s.eng.dpk.other }).job? id = some j :=
  job_dropFills (s := { s with eng.dpk.other := satInc s.eng.dpk.other }) h.1 (by simp [running_of_computes h])

/-! ## The end of an encapsulation and of a decapsulation without KOUT (R144, R239) -/

theorem kemOut_ends {src : Bool} {k : Nat} {ct ss : Bytes} (hj : s.job? id = some j) (hk : (j.pb 1).testBit 1 = false) :
    ends s (kemOut j src k ct ss s) id 0 [(0, ct), (1, ss)] := by
  rw [show kemOut j src k ct ss s = done j [(0, ct), (1, ss)] s from if_neg (by simp [hk])]
  exact decided_ok hj

theorem decapsOut_ends {k : Nat} {ss : Bytes} (hj : s.job? id = some j) (hk : (j.pb 1).testBit 1 = false) :
    ends s (decapsOut j k ss s) id 0 [(0, ss)] := by
  rw [show decapsOut j k ss s = done j [(0, ss)] s from if_neg (by simp [hk])]
  exact decided_ok hj

/-! ## ML-KEM (R144, R147, R148) -/

/-- The encapsulation key of an ML_KEM_ENCAPS job: supplied, or that of the key it names. -/
def Job.ek (j : Job) (s : State) : Bytes := if (j.pb 1).testBit 0 then j.input 0 else publicKey s j.keyB

/-- What an ML-KEM encapsulation computes from. -/
def Job.kemArgs (j : Job) (s : State) : List Bytes := [num (j.pb 0), j.ek s, fit 32 j.seed]

/-- A supplied encapsulation key fails the check of its modulus. -/
def Job.ekRefused (j : Job) (s : State) : Bool := (j.pb 1).testBit 0 && !Config.check .mlKemEkOk [num (j.pb 0), j.ek s]

theorem mlKemEncapsDo_eq (h : computes s id 0x0102 j) : mlKemEncapsDo id s = if j.ekRefused s then fail j stInputKeyInvalid s
    else kemOut j ((j.pb 1).testBit 0) 1 (alg .mlKemCt (latSizes (j.pb 0)).2.1 (j.kemArgs s)) (alg .mlKemSs 32 (j.kemArgs s)) s :=
  runOp_computes _ h

theorem mlKemEncapsDo_ends (h : computes s id 0x0102 j) (hk : (j.pb 1).testBit 1 = false) (hr : j.ekRefused s = false) :
    ends s (mlKemEncapsDo id s) id 0
      [(0, alg .mlKemCt (latSizes (j.pb 0)).2.1 (j.kemArgs s)), (1, alg .mlKemSs 32 (j.kemArgs s))] := by
  rw [mlKemEncapsDo_eq h, if_neg (by simp [hr])]
  exact kemOut_ends h.1 hk

theorem mlKemEncapsDo_refuses (h : computes s id 0x0102 j) (hr : j.ekRefused s = true) :
    ends s (mlKemEncapsDo id s) id stInputKeyInvalid [] := by
  rw [mlKemEncapsDo_eq h, if_pos hr]
  exact decided_fail h.1 (by decide)

theorem mlKemDecapsDo_eq (h : computes s id 0x0103 j) :
    mlKemDecapsDo id s = decapsOut j 1 (alg .mlKemDecaps 32 [num (j.pb 0), j.keyB.material, j.input 0]) s := runOp_computes _ h

theorem mlKemDecapsDo_ends (h : computes s id 0x0103 j) (hk : (j.pb 1).testBit 1 = false) :
    ends s (mlKemDecapsDo id s) id 0 [(0, alg .mlKemDecaps 32 [num (j.pb 0), j.keyB.material, j.input 0])] := by
  rw [mlKemDecapsDo_eq h]
  exact decapsOut_ends h.1 hk

/-! ## ML-DSA (R138, R145, R147) -/

/-- What an ML-DSA signature is made from; a deterministic one takes zeros for the drawn bytes. -/
def Job.mlDsaArgs (j : Job) : List Bytes :=
  num (j.pb 0) :: j.keyB.material :: (if (j.pb 1).testBit 2 then zeros 32 else fit 32 j.seed) :: sigMessage j

/-- The public key that a lattice verification works with: supplied, or that of the key it names. -/
def Job.verifyKey (j : Job) (s : State) : Bytes := if (j.pb 1).testBit 4 then j.input 1 else publicKey s j.keyB

theorem mlDsaSignDo_ends (h : computes s id 0x0112 j) (ha : Config.measure .mlDsaAttempts j.mlDsaArgs ≤ 814) :
    ends s (mlDsaSignDo id s) id 0 [(0, alg .mlDsaSign (latSizes (j.pb 0)).2.2 j.mlDsaArgs)] :=
  runOp_ends_of_done h (if_neg (Nat.not_lt.mpr ha))

theorem mlDsaVerifyDo_ends (h : computes s id 0x0113 j) : ends s (mlDsaVerifyDo id s) id
    (if (j.input 2).length = (latSizes (j.pb 0)).2.2 ∧
        Config.check .mlDsaVerify (num (j.pb 0) :: j.verifyKey s :: j.input 2 :: sigMessage j) = true then 0 else stSignatureInvalid) [] := by
  refine runOp_ends_of_verdict h rfl ?_
  rw [Bool.and_eq_true, beq_iff_eq]
  rfl

/-! ## FN-DSA (R139, R147) -/

theorem fnDsaSignDo_eq (h : computes s id 0x0122 j) : fnDsaSignDo id s =
    if fnDsaLast j then done j [(0, alg .fnDsaSign (latSizes (j.pb 0)).2.2 (fnDsaArgs j))] s else nextStage j s := runOp_computes _ h

theorem fnDsaSignDo_ends (h : computes s id 0x0122 j) (hl : fnDsaLast j = true) :
    ends s (fnDsaSignDo id s) id 0 [(0, alg .fnDsaSign (latSizes (j.pb 0)).2.2 (fnDsaArgs j))] := by
  rw [fnDsaSignDo_eq h, if_pos hl]
  exact decided_ok h.1

theorem fnDsaSignDo_chains (h : computes s id 0x0122 j) (hl : fnDsaLast j = false) : fnDsaSignDo id s = nextStage j s := by
  rw [fnDsaSignDo_eq h, if_neg (by simp [hl])]

@[simp] theorem leaveEngine_jobs : (leaveEngine j s).jobs = s.jobs := by
  unfold leaveEngine
  dsimp only
  split <;> simp [clearEngine_jobs]

/-- The job of a stage that is not the last is ready for an engine of the other class. -/
theorem nextStage_job (hj : s.job? id = some j) : ∃ i, (nextStage j s).job? id = some i ∧ i.phase = .ready ∧ i.stage = j.stage + 1 ∧
    ∀ o, j.other = some o → i.cls = o.1 ∧ i.charge = o.2.1 := by
  obtain rfl := job_id hj
  unfold nextStage
  dsimp only
  rw [job_congr leaveEngine_jobs, job_modJob _ _ _ _ (by simp), if_pos rfl, hj]
  refine ⟨_, rfl, rfl, rfl, fun o ho => ?_⟩
  rw [ho]
  exact ⟨rfl, rfl⟩

/-- A supplied FN-DSA public key is malformed. -/
def Job.fnPkRefused (j : Job) (s : State) : Bool := (j.pb 1).testBit 4 && !fnDsaPkOk (j.pb 0) (j.verifyKey s)

/-- An FN-DSA signature has a length and a header of its set and verifies. -/
abbrev Job.fnVerifies (j : Job) (s : State) : Prop :=
  41 ≤ (j.input 2).length ∧ (j.input 2).length ≤ (latSizes (j.pb 0)).2.2 ∧ byteAt (j.input 2) 0 = (if j.pb 0 = 0x21 then 0x39 else 0x3A) ∧
    Config.check .fnDsaVerify (num (j.pb 0) :: j.verifyKey s :: j.input 2 :: sigMessage j) = true

theorem fnDsaVerifyDo_refuses (h : computes s id 0x0123 j) (hr : j.fnPkRefused s = true) :
    ends s (fnDsaVerifyDo id s) id stInputKeyInvalid [] := runOp_ends_of_fail h (if_pos hr) (by decide)

theorem fnDsaVerifyDo_ends (h : computes s id 0x0123 j) (hr : j.fnPkRefused s = false) :
    ends s (fnDsaVerifyDo id s) id (if j.fnVerifies s then 0 else stSignatureInvalid) [] := by
  refine runOp_ends_of_verdict h (if_neg (ne_true_of_eq_false hr)) ?_
  simp only [Bool.and_eq_true, decide_eq_true_eq, beq_iff_eq, and_assoc]
  rfl

/-! ## Public keys and preloads of lattice keys (R146) -/

theorem latPublicKeyDo_ends (h : computes s id 0x01F0 j) : ends s (latPublicKeyDo id s) id 0 [(0, publicKey s j.keyB)] :=
  runOp_ends_of_done h rfl

theorem latPreloadDo_ends (h : computes s id 0x01F1 j) : ends s (latPreloadDo id s) id 0 [(0, leBytes 4 (min j.cacheRes 2))] :=
  runOp_ends_of_done h rfl

/-! ## Classic McEliece (R228, R239, R241, R242) -/

/-- A supplied code-based public key has padding bits that are set. -/
def Job.cbPkRefused (j : Job) (s : State) : Bool := (j.pb 1).testBit 0 && !cbPkOk (j.pb 0) (encapsPk j s)

/-- A streamed public key has another digest than the key it belongs to. -/
def Job.streamDiffers (j : Job) (s : State) : Bool :=
  !(j.pb 1).testBit 0 && decide (j.cacheRes ≠ 0) && pkDigest (encapsPk j s) != j.keyB.digest

/-- Ciphertext and shared secret of a Classic McEliece encapsulation. -/
def Job.cmeCt (j : Job) (s : State) : Bytes := alg .cmeEncaps (cbSizes (j.pb 0)).2.1 [num (j.pb 0), encapsPk j s, j.seed]
def Job.cmeSs (j : Job) (s : State) : Bytes := alg .cmeEncaps (cbSizes (j.pb 0)).2.2.1 [num (j.pb 0), encapsPk j s, j.seed, num 1]

theorem cmeEncapsDo_eq (h : computes s id 0x0302 j) : cmeEncapsDo id s = if j.cbPkRefused s then fail j stInputKeyInvalid s
    else if j.streamDiffers s then digestFails j s
    else kemOut j ((j.pb 1).testBit 0) 1 (j.cmeCt s) (j.cmeSs s) (keepStreamed j s) := runOp_computes _ h

theorem cmeEncapsDo_refuses (h : computes s id 0x0302 j) (hr : j.cbPkRefused s = true) :
    ends s (cmeEncapsDo id s) id stInputKeyInvalid [] := by
  rw [cmeEncapsDo_eq h, if_pos hr]
  exact decided_fail h.1 (by decide)

theorem cmeEncapsDo_ends (h : computes s id 0x0302 j) (hr : j.cbPkRefused s = false) (hd : j.streamDiffers s = false)
    (hk : (j.pb 1).testBit 1 = false) : ends (keepStreamed j s) (cmeEncapsDo id s) id 0 [(0, j.cmeCt s), (1, j.cmeSs s)] := by
  rw [cmeEncapsDo_eq h, if_neg (by simp [hr]), if_neg (by simp [hd])]
  exact kemOut_ends (s := keepStreamed j s) h.1 hk

theorem digestFails_ends (h : computes s id op j) :
    ends (dropFills j.id { s with eng.dpk.other := satInc s.eng.dpk.other }) (digestFails j s) id stInputKeyInvalid [] :=
  decided_fail (job_digestFails h) (by decide)

theorem cmeEncapsDo_digestFails (h : computes s id 0x0302 j) (hr : j.cbPkRefused s = false) (hd : j.streamDiffers s = true) :
    ends (dropFills j.id { s with eng.dpk.other := satInc s.eng.dpk.other }) (cmeEncapsDo id s) id stInputKeyInvalid [] := by
  rw [cmeEncapsDo_eq h, if_neg (by simp [hr]), if_pos hd]
  exact digestFails_ends h

theorem cmeDecapsDo_eq (h : computes s id 0x0303 j) :
    cmeDecapsDo id s = decapsOut j 1 (alg .cmeDecaps 32 [num (j.pb 0), j.keyB.material, j.input 0]) s := runOp_computes _ h

theorem cmeDecapsDo_ends (h : computes s id 0x0303 j) (hk : (j.pb 1).testBit 1 = false) :
    ends s (cmeDecapsDo id s) id 0 [(0, alg .cmeDecaps 32 [num (j.pb 0), j.keyB.material, j.input 0])] := by
  rw [cmeDecapsDo_eq h]
  exact decapsOut_ends h.1 hk

/-! ## HQC (R239, R241, R242) -/

/-- Ciphertext and shared secret of an HQC encapsulation. -/
def Job.hqcCt (j : Job) (s : State) : Bytes := alg .hqcCt (cbSizes (j.pb 0)).2.1 [num (j.pb 0), encapsPk j s, j.seed]
def Job.hqcSs (j : Job) (s : State) : Bytes := alg .hqcSs 64 [num (j.pb 0), encapsPk j s, j.seed]

theorem hqcEncapsDo_eq (h : computes s id 0x0312 j) : hqcEncapsDo id s = if j.cbPkRefused s then fail j stInputKeyInvalid s
    else kemOut j ((j.pb 1).testBit 0) 2 (j.hqcCt s) (j.hqcSs s) s := runOp_computes _ h

theorem hqcEncapsDo_refuses (h : computes s id 0x0312 j) (hr : j.cbPkRefused s = true) :
    ends s (hqcEncapsDo id s) id stInputKeyInvalid [] := by
  rw [hqcEncapsDo_eq h, if_pos hr]
  exact decided_fail h.1 (by decide)

theorem hqcEncapsDo_ends (h : computes s id 0x0312 j) (hr : j.cbPkRefused s = false) (hk : (j.pb 1).testBit 1 = false) :
    ends s (hqcEncapsDo id s) id 0 [(0, j.hqcCt s), (1, j.hqcSs s)] := by
  rw [hqcEncapsDo_eq h, if_neg (by simp [hr])]
  exact kemOut_ends h.1 hk

theorem hqcDecapsDo_eq (h : computes s id 0x0313 j) :
    hqcDecapsDo id s = decapsOut j 2 (alg .hqcDecaps 64 [num (j.pb 0), j.keyB.material, j.input 0]) s := runOp_computes _ h

theorem hqcDecapsDo_ends (h : computes s id 0x0313 j) (hk : (j.pb 1).testBit 1 = false) :
    ends s (hqcDecapsDo id s) id 0 [(0, alg .hqcDecaps 64 [num (j.pb 0), j.keyB.material, j.input 0])] := by
  rw [hqcDecapsDo_eq h]
  exact decapsOut_ends h.1 hk

/-! ## Public keys and preloads of code-based keys (R228, R240) -/

/-- The public key that CB_PUBLIC_KEY returns a window of. -/
def Job.windowed (j : Job) (s : State) : Bytes := if j.cacheRes = 0 then j.input 0 else publicKey s j.keyB

/-- A Classic McEliece public key that was in no cache, and whose digest is not the one that the key holds. -/
def Job.pkDiffers (j : Job) (pk : Bytes) : Bool := isCme (j.pb 0) && decide (j.cacheRes ≠ 0) && pkDigest pk != j.keyB.digest

theorem cbPublicKeyDo_ends (h : computes s id 0x03F0 j) (hd : j.pkDiffers (j.windowed s) = false) :
    ends s (cbPublicKeyDo id s) id 0 [(0, cut (j.windowed s) (fieldLE j.params 4 4) (fieldLE j.params 8 4))] :=
  runOp_ends_of_done h (if_neg (ne_true_of_eq_false hd))

theorem cbPreloadDo_ends (h : computes s id 0x03F1 j) (hd : j.pkDiffers (j.input 0) = false) :
    ends (keepStreamed j s) (cbPreloadDo id s) id 0 [(0, leBytes 4 (min j.cacheRes 2))] :=
  runOp_ends_in_of_done h h.1 (if_neg (ne_true_of_eq_false hd))

theorem cbPreloadDo_digestFails (h : computes s id 0x03F1 j) (hd : j.pkDiffers (j.input 0) = true) :
    ends (dropFills j.id { s with eng.dpk.other := satInc s.eng.dpk.other }) (cbPreloadDo id s) id stInputKeyInvalid [] := by
  rw [show cbPreloadDo id s = digestFails j s from (runOp_computes _ h).trans (if_pos hd)]
  exact digestFails_ends h

end Sys2Proof.Machine
end

section
/-! SUPPORT. The statement on lattice and code-based jobs that keep no key. -/
namespace Sys2Proof.Machine

/-- Settles O21: each row is a law of its opcode under the row's condition; an FN-DSA signature that is not at its last stage is chained. -/
theorem latticeAndCodeJobsDecide : Obligations.LatticeAndCodeJobsDecide := by
  unfold Obligations.LatticeAndCodeJobsDecide
  intro s id j set f x key ek vk m msg rnd short cpk refused wpk again stream sizes
  have hshort : short = true ↔ f.testBit 1 = false := by simp [short]
  have hek : (f.testBit 0 && !Config.check .mlKemEkOk [num set, ek]) = j.ekRefused s := rfl
  have hfn : (f.testBit 4 && !fnDsaPkOk set vk) = j.fnPkRefused s := rfl
  have hwindow : (again && pkDigest wpk != j.keyB.digest) = j.pkDiffers (j.windowed s) := rfl
  have hpreload : (again && pkDigest x != j.keyB.digest) = j.pkDiffers (j.input 0) := rfl
  refine ⟨forall_quintuple_of_forall_mem ?rows, forall_sextuple_of_forall_mem ?streamed,
    fun hc hl => ⟨congrArg _ (fnDsaSignDo_chains hc hl), nextStage_job hc.1⟩⟩
  case rows =>
    simp only [List.forall_mem_cons, hek, hfn, hwindow, Bool.and_eq_true, Bool.not_eq_true', decide_eq_true_eq, hshort]
    exact ⟨fun hc => ⟨_, rfl, fun ⟨hk, hr⟩ => mlKemEncapsDo_ends hc hk hr⟩,
      fun hc => ⟨_, rfl, mlKemEncapsDo_refuses hc⟩,
      fun hc => ⟨_, rfl, mlKemDecapsDo_ends hc⟩,
      fun hc => ⟨_, rfl, mlDsaSignDo_ends hc⟩,
      fun hc => ⟨_, rfl, fun _ => mlDsaVerifyDo_ends hc⟩,
      fun hc => ⟨_, rfl, fnDsaSignDo_ends hc⟩,
      fun hc => ⟨_, rfl, fnDsaVerifyDo_refuses hc⟩,
      fun hc => ⟨_, rfl, fnDsaVerifyDo_ends hc⟩,
      fun hc => ⟨_, rfl, fun _ => latPublicKeyDo_ends hc⟩,
      fun hc => ⟨_, rfl, fun _ => latPreloadDo_ends hc⟩,
      fun hc => ⟨_, rfl, cmeEncapsDo_refuses hc⟩,
      fun hc => ⟨_, rfl, cmeDecapsDo_ends hc⟩,
      fun hc => ⟨_, rfl, hqcEncapsDo_refuses hc⟩,
      fun hc => ⟨_, rfl, fun ⟨hr, hk⟩ => hqcEncapsDo_ends hc hr hk⟩,
      fun hc => ⟨_, rfl, hqcDecapsDo_ends hc⟩,
      fun hc => ⟨_, rfl, cbPublicKeyDo_ends hc⟩,
      List.forall_mem_nil _⟩
  case streamed =>
    simp only [List.forall_mem_cons, hpreload, Bool.and_eq_true, Bool.not_eq_true', hshort]
    exact ⟨fun hc => ⟨_, rfl, fun ⟨⟨hr, hd⟩, hk⟩ => cmeEncapsDo_ends hc hr hd hk⟩,
      fun hc => ⟨_, rfl, fun ⟨hr, hd⟩ => cmeEncapsDo_digestFails hc hr hd⟩,
      fun hc => ⟨_, rfl, cbPreloadDo_ends hc⟩,
      fun hc => ⟨_, rfl, cbPreloadDo_digestFails hc⟩,
      List.forall_mem_nil _⟩

end Sys2Proof.Machine
end

section
/-! SUPPORT. Slots and data runs of keys (R306, R315, R317, R318). -/
namespace Sys2Proof.Machine

variable {s t : State} {kt lt : Bool} {i n : Nat}

/-! ## Slots -/

theorem slot_of_kv (h : t.kv = s.kv) : t.slot kt i = s.slot kt i := by simp only [State.slot, h]

theorem slot_modSlot_ne {f : Slot → Slot} (h : kt = lt → n ≠ i) : (s.modSlot lt i f).slot kt n = s.slot kt n := by
  cases kt <;> cases lt
  · exact tget_tmod_ne _ _ _ (h rfl)
  · rfl
  · rfl
  · exact tget_tmod_ne _ _ _ (h rfl)

/-- A change of slots leaves the rest of the key vault alone. -/
theorem modSlot_dying {f : Slot → Slot} : (s.modSlot kt i f).kv.dying = s.kv.dying := by cases kt <;> rfl
theorem modSlot_replacing {f : Slot → Slot} : (s.modSlot kt i f).kv.replacing = s.kv.replacing := by cases kt <;> rfl
theorem freeSlots_dying {m : Nat} : (freeSlots kt i m s).kv.dying = s.kv.dying :=
  foldl_keeps (fun u : State => u.kv.dying) _ (fun _ _ => modSlot_dying) _ _

/-- Freeing a run leaves the slots outside it alone. -/
theorem freeSlots_slot {m : Nat} (h : kt = lt → n < i ∨ i + m ≤ n) : (freeSlots lt i m s).slot kt n = s.slot kt n := by
  refine List.foldlRecOn (motive := fun u : State => u.slot kt n = s.slot kt n) _ _ rfl fun u hu k hk => ?_
  have hk := List.mem_range.mp hk
  exact (slot_modSlot_ne fun hl => by have := h hl; omega).trans hu

theorem layRun_slot {b : Slot} : (layRun kt i b s).slot kt i = b := slot_modSlot ..

theorem layRun_replacing {b : Slot} : (layRun kt i b s).kv.replacing = s.kv.replacing :=
  modSlot_replacing.trans (foldl_keeps (fun u : State => u.kv.replacing) _ (fun _ _ => modSlot_replacing) _ _)

/-! ## Data runs that are left behind (R315) -/

theorem needed_of_jobs {g : BitVec 16} (h : t.jobs = s.jobs) : t.needed kt i g = s.needed kt i g := by simp only [State.needed, h]

/-- The runs that no job needs any more lie off a slot. -/
def State.sweepSpares (s : State) (kt : Bool) (n : Nat) : Prop :=
  ∀ d ∈ s.kv.dying, s.needed d.kt d.index d.gen = false → kt = d.kt → n < d.first ∨ d.first + d.count ≤ n

theorem sweepRuns_slot (h : s.sweepSpares kt n) : (sweepRuns s).slot kt n = s.slot kt n := by
  refine List.foldlRecOn (motive := fun u : State => u.slot kt n = s.slot kt n) _ _ rfl fun u hu d hd => ?_
  · obtain ⟨hm, hn⟩ := List.mem_filter.mp hd
    exact (freeSlots_slot (h d hm (by simpa using hn))).trans hu

theorem sweepOld_slot (h : s.sweepSpares kt n) : (sweepOld s).slot kt n = s.slot kt n := by
  unfold sweepOld
  dsimp only
  split
  · exact sweepRuns_slot (s := { s with
      eng.ekc.entries := s.eng.ekc.entries.filter fun e => e.st != .old || s.jobs.any fun j => j.awaits e
      eng.dpk.entries := s.eng.dpk.entries.filter fun e => e.st != .old || s.jobs.any fun j => j.awaits e }) h
  · exact sweepRuns_slot h

/-- A run that is left behind waits for the jobs that need its key, or is freed at once. -/
theorem mem_dying_releaseRun {first m : Nat} {g : BitVec 16} {d : DyingRun} (hd : d ∈ (releaseRun kt first m i g s).kv.dying) :
    d ∈ s.kv.dying ∨ s.needed d.kt d.index d.gen = true := by
  unfold releaseRun at hd
  split at hd
  · next hn =>
    refine (List.mem_append.mp hd).imp_right fun h => ?_
    rw [List.mem_singleton.mp h]
    exact hn
  · exact Or.inl (freeSlots_dying ▸ hd)

end Sys2Proof.Machine
end

section
/-! SUPPORT. Deletion, attributes, wrapping, proof and random output (R317, R318, R321, R323, R328, R332, R376). -/
namespace Sys2Proof.Machine

variable {s : State} {id : Nat} {j : Job}

/-! ## A commit whose handle no longer names the key (R318) -/

theorem runOp_ends_of_gone {op : Nat} {f : Job → State → State} (h : computes s id op j) (hs : j.still s ≠ 0)
    (hf : ∀ st, j.still s = st + 1 → f j s = fail j (st + 1) s) : ends s (runOp op f id s) id (j.still s) [] := by
  obtain ⟨st, hst⟩ := Nat.exists_eq_succ_of_ne_zero hs
  exact runOp_ends_of_fail h (hst ▸ hf st hst) hs

theorem keyDeleteDo_deletes (h : computes s id 0x0702 j) (hs : j.still s = 0) :
    ends (deleteKey j.keyB.kt j.keyB.index s) (keyDeleteDo id s) id 0 [] :=
  runOp_ends_in_of_done h ((job_congr deleteKey_jobs id).trans h.1) (by simp only [hs])

theorem keyDeleteDo_gone (h : computes s id 0x0702 j) (hs : j.still s ≠ 0) : ends s (keyDeleteDo id s) id (j.still s) [] :=
  runOp_ends_of_gone h hs fun st hst => by simp only [hst]

/-! ## Attributes (R321, R332) -/

/-- The new attributes of a KEY_SET_ATTR job only narrow those the key has. -/
def Job.attrFits (j : Job) (s : State) : Bool :=
  narrows (s.slot j.keyB.kt j.keyB.index).used (s.keyData j.keyB.kt j.keyB.index).attr (j.input 0)

theorem setAttr_jobs {kt : Bool} {i : Nat} {a : Bytes} : (setAttr kt i a s).jobs = s.jobs := by
  unfold setAttr commitSlot
  cases kt <;> rfl

theorem keySetAttrDo_sets (h : computes s id 0x0704 j) (hs : j.still s = 0) (hf : j.attrFits s = true) :
    ends (setAttr j.keyB.kt j.keyB.index (j.input 0) s) (keySetAttrDo id s) id 0 [] :=
  runOp_ends_in_of_done h ((job_congr setAttr_jobs id).trans h.1) (by
    simp only [hs]
    exact if_pos hf)

theorem keySetAttrDo_refuses (h : computes s id 0x0704 j) (hs : j.still s = 0) (hf : j.attrFits s = false) :
    ends s (keySetAttrDo id s) id stKeyPolicyDenied [] :=
  runOp_ends_of_fail h (by
    simp only [hs]
    exact if_neg (ne_true_of_eq_false hf)) (by decide)

theorem keyGetAttrDo_ends (h : computes s id 0x0703 j) : ends s (keyGetAttrDo id s) id 0
    [(0, fit 48 j.keyB.attr ++ leBytes 8 (s.slot j.keyB.kt j.keyB.index).used ++ leBytes 1 (s.slot j.keyB.kt j.keyB.index).count ++
      leBytes 1 (hClass j.keyB.handle) ++ [(s.slot j.keyB.kt j.keyB.index).origin] ++ zeros 5)] := runOp_ends_of_done h rfl

/-! ## Export, proof, random output (R323, R328, R376) -/

theorem keyExportWrappedDo_ends (h : computes s id 0x0707 j) : ends s (keyExportWrappedDo id s) id 0
    [(0, wrapBlob 1 ((j.keyN 1).material.take 32) j.keyB.attr j.keyB.material)] := runOp_ends_of_done h rfl

/-- The challenge of a KEY_PROVE job. -/
def Job.challenge (j : Job) : Bytes := cut j.params 16 (j.pb 8)

/-- The response of a KEY_PROVE job to its challenge, for the digest `d` of the key it proves (R323). -/
def Job.proofOf (j : Job) (s : State) (d : Bytes) : Bytes :=
  kmac256 (secretOf s j.keyB) (j.challenge ++ leBytes 8 (j.keyN 1).handle ++ fit 48 (j.keyN 1).attr ++
    leBytes 8 (s.slot (j.keyN 1).kt (j.keyN 1).index).used ++ d) 16 (ascii "EQX-KEY-PROVE")

theorem eq_inl_of_isLeft {α β : Type} {x : α ⊕ β} {a : α} (h : x.isLeft = true) : x = .inl (x.getLeft?.getD a) := by
  obtain ⟨y, rfl⟩ := Sum.isLeft_iff.mp h
  rfl

theorem keyProveDo_ends {d : Bytes} (h : computes s id 0x070A j) (hd : provenDigest s j.slice (j.keyN 1) j.challenge = .inl d) :
    ends s (keyProveDo id s) id 0 [(0, j.proofOf s d)] :=
  runOp_ends_of_done h (by
    unfold Job.challenge at hd
    simp only [hd]
    rfl)

theorem rngGenerateDo_ends (h : computes s id 0x0801 j) :
    ends s (rngGenerateDo id s) id 0 [(0, fit (fieldLE j.params 4 4) j.seed)] := runOp_ends_of_done h rfl

end Sys2Proof.Machine
end

section
/-! SUPPORT. Replacement of a key: the shadow run and the swap (R126, R233, R318). -/
namespace Sys2Proof.Machine

variable {s : State} {id i : Nat} {j : Job}

/-! ## The swap -/

/-- The state of a swap once the base header names the shadow run, before runs that no job needs are freed. -/
def headerSwapped (j : Job) (i : Nat) (s : State) : State :=
  let k := j.keyB
  let b := s.slot k.kt k.index
  let u := supersede k.kt k.index b.gen s
  let u := if b.kind = .moved then releaseRun k.kt b.data b.count k.index b.gen u
    else releaseRun k.kt (k.index + 1) (b.count - 1) k.index b.gen u
  let u := u.modSlot k.kt k.index (fun _ => {
    kind := .moved, count := b.count, gen := nextGen b.gen, slice := b.slice, layout := b.layout, origin := (s.slot k.kt i).origin, data := i })
  let u := u.modSlot k.kt i (fun d => { d with kind := .run })
  if k.kt then u else journalClear k.index u

theorem replaceSwap_eq : replaceSwap j i s =
    { sweepOld (headerSwapped j i s) with kv.replacing := (sweepOld (headerSwapped j i s)).kv.replacing.filter (fun r => r.job != j.id) } := rfl

theorem headerSwapped_jobs : (headerSwapped j i s).jobs = s.jobs := by
  unfold headerSwapped
  dsimp only
  have hs {g : BitVec 16} : (supersede j.keyB.kt j.keyB.index g s).jobs = s.jobs := rfl
  split <;> split <;> simp [journalClear, hs]

/-- The runs that wait to be freed after the header's change waited before it, or are needed still. -/
theorem mem_dying_headerSwapped {d : DyingRun} (hd : d ∈ (headerSwapped j i s).kv.dying) :
    d ∈ s.kv.dying ∨ s.needed d.kt d.index d.gen = true := by
  unfold headerSwapped at hd
  dsimp only at hd
  have hc (u : State) : (if j.keyB.kt = true then u else journalClear j.keyB.index u).kv.dying = u.kv.dying := by split <;> rfl
  rw [hc, modSlot_dying, modSlot_dying] at hd
  split at hd
  · have h := mem_dying_releaseRun hd
    exact h
  · have h := mem_dying_releaseRun hd
    exact h

/-- The base slot of a replaced key once its header names the shadow run. -/
def Slot.replacedBy (b : Slot) (i : Nat) (t : Slot) : Prop := t.gen = nextGen b.gen ∧ t.data = i ∧ t.used = 0

theorem headerSwapped_slot :
    (s.slot j.keyB.kt j.keyB.index).replacedBy i ((headerSwapped j i s).slot j.keyB.kt j.keyB.index) := by
  unfold headerSwapped
  dsimp only
  have hc (u : State) : (if j.keyB.kt = true then u else journalClear j.keyB.index u).slot j.keyB.kt j.keyB.index =
      u.slot j.keyB.kt j.keyB.index := by split <;> rfl
  rw [hc]
  by_cases hi : j.keyB.index = i
  · rw [← hi, slot_modSlot, slot_modSlot]
    exact ⟨rfl, rfl, rfl⟩
  · rw [slot_modSlot_ne fun _ => hi, slot_modSlot]
    exact ⟨rfl, rfl, rfl⟩

theorem replaceSwap_jobs : (replaceSwap j i s).jobs = s.jobs := by
  rw [replaceSwap_eq]
  exact sweepOld_jobs.trans headerSwapped_jobs

/-- After the swap the base slot names the shadow run, where no run that waits to be freed lies over it. -/
theorem replaceSwap_slot (h : ∀ d ∈ s.kv.dying, d.kt = j.keyB.kt → j.keyB.index < d.first ∨ d.first + d.count ≤ j.keyB.index) :
    (s.slot j.keyB.kt j.keyB.index).replacedBy i ((replaceSwap j i s).slot j.keyB.kt j.keyB.index) := by
  have hs : (headerSwapped j i s).sweepSpares j.keyB.kt j.keyB.index := by
    intro d hd hn hk
    rw [needed_of_jobs headerSwapped_jobs] at hn
    rcases mem_dying_headerSwapped hd with hd | hd
    · exact h d hd hk.symm
    · exact absurd (hd.symm.trans hn) (by decide)
  have he : (replaceSwap j i s).slot j.keyB.kt j.keyB.index = (sweepOld (headerSwapped j i s)).slot j.keyB.kt j.keyB.index := rfl
  rw [he, sweepOld_slot hs]
  exact headerSwapped_slot

/-- What a swap returns: the public key and the handle of the next generation. -/
def swapOuts (j : Job) (u : State) : List (Nat × Bytes) :=
  [(0, publicKey u (u.bind j.keyB.kt j.keyB.index)), (1, handleBytes u j.keyB.kt j.keyB.index)]

theorem keyReplaceDo_swaps {r : Replacing} (h : computes s id 0x0706 j) (hr : s.kv.replacing.find? (fun r => r.job == j.id) = some r)
    (hs : j.still s = 0) : ends (replaceSwap j r.shadow s) (keyReplaceDo id s) id 0 (swapOuts j (replaceSwap j r.shadow s)) :=
  runOp_ends_in_of_done h ((job_congr replaceSwap_jobs id).trans h.1) (by
    simp only [hr, hs]
    rfl)

/-! ## The shadow run -/

/-- KEY_REPLACE has the seed that its new key is generated from, or takes the key from a blob. -/
def Job.replaceReady (j : Job) : Bool := j.pb 0 != 0 || (decide (j.seed ≠ []) && seedFits j.keyB.fam j.keyB.alg j.seed)

theorem keyReplaceDo_shadow (h : computes s id 0x0706 j)
    (hr : s.kv.replacing.any (fun r => r.job == j.id || (r.kt == j.keyB.kt && r.index == j.keyB.index)) = false) (hs : j.still s = 0)
    (hready : j.replaceReady = true) : keyReplaceDo id s = replaceShadow j s := by
  have hno : ∀ r ∈ s.kv.replacing, ¬ ((r.job == j.id || (r.kt == j.keyB.kt && r.index == j.keyB.index)) = true) := fun r hm hb =>
    absurd (List.any_eq_true.mpr ⟨r, hm, hb⟩) (by rw [hr]; decide)
  have hfind : s.kv.replacing.find? (fun r => r.job == j.id) = none :=
    List.find?_eq_none.mpr fun r hm hb => hno r hm (by rw [hb]; rfl)
  have hany : s.kv.replacing.any (fun r => r.kt == j.keyB.kt && r.index == j.keyB.index) = false :=
    List.any_eq_false.mpr fun r hm hb => hno r hm (by rw [hb, Bool.or_true])
  have hseed : ¬ (j.pb 0 = 0 ∧ j.seed = []) ∧ ¬ (j.pb 0 = 0 ∧ (!seedFits j.keyB.fam j.keyB.alg j.seed) = true) := by
    simp only [Job.replaceReady, Bool.or_eq_true, bne_iff_ne, Bool.and_eq_true, decide_eq_true_eq] at hready
    rcases hready with hp | ⟨hd, hf⟩
    · exact ⟨fun hc => hp hc.1, fun hc => hp hc.1⟩
    · exact ⟨fun hc => hd hc.2, fun hc => by simp [hf] at hc⟩
  refine (runOp_computes _ h).trans ?_
  simp only [hfind, hany, hs, if_neg hseed.1, if_neg hseed.2]
  rfl

variable {a m : Bytes} {origin : BitVec 8} {st : Nat}

theorem replaceShadow_badKey (hk : newKeyOf j s = .inr st) : replaceShadow j s = fail j st s := by
  unfold replaceShadow
  simp only [hk]

theorem replaceShadow_noRoom (hk : newKeyOf j s = .inl (a, m, origin))
    (hp : s.placeRun j.keyB.kt j.slice (s.slot j.keyB.kt j.keyB.index).count = .inr st) : replaceShadow j s = fail j st s := by
  unfold replaceShadow
  simp only [hk, hp]

theorem replaceShadow_inconsistent (hk : newKeyOf j s = .inl (a, m, origin))
    (hp : s.placeRun j.keyB.kt j.slice (s.slot j.keyB.kt j.keyB.index).count = .inl i) (hc : Config.check .checkValue [a, m] = false) :
    replaceShadow j s = fail j stEngineFault s := by
  unfold replaceShadow
  simp only [hk, hp, hc]
  rfl

theorem replaceShadow_lays (hk : newKeyOf j s = .inl (a, m, origin))
    (hp : s.placeRun j.keyB.kt j.slice (s.slot j.keyB.kt j.keyB.index).count = .inl i) (hc : Config.check .checkValue [a, m] = true) :
    (replaceShadow j s).jobs = s.jobs ∧ ((replaceShadow j s).slot j.keyB.kt i).kind = .shadow ∧
      (replaceShadow j s).kv.replacing =
        s.kv.replacing ++ [{ job := j.id, kt := j.keyB.kt, index := j.keyB.index, shadow := i }] := by
  have hj (u : State) (n : Nat) (b : Slot) : (if j.keyB.kt = true then u else journalWrite n b u).jobs = u.jobs := by split <;> rfl
  have hs (u : State) (n : Nat) (b : Slot) :
      (if j.keyB.kt = true then u else journalWrite n b u).slot j.keyB.kt i = u.slot j.keyB.kt i := by split <;> rfl
  have hr (u : State) (n : Nat) (b : Slot) :
      (if j.keyB.kt = true then u else journalWrite n b u).kv.replacing = u.kv.replacing := by split <;> rfl
  unfold replaceShadow
  simp only [hk, hp, hc, Bool.not_true, Bool.false_eq_true, if_false]
  refine ⟨(hj ..).trans (layRun_jobs ..), ?_, (hr ..).trans (congrArg (· ++ _) layRun_replacing)⟩
  have hl (b : Slot) (l : List Replacing) : ({ layRun j.keyB.kt i b s with kv.replacing := l } : State).slot j.keyB.kt i = b := layRun_slot
  exact congrArg Slot.kind ((hs ..).trans (hl ..))

end Sys2Proof.Machine
end

section
/-! SUPPORT. The statement on key management, wrapping, proof and random output. -/
namespace Sys2Proof.Machine

/-- Settles O26: each row is a law of its opcode under the row's condition; the swap and the shadow run are the two moments of KEY_REPLACE. -/
theorem keyManagementJobsDecide : Obligations.KeyManagementJobsDecide := by
  unfold Obligations.KeyManagementJobsDecide
  intro s id j k b p here fits ch pd proof
  have hhere : here = true ↔ j.still s = 0 := beq_iff_eq
  have hgone : here = false ↔ j.still s ≠ 0 := beq_eq_false_iff_ne
  refine ⟨forall_sextuple_of_forall_mem ?rows, fun r hr hc => ⟨_, rfl, fun hs => ?swap⟩, fun hr hc => ⟨_, rfl, fun hs => ?shadow⟩⟩
  case rows =>
    simp only [List.forall_mem_cons, Bool.and_eq_true, Bool.not_eq_true', hhere, hgone]
    exact ⟨fun hc => ⟨_, rfl, keyDeleteDo_deletes hc⟩,
      fun hc => ⟨_, rfl, keyDeleteDo_gone hc⟩,
      fun hc => ⟨_, rfl, fun _ => keyGetAttrDo_ends hc⟩,
      fun hc => ⟨_, rfl, fun ⟨hs, hf⟩ => keySetAttrDo_sets hc hs hf⟩,
      fun hc => ⟨_, rfl, fun ⟨hs, hf⟩ => keySetAttrDo_refuses hc hs hf⟩,
      fun hc => ⟨_, rfl, fun _ => keyExportWrappedDo_ends hc⟩,
      fun hc => ⟨_, rfl, fun hd => keyProveDo_ends hc (eq_inl_of_isLeft hd)⟩,
      fun hc => ⟨_, rfl, fun _ => rngGenerateDo_ends hc⟩,
      List.forall_mem_nil _⟩
  case swap =>
    have he := keyReplaceDo_swaps hc hr (hhere.mp hs)
    refine ⟨he, fun hd => ?_⟩
    rw [slot_of_kv (onlyJob_kv he.2)]
    exact replaceSwap_slot hd
  case shadow =>
    obtain ⟨hs, hready⟩ := Bool.and_eq_true_iff.mp hs
    rw [show keyReplaceDo id s = _ from keyReplaceDo_shadow hc hr (hhere.mp hs) hready]
    cases hk : newKeyOf j s with
    | inr st =>
      rw [replaceShadow_badKey hk]
      exact decided_fail hc.1
    | inl p =>
      obtain ⟨a, m, origin⟩ := p
      dsimp only
      cases hp : s.placeRun k.kt j.slice b.count with
      | inr st =>
        rw [replaceShadow_noRoom hk hp]
        exact decided_fail hc.1
      | inl i =>
        refine ⟨fun hf => ?_, replaceShadow_lays hk hp⟩
        rw [replaceShadow_inconsistent hk hp hf]
        exact decided_fail hc.1 (by decide)

end Sys2Proof.Machine
end

section
/-! SUPPORT. What a created key depends on, and how the opcodes that create keys end (R143, R306, R316, R547). -/
namespace Sys2Proof.Machine

variable {s t : State} {id cls slice i : Nat} {j : Job} {attr mat : Bytes} {origin : BitVec 8} {outs : State → Nat → List (Nat × Bytes)}
  {k : Nat → State → State}

/-! ## Creation and the engines -/

/-- The state with other engines. -/
def State.withEng (s : State) (e : EngState) : State := { s with eng := e }

theorem modSlot_withEng {kt : Bool} {f : Slot → Slot} {e : EngState} : (s.withEng e).modSlot kt i f = (s.modSlot kt i f).withEng e := by
  cases kt <;> rfl

theorem layRun_withEng {kt : Bool} {b : Slot} {e : EngState} : layRun kt i b (s.withEng e) = (layRun kt i b s).withEng e := by
  have hf : ∀ l : List Nat, l.foldl (fun s n => s.modSlot kt (i + 1 + n) (fun sl => { sl with kind := .ext, slice := b.slice })) (s.withEng e) =
      (l.foldl (fun s n => s.modSlot kt (i + 1 + n) (fun sl => { sl with kind := .ext, slice := b.slice })) s).withEng e := fun l =>
    List.foldl_hom (fun u : State => u.withEng e) (fun _ _ => modSlot_withEng) (init := s) (l := l)
  unfold layRun
  dsimp only
  rw [hf, modSlot_withEng]

theorem searchRun_withEng {e : EngState} {kt : Bool} {n : Nat} (fuel i : Nat) :
    (s.withEng e).searchRun kt n fuel i = s.searchRun kt n fuel i := by
  induction fuel generalizing i with
  | zero => rfl
  | succ fuel ih =>
    simp only [State.searchRun, ih]
    rfl

theorem placeRun_withEng {e : EngState} {kt : Bool} {n : Nat} : (s.withEng e).placeRun kt slice n = s.placeRun kt slice n := by
  have hf : (s.withEng e).freeRun kt n = s.freeRun kt n := searchRun_withEng ..
  unfold State.placeRun
  rw [hf]
  rfl

theorem putKey_withEng {e : EngState} {kt eph : Bool} {n : Nat} : putKey kt eph slice i attr origin n mat (s.withEng e) =
    (putKey kt eph slice i attr origin n mat s).withEng e := layRun_withEng

/-- Where a key is created and what refuses it does not depend on the engines, and the engines stay as they are. -/
theorem createKey_withEng {e : EngState} : createKey cls slice attr origin mat (s.withEng e) =
    (createKey cls slice attr origin mat s).map (fun p => (p.1.withEng e, p.2)) (fun st => st) := by
  have hc : (s.withEng e).slotCount attr = s.slotCount attr := rfl
  have hr : (s.withEng e).kv.rinsed = s.kv.rinsed := rfl
  unfold createKey
  dsimp only
  rw [hc, hr, placeRun_withEng]
  cases s.kv.rinsed with
  | true => rfl
  | false =>
    cases s.placeRun (cls != 1) slice (s.slotCount attr) with
    | inr st => rfl
    | inl i => exact congrArg (fun u : State => Sum.inl (u, i)) putKey_withEng

/-- A key that is made before or after a change of the engines is the same key. -/
theorem keyMade_withEng {e : EngState} (ho : ∀ u i, outs (u.withEng e) i = outs u i)
    (h : keyMade (s.withEng e) t id slice cls attr origin mat outs) : keyMade s t id slice cls attr origin mat outs := by
  obtain ⟨hm, hj⟩ := h
  refine ⟨?_, hj⟩
  rw [createKey_withEng] at hm
  cases hc : createKey cls slice attr origin mat s with
  | inr st =>
    rw [hc] at hm
    exact hm
  | inl p =>
    obtain ⟨u, i⟩ := p
    rw [hc] at hm
    exact ⟨ho u i ▸ hm.1, hm.2⟩

/-! ## What a job that creates a key returns -/

/-- The handle alone. -/
def handleOuts (kt : Bool) (t : State) (i : Nat) : List (Nat × Bytes) := [(0, handleBytes t kt i)]

/-- The public key and the handle. -/
def pairOuts (t : State) (i : Nat) : List (Nat × Bytes) := [(0, publicKey t (t.bind true i)), (1, handleBytes t true i)]

/-- A job that decides as soon as its key is made. -/
theorem withKey_makes_plain (hj : s.job? id = some j) (hk : ∀ i s', k i s' = done j (outs s' i) s')
    (ho : ∀ i s' d f, outs (s'.modJob d f) i = outs s' i) :
    keyMade s (withKey j cls attr origin mat k s) id j.slice cls attr origin mat outs :=
  withKey_makes (fun _ s' => s') hj hk ho fun _ _ => ⟨rfl, rfl⟩

/-! ## Attribute blocks that name the key a key generation makes (R143, R309) -/

/-- The attributes of a key generation pass R309 and name the family and the set of the job. -/
def State.attrNamed (s : State) (j : Job) (fam : Nat) : Bool :=
  s.attrOk j.slice (j.input 0) && aFam (j.input 0) == fam && aAlg (j.input 0) == j.pb 0 && !aStateful (j.input 0)

/-- The model's test is the failure of the check. -/
theorem attrNamed_refused {fam : Nat} : (!s.attrOk j.slice (j.input 0) || aFam (j.input 0) != fam || aAlg (j.input 0) != j.pb 0 ||
    aStateful (j.input 0)) = !s.attrNamed j fam := by
  simp [State.attrNamed, bne, Bool.not_and]

/-- A computation that tests the failure of a check takes the first branch where the check fails, and the second where it passes. -/
theorem refusedBy {α : Type} {c ok : Bool} {x y : α} (hc : c = !ok) (h : ok = false) : (if c then x else y) = x := if_pos (by rw [hc, h]; rfl)

theorem passedBy {α : Type} {c ok : Bool} {x y : α} (hc : c = !ok) (h : ok = true) : (if c then x else y) = y := if_neg (by rw [hc, h]; decide)

/-- A computation that refuses the attributes ends with BAD_PARAMETER. -/
theorem runOp_ends_of_badAttr {op : Nat} {f : Job → State → State} (h : computes s id op j) (hf : f j s = fail j stBadParameter s) :
    ends s (runOp op f id s) id stBadParameter [] := runOp_ends_of_fail h hf (by decide)

/-- A computation that makes a key and returns what is read from the state its creation gives. -/
theorem runOp_makes {op : Nat} {f : Job → State → State} (h : computes s id op j) (hf : f j s = withKey j cls attr origin mat k s)
    (hk : ∀ i s', k i s' = done j (outs s' i) s') (ho : ∀ i s' d f, outs (s'.modJob d f) i = outs s' i) :
    keyMade s (runOp op f id s) id j.slice cls attr origin mat outs := by
  rw [runOp_computes f h, hf]
  exact withKey_makes_plain h.1 hk ho

/-! ## Lattice keys (R126, R143) -/

/-- The cache takes a new entry or evicts some: the engines alone change. -/
theorem ekcFill_withEng {job sl : Nat} {b : Bound} : ∃ e, (ekcFill job sl b s).1 = s.withEng e := by
  unfold ekcFill
  dsimp only
  split
  · exact ⟨s.eng, rfl⟩
  · split
    · exact ⟨_, rfl⟩
    · exact ⟨_, rfl⟩

theorem dpkFill_withEng {job sl d : Nat} {b : Bound} {pk : Bytes} : ∃ e, (dpkFill job sl d b pk s).1 = s.withEng e := by
  unfold dpkFill
  dsimp only
  split
  · exact ⟨_, rfl⟩
  · exact ⟨_, rfl⟩

/-- The seed that a lattice key generation stores. -/
def Job.latSeed (j : Job) : Bytes := fit (if isKem (j.pb 0) then 64 else 32) j.seed

theorem latKeygen_refuses (h : s.attrNamed j 1 = false) : latKeygen j s = fail j stBadParameter s := refusedBy attrNamed_refused h

theorem latKeygen_makes (hj : s.job? id = some j) (h : s.attrNamed j 1 = true) :
    keyMade s (latKeygen j s) id j.slice (j.pb 1) (j.input 0) 0 j.latSeed pairOuts := by
  rw [show latKeygen j s = _ from passedBy attrNamed_refused h]
  refine withKey_makes (fun i s' => (ekcFill j.id j.slice (s'.bind true i) s').1) hj (fun i s' => ?_) (fun _ _ _ _ => rfl) fun i s' => ?_
  · obtain ⟨e, he⟩ := ekcFill_withEng (s := s') (job := j.id) (sl := j.slice) (b := s'.bind true i)
    dsimp only
    rw [he]
    rfl
  · obtain ⟨e, he⟩ := ekcFill_withEng (s := s') (job := j.id) (sl := j.slice) (b := s'.bind true i)
    rw [he]
    exact ⟨rfl, rfl⟩

theorem mlKemKeygenDo_makes (h : computes s id 0x0101 j) (ha : s.attrNamed j 1 = true) :
    keyMade s (mlKemKeygenDo id s) id j.slice (j.pb 1) (j.input 0) 0 j.latSeed pairOuts := by
  rw [show mlKemKeygenDo id s = latKeygen j s from runOp_computes _ h]
  exact latKeygen_makes h.1 ha

theorem mlKemKeygenDo_refuses (h : computes s id 0x0101 j) (ha : s.attrNamed j 1 = false) :
    ends s (mlKemKeygenDo id s) id stBadParameter [] := runOp_ends_of_badAttr h (latKeygen_refuses ha)

theorem mlDsaKeygenDo_makes (h : computes s id 0x0111 j) (ha : s.attrNamed j 1 = true) :
    keyMade s (mlDsaKeygenDo id s) id j.slice (j.pb 1) (j.input 0) 0 j.latSeed pairOuts := by
  rw [show mlDsaKeygenDo id s = latKeygen j s from runOp_computes _ h]
  exact latKeygen_makes h.1 ha

theorem mlDsaKeygenDo_refuses (h : computes s id 0x0111 j) (ha : s.attrNamed j 1 = false) :
    ends s (mlDsaKeygenDo id s) id stBadParameter [] := runOp_ends_of_badAttr h (latKeygen_refuses ha)

/-- The DRBG has given a seed that key generation keeps (R126, R233). -/
def Job.seedKept (j : Job) (fam : Nat) : Bool := decide (j.seed ≠ []) && seedFits fam (j.pb 0) j.seed

theorem seed_of_seedKept {fam : Nat} (h : j.seedKept fam = true) : j.seed ≠ [] ∧ seedFits fam (j.pb 0) j.seed = true := by
  simpa [Job.seedKept] using h

theorem fnDsaKeygenDo_eq (h : computes s id 0x0121 j) (hd : j.seedKept 1 = true) : fnDsaKeygenDo id s = latKeygen j s := by
  obtain ⟨hs, hf⟩ := seed_of_seedKept hd
  exact (runOp_computes _ h).trans ((if_neg hs).trans (if_pos hf))

theorem fnDsaKeygenDo_makes (h : computes s id 0x0121 j) (ha : s.attrNamed j 1 = true) (hd : j.seedKept 1 = true) :
    keyMade s (fnDsaKeygenDo id s) id j.slice (j.pb 1) (j.input 0) 0 j.latSeed pairOuts := by
  rw [fnDsaKeygenDo_eq h hd]
  exact latKeygen_makes h.1 ha

theorem fnDsaKeygenDo_refuses (h : computes s id 0x0121 j) (ha : s.attrNamed j 1 = false) (hd : j.seedKept 1 = true) :
    ends s (fnDsaKeygenDo id s) id stBadParameter [] := by
  rw [fnDsaKeygenDo_eq h hd, latKeygen_refuses ha]
  exact decided_fail h.1 (by decide)

/-! ## Hash-based keys without state (R199) -/

theorem slhDsaKeygenDo_makes (h : computes s id 0x0201 j) (ha : s.attrNamed j 2 = true) :
    keyMade s (slhDsaKeygenDo id s) id j.slice (j.pb 1) (j.input 0) 0 (genMaterial s (j.input 0) j.seed) pairOuts :=
  runOp_makes h (passedBy attrNamed_refused ha) (fun _ _ => rfl) fun _ _ _ _ => rfl

theorem slhDsaKeygenDo_refuses (h : computes s id 0x0201 j) (ha : s.attrNamed j 2 = false) :
    ends s (slhDsaKeygenDo id s) id stBadParameter [] := runOp_ends_of_badAttr h (refusedBy attrNamed_refused ha)

/-! ## Code-based keys (R225, R233, R238) -/

/-- The handle and the digest of the public key. -/
def digestOuts (t : State) (i : Nat) : List (Nat × Bytes) := [(0, handleBytes t true i), (1, (t.bind true i).digest)]

theorem cmeKeygenDo_makes (h : computes s id 0x0301 j) (ha : s.attrNamed j 3 = true) (hd : j.seedKept 3 = true) :
    keyMade s (cmeKeygenDo id s) id j.slice (j.pb 1) (j.input 0) 0 (genMaterial s (j.input 0) j.seed) digestOuts := by
  obtain ⟨hs, hf⟩ := seed_of_seedKept hd
  rw [show cmeKeygenDo id s = _ from
    (runOp_computes _ h).trans ((passedBy attrNamed_refused ha).trans ((if_neg hs).trans (if_neg (by simp [hf]))))]
  refine withKey_makes (fun i s' => (dpkFill j.id j.slice (j.engine - 0x60) (s'.bind true i) (publicKey s' (s'.bind true i)) s').1) h.1
    (fun _ _ => rfl) (fun _ _ _ _ => rfl) fun i s' => ?_
  obtain ⟨e, he⟩ := dpkFill_withEng (s := s') (job := j.id) (sl := j.slice) (d := j.engine - 0x60) (b := s'.bind true i)
    (pk := publicKey s' (s'.bind true i))
  rw [he]
  exact ⟨rfl, rfl⟩

theorem cmeKeygenDo_refuses (h : computes s id 0x0301 j) (ha : s.attrNamed j 3 = false) :
    ends s (cmeKeygenDo id s) id stBadParameter [] := runOp_ends_of_badAttr h (refusedBy attrNamed_refused ha)

theorem hqcKeygenDo_makes (h : computes s id 0x0311 j) (ha : s.attrNamed j 3 = true) :
    keyMade s (hqcKeygenDo id s) id j.slice (j.pb 1) (j.input 0) 0 (genMaterial s (j.input 0) j.seed) pairOuts :=
  runOp_makes h (passedBy attrNamed_refused ha) (fun _ _ => rfl) fun _ _ _ _ => rfl

theorem hqcKeygenDo_refuses (h : computes s id 0x0311 j) (ha : s.attrNamed j 3 = false) :
    ends s (hqcKeygenDo id s) id stBadParameter [] := runOp_ends_of_badAttr h (refusedBy attrNamed_refused ha)

/-! ## Public-key keys and key agreement (R256, R257, R262) -/

/-- The public key over the curves that the job is bound to, and the handle. -/
def curvePairOuts (j : Job) (t : State) (i : Nat) : List (Nat × Bytes) :=
  [(0, publicKey (t.curvesOf j) (t.bind true i)), (1, handleBytes t true i)]

theorem pkKeygenDo_makes (h : computes s id 0x0401 j) (ha : (s.curvesOf j).attrNamed j 4 = true) :
    keyMade s (pkKeygenDo id s) id j.slice (j.pb 1) (j.input 0) 0 (genMaterial (s.curvesOf j) (j.input 0) j.seed) (curvePairOuts j) :=
  runOp_makes h (passedBy attrNamed_refused ha) (fun _ _ => rfl) fun _ _ _ _ => rfl

theorem pkKeygenDo_refuses (h : computes s id 0x0401 j) (ha : (s.curvesOf j).attrNamed j 4 = false) :
    ends s (pkKeygenDo id s) id stBadParameter [] := runOp_ends_of_badAttr h (refusedBy attrNamed_refused ha)

/-- The secret that a KEY_AGREE job shares with its peer, on the curves that it is bound to. -/
def Job.agreed (j : Job) (s : State) : Bytes :=
  alg .ecdh ((s.curvesOf j).curveLen (j.pb 0)) (setArgs (s.curvesOf j) (j.pb 0) ++ [j.keyB.material, j.input 0])

/-- The shared point is the neutral element, or not on the curve. -/
def Job.pointRefused (j : Job) (s : State) : Bool := (isMont (j.pb 0) && (j.agreed s).all (· == 0)) ||
  decide (Config.measure .pointStatus (setArgs (s.curvesOf j) (j.pb 0) ++ [j.input 0, j.keyB.material]) ≠ 0)

/-- Attributes of an agreed secret that is kept. -/
def Job.agreedAttr (j : Job) (s : State) : Bytes :=
  mkAttr 7 3 (aMasters j.keyB.attr) (aWorlds j.keyB.attr) (aLcs j.keyB.attr) 0 uDerive ((s.curvesOf j).curveLen (j.pb 0))

theorem keyAgreeDo_makes (h : computes s id 0x0404 j) (hk : (j.pb 1).testBit 1 = true)
    (hs : pkStatus (s.curvesOf j) (j.pb 0) (j.input 0) = 0) (hp : j.pointRefused s = false) :
    keyMade s (keyAgreeDo id s) id j.slice 2 (j.agreedAttr s) 0 (j.agreed s) (handleOuts true) := by
  refine runOp_makes h ?_ (k := fun i u => done j [(0, handleBytes u true i)] u) (fun _ _ => rfl) fun _ _ _ _ => rfl
  simp only [hs]
  exact (if_neg (ne_true_of_eq_false hp)).trans (if_pos hk)

/-! ## Keys of the vault (R322, R332) -/

/-- The attributes of a KEY_GENERATE job pass R309 and name a family of symmetric keys or secrets. -/
def State.attrSecret (s : State) (j : Job) : Bool :=
  s.attrOk j.slice (j.input 0) && (aFam (j.input 0) == 5 || aFam (j.input 0) == 6 || aFam (j.input 0) == 7)

theorem keyGenerateDo_makes (h : computes s id 0x0701 j) (ha : s.attrSecret j = true) :
    keyMade s (keyGenerateDo id s) id j.slice (j.pb 0) (j.input 0) 0 (genMaterial s (j.input 0) j.seed) (handleOuts (j.pb 0 != 1)) :=
  runOp_makes h (passedBy (Bool.not_and ..).symm ha) (fun _ _ => rfl) fun _ _ _ _ => rfl

theorem keyGenerateDo_refuses (h : computes s id 0x0701 j) (ha : s.attrSecret j = false) :
    ends s (keyGenerateDo id s) id stBadParameter [] := runOp_ends_of_badAttr h (refusedBy (Bool.not_and ..).symm ha)

theorem keyPersistDo_makes (h : computes s id 0x0705 j) : keyMade s (keyPersistDo id s) id j.slice 1 j.keyB.attr
    (s.slot j.keyB.kt j.keyB.index).origin j.keyB.material (handleOuts false) :=
  runOp_makes h rfl (fun _ _ => rfl) fun _ _ _ _ => rfl

/-! ## Keys made outside a key generation (R329, R332, R348) -/

/-- A key that is not stateful takes no record pair. -/
theorem storeKey_makes (hj : s.job? id = some j) (ha : aStateful attr = false) :
    keyMade s (storeKey j cls attr origin mat s) id j.slice cls attr origin mat (handleOuts (cls != 1)) := by
  rw [show storeKey j cls attr origin mat s = _ from (if_neg (by simp [ha])).trans (if_pos (by simp [ha]))]
  exact withKey_makes_plain hj (fun _ _ => rfl) fun _ _ _ _ => rfl

/-- The attributes pass R309 and name a family. -/
def State.attrFam (s : State) (j : Job) (fam : Nat) : Bool := s.attrOk j.slice (j.input 0) && aFam (j.input 0) == fam

theorem bdkGenerateDo_makes (h : computes s id 0x0920 j) (ha : s.attrFam j 9 = true) (hs : aStateful (j.input 0) = false) :
    keyMade s (bdkGenerateDo id s) id j.slice (j.pb 0) (j.input 0) 0 (genMaterial s (j.input 0) j.seed) (handleOuts (j.pb 0 != 1)) := by
  rw [show bdkGenerateDo id s = _ from (runOp_computes _ h).trans (passedBy (Bool.not_and ..).symm ha)]
  exact storeKey_makes h.1 hs

theorem bdkGenerateDo_refuses (h : computes s id 0x0920 j) (ha : s.attrFam j 9 = false) :
    ends s (bdkGenerateDo id s) id stBadParameter [] := runOp_ends_of_badAttr h (refusedBy (Bool.not_and ..).symm ha)

/-- The key serial number of a DUKPT_DERIVE_IK job. -/
def Job.ksn (j : Job) : Bytes := cut j.params 1 12

/-- The attributes of a DUKPT_DERIVE_IK job pass R309 and name a symmetric key of the algorithm of the base key. -/
def State.attrIk (s : State) (j : Job) : Bool := s.attrFam j 5 && aAlg (j.input 0) == j.keyB.alg

/-- The initial key that a DUKPT_DERIVE_IK job derives. -/
def Job.initialKey (j : Job) (s : State) : Bytes :=
  alg .dukpt (secretOf s j.keyB).length [secretOf s j.keyB, cut j.ksn 0 8, ascii "initial key"]

theorem attrIk_refused : (!s.attrOk j.slice (j.input 0) || aFam (j.input 0) != 5 || aAlg (j.input 0) != j.keyB.alg) = !s.attrIk j := by
  simp [State.attrIk, State.attrFam, bne, Bool.not_and]

theorem dukptDeriveIkDo_makes (h : computes s id 0x0921 j) (ha : s.attrIk j = true)
    (hu : (aUsage (j.input 0) &&& (uDerive + uExport)) = aUsage (j.input 0)) (hn : ksnOk j.ksn = true)
    (hs : aStateful (j.input 0) = false) :
    keyMade s (dukptDeriveIkDo id s) id j.slice 0 (j.input 0) 2 (j.initialKey s) (handleOuts true) := by
  rw [show dukptDeriveIkDo id s = storeKey j 0 (j.input 0) 2 (j.initialKey s) s from
    (runOp_computes _ h).trans ((passedBy attrIk_refused ha).trans ((if_neg (not_not_intro hu)).trans (passedBy rfl hn)))]
  exact storeKey_makes h.1 hs

theorem dukptDeriveIkDo_refuses (h : computes s id 0x0921 j) (ha : s.attrIk j = false) :
    ends s (dukptDeriveIkDo id s) id stBadParameter [] := runOp_ends_of_badAttr h (refusedBy attrIk_refused ha)

theorem compositeBindDo_refuses (h : computes s id 0x0A01 j) (ha : s.attrFam j 0x0A = false) :
    ends s (compositeBindDo id s) id stBadParameter [] := runOp_ends_of_badAttr h (refusedBy (Bool.not_and ..).symm ha)

theorem keyImportWrappedDo_refuses {st : Nat} (h : computes s id 0x0708 j)
    (hb : openBlob s j.slice 1 (j.keyB.material.take 32) (j.input 0) = .inr st) (hs : st ≠ 0) :
    ends s (keyImportWrappedDo id s) id st [] := runOp_ends_of_fail h (by simp only [hb]) hs

theorem keyImportWrappedDo_makes (h : computes s id 0x0708 j)
    (hb : openBlob s j.slice 1 (j.keyB.material.take 32) (j.input 0) = .inl (attr, mat)) (hs : aStateful attr = false) :
    keyMade s (keyImportWrappedDo id s) id j.slice (j.pb 0) attr 1 mat (handleOuts (j.pb 0 != 1)) := by
  rw [show keyImportWrappedDo id s = storeKey j (j.pb 0) attr 1 mat s from (runOp_computes _ h).trans (by simp only [hb])]
  exact storeKey_makes h.1 hs

/-! ## Shared secrets that are kept (R144) -/

/-- Attributes of the shared secret of an encapsulation to a supplied key, or to the key that the job names. -/
def Job.secretAttr (j : Job) (src : Bool) (n : Nat) : Bytes :=
  koutAttr (if src then none else some j.keyB.attr) (if src then (j.pb 1).testBit 2 else aOrder2 j.keyB.attr) n 0

/-- The ciphertext and the handle. -/
def cipherOuts (ct : Bytes) (t : State) (i : Nat) : List (Nat × Bytes) := [(0, ct), (1, handleBytes t true i)]

theorem kemOut_makes {src : Bool} {n : Nat} {ct ss : Bytes} (hj : s.job? id = some j) (hk : (j.pb 1).testBit 1 = true) :
    keyMade s (kemOut j src n ct ss s) id j.slice 2 (j.secretAttr src n) 0 ss (cipherOuts ct) := by
  rw [show kemOut j src n ct ss s = _ from if_pos hk]
  exact withKey_makes_plain hj (fun _ _ => rfl) fun _ _ _ _ => rfl

theorem decapsOut_makes {n : Nat} {ss : Bytes} (hj : s.job? id = some j) (hk : (j.pb 1).testBit 1 = true) :
    keyMade s (decapsOut j n ss s) id j.slice 2 (j.secretAttr false n) 0 ss (handleOuts true) := by
  rw [show decapsOut j n ss s = _ from if_pos hk]
  exact withKey_makes_plain hj (fun _ _ => rfl) fun _ _ _ _ => rfl

theorem mlKemEncapsDo_makes (h : computes s id 0x0102 j) (hk : (j.pb 1).testBit 1 = true) (hr : j.ekRefused s = false) :
    keyMade s (mlKemEncapsDo id s) id j.slice 2 (j.secretAttr ((j.pb 1).testBit 0) 1) 0 (alg .mlKemSs 32 (j.kemArgs s))
      (cipherOuts (alg .mlKemCt (latSizes (j.pb 0)).2.1 (j.kemArgs s))) := by
  rw [mlKemEncapsDo_eq h, if_neg (by simp [hr])]
  exact kemOut_makes h.1 hk

theorem mlKemDecapsDo_makes (h : computes s id 0x0103 j) (hk : (j.pb 1).testBit 1 = true) :
    keyMade s (mlKemDecapsDo id s) id j.slice 2 (j.secretAttr false 1) 0
      (alg .mlKemDecaps 32 [num (j.pb 0), j.keyB.material, j.input 0]) (handleOuts true) := by
  rw [mlKemDecapsDo_eq h]
  exact decapsOut_makes h.1 hk

/-- The key is made as it would be before the streamed public key went into its cache entry. -/
theorem cmeEncapsDo_makes (h : computes s id 0x0302 j) (hk : (j.pb 1).testBit 1 = true) (hr : j.cbPkRefused s = false)
    (hd : j.streamDiffers s = false) :
    keyMade s (cmeEncapsDo id s) id j.slice 2 (j.secretAttr ((j.pb 1).testBit 0) 1) 0 (j.cmeSs s) (cipherOuts (j.cmeCt s)) := by
  rw [cmeEncapsDo_eq h, if_neg (by simp [hr]), if_neg (by simp [hd])]
  exact keyMade_withEng (e := (keepStreamed j s).eng) (fun _ _ => rfl) (kemOut_makes (s := keepStreamed j s) h.1 hk)

theorem cmeDecapsDo_makes (h : computes s id 0x0303 j) (hk : (j.pb 1).testBit 1 = true) :
    keyMade s (cmeDecapsDo id s) id j.slice 2 (j.secretAttr false 1) 0
      (alg .cmeDecaps 32 [num (j.pb 0), j.keyB.material, j.input 0]) (handleOuts true) := by
  rw [cmeDecapsDo_eq h]
  exact decapsOut_makes h.1 hk

theorem hqcEncapsDo_makes (h : computes s id 0x0312 j) (hk : (j.pb 1).testBit 1 = true) (hr : j.cbPkRefused s = false) :
    keyMade s (hqcEncapsDo id s) id j.slice 2 (j.secretAttr ((j.pb 1).testBit 0) 2) 0 (j.hqcSs s) (cipherOuts (j.hqcCt s)) := by
  rw [hqcEncapsDo_eq h, if_neg (by simp [hr])]
  exact kemOut_makes h.1 hk

theorem hqcDecapsDo_makes (h : computes s id 0x0313 j) (hk : (j.pb 1).testBit 1 = true) :
    keyMade s (hqcDecapsDo id s) id j.slice 2 (j.secretAttr false 2) 0
      (alg .hqcDecaps 64 [num (j.pb 0), j.keyB.material, j.input 0]) (handleOuts true) := by
  rw [hqcDecapsDo_eq h]
  exact decapsOut_makes h.1 hk

/-! ## Derived keys (R332) -/

/-- The length of the first part of a derivation input. -/
def Job.deriveLen (j : Job) : Nat := fieldLE (j.input 1) 0 2

/-- What a KEY_DERIVE job derives, by KMAC256 or by HKDF. -/
def Job.derived (j : Job) (s : State) : Bytes :=
  let k := secretOf s j.keyB
  let c := j.input 1
  let p := j.deriveLen
  let hash := if j.pb 1 = 2 then 32 else 48
  if j.pb 1 = 1 then kmac256 k (c.drop (2 + p)) (s.secretLen (j.input 0)) (cut c 2 p)
  else alg .hkdf (s.secretLen (j.input 0)) [num hash, if p = 0 then zeros hash else cut c 2 p, k, c.drop (2 + p)]

/-- The material of a derived key. -/
def Job.derivedMaterial (j : Job) (s : State) : Bytes :=
  let a := j.input 0
  if aFam a = 2 then genMaterial s a (j.derived s ++ Config.freeBytes s.freeCtr 32)
  else if aFam a = 3 ∨ (isRsa (aAlg a) && aFam a == 4) = true then genMaterial s a (j.derived s) else j.derived s

theorem keyDeriveDo_makes (h : computes s id 0x0709 j) (ha : s.attrOk j.slice (j.input 0) = true) (hp : j.deriveLen ≤ 256)
    (hl : j.deriveLen + 2 ≤ (j.input 1).length) (hs : aStateful (j.input 0) = false)
    (hf : seedFits (aFam (j.input 0)) (aAlg (j.input 0)) (j.derived s) = true) :
    keyMade (fresh s) (keyDeriveDo id s) id j.slice (j.pb 0) (j.input 0) 2 (j.derivedMaterial s) (handleOuts (j.pb 0 != 1)) := by
  rw [show keyDeriveDo id s = storeKey j (j.pb 0) (j.input 0) 2 (j.derivedMaterial s) (fresh s) from (runOp_computes _ h).trans
    ((passedBy rfl ha).trans ((if_neg (not_or.mpr ⟨Nat.not_lt.mpr hp, Nat.not_lt.mpr hl⟩)).trans (passedBy rfl hf)))]
  exact storeKey_makes (s := fresh s) h.1 hs

theorem keyDeriveDo_refuses (h : computes s id 0x0709 j) (ha : s.attrOk j.slice (j.input 0) = false) :
    ends s (keyDeriveDo id s) id stBadParameter [] := runOp_ends_of_badAttr h (refusedBy rfl ha)

/-! ## Stateful keys (R204, R209) -/

/-- The attributes of an HBS_KEYGEN job pass R309 and name the set, the height, W and the levels of its parameter block. -/
def State.attrHbs (s : State) (j : Job) : Bool :=
  s.attrOk j.slice (j.input 0) && aFam (j.input 0) == 2 && aAlg (j.input 0) == j.pb 0 && aStateful (j.input 0) &&
    hbsHeight (j.input 0) == j.pb 2 && hbsW (j.input 0) == j.pb 3 && hbsLevels (j.input 0) == j.pb 4

theorem attrHbs_refused : (!s.attrOk j.slice (j.input 0) || aFam (j.input 0) != 2 || aAlg (j.input 0) != j.pb 0 || !aStateful (j.input 0) ||
    hbsHeight (j.input 0) != j.pb 2 || hbsW (j.input 0) != j.pb 3 || hbsLevels (j.input 0) != j.pb 4) = !s.attrHbs j := by
  simp [State.attrHbs, bne, Bool.not_and]

theorem hbsKeygenDo_refuses (h : computes s id 0x0211 j) (ha : s.attrHbs j = false) :
    ends s (hbsKeygenDo id s) id stBadParameter [] := runOp_ends_of_badAttr h (refusedBy attrHbs_refused ha)

theorem hbsKeygenDo_noPair (h : computes s id 0x0211 j) (ha : s.attrHbs j = true) (hp : s.freePair = none) :
    ends s (hbsKeygenDo id s) id stPersistentStoreFull [] :=
  runOp_ends_of_fail h ((passedBy attrHbs_refused ha).trans (by simp only [hp])) (by decide)

theorem hbsKeygenDo_noRoom {n st : Nat} (h : computes s id 0x0211 j) (ha : s.attrHbs j = true) (hp : s.freePair = some n)
    (hc : createKey 1 j.slice (j.input 0) 0 (genMaterial s (j.input 0) j.seed) s = .inr st) : ends s (hbsKeygenDo id s) id st [] :=
  runOp_ends_of_fail h ((passedBy attrHbs_refused ha).trans (by simp only [hp, withKey, hc])) (createKey_refuses hc)

/-- The state in which the key of an HBS_KEYGEN job has its record pair. -/
def pairGiven (j : Job) (n i : Nat) (s' : State) : State :=
  let u := s'.modJob j.id (fun j => { j with made := some (false, i) })
  (takePair n { keyId := u.keyId i, good := true } u).modHbs i (fun _ => { pair := n })

theorem pairGiven_job {n : Nat} (hj : t.job? id = some j) :
    (pairGiven j n i t).job? id = some { j with made := some (false, i) } := by
  obtain rfl := job_id hj
  refine (job_congr (s := pairGiven j n i t) (t := t.modJob j.id (fun j => { j with made := some (false, i) })) rfl j.id).trans ?_
  rw [job_modJob _ _ _ _ (by simp), if_pos rfl, hj]
  rfl

/-- A free record pair is taken, and the key of the new tree names it. -/
theorem hbsKeygenDo_makes {n : Nat} (h : computes s id 0x0211 j) (ha : s.attrHbs j = true) (hp : s.freePair = some n)
    (hc : createKey 1 j.slice (j.input 0) 0 (genMaterial s (j.input 0) j.seed) s = .inl (t, i)) :
    decidedAs (hbsKeygenDo id s) id 0 (handleOuts false t i) ∧ (hbsKeygenDo id s).hbs i = { pair := n } ∧
      ((hbsKeygenDo id s).pair n).used = true := by
  have he : hbsKeygenDo id s = done { j with made := some (false, i) } (handleOuts false t i) (pairGiven j n i t) :=
    (runOp_computes _ h).trans ((passedBy attrHbs_refused ha).trans (by
      simp only [hp, withKey, hc]
      rfl))
  rw [he]
  have hd := decided_ok (outs := handleOuts false t i) (pairGiven_job (n := n) (i := i) ((job_congr (createKey_jobs hc) id).trans h.1))
  have hkv := onlyJob_kv hd.2
  have hh : (pairGiven j n i t).hbs i = { pair := n } := hbs_modHbs
  have hu : (pairGiven j n i t).pair n = _ := pair_takePair
  refine ⟨hd.1, ?_, ?_⟩
  · rw [State.hbs, hkv]
    exact hh
  · rw [State.pair, hkv]
    exact congrArg Pair.used hu

end Sys2Proof.Machine
end

section
/-! SUPPORT. The statement on the creation of keys. -/
namespace Sys2Proof.Machine

theorem forall_octuple_of_forall_mem {α β γ δ ε ζ η θ : Type} {l : List (α × β × γ × δ × ε × ζ × η × θ)}
    {P : α → β → γ → δ → ε → ζ → η → θ → Prop}
    (h : ∀ p ∈ l, P p.1 p.2.1 p.2.2.1 p.2.2.2.1 p.2.2.2.2.1 p.2.2.2.2.2.1 p.2.2.2.2.2.2.1 p.2.2.2.2.2.2.2)
    (a : α) (b : β) (c : γ) (d : δ) (e : ε) (f : ζ) (g : η) (i : θ) (hm : (a, b, c, d, e, f, g, i) ∈ l) : P a b c d e f g i :=
  h (a, b, c, d, e, f, g, i) hm

/-- Settles O23: each row is a law of its opcode under the row's condition; KEY_DERIVE, KEY_IMPORT_WRAPPED and HBS_KEYGEN stand for
themselves. -/
theorem keyCreationStoresTheKey : Obligations.KeyCreationStoresTheKey := by
  unfold Obligations.KeyCreationStoresTheKey
  intro s id j a set f src x key kb hOut pkOut hOf attrGood named latSeed kept keptBack ek m cpk sizes v namedV pkOutV drawn cv z off ksn k info p
    hash derived
  have hgood : (attrGood && (aFam a == 5 || aFam a == 6 || aFam a == 7)) = s.attrSecret j := rfl
  have hbdk : (attrGood && aFam a == 9) = s.attrFam j 9 := rfl
  have hik : (attrGood && aFam a == 5 && aAlg a == j.keyB.alg) = s.attrIk j := rfl
  refine ⟨forall_octuple_of_forall_mem ?makes, forall_triple_of_forall_mem ?refuses, fun hc => ⟨_, rfl, fun hd => ?derive⟩,
    fun hc => ⟨_, rfl, ?wrapped⟩, fun hc => ⟨_, rfl, fun ha => ?hbs⟩⟩
  case makes =>
    simp only [List.forall_mem_cons, hgood, hbdk, hik, Bool.and_eq_true, Bool.not_eq_true', beq_iff_eq]
    exact ⟨fun hc => ⟨_, rfl, mlKemKeygenDo_makes hc⟩,
      fun hc => ⟨_, rfl, mlDsaKeygenDo_makes hc⟩,
      fun hc => ⟨_, rfl, fun ⟨ha, hd⟩ => fnDsaKeygenDo_makes hc ha hd⟩,
      fun hc => ⟨_, rfl, slhDsaKeygenDo_makes hc⟩,
      fun hc => ⟨_, rfl, fun ⟨ha, hd⟩ => cmeKeygenDo_makes hc ha hd⟩,
      fun hc => ⟨_, rfl, hqcKeygenDo_makes hc⟩,
      fun hc => ⟨_, rfl, pkKeygenDo_makes hc⟩,
      fun hc => ⟨_, rfl, keyGenerateDo_makes hc⟩,
      fun hc => ⟨_, rfl, fun _ => keyPersistDo_makes hc⟩,
      fun hc => ⟨_, rfl, fun ⟨ha, hs⟩ => bdkGenerateDo_makes hc ha hs⟩,
      fun hc => ⟨_, rfl, fun ⟨⟨⟨ha, hu⟩, hn⟩, hs⟩ => dukptDeriveIkDo_makes hc ha hu hn hs⟩,
      fun hc => ⟨_, rfl, fun ⟨hk, hr⟩ => mlKemEncapsDo_makes hc hk hr⟩,
      fun hc => ⟨_, rfl, mlKemDecapsDo_makes hc⟩,
      fun hc => ⟨_, rfl, fun ⟨⟨hk, hr⟩, hd⟩ => cmeEncapsDo_makes hc hk hr hd⟩,
      fun hc => ⟨_, rfl, cmeDecapsDo_makes hc⟩,
      fun hc => ⟨_, rfl, fun ⟨hk, hr⟩ => hqcEncapsDo_makes hc hk hr⟩,
      fun hc => ⟨_, rfl, hqcDecapsDo_makes hc⟩,
      fun hc => ⟨_, rfl, fun ⟨⟨hk, hs⟩, hp⟩ => keyAgreeDo_makes hc hk hs hp⟩,
      List.forall_mem_nil _⟩
  case refuses =>
    simp only [List.forall_mem_cons, Bool.or_eq_false_iff, Bool.not_eq_false']
    exact ⟨fun hc => ⟨_, rfl, mlKemKeygenDo_refuses hc⟩,
      fun hc => ⟨_, rfl, mlDsaKeygenDo_refuses hc⟩,
      fun hc => ⟨_, rfl, fun ⟨ha, hd⟩ => fnDsaKeygenDo_refuses hc ha hd⟩,
      fun hc => ⟨_, rfl, slhDsaKeygenDo_refuses hc⟩,
      fun hc => ⟨_, rfl, cmeKeygenDo_refuses hc⟩,
      fun hc => ⟨_, rfl, hqcKeygenDo_refuses hc⟩,
      fun hc => ⟨_, rfl, pkKeygenDo_refuses hc⟩,
      fun hc => ⟨_, rfl, keyGenerateDo_refuses hc⟩,
      fun hc => ⟨_, rfl, keyDeriveDo_refuses hc⟩,
      fun hc => ⟨_, rfl, bdkGenerateDo_refuses hc⟩,
      fun hc => ⟨_, rfl, dukptDeriveIkDo_refuses hc⟩,
      fun hc => ⟨_, rfl, compositeBindDo_refuses hc⟩,
      fun hc => ⟨_, rfl, hbsKeygenDo_refuses hc⟩,
      List.forall_mem_nil _⟩
  case derive =>
    simp only [Bool.and_eq_true, decide_eq_true_eq, Bool.not_eq_true'] at hd
    obtain ⟨⟨⟨⟨hg, hp⟩, hl⟩, hs⟩, hf⟩ := hd
    exact keyDeriveDo_makes hc hg hp hl hs hf
  case wrapped =>
    split
    · next st hb => exact keyImportWrappedDo_refuses hc hb
    · next b mat hb => exact keyImportWrappedDo_makes hc hb
  case hbs =>
    cases hp : s.freePair with
    | none => exact (hbsKeygenDo_noPair hc ha hp).1
    | some n =>
      cases hk : createKey 1 j.slice a 0 (genMaterial s a j.seed) s with
      | inr st => exact (hbsKeygenDo_noRoom hc ha hp hk).1
      | inl q =>
        obtain ⟨t, i⟩ := q
        exact hbsKeygenDo_makes hc ha hp hk

end Sys2Proof.Machine
end

section
/-! SUPPORT. Requests of the service link: what a session answers (R496, R499), and each request's permission and effect. -/
namespace Sys2Proof.Machine

variable {s : State} {q : BitVec 16}

/-! ## A request of a session -/

theorem rslRequest_unserved {p : State → Bool} {f : State → State} (h : s.svc.stage ≠ .isOpen ∨ s.thimbleUp = false) :
    rslRequest q p f s = s :=
  if_pos (h.imp_right (by simp [·]))

theorem rslRequest_repeated {p : State → Bool} {f : State → State} (ho : s.svc.stage = .isOpen) (hu : s.thimbleUp = true)
    (hq : s.svc.lastSeq = some q.toNat) :
    rslRequest q p f s = sendAll 0x11 q.toNat (s.svc.lastReply.length / 4096 + 1) s.svc.lastReply s := by
  simp [rslRequest, ho, hu, hq]

theorem rslRequest_new {p : State → Bool} {f : State → State} (ho : s.svc.stage = .isOpen) (hu : s.thimbleUp = true)
    (hq : s.svc.lastSeq ≠ some q.toNat) :
    rslRequest q p f s = if p s = true then f s else rslAnswer q stKeyPolicyDenied [] s := by
  simp [rslRequest, ho, hu, hq]

/-- A command that is a request with permission `ok` and effect `t` is executed once, refused or answered again. -/
theorem answeredOnce_of_rslRequest {c : Instr} {p : State → Bool} {f : State → State} {ok : Bool} {t : State}
    (hc : exec c s = .next (rslRequest q p f s)) (hp : p s = ok) (hf : s.thimbleUp = true → f s = t) :
    (s.svc.stage ≠ .isOpen ∨ s.thimbleUp = false → exec c s = .next s) ∧
    (s.svc.stage = .isOpen → s.thimbleUp = true → s.svc.lastSeq = some q.toNat →
      exec c s = .next (sendAll 0x11 q.toNat (s.svc.lastReply.length / 4096 + 1) s.svc.lastReply s)) ∧
    (s.svc.stage = .isOpen → s.thimbleUp = true → s.svc.lastSeq ≠ some q.toNat →
      exec c s = .next (if ok = true then t else rslAnswer q stKeyPolicyDenied [] s)) := by
  refine ⟨fun h => ?_, fun ho hu hq => ?_, fun ho hu hq => ?_⟩
  · rw [hc, rslRequest_unserved h]
  · rw [hc, rslRequest_repeated ho hu hq]
  · rw [hc, rslRequest_new ho hu hq, hp, hf hu]

/-! ## Life-cycle states that serve requests (R457, R499) -/

theorem rslOpen_true : s.rslOpen true = (s.lcs.state != .scrapped) := by
  unfold State.rslOpen
  cases s.lcs.state <;> rfl

theorem rslOpen_false : s.rslOpen false = (s.lcs.state != .locked && s.lcs.state != .scrapped) := by
  unfold State.rslOpen
  cases s.lcs.state <;> rfl

theorem serviceLife_eq_rslOpen : s.serviceLife = s.rslOpen false := by
  unfold State.serviceLife State.rslOpen
  cases s.lcs.state <;> rfl

/-! ## Effects that depend on the state -/

/-- What R503 asks, with the life cycle, the enable and the bank first. -/
theorem mayActivate_eq : s.mayActivate = (s.rslOpen false && s.svc.actEn && s.inactive.st == .staged &&
    (s.svc.activating.isNone && s.lcs.burning.isNone && s.mig.contexts.isEmpty && s.crd.run.isNone && !s.vent.halt)) := by
  rw [State.mayActivate, serviceLife_eq_rslOpen]
  ac_rfl

@[simp] theorem modInactive_thm {f : Bank → Bank} : (s.modInactive f).thm = s.thm := by
  unfold State.modInactive
  split <;> rfl

/-- A pattern read-out of a busy Mangle waits; that of an idle one is answered (R170). -/
theorem servePatRead_asked {k : Nat} (hu : s.thimbleUp = true) :
    servePatRead { s with svc.patRead := some (q, k) } =
      if s.mangleBusy k = true then { s with svc.patRead := some (q, k) }
      else rslAnswer q stSuccess (patternBytes k s) { s with svc.patRead := none } := by
  refine ite_congr (propext ⟨fun h => h.resolve_right ?_, .inl⟩) (fun _ => rfl) fun _ => rfl
  simpa [State.thimbleUp] using hu

/-- A new metrology key leaves the break count. -/
theorem newMetKey_breaks : (newMetKey s).breaks = s.breaks := rfl

/-- The checks of an image decide between the staged bank with record 0x0101 and record 0x0102 (R502). -/
theorem exec_imageEnd : exec (.imageEnd q) s = .next (rslRequest q (fun t => t.serviceLife && t.inactive.st == .invalid)
    (fun t => if imageStatus t.svc.svnFloor t.inactive.image = 0 then
        rslAnswer q stSuccess [] (logRecord 0x0101 (leBytes 4 (stagedBank t.inactive.image).version.toNat)
          (t.modInactive (fun _ => stagedBank t.inactive.image)))
      else rslAnswer q (imageStatus t.svc.svnFloor t.inactive.image) []
        (logRecord 0x0102 (leBytes 2 (imageStatus t.svc.svnFloor t.inactive.image)) t)) s) := by
  refine congrArg (fun f => Host.Outcome.next (rslRequest q _ f s)) (funext fun t => ?_)
  dsimp only
  cases imageStatus t.svc.svnFloor t.inactive.image <;> rfl

/-- A trace request of a Needle is a request of the session, for the Needle as the request finds it (R467). -/
theorem exec_needleTrace {k : BitVec 5} : exec (.needleTrace q k) s = .next (rslRequest q
    (fun t => t.rslOpen false && t.right 2 && (s.needle k.toNat).running)
    (fun t => rslAnswer q stSuccess
      (leBytes 8 (s.needle k.toNat).pc.toNat ++ leBytes 4 (Config.needleCode (s.needle k.toNat).image.toNat (s.needle k.toNat).pc.toNat).toNat)
      (t.modNeedle k.toNat (fun n => { n with halted := true }))) s) := rfl

/-- Settles O48: each command is a request of the session; its row follows from its permission and its effect. -/
theorem serviceLinkRequestsAreAnsweredOnce : Obligations.ServiceLinkRequestsAreAnsweredOnce := by
  unfold Obligations.ServiceLinkRequestsAreAnsweredOnce
  intro s seq data cert first count target mangle needle image sends answer life served bank im idle activated kind checked busy may others n up
    broken keyed region swId sum patterns
  have hopen : s.rslOpen false = served := rslOpen_false
  have hlife : s.serviceLife = served := serviceLife_eq_rslOpen.trans hopen
  have hmay : (stateOf target).elim false (s.mayMove false) = may := by
    unfold State.mayMove
    simp only [may, life]
    cases s.lcs.state <;> cases stateOf target with
    | none => rfl
    | some d => cases d <;> rfl
  refine forall_triple_of_forall_mem ?_
  simp only [List.forall_mem_cons]
  refine ⟨answeredOnce_of_rslRequest rfl hlife fun _ => rfl,
    answeredOnce_of_rslRequest rfl (by rw [hlife]) fun _ => rfl,
    answeredOnce_of_rslRequest exec_imageEnd (by rw [hlife]) fun _ => rfl,
    answeredOnce_of_rslRequest rfl (by rw [mayActivate_eq, hopen]) fun _ => ?activate,
    answeredOnce_of_rslRequest rfl hopen fun _ => rfl,
    answeredOnce_of_rslRequest rfl (by rw [hopen, State.quorumInForce]) fun _ => rfl,
    answeredOnce_of_rslRequest rfl (by rw [hopen]) servePatRead_asked,
    answeredOnce_of_rslRequest rfl rslOpen_true fun _ => ?nonce,
    answeredOnce_of_rslRequest rfl (by rw [rslOpen_true]; rfl) fun _ => rfl,
    answeredOnce_of_rslRequest rfl hopen fun _ => rfl,
    answeredOnce_of_rslRequest rfl hopen fun _ => ?transition,
    answeredOnce_of_rslRequest rfl (by rw [hopen]; exact (congrArg _ (Bool.or_true _)).trans (Bool.and_true _)) fun _ => rfl,
    answeredOnce_of_rslRequest rfl (by rw [hopen]; exact congrArg _ (Bool.or_false _)) fun _ => rfl,
    answeredOnce_of_rslRequest rfl (by rw [hopen]; exact congrArg _ (Bool.or_false _)) fun _ => rfl,
    answeredOnce_of_rslRequest exec_needleTrace (by rw [hopen]) fun _ => rfl,
    answeredOnce_of_rslRequest rfl (by rw [hopen, State.quorumInForce]) fun _ => rfl,
    answeredOnce_of_rslRequest rfl (by rw [hopen]) fun _ => rfl,
    answeredOnce_of_rslRequest rfl (by rw [hopen]) fun _ => ?reseal,
    List.forall_mem_nil _⟩
  case activate =>
    have hrun : activated.thm.run = s.thm.run := congrArg ThimbleState.run modInactive_thm
    exact hrun ▸ rfl
  case nonce => cases s.rng.state <;> rfl
  case transition =>
    rw [← hmay]
    rfl
  case reseal =>
    have hbreaks : keyed.breaks = s.breaks := by
      simp only [keyed]
      split
      · exact newMetKey_breaks
      · rfl
    rw [← hbreaks]
    exact ite_congr (by rw [Bool.not_eq_true']; rfl) (fun _ => rfl) fun _ => rfl

end Sys2Proof.Machine
end

section
/-! SUPPORT. How the hash-based signature opcodes end their jobs (R205, R206, R210, R215 to R219). -/
namespace Sys2Proof.Machine

variable {s t : State} {id op i : Nat} {j : Job} {f : Job → State → State}

/-! ## Jobs of stateful keys (R210) -/

/-- The job's key is a stateful key of which no record can be kept. -/
def Job.noRecord (j : Job) (s : State) : Bool := aStateful j.keyB.attr && (s.hbs j.keyB.index).noPair

theorem runOp_ends_of_noRecord (h : computes s id op j) (hn : j.noRecord s = true) :
    ends s (runOp op (fun j => withRecord j (f j)) id s) id stEngineFault [] :=
  runOp_ends_of_fail h (if_pos hn) (by decide)

/-- Where a record can be kept, the computation is the opcode's own. -/
theorem withRecord_kept {k : State → State} (hn : j.noRecord s = false) : withRecord j k s = k s :=
  if_neg (ne_true_of_eq_false hn)

/-- The end of a computation leaves the index state of every stateful key. -/
theorem hbs_of_onlyJob (h : onlyJob s t id) : t.hbs i = s.hbs i := by
  simp only [State.hbs, onlyJob_kv h]

/-! ## SLH-DSA (R216, R218) -/

/-- The opt_rand of a signature: PK.seed in the deterministic variant, drawn otherwise. -/
def Job.optRand (j : Job) : Bytes :=
  if (j.pb 1).testBit 2 then cut j.keyB.material 64 (slhSizes (j.pb 0)).1 else fit (slhSizes (j.pb 0)).1 j.seed

theorem slhDsaSignDo_ends (h : computes s id 0x0202 j) : ends s (slhDsaSignDo id s) id 0
    [(0, alg .slhSign (slhSizes (j.pb 0)).2.2.1 (num (j.pb 0) :: j.keyB.material :: j.optRand :: sigMessage j))] :=
  runOp_ends_of_done h rfl

theorem slhDsaVerifyDo_ends (h : computes s id 0x0203 j) : ends s (slhDsaVerifyDo id s) id
    (if (j.input 2).length = (slhSizes (j.pb 0)).2.2.1 ∧
        Config.check .slhVerify (num (j.pb 0) :: j.verifyKey s :: j.input 2 :: sigMessage j) = true then 0 else stSignatureInvalid) [] := by
  refine runOp_ends_of_verdict h rfl ?_
  rw [Bool.and_eq_true, beq_iff_eq]
  rfl

/-! ## HBS_VERIFY, HBS_STATE and HBS_PUBLIC_KEY (R215, R218, R219) -/

/-- The public key that a signature is verified with. -/
def Job.hbsPk (j : Job) (s : State) : Bytes := if (j.pb 1).testBit 0 then j.input 1 else publicKey s j.keyB

/-- A supplied public key does not begin with the type codes that the job names. -/
def Job.badHead (j : Job) (s : State) : Bool :=
  let head := hbsPkHead (j.pb 0) (j.pb 2) (j.pb 3) (j.pb 4)
  (j.pb 1).testBit 0 && (j.hbsPk s).take head.length != head

theorem hbsVerifyDo_refuses (h : computes s id 0x0214 j) (hn : j.noRecord s = false) (hb : j.badHead s = true) :
    ends s (hbsVerifyDo id s) id stInputKeyInvalid [] :=
  runOp_ends_of_fail h ((withRecord_kept hn).trans (if_pos hb)) (by decide)

theorem hbsVerifyDo_ends (h : computes s id 0x0214 j) (hn : j.noRecord s = false) (hb : j.badHead s = false) :
    ends s (hbsVerifyDo id s) id
      (if (j.input 2).length = hbsSigLen (j.pb 0) (j.pb 2) (j.pb 3) (j.pb 4) ∧ Config.check .hbsVerify
          ([num (j.pb 0), num (j.pb 2), num (j.pb 3), num (j.pb 4)] ++ [j.hbsPk s, j.input 2, j.input 0]) = true
        then 0 else stSignatureInvalid) [] := by
  refine runOp_ends_of_verdict h ((withRecord_kept hn).trans (if_neg (ne_true_of_eq_false hb))) ?_
  rw [Bool.and_eq_true, beq_iff_eq]
  rfl

/-- The tree that HBS_STATE says is being built: the level-1 tree until its root is there, then the next level-0 tree. -/
def Hbs.underBuild (k : Hbs) (a : Bytes) : HbsTree :=
  let next := (k.tree? 0 (k.building a)).getD { level := 0, tree := 0 }
  if hbsLevels a = 2 ∧ (k.root? 1 0).isNone then (k.tree? 1 0).getD next else next

/-- The status bits of HBS_STATE. -/
def Hbs.stateBits (k : Hbs) (a : Bytes) : Nat :=
  flag (k.next < k.limit a && !k.spent && !k.noPair) +
    2 * flag ((k.installedTrees (hbsLevels a)).any (fun t => decide (k.current a < t))) + 4 * flag (!k.abandoned.isEmpty)

theorem hbsStateDo_ends (h : computes s id 0x0215 j) (hn : j.noRecord s = false) :
    let a := j.keyB.attr
    let k := (s.hbs j.keyB.index).settle a
    ends s (hbsStateDo id s) id 0 [(0, leBytes 8 k.next ++ leBytes 8 k.high ++ leBytes 8 (2 ^ (hbsLevels a * hbsHeight a)) ++
      leBytes 4 (k.current a) ++ leBytes 1 (k.stateBits a) ++ leBytes 3 (k.underBuild a).segs.length)] :=
  runOp_ends_of_done h (withRecord_kept hn)

theorem hbsPublicKeyDo_ends (h : computes s id 0x02F0 j) (hn : j.noRecord s = false) :
    ends s (hbsPublicKeyDo id s) id 0 [(0, publicKey s j.keyB)] := runOp_ends_of_done h (withRecord_kept hn)

/-! ## HBS_SIGN (R217) -/

/-- The path that a signing job has read hashes to the root held of the tree of index `q`. -/
def Job.pathHolds (j : Job) (s : State) (q : Nat) (path : List Bytes) : Bool :=
  let h := hbsHeight j.keyB.attr
  Config.check .hbsPath ([j.keyB.attr, num (q % 2 ^ h)] ++ path ++ [((s.hbs j.keyB.index).root? 0 (q / 2 ^ h)).getD []])

/-- The signature of a signing job with index `q`; with two levels the stored signature of the tree's root is part of it. -/
def Job.hbsSignature (j : Job) (s : State) (q : Nat) (path : List Bytes) : Bytes :=
  let b := j.keyB
  let h := hbsHeight b.attr
  let up := if hbsLevels b.attr = 2 then (((s.hbs b.index).upSigs.find? (fun u => u.1 == q / 2 ^ h)).map (·.2)).getD [] else []
  alg .hbsSign (hbsSigLen b.alg h (hbsW b.attr) (hbsLevels b.attr))
    ([num b.alg, b.material, b.attr, num 0, num q, j.input 0, j.seed, up] ++ path)

theorem hbsSignDo_eq {q : Nat} {path : List Bytes} (h : computes s id 0x0213 j) (hn : j.noRecord s = false) (hq : j.index = some q)
    (hp : s.pathRead j (hbsHeight j.keyB.attr) = some path) :
    hbsSignDo id s = if !j.pathHolds s q path then fail j stInputMalformed s else done j [(0, j.hbsSignature s q path)] s := by
  rw [hbsSignDo, runOp_computes _ h, withRecord_kept hn, hq]
  dsimp only
  rw [hp]
  rfl

theorem hbsSignDo_ends {q : Nat} {path : List Bytes} (h : computes s id 0x0213 j) (hn : j.noRecord s = false) (hq : j.index = some q)
    (hp : s.pathRead j (hbsHeight j.keyB.attr) = some path) : ends s (hbsSignDo id s) id
      (if j.pathHolds s q path then 0 else stInputMalformed) (if j.pathHolds s q path then [(0, j.hbsSignature s q path)] else []) := by
  rw [hbsSignDo_eq h hn hq hp]
  cases j.pathHolds s q path
  · exact decided_fail h.1 (by decide)
  · exact decided_ok h.1

/-! ## HBS_TREE_BUILD (R205, R206) -/

/-- The segment and the tree that a build names. -/
def Job.segment (j : Job) : Nat := fieldLE j.params 2 2
def Job.treeNo (j : Job) : Nat := fieldLE j.params 4 4

/-- The tree has one segment only. -/
def Job.oneSegment (j : Job) : Bool := decide (hbsHeight j.keyB.attr ≤ 14)

/-- The build computes the top part of its tree. -/
def Job.buildsTop (j : Job) : Bool := j.oneSegment || j.segment == 0xFFFF

/-- The segment whose root the build stores. -/
def Job.storedSegment (j : Job) : Option Nat := if j.segment = 0xFFFF then (if j.oneSegment then some 0 else none) else some j.segment

/-- The nodes of a build, which begin with its root. -/
def Job.builtNodes (j : Job) : Bytes := buildNodes j.keyB (j.pb 0) j.treeNo j.segment
def Job.builtRoot (j : Job) : Bytes := j.builtNodes.take (hbsN j.keyB.alg)

/-- The build names no part of a tree, stands out of the order of R206, or is a top part without all its segments. -/
def Job.buildRefused (j : Job) (s : State) : Bool :=
  let a := j.keyB.attr
  let k := s.hbs j.keyB.index
  decide (hbsLevels a ≤ j.pb 0) || !(j.segment == 0xFFFF || decide (j.segment < hbsSegs (hbsHeight a))) || !k.mayBuild a (j.pb 0) j.treeNo ||
    (j.segment == 0xFFFF && !j.oneSegment &&
      ((k.tree? (j.pb 0) j.treeNo).getD { level := j.pb 0, tree := j.treeNo }).segs.length != hbsSegs (hbsHeight a))

theorem hbsTreeBuildDo_refuses (h : computes s id 0x0212 j) (hn : j.noRecord s = false) (hr : j.buildRefused s = true) :
    ends s (hbsTreeBuildDo id s) id stBadParameter [] :=
  runOp_ends_of_fail h ((withRecord_kept hn).trans (if_pos hr)) (by decide)

/-- A build that is not refused: a segment or the level-1 tree is stored at once; a level-0 tree may need the upper level. -/
theorem hbsTreeBuildDo_eq (h : computes s id 0x0212 j) (hn : j.noRecord s = false) (hr : j.buildRefused s = false) :
    hbsTreeBuildDo id s =
      if !j.buildsTop then
        done j [(0, j.builtNodes)] (s.modHbs j.keyB.index (fun k => k.built (j.pb 0) j.treeNo j.storedSegment j.builtRoot false))
      else if j.pb 0 = 1 then
        done j [(0, j.builtNodes)] (s.modHbs j.keyB.index (fun k => k.built 1 j.treeNo j.storedSegment j.builtRoot true))
      else if hbsLevels j.keyB.attr = 2 ∧ !((s.hbs j.keyB.index).installed 2 j.treeNo) then
        upperBuild j j.keyB.index j.treeNo j.storedSegment j.builtNodes j.builtRoot s
      else finishTop j j.keyB.index j.treeNo j.storedSegment j.builtNodes j.builtRoot none s := by
  rw [hbsTreeBuildDo, runOp_computes _ h, withRecord_kept hn]
  exact if_neg (ne_true_of_eq_false hr)

theorem hbsTreeBuildDo_stores (h : computes s id 0x0212 j) (hn : j.noRecord s = false) (hr : j.buildRefused s = false)
    (ht : j.buildsTop = false ∨ j.pb 0 = 1) :
    ends (s.modHbs j.keyB.index (fun k => k.built (j.pb 0) j.treeNo j.storedSegment j.builtRoot j.buildsTop)) (hbsTreeBuildDo id s) id 0
      [(0, j.builtNodes)] := by
  rw [hbsTreeBuildDo_eq h hn hr]
  cases hb : j.buildsTop
  · exact decided_ok h.1
  · have h1 : j.pb 0 = 1 := ht.resolve_left (ne_false_of_eq_true hb)
    simp only [h1, Bool.not_true, Bool.false_eq_true, if_false, if_true]
    exact decided_ok h.1

theorem dropPast_trees : ((dropPast i s).hbs i).trees = (s.hbs i).trees := by rw [dropPast, hbs_modHbs]

/-- A tree of a key with one level needs no upper level: its trees are stored, and upper signatures that are past are dropped. -/
theorem hbsTreeBuildDo_finishes (h : computes s id 0x0212 j) (hn : j.noRecord s = false) (hr : j.buildRefused s = false)
    (ht : j.buildsTop = true) (h0 : j.pb 0 = 0) (hl : hbsLevels j.keyB.attr = 1) :
    decidedAs (hbsTreeBuildDo id s) id 0 [(0, j.builtNodes)] ∧ ((hbsTreeBuildDo id s).hbs j.keyB.index).trees =
      ((s.hbs j.keyB.index).built 0 j.treeNo j.storedSegment j.builtRoot true).trees := by
  rw [hbsTreeBuildDo_eq h hn hr, ht, h0, hl]
  have hd := decided_ok (s := dropPast j.keyB.index (s.modHbs j.keyB.index fun k => k.built 0 j.treeNo j.storedSegment j.builtRoot true))
    (outs := [(0, j.builtNodes)]) h.1
  refine ⟨hd.1, ?_⟩
  exact (congrArg Hbs.trees (hbs_of_onlyJob hd.2)).trans (dropPast_trees.trans (congrArg Hbs.trees hbs_modHbs))

end Sys2Proof.Machine
end

section
/-! SUPPORT. The statement on hash-based signature jobs. -/
namespace Sys2Proof.Machine

/-- Settles O25: each row is a law of its opcode under the row's condition; HBS_SIGN and HBS_TREE_BUILD stand for themselves. -/
theorem hashSignatureJobsDecide : Obligations.HashSignatureJobsDecide := by
  unfold Obligations.HashSignatureJobsDecide
  intro s id j set x b key f n rnd msg vk pk dims head badHead k noRecord h lv q cur under bits seg t0 nodes one top out kept
  have hn : noRecord = j.noRecord s := rfl
  have hb : badHead = j.badHead s := rfl
  have ho : out = j.buildRefused s := rfl
  have ht : top = j.buildsTop := rfl
  refine ⟨forall_quintuple_of_forall_mem ?rows, fun q path hq hp hc hr => ⟨_, rfl, ?sign⟩, fun hc hr hout => ⟨_, rfl, ?stores, ?finishes⟩⟩
  case rows =>
    simp only [List.forall_mem_cons, hn, hb, ho, Bool.and_eq_true, Bool.not_eq_true']
    exact ⟨fun hc => ⟨_, rfl, fun _ => slhDsaSignDo_ends hc⟩,
      fun hc => ⟨_, rfl, fun _ => slhDsaVerifyDo_ends hc⟩,
      fun hc => ⟨_, rfl, fun ⟨hr, hb⟩ => hbsVerifyDo_refuses hc hr hb⟩,
      fun hc => ⟨_, rfl, fun ⟨hr, hb⟩ => hbsVerifyDo_ends hc hr hb⟩,
      fun hc => ⟨_, rfl, hbsStateDo_ends hc⟩,
      fun hc => ⟨_, rfl, hbsPublicKeyDo_ends hc⟩,
      fun hc => ⟨_, rfl, fun ⟨hr, ho⟩ => hbsTreeBuildDo_refuses hc hr ho⟩,
      fun hc => ⟨_, rfl, runOp_ends_of_noRecord hc⟩,
      fun hc => ⟨_, rfl, runOp_ends_of_noRecord hc⟩,
      fun hc => ⟨_, rfl, runOp_ends_of_noRecord hc⟩,
      fun hc => ⟨_, rfl, runOp_ends_of_noRecord hc⟩,
      fun hc => ⟨_, rfl, runOp_ends_of_noRecord hc⟩,
      List.forall_mem_nil _⟩
  case sign =>
    have he := hbsSignDo_ends hc hr hq hp
    refine ⟨he.2, fun hg => ?_, fun hg => ?_⟩
    · rw [show j.pathHolds s q path = true from hg] at he
      exact he.1
    · rw [show j.pathHolds s q path = false from hg] at he
      exact he.1
  case stores =>
    rw [Bool.or_eq_true, Bool.not_eq_true', beq_iff_eq]
    intro hs
    have he := hbsTreeBuildDo_stores hc hr hout hs
    exact ⟨he.1, (hbs_of_onlyJob he.2).trans hbs_modHbs⟩
  case finishes =>
    rw [Bool.and_eq_true, Bool.and_eq_true, beq_iff_eq, beq_iff_eq]
    exact fun ⟨⟨htop, h0⟩, hl⟩ => h0 ▸ hbsTreeBuildDo_finishes hc hr hout htop h0 hl

end Sys2Proof.Machine
end

section
/-! SUPPORT. A data run that the SRAM clear after RINSE frees (R315, R442). -/
namespace Sys2Proof.Machine

/-- A persistent key whose data run begins at slot 8 is deleted while a job that is bound to it waits for its engine: the run stays
until no such job needs it any more (R315). -/
def deletedWhileBound : State :=
  deleteKey false 5 { State.reset with
    pwr.inReset := false
    hif.bme := true
    kv.ps := [(5, { kind := .moved, count := 1, gen := 1, data := 8 }), (8, { kind := .run, gen := 1 })]
    jobs := [{ id := 7, slice := 0, resolved := true
               bound := [{ kt := false, index := 5, gen := 1, fam := 5, alg := 1, material := [], attr := [], handle := 5 }] }] }

/-- The same device after an alarm of tamper loop 0 (R442): the job is to be completed with ABORTED by the SRAM clear. -/
def rinsedWhileBound : State := rinseAssertDo 0x60 0 deletedWhileBound

theorem rinsedWhileBound_dying : rinsedWhileBound.kv.dying = [{ kt := false, first := 8, count := 1, index := 5, gen := 1 }] := rfl

/-- With the job's completion the run is freed. -/
theorem sramClearComplete_rinsedWhileBound_dying : (sramClearCompleteDo rinsedWhileBound).kv.dying = [] := rfl

/-- Refutes O43: the SRAM clear does not leave the Key Vault as it was. A job bound to a deleted key keeps the key's data run (R315); RINSE
lets the run stand, and the completion of the job frees it. -/
theorem not_keyVaultKeepsAndErasesKeys : ¬ Obligations.KeyVaultKeepsAndErasesKeys := by
  unfold Obligations.KeyVaultKeepsAndErasesKeys
  intro h
  obtain ⟨-, -, -, -, -, -, -, -, -, -, hclear⟩ := h rinsedWhileBound 0 0 0
  obtain ⟨t, ht, hkv, -⟩ := hclear rfl
  have hsame : (sramClearCompleteDo rinsedWhileBound).kv = rinsedWhileBound.kv := (Host.Outcome.next.inj ht) ▸ hkv
  have hdying := congrArg KvState.dying hsame
  rw [sramClearComplete_rinsedWhileBound_dying, rinsedWhileBound_dying] at hdying
  exact List.cons_ne_nil _ _ hdying.symm

end Sys2Proof.Machine
end

section
/-! SUPPORT. How the classical public-key opcodes end their jobs (R252 to R262). -/
namespace Sys2Proof.Machine

variable {s u : State} {id op st : Nat} {j : Job} {f : Job → State → State} {a : Config.Alg} {more : List Bytes}

/-! ## A check that gives the status of its failure -/

/-- The computation goes on to `t` where a check gave 0, and ends with the status that it gave elsewhere. -/
def Job.afterCheck (j : Job) (st : Nat) (t s : State) : State :=
  match st with
  | 0 => t
  | n => fail j n s

theorem afterCheck_passed (h : st = 0) : j.afterCheck st u s = u := by rw [h]; rfl

theorem afterCheck_failed (h : st ≠ 0) : j.afterCheck st u s = fail j st s := by
  obtain ⟨n, rfl⟩ := Nat.exists_eq_succ_of_ne_zero h
  rfl

/-! ## Verifications (R255, R256, R258) -/

/-- The status that the checks of a public key give which the job supplies; 0 for the key that the job names. -/
def Job.suppliedStatus (j : Job) (s : State) : Nat :=
  if (j.pb 1).testBit 0 then pkStatus (s.curvesOf j) (j.pb 0) (j.pubKey s) else 0

/-- The signature of a verification has the length of its set and parts in range. -/
def Job.sigFits (j : Job) (s : State) : Bool :=
  (j.input 2).length == (s.curvesOf j).sigLen (j.pb 0) && sigRange (s.curvesOf j) (j.pb 0) (j.pubKey s) (j.input 2)

/-- What the standard's verification is asked, before what one scheme adds to it. -/
def Job.verifyArgs (j : Job) (s : State) : List Bytes := setArgs (s.curvesOf j) (j.pb 0) ++ [j.pubKey s, j.input 2, j.input 0]

theorem sigCheck_iff : sigCheck a more (s.curvesOf j) (j.pb 0) (j.pubKey s) (j.input 2) (j.input 0) = true ↔
    j.sigFits s = true ∧ Config.check a (j.verifyArgs s ++ more) = true := Bool.and_eq_true_iff

theorem pkVerify_eq : pkVerify a more j s = j.afterCheck (j.suppliedStatus s)
    (verdict j (sigCheck a more (s.curvesOf j) (j.pb 0) (j.pubKey s) (j.input 2) (j.input 0)) s) s := rfl

theorem runOp_ends_of_pkVerify (h : computes s id op j) (hf : f j s = pkVerify a more j s) (hs : j.suppliedStatus s = 0) :
    ends s (runOp op f id s) id
      (if j.sigFits s = true ∧ Config.check a (j.verifyArgs s ++ more) = true then 0 else stSignatureInvalid) [] :=
  runOp_ends_of_verdict h (hf.trans (pkVerify_eq.trans (afterCheck_passed hs))) sigCheck_iff

theorem runOp_ends_of_pkVerify_refused (h : computes s id op j) (hf : f j s = pkVerify a more j s) (hs : j.suppliedStatus s ≠ 0) :
    ends s (runOp op f id s) id (j.suppliedStatus s) [] :=
  runOp_ends_of_fail h (hf.trans (pkVerify_eq.trans (afterCheck_failed hs))) hs

/-! ## Signatures on curves, key agreement, public keys (R256, R261, R262) -/

theorem ecdsaSignDo_ends (h : computes s id 0x0402 j) : ends s (ecdsaSignDo id s) id 0
    [(0, alg .ecdsaSign ((s.curvesOf j).sigLen (j.pb 0)) (setArgs (s.curvesOf j) (j.pb 0) ++
      [j.keyB.material, num (j.pb 2), j.input 0, if (j.pb 1).testBit 2 then [] else j.seed]))] := runOp_ends_of_done h rfl

theorem eddsaSignDo_ends (h : computes s id 0x0411 j) : ends s (eddsaSignDo id s) id 0
    [(0, alg .eddsaSign (s.sigLen (j.pb 0)) (num (j.pb 0) :: j.keyB.material :: j.input 0 :: edArgs j))] := runOp_ends_of_done h rfl

theorem pkPublicKeyDo_ends (h : computes s id 0x04F0 j) :
    ends s (pkPublicKeyDo id s) id 0 [(0, publicKey (s.curvesOf j) j.keyB)] := runOp_ends_of_done h rfl

/-- The status that the checks of the peer's public key give in a key agreement. -/
def Job.peerStatus (j : Job) (s : State) : Nat := pkStatus (s.curvesOf j) (j.pb 0) (j.input 0)

theorem keyAgreeDo_refuses (h : computes s id 0x0404 j) (hs : j.peerStatus s ≠ 0) : ends s (keyAgreeDo id s) id (j.peerStatus s) [] :=
  runOp_ends_of_fail h (afterCheck_failed hs) hs

theorem keyAgreeDo_pointRefused (h : computes s id 0x0404 j) (hs : j.peerStatus s = 0) (hp : j.pointRefused s = true) :
    ends s (keyAgreeDo id s) id stPointInvalid [] :=
  runOp_ends_of_fail h ((afterCheck_passed hs).trans (if_pos hp)) (by decide)

theorem keyAgreeDo_returns (h : computes s id 0x0404 j) (hs : j.peerStatus s = 0) (hp : j.pointRefused s = false)
    (hk : (j.pb 1).testBit 1 = false) : ends s (keyAgreeDo id s) id 0 [(0, j.agreed s)] :=
  runOp_ends_of_done h ((afterCheck_passed hs).trans ((if_neg (ne_true_of_eq_false hp)).trans (if_neg (ne_true_of_eq_false hk))))

/-! ## RSA (R254, R259, R260) -/

theorem rsaChecked_passed {args : List Bytes} {k : State → State} (hc : Config.check .rsaCheck args = true) :
    rsaChecked j args k s = k s := if_pos hc

/-- What an RSA_SIGN job computes from; the salt is that of PSS. -/
def Job.rsaSignArgs (j : Job) : List Bytes :=
  [num (j.pb 0), j.keyB.material, num (j.pb 2), num (j.pb 1 / 8 % 2), j.input 0,
    if (j.pb 1).testBit 3 then fit (phLen (j.pb 2)) j.seed else []]

theorem rsaSignDo_ends (h : computes s id 0x0421 j) (hc : Config.check .rsaCheck j.rsaSignArgs = true) :
    ends s (rsaSignDo id s) id 0 [(0, alg .rsaSign (rsaLen (j.pb 0)) j.rsaSignArgs)] :=
  runOp_ends_of_done h (rsaChecked_passed hc)

/-- What an RSA_OAEP_ENCRYPT job computes from. -/
def Job.oaepSealArgs (j : Job) (s : State) : List Bytes :=
  [num (j.pb 0), j.pubKey s, num (j.pb 2), cut j.params 16 (j.pb 3), j.input 0, fit (phLen (j.pb 2)) j.seed]

theorem rsaOaepEncryptDo_ends (h : computes s id 0x0423 j) (hs : j.suppliedStatus s = 0) :
    ends s (rsaOaepEncryptDo id s) id 0 [(0, alg .rsaEncrypt (rsaLen (j.pb 0)) (j.oaepSealArgs s))] :=
  runOp_ends_of_done h (afterCheck_passed hs)

theorem rsaOaepEncryptDo_refuses (h : computes s id 0x0423 j) (hs : j.suppliedStatus s ≠ 0) :
    ends s (rsaOaepEncryptDo id s) id (j.suppliedStatus s) [] :=
  runOp_ends_of_fail h (afterCheck_failed hs) hs

/-- What an RSA_OAEP_DECRYPT job computes from. -/
def Job.oaepOpenArgs (j : Job) : List Bytes :=
  [num (j.pb 0), j.keyB.material, num (j.pb 2), cut j.params 16 (j.pb 3), j.input 0]

/-- The ciphertext of an RSA_OAEP_DECRYPT job is no representative below the modulus. -/
def Job.oaepTooHigh (j : Job) : Bool := decide (ofBE (j.keyB.material.take (rsaLen (j.pb 0))) ≤ ofBE (j.input 0))

theorem rsaOaepDecryptDo_tooHigh (h : computes s id 0x0424 j) (hn : j.oaepTooHigh = true) :
    ends s (rsaOaepDecryptDo id s) id stMsgOutOfRange [] := runOp_ends_of_fail h (if_pos (of_decide_eq_true hn)) (by decide)

theorem rsaOaepDecryptDo_malformed (h : computes s id 0x0424 j) (hc : Config.check .rsaCheck j.oaepOpenArgs = true)
    (hn : j.oaepTooHigh = false) (hm : Config.measure .rsaDecryptStatus j.oaepOpenArgs ≠ 0) :
    ends s (rsaOaepDecryptDo id s) id stInputMalformed [] :=
  runOp_ends_of_fail h ((if_neg (of_decide_eq_false hn)).trans ((rsaChecked_passed hc).trans (if_pos hm))) (by decide)

theorem rsaOaepDecryptDo_ends (h : computes s id 0x0424 j) (hc : Config.check .rsaCheck j.oaepOpenArgs = true)
    (hn : j.oaepTooHigh = false) (hm : Config.measure .rsaDecryptStatus j.oaepOpenArgs = 0) : ends s (rsaOaepDecryptDo id s) id 0
    [(0, (Config.crypto .rsaDecrypt j.oaepOpenArgs).take (rsaLen (j.pb 0) - 2 * phLen (j.pb 2) - 2))] :=
  runOp_ends_of_done h ((if_neg (of_decide_eq_false hn)).trans ((rsaChecked_passed hc).trans (if_neg (not_not_intro hm))))

/-! ## Curve slots (R252, R253) -/

/-- The state with another content of a curve slot. -/
def State.withCurve (s : State) (set : Nat) (c : Option Bytes) : State :=
  { s with thm.curves := tput s.thm.curves none (set - 0x80) c }

theorem ecCurveLoadDo_named (h : computes s id 0x04E0 j) (hn : s.curveNamed (j.pb 0) = true) :
    ends s (ecCurveLoadDo id s) id stBadParameter [] := runOp_ends_of_fail h (if_pos hn) (by decide)

theorem ecCurveLoadDo_invalid (h : computes s id 0x04E0 j) (hn : s.curveNamed (j.pb 0) = false) (hg : curveGood (j.input 0) j.seed = false) :
    ends s (ecCurveLoadDo id s) id stCurveInvalid [] :=
  runOp_ends_of_fail h ((if_neg (ne_true_of_eq_false hn)).trans (refusedBy rfl hg)) (by decide)

theorem ecCurveLoadDo_loads (h : computes s id 0x04E0 j) (hn : s.curveNamed (j.pb 0) = false) (hg : curveGood (j.input 0) j.seed = true) :
    ends (s.withCurve (j.pb 0) (some (j.input 0))) (ecCurveLoadDo id s) id 0 [] :=
  runOp_ends_in_of_done h h.1 ((if_neg (ne_true_of_eq_false hn)).trans (passedBy rfl hg))

theorem ecCurveClearDo_named (h : computes s id 0x04E1 j) (hn : s.curveNamed (j.pb 0) = true) :
    ends s (ecCurveClearDo id s) id stBadParameter [] := runOp_ends_of_fail h (if_pos hn) (by decide)

theorem ecCurveClearDo_clears (h : computes s id 0x04E1 j) (hn : s.curveNamed (j.pb 0) = false) :
    ends (s.withCurve (j.pb 0) none) (ecCurveClearDo id s) id 0 [] :=
  runOp_ends_in_of_done h h.1 (if_neg (ne_true_of_eq_false hn))

/-- The end of a job leaves the state of Thimble as the job's other effects made it. -/
theorem ends_thm {status : Nat} {outs : List (Nat × Bytes)} {t : State} (h : ends u t id status outs) :
    decidedAs t id status outs ∧ t.thm = u.thm := ⟨h.1, by rw [h.2.1]⟩

end Sys2Proof.Machine
end

section
/-! SUPPORT. The statement on classical public-key jobs. -/
namespace Sys2Proof.Machine

/-- Settles O22: each row is a law of its opcode under the row's condition; a curve slot changes only while no key names it. -/
theorem classicalJobsDecide : Obligations.ClassicalJobsDecide := by
  unfold Obligations.ClassicalJobsDecide
  intro s id j set f x v cv pk bad fits ed z off rs rd high
  refine ⟨forall_quintuple_of_forall_mem ?rows, forall_quadruple_of_forall_mem ?slots⟩
  case rows =>
    simp only [List.forall_mem_cons, Bool.and_eq_true, Bool.not_eq_true', decide_eq_true_eq, beq_iff_eq, bne_iff_ne]
    exact ⟨fun hc => ⟨_, rfl, fun _ => ecdsaSignDo_ends hc⟩,
      fun hc => ⟨_, rfl, runOp_ends_of_pkVerify hc rfl⟩,
      fun hc => ⟨_, rfl, runOp_ends_of_pkVerify_refused hc rfl⟩,
      fun hc => ⟨_, rfl, keyAgreeDo_refuses hc⟩,
      fun hc => ⟨_, rfl, fun ⟨hs, hp⟩ => keyAgreeDo_pointRefused hc hs hp⟩,
      fun hc => ⟨_, rfl, fun ⟨⟨hs, hp⟩, hk⟩ => keyAgreeDo_returns hc hs hp hk⟩,
      fun hc => ⟨_, rfl, fun _ => eddsaSignDo_ends hc⟩,
      fun hc => ⟨_, rfl, runOp_ends_of_pkVerify hc rfl⟩,
      fun hc => ⟨_, rfl, runOp_ends_of_pkVerify_refused hc rfl⟩,
      fun hc => ⟨_, rfl, rsaSignDo_ends hc⟩,
      fun hc => ⟨_, rfl, runOp_ends_of_pkVerify hc rfl⟩,
      fun hc => ⟨_, rfl, runOp_ends_of_pkVerify_refused hc rfl⟩,
      fun hc => ⟨_, rfl, rsaOaepEncryptDo_ends hc⟩,
      fun hc => ⟨_, rfl, rsaOaepEncryptDo_refuses hc⟩,
      fun hc => ⟨_, rfl, rsaOaepDecryptDo_tooHigh hc⟩,
      fun hc => ⟨_, rfl, fun ⟨⟨hk, hn⟩, hm⟩ => rsaOaepDecryptDo_malformed hc hk hn hm⟩,
      fun hc => ⟨_, rfl, fun ⟨⟨hk, hn⟩, hm⟩ => rsaOaepDecryptDo_ends hc hk hn hm⟩,
      fun hc => ⟨_, rfl, fun _ => pkPublicKeyDo_ends hc⟩,
      fun hc => ⟨_, rfl, ecCurveLoadDo_named hc⟩,
      fun hc => ⟨_, rfl, fun ⟨hn, hg⟩ => ecCurveLoadDo_invalid hc hn hg⟩,
      fun hc => ⟨_, rfl, ecCurveClearDo_named hc⟩,
      List.forall_mem_nil _⟩
  case slots =>
    simp only [List.forall_mem_cons]
    exact ⟨fun hn hc => ⟨_, rfl, fun hg => ends_thm (ecCurveLoadDo_loads hc hn hg)⟩,
      fun hn hc => ⟨_, rfl, fun _ => ends_thm (ecCurveClearDo_clears hc hn)⟩,
      List.forall_mem_nil _⟩

end Sys2Proof.Machine
end

section
/-! SUPPORT. How the opcodes of composite keys end their jobs (R341 to R343). -/
namespace Sys2Proof.Machine

variable {s t u : State} {id status : Nat} {j : Job} {outs : List (Nat × Bytes)}

/-- A job that ends before a free value is taken ends as well after it. -/
theorem ends_fresh (h : ends u t id status outs) : ends (fresh u) (fresh t) id status outs := by
  obtain ⟨hd, hq, hj⟩ := h
  exact ⟨hd, congrArg fresh hq, hj⟩

/-! ## Parts of a composite algorithm (R339) -/

/-- The post-quantum set and the classical set of the composite algorithm that a job names. -/
def Job.pqSet (j : Job) : Nat := (compositeParts (j.pb 0)).elim 0 (fun c => c.1.2)
def Job.clSet (j : Job) : Nat := (compositeParts (j.pb 0)).elim 0 (fun c => c.2.2)

/-- Lengths of the post-quantum parts: public key, ciphertext, signature. -/
def Job.pqPkLen (j : Job) (s : State) : Nat := (s.compLens (j.pb 0)).1.1
def Job.pqCtLen (j : Job) (s : State) : Nat := (s.compLens (j.pb 0)).1.2.1
def Job.pqSigLen (j : Job) (s : State) : Nat := (s.compLens (j.pb 0)).1.2.2

/-- The post-quantum and the classical part of a composite string whose post-quantum part has `n` bytes. -/
def pqPart (n : Nat) (bs : Bytes) : Bytes := cut bs 4 n
def clPart (n : Nat) (bs : Bytes) : Bytes := bs.drop (4 + n)

/-! ## Signatures (R341, R342) -/

/-- The context of a composite signature, and the message that both parts sign. -/
def Job.hybCtx (j : Job) : Bytes := cut j.params 12 (j.pb 2)
def Job.hybMsg (j : Job) : Bytes := compositeMsg (j.pb 0) j.hybCtx (j.input 0)

theorem hybSignDo_ends (h : computes s id 0x0A02 j) (hc : issuerCapped [j.keyN 1] j.hybMsg (openRnd s) = false) :
    ends (fresh s) (hybSignDo id s) id 0
      [(0, compositeSig s (j.pb 0) (j.keyN 1) (j.keyN 2) j.hybCtx (j.input 0) (openRnd s))] := by
  rw [show hybSignDo id s = fresh (done j _ s) from (runOp_computes _ h).trans (if_neg (ne_true_of_eq_false hc))]
  exact ends_fresh (decided_ok h.1)

/-- The public key of a HYB_VERIFY job: supplied, or that of the key it names. -/
def Job.hybPk (j : Job) (s : State) : Bytes := if j.pb 1 = 1 then j.input 1 else compositePk s j

/-- A supplied composite public key has another header than its algorithm. -/
def Job.hybPkMalformed (j : Job) (s : State) : Bool := decide (j.pb 1 = 1) && !compositeHead (j.pb 0) (j.pqPkLen s) (j.hybPk s)

/-- The status that the checks of the classical part of a supplied public key give. -/
def Job.hybPkStatus (j : Job) (s : State) : Nat := if j.pb 1 = 1 then pkStatus s j.clSet (clPart (j.pqPkLen s) (j.hybPk s)) else 0

/-- The post-quantum part of a composite signature verifies. -/
def Job.pqVerifies (j : Job) (s : State) : Bool :=
  Config.check .mlDsaVerify [num j.pqSet, pqPart (j.pqPkLen s) (j.hybPk s), pqPart (j.pqSigLen s) (j.input 2), num 0, num 0, [], j.hybMsg]

/-- The classical part of a composite signature verifies. -/
def Job.clVerifies (j : Job) (s : State) : Bool :=
  let pk := clPart (j.pqPkLen s) (j.hybPk s)
  let sig := clPart (j.pqSigLen s) (j.input 2)
  if isWeier j.clSet then
    sigCheck .ecdsaVerify [num (compositeHash (j.pb 0))] s j.clSet pk sig (phDigest (compositeHash (j.pb 0)) j.hybMsg)
  else sigCheck .eddsaVerify [num 0, []] s j.clSet pk sig j.hybMsg

/-- A composite signature has the layout of its algorithm, and both its parts verify. -/
def Job.hybVerifies (j : Job) (s : State) : Bool :=
  (j.input 2).length == 4 + j.pqSigLen s + (s.compLens (j.pb 0)).2.2 && compositeHead (j.pb 0) (j.pqSigLen s) (j.input 2) &&
    j.pqVerifies s && j.clVerifies s

theorem hybVerifyDo_eq (h : computes s id 0x0A03 j) : hybVerifyDo id s = if j.hybPkMalformed s then fail j stInputKeyInvalid s
    else j.afterCheck (j.hybPkStatus s) (verdict j (j.hybVerifies s) s) s := runOp_computes _ h

theorem hybVerifyDo_malformed (h : computes s id 0x0A03 j) (hm : j.hybPkMalformed s = true) :
    ends s (hybVerifyDo id s) id stInputKeyInvalid [] := by
  rw [hybVerifyDo_eq h, if_pos hm]
  exact decided_fail h.1 (by decide)

theorem hybVerifyDo_refuses (h : computes s id 0x0A03 j) (hm : j.hybPkMalformed s = false) (hs : j.hybPkStatus s ≠ 0) :
    ends s (hybVerifyDo id s) id (j.hybPkStatus s) [] := by
  rw [hybVerifyDo_eq h, if_neg (ne_true_of_eq_false hm), afterCheck_failed hs]
  exact decided_fail h.1 hs

theorem hybVerifyDo_ends (h : computes s id 0x0A03 j) (hm : j.hybPkMalformed s = false) (hs : j.hybPkStatus s = 0) :
    ends s (hybVerifyDo id s) id (if j.hybVerifies s = true then 0 else stSignatureInvalid) [] :=
  runOp_ends_of_verdict h ((if_neg (ne_true_of_eq_false hm)).trans (afterCheck_passed hs)) Iff.rfl

theorem hybPublicKeyDo_ends (h : computes s id 0x0AF0 j) : ends s (hybPublicKeyDo id s) id 0 [(0, compositePk s j)] :=
  runOp_ends_of_done h rfl

/-! ## Delivery of a hybrid secret (R343) -/

theorem hybDeliver_returns {attr k : Bytes} {os : Bytes → List (Nat × Bytes)} (hj : s.job? id = some j) (hk : (j.pb 1).testBit 1 = false) :
    ends s (hybDeliver j attr os k s) id 0 (os k) := by
  rw [show hybDeliver j attr os k s = _ from if_neg (ne_true_of_eq_false hk)]
  exact decided_ok hj

theorem hybDeliver_makes {attr k : Bytes} {os : Bytes → List (Nat × Bytes)} (hj : s.job? id = some j) (hk : (j.pb 1).testBit 1 = true) :
    keyMade s (hybDeliver j attr os k s) id j.slice 2 attr 0 k (fun t i => os (handleBytes t true i)) := by
  rw [show hybDeliver j attr os k s = _ from if_pos hk]
  exact withKey_makes_plain hj (fun _ _ => rfl) fun _ _ _ _ => rfl

/-! ## Encapsulation (R343) -/

/-- The composite encapsulation key: supplied, or that of the key that the job names. -/
def Job.hybEk (j : Job) (s : State) : Bytes := if (j.pb 1).testBit 0 then j.input 0 else compositePk s j

/-- What the ML-KEM part of an encapsulation computes from. -/
def Job.hybKemArgs (j : Job) (s : State) : List Bytes := [num j.pqSet, pqPart (j.pqPkLen s) (j.hybEk s), j.seed.take 32]

/-- A supplied encapsulation key has another header than its algorithm, or its ML-KEM part fails the check of its modulus. -/
def Job.hybEkRefused (j : Job) (s : State) : Bool := (j.pb 1).testBit 0 && (!compositeHead (j.pb 0) (j.pqPkLen s) (j.hybEk s) ||
  !Config.check .mlKemEkOk [num j.pqSet, pqPart (j.pqPkLen s) (j.hybEk s)])

/-- The status that the checks of the classical part of a supplied encapsulation key give. -/
def Job.hybEkStatus (j : Job) (s : State) : Nat :=
  if (j.pb 1).testBit 0 then pkStatus s j.clSet (clPart (j.pqPkLen s) (j.hybEk s)) else 0

/-- The ephemeral scalar of an encapsulation, its public key, and the classical secret that it shares. -/
def Job.ephScalar (j : Job) (s : State) : Bytes := genScalar s j.clSet (j.seed.drop 32)
def Job.ephKey (j : Job) (s : State) : Bytes := alg .ecPk (s.compLens (j.pb 0)).2.1 (setArgs s j.clSet ++ [j.ephScalar s])
def Job.ephSecret (j : Job) (s : State) : Bytes :=
  alg .ecdh (s.curveLen j.clSet) (setArgs s j.clSet ++ [j.ephScalar s, clPart (j.pqPkLen s) (j.hybEk s)])

/-- The ciphertext of the ML-KEM part. -/
def Job.hybCt (j : Job) (s : State) : Bytes := alg .mlKemCt (j.pqCtLen s) (j.hybKemArgs s)

/-- The secret of a hybrid encapsulation, and the outputs of the job that returns it or its handle. -/
def Job.hybSecret (j : Job) (s : State) : Bytes :=
  hybridSecret (alg .mlKemSs 32 (j.hybKemArgs s)) (j.ephSecret s) (j.hybCt s) (j.ephKey s) (clPart (j.pqPkLen s) (j.hybEk s))
def Job.hybOuts (j : Job) (s : State) (o : Bytes) : List (Nat × Bytes) := [(0, compositeJoin (j.pb 0) (j.hybCt s) (j.ephKey s)), (1, o)]

/-- Attributes of an encapsulated secret that is kept. -/
def Job.hybAttr (j : Job) : Bytes :=
  koutAttr (if (j.pb 1).testBit 0 then none else some j.keyB.attr) ((j.pb 1).testBit 0 && (j.pb 1).testBit 2) 1 0

/-- A classical secret on a Montgomery curve is all zeros. -/
def Job.zeroSecret (j : Job) (z : Bytes) : Bool := isMont j.clSet && z.all (· == 0)

theorem hybKemEncapsDo_eq (h : computes s id 0x0A11 j) : hybKemEncapsDo id s = if j.hybEkRefused s then fail j stInputKeyInvalid s
    else j.afterCheck (j.hybEkStatus s) (if j.zeroSecret (j.ephSecret s) then fail j stPointInvalid s
      else hybDeliver j j.hybAttr (j.hybOuts s) (j.hybSecret s) s) s := runOp_computes _ h

theorem hybKemEncapsDo_refuses (h : computes s id 0x0A11 j) (hr : j.hybEkRefused s = true) :
    ends s (hybKemEncapsDo id s) id stInputKeyInvalid [] := by
  rw [hybKemEncapsDo_eq h, if_pos hr]
  exact decided_fail h.1 (by decide)

section
variable (h : computes s id 0x0A11 j) (hr : j.hybEkRefused s = false) (hs : j.hybEkStatus s = 0)
include h hr hs

theorem hybKemEncapsDo_zero (hz : j.zeroSecret (j.ephSecret s) = true) : ends s (hybKemEncapsDo id s) id stPointInvalid [] := by
  rw [hybKemEncapsDo_eq h, if_neg (ne_true_of_eq_false hr), afterCheck_passed hs, if_pos hz]
  exact decided_fail h.1 (by decide)

theorem hybKemEncapsDo_delivers (hz : j.zeroSecret (j.ephSecret s) = false) :
    hybKemEncapsDo id s = hybDeliver j j.hybAttr (j.hybOuts s) (j.hybSecret s) s := by
  rw [hybKemEncapsDo_eq h, if_neg (ne_true_of_eq_false hr), afterCheck_passed hs, if_neg (ne_true_of_eq_false hz)]

theorem hybKemEncapsDo_returns (hz : j.zeroSecret (j.ephSecret s) = false) (hk : (j.pb 1).testBit 1 = false) :
    ends s (hybKemEncapsDo id s) id 0 (j.hybOuts s (j.hybSecret s)) := by
  rw [hybKemEncapsDo_delivers h hr hs hz]
  exact hybDeliver_returns h.1 hk

theorem hybKemEncapsDo_makes (hz : j.zeroSecret (j.ephSecret s) = false) (hk : (j.pb 1).testBit 1 = true) :
    keyMade s (hybKemEncapsDo id s) id j.slice 2 j.hybAttr 0 (j.hybSecret s) (fun t i => j.hybOuts s (handleBytes t true i)) := by
  rw [hybKemEncapsDo_delivers h hr hs hz]
  exact hybDeliver_makes h.1 hk

end

/-! ## Decapsulation (R343) -/

/-- A composite ciphertext has the header of its algorithm. -/
def Job.hybCtFormed (j : Job) (s : State) : Bool := compositeHead (j.pb 0) (j.pqCtLen s) (j.input 0)

/-- The ML-KEM ciphertext and the ephemeral key of a decapsulation. -/
def Job.receivedCt (j : Job) (s : State) : Bytes := pqPart (j.pqCtLen s) (j.input 0)
def Job.receivedEph (j : Job) (s : State) : Bytes := clPart (j.pqCtLen s) (j.input 0)

/-- The classical secret of a decapsulation, and the hybrid secret. -/
def Job.receivedZ (j : Job) (s : State) : Bytes := alg .ecdh (s.curveLen j.clSet) (setArgs s j.clSet ++ [(j.keyN 2).material, j.receivedEph s])
def Job.openedSecret (j : Job) (s : State) : Bytes :=
  hybridSecret (alg .mlKemDecaps 32 [num j.pqSet, (j.keyN 1).material, j.receivedCt s]) (j.receivedZ s) (j.receivedCt s) (j.receivedEph s)
    (publicKey s (j.keyN 2))

/-- The ephemeral key fails R256, or the secret that it shares is all zeros. -/
abbrev Job.ephRefused (j : Job) (s : State) : Prop := pkStatus s j.clSet (j.receivedEph s) ≠ 0 ∨ j.zeroSecret (j.receivedZ s) = true

theorem hybKemDecapsDo_eq (h : computes s id 0x0A12 j) : hybKemDecapsDo id s = if !j.hybCtFormed s then fail j stInputMalformed s
    else if j.ephRefused s then fail j stPointInvalid s
    else hybDeliver j (koutAttr (some j.keyB.attr) false 1 0) (fun o => [(0, o)]) (j.openedSecret s) s := runOp_computes _ h

theorem hybKemDecapsDo_malformed (h : computes s id 0x0A12 j) (hf : j.hybCtFormed s = false) :
    ends s (hybKemDecapsDo id s) id stInputMalformed [] := by
  rw [hybKemDecapsDo_eq h, refusedBy rfl hf]
  exact decided_fail h.1 (by decide)

theorem hybKemDecapsDo_refuses (h : computes s id 0x0A12 j) (hf : j.hybCtFormed s = true) (hr : j.ephRefused s) :
    ends s (hybKemDecapsDo id s) id stPointInvalid [] := by
  rw [hybKemDecapsDo_eq h, passedBy rfl hf, if_pos hr]
  exact decided_fail h.1 (by decide)

section
variable (h : computes s id 0x0A12 j) (hf : j.hybCtFormed s = true) (hr : ¬ j.ephRefused s)
include h hf hr

theorem hybKemDecapsDo_delivers : hybKemDecapsDo id s =
    hybDeliver j (koutAttr (some j.keyB.attr) false 1 0) (fun o => [(0, o)]) (j.openedSecret s) s := by
  rw [hybKemDecapsDo_eq h, passedBy rfl hf, if_neg hr]

theorem hybKemDecapsDo_returns (hk : (j.pb 1).testBit 1 = false) : ends s (hybKemDecapsDo id s) id 0 [(0, j.openedSecret s)] := by
  rw [hybKemDecapsDo_delivers h hf hr]
  exact hybDeliver_returns (os := fun o => [(0, o)]) h.1 hk

theorem hybKemDecapsDo_makes (hk : (j.pb 1).testBit 1 = true) :
    keyMade s (hybKemDecapsDo id s) id j.slice 2 (koutAttr (some j.keyB.attr) false 1 0) 0 (j.openedSecret s) (handleOuts true) := by
  rw [hybKemDecapsDo_delivers h hf hr]
  exact hybDeliver_makes h.1 hk

end

end Sys2Proof.Machine
end

section
/-! SUPPORT. How the opcodes that issue certificates, mdocs and credentials end their jobs, and those of templates (R352 to R355). -/
namespace Sys2Proof.Machine

variable {s : State} {id : Nat} {j : Job}

/-! ## The signature of an issuer key (R260, R352) -/

/-- A signature of the job's issuer key is released: it is none of RSA, or its check passes. -/
def Job.sigSound (j : Job) (ph pss : Nat) (m salt : Bytes) : Bool :=
  !(j.keyB.fam == 4 && isRsa j.keyB.alg) || Config.check .rsaCheck (rsaArgs j.keyB ph pss m salt)

/-- The signature that the job's issuer key makes. -/
def Job.issued (j : Job) (s : State) (ph pss : Nat) (m salt : Bytes) : Bytes :=
  issuerSig (s.curvesOf j) j.bound ph pss m (openRnd s) salt

theorem withSig_signs {ph pss : Nat} {m salt : Bytes} {k : Bytes → State → State} (hc : issuerCapped j.bound m (openRnd s) = false)
    (hs : j.sigSound ph pss m salt = true) : withSig j ph pss m salt k s = k (j.issued s ph pss m salt) (fresh s) := by
  refine (if_neg (ne_true_of_eq_false hc)).trans ?_
  split
  · next hr =>
    refine rsaChecked_passed ?_
    simpa [Job.sigSound, hr] using hs
  · rfl

/-! ## Certificates (R352) -/

/-- The serial number of a certificate from DRBG output: 20 bytes with a top bit of 0, never zero. -/
def Job.serialDrawn (j : Job) : Bytes :=
  match fit 20 j.seed with
  | b :: r => (b &&& 0x7F) :: r
  | [] => []
def Job.serial (j : Job) : Bytes := if j.serialDrawn.all (· == 0) then zeros 19 ++ [1] else j.serialDrawn

/-- The certificate that is signed, with the serial number where the job asks for one, and the PSS salt. -/
def Job.toBeSigned (j : Job) : Bytes :=
  if j.pb 0 % 2 = 1 then fit (j.input 0).length (Config.crypto .certSerial [j.input 0, j.serial]) else j.input 0
def Job.certSalt (j : Job) : Bytes := if j.pb 0 % 2 = 1 then j.seed.drop 20 else j.seed

/-- The input of a CERT_ISSUE job is a certificate in DER. -/
def Job.certFormed (j : Job) : Bool := Config.check .derOk [j.input 0, num (j.pb 0 % 2)]

/-- The longest certificate that a CERT_ISSUE job returns. -/
def Job.certCap (j : Job) : Nat := Config.measure .certBuild [num (j.input 0).length, j.keyB.attr.take 2, num (j.pb 0)]

theorem certIssueDo_malformed (h : computes s id 0x0A21 j) (hf : j.certFormed = false) :
    ends s (certIssueDo id s) id stInputMalformed [] := runOp_ends_of_fail h (refusedBy rfl hf) (by decide)

theorem certIssueDo_ends (h : computes s id 0x0A21 j) (hf : j.certFormed = true) (hc : issuerCapped j.bound j.toBeSigned (openRnd s) = false)
    (hs : j.sigSound (j.pb 1) (j.pb 0 / 2) j.toBeSigned j.certSalt = true) : ends (fresh s) (certIssueDo id s) id 0
    [(0, (Config.crypto .certBuild [j.toBeSigned, j.issued s (j.pb 1) (j.pb 0 / 2) j.toBeSigned j.certSalt]).take j.certCap)] :=
  runOp_ends_in_of_done h h.1 ((passedBy rfl hf).trans (withSig_signs hc hs))

/-! ## Mobile documents (R353) -/

/-- The COSE algorithm of an mdoc, what its issuer key signs, and the signature. -/
def Job.mdocCose (j : Job) : Bytes := num (coseAlg j.keyB.alg).1.natAbs
def Job.mdocSigned (j : Job) : Bytes := Config.crypto .mdocBuild [num 0, j.mdocCose, j.input 0]
def Job.mdocSig (j : Job) (s : State) : Bytes :=
  if isWeier j.keyB.alg then ecdsaOf (s.curvesOf j) j.keyB (coseAlg j.keyB.alg).2 j.mdocSigned j.seed else eddsaOf s j.keyB j.mdocSigned

/-- The input of an MDOC_ISSUE job is well-formed. -/
def Job.mdocFormed (j : Job) : Bool := Config.check .derOk [num 0x0A22, j.input 0]

/-- The longest mdoc that an MDOC_ISSUE job returns. -/
def Job.mdocCap (j : Job) : Nat := Config.measure .mdocBuild [num (j.input 0).length, num (j.input 1).length, j.keyB.attr.take 2]

theorem mdocIssueDo_malformed (h : computes s id 0x0A22 j) (hf : j.mdocFormed = false) :
    ends s (mdocIssueDo id s) id stInputMalformed [] := runOp_ends_of_fail h (refusedBy rfl hf) (by decide)

theorem mdocIssueDo_ends (h : computes s id 0x0A22 j) (hf : j.mdocFormed = true) : ends s (mdocIssueDo id s) id 0
    [(0, (Config.crypto .mdocBuild [num 1, j.mdocCose, j.input 0, j.input 1, j.mdocSig s]).take j.mdocCap)] :=
  runOp_ends_of_done h (passedBy rfl hf)

/-! ## Templates (R354) -/

/-- The state with another content of the template slot that a job names. -/
def State.withTemplate (s : State) (j : Job) (t : Option Template) : State :=
  { s with thm.templates := tput s.thm.templates none (4 * j.slice + j.pb 0) t }

/-- The template that a TPL_LOAD job carries, bound to the handle of its issuer. -/
def Job.carried (j : Job) : Template where
  cls := hClass (fieldLE j.params 8 8)
  issuer := hIndex (fieldLE j.params 8 8)
  text := j.input 0
  fields := tplFields j.params
  allowHoldover := j.pb 2 == 1
  maxDuration := fieldLE j.params 4 4

theorem tplLoadDo_ends (h : computes s id 0x0A31 j) : ends (s.withTemplate j (some j.carried)) (tplLoadDo id s) id 0 [] :=
  runOp_ends_in_of_done h h.1 rfl

theorem tplDeleteDo_ends (h : computes s id 0x0A32 j) : ends (s.withTemplate j none) (tplDeleteDo id s) id 0 [] :=
  runOp_ends_in_of_done h h.1 rfl

/-! ## Credentials (R355) -/

/-- The credential that a template makes of a job, and the hash and PSS that its signature takes. -/
def Job.credential (j : Job) (t : Template) : Bytes :=
  fillFields j.at10 (expiryOf j.at10 (fieldLE j.params 4 4)) t.fields (j.input 0) j.seed t.text
def Job.credHash (j : Job) (s : State) : Nat :=
  if j.keyB.fam = 4 ∧ isRsa j.keyB.alg = true then [1, 2, 3, 6, 7].getD (Config.freeNat s.freeCtr % 5) 1
  else 1 + Config.freeNat s.freeCtr % 7
def State.credPss (s : State) : Nat := Config.freeNat s.freeCtr / 35 % 2

theorem credIssueDo_absent (h : computes s id 0x0A33 j) (ht : s.template j.slice (j.pb 0) = none) :
    ends s (credIssueDo id s) id stBadParameter [] := runOp_ends_of_fail h (by simp only [ht]) (by decide)

theorem credIssueDo_ends {t : Template} (h : computes s id 0x0A33 j) (ht : s.template j.slice (j.pb 0) = some t)
    (hc : issuerCapped j.bound (j.credential t) (openRnd s) = false)
    (hs : j.sigSound (j.credHash s) s.credPss (j.credential t) (j.seed.drop 320) = true) : ends (fresh s) (credIssueDo id s) id 0
    [(0, j.credential t ++ j.issued s (j.credHash s) s.credPss (j.credential t) (j.seed.drop 320))] :=
  runOp_ends_in_of_done h h.1 (by
    simp only [ht]
    exact withSig_signs hc hs)

end Sys2Proof.Machine
end

section
/-! SUPPORT. The statement on composite-key, certificate, mdoc, template and credential jobs. -/
namespace Sys2Proof.Machine

/-- Settles O28: each row is a law of its opcode under the row's condition; a hybrid secret that is kept and the credential of a template
stand for themselves. -/
theorem compositeAndIssuingJobsDecide : Obligations.CompositeAndIssuingJobsDecide := by
  unfold Obligations.CompositeAndIssuingJobsDecide
  intro s id j a f src src0 rnd lens pqPk pqCt pqSig clPk set pset ctx pk sg mc pkBad pqOk clOk ek ekCl m l d eph z ct ekBad ekSt zero ks x eph1
    z1 off1 ks1 kb mso cose tbs mdocSig t0 slot sn0 sn cert certCap derOk salt sound
  have hpk : pk = j.hybPk s := if_congr beq_iff_eq rfl rfl
  have hmal : (src && !compositeHead a pqPk pk) = j.hybPkMalformed s := by rw [hpk]; rfl
  have hst : pkBad = j.hybPkStatus s := if_congr beq_iff_eq (by rw [hpk]; rfl) rfl
  have hok : (sg.length == 4 + pqSig + lens.2.2 && compositeHead a pqSig sg && pqOk && clOk) = j.hybVerifies s := by
    simp only [pqOk, clOk, hpk]
    rfl
  have hoff : off1 = decide (j.ephRefused s) := by
    simp only [Job.ephRefused, Bool.decide_or, Bool.decide_eq_true]
    rfl
  refine ⟨forall_sextuple_of_forall_mem ?rows, fun hc => ⟨_, rfl, ?keptEncaps⟩, fun hc => ⟨_, rfl, ?keptDecaps⟩,
    fun tpl ht hc => ⟨_, rfl, ?credential⟩⟩
  case rows =>
    simp only [List.forall_mem_cons, hmal, hst, hok, hoff, Bool.and_eq_true, Bool.not_eq_true', beq_iff_eq, bne_iff_ne,
      decide_eq_true_eq, decide_eq_false_iff_not, Option.isNone_iff_eq_none]
    exact ⟨fun hc => ⟨_, rfl, hybSignDo_ends hc⟩,
      fun hc => ⟨_, rfl, hybVerifyDo_malformed hc⟩,
      fun hc => ⟨_, rfl, fun ⟨hm, hs⟩ => hybVerifyDo_refuses hc hm hs⟩,
      fun hc => ⟨_, rfl, fun ⟨hm, hs⟩ => hybVerifyDo_ends hc hm hs⟩,
      fun hc => ⟨_, rfl, hybKemEncapsDo_refuses hc⟩,
      fun hc => ⟨_, rfl, fun ⟨⟨hr, hs⟩, hz⟩ => hybKemEncapsDo_zero hc hr hs hz⟩,
      fun hc => ⟨_, rfl, fun ⟨⟨⟨hr, hs⟩, hz⟩, hk⟩ => hybKemEncapsDo_returns hc hr hs hz hk⟩,
      fun hc => ⟨_, rfl, hybKemDecapsDo_malformed hc⟩,
      fun hc => ⟨_, rfl, fun ⟨hf, hr⟩ => hybKemDecapsDo_refuses hc hf hr⟩,
      fun hc => ⟨_, rfl, fun ⟨⟨hf, hr⟩, hk⟩ => hybKemDecapsDo_returns hc hf hr hk⟩,
      fun hc => ⟨_, rfl, fun _ => hybPublicKeyDo_ends hc⟩,
      fun hc => ⟨_, rfl, certIssueDo_malformed hc⟩,
      fun hc => ⟨_, rfl, fun ⟨⟨hf, hcap⟩, hs⟩ => certIssueDo_ends hc hf hcap hs⟩,
      fun hc => ⟨_, rfl, mdocIssueDo_malformed hc⟩,
      fun hc => ⟨_, rfl, mdocIssueDo_ends hc⟩,
      fun hc => ⟨_, rfl, fun _ => tplLoadDo_ends hc⟩,
      fun hc => ⟨_, rfl, fun _ => tplDeleteDo_ends hc⟩,
      fun hc => ⟨_, rfl, credIssueDo_absent hc⟩,
      List.forall_mem_nil _⟩
  case keptEncaps =>
    simp only [Bool.and_eq_true, Bool.not_eq_true', beq_iff_eq]
    exact fun ⟨⟨⟨hr, hs⟩, hz⟩, hk⟩ => hybKemEncapsDo_makes hc hr hs hz hk
  case keptDecaps =>
    simp only [hoff, Bool.and_eq_true, Bool.not_eq_true', decide_eq_false_iff_not]
    exact fun ⟨⟨hf, hr⟩, hk⟩ => hybKemDecapsDo_makes hc hf hr hk
  case credential =>
    simp only [Bool.and_eq_true, Bool.not_eq_true']
    exact fun ⟨hcap, hs⟩ => credIssueDo_ends hc ht hcap hs

end Sys2Proof.Machine
end

section
/-! SUPPORT. What an instruction does on a Needle that runs a task (R277, R281, R288, R524). -/
namespace Sys2Proof.Machine

variable {s : State} {k : BitVec 5} {j : Job} {n n' : Needle} {e : Trap}

/-- Needle `k` runs the task of job `j`, its next instruction lies in the code segment, and its state is `n`. -/
def State.runsAt (s : State) (k : BitVec 5) (j : Job) (n : Needle) : Prop := runsTask s k j ∧ s.needle k.toNat = n

theorem onNeedle_runs {f : Job → Needle → State → State} (h : s.runsAt k j n) : onNeedle k f s = f j n s := by
  obtain ⟨⟨htask, hpc⟩, rfl⟩ := h
  simp [onNeedle, htask, Nat.not_le.mpr hpc]

theorem bolt_runs {f : Needle → NRes} (h : s.runsAt k j n) (hb : boltReady s k) : bolt k f s = settle k.toNat j s (f n) := by
  have hready : (n.bolt || s.pwr.gateIdle == 0) = true := by
    rw [Bool.or_eq_true, beq_iff_eq, ← h.2]
    exact hb
  exact (onNeedle_runs h).trans (if_pos hready)

/-! ## The ends of an instruction: on in order, at another address, with an exception -/

theorem stitch_goes {f : Needle → NRes} (h : s.runsAt k j n) (hf : f n = go n') : stitch k f s = ran s k n' :=
  (onNeedle_runs h).trans (congrArg (settle k.toNat j s) hf)

theorem stitch_jumps {f : Needle → NRes} (h : s.runsAt k j n) (hf : f n = .ok n') : stitch k f s = withNeedle s k n' :=
  (onNeedle_runs h).trans (congrArg (settle k.toNat j s) hf)

theorem stitch_traps {f : Needle → NRes} (h : s.runsAt k j n) (hf : f n = .error e) :
    stitch k f s = needleTrap k.toNat j s := (onNeedle_runs h).trans (congrArg (settle k.toNat j s) hf)

theorem bolt_goes {f : Needle → NRes} (h : s.runsAt k j n) (hb : boltReady s k) (hf : f n = go n') :
    bolt k f s = ran s k n' := (bolt_runs h hb).trans (congrArg (settle k.toNat j s) hf)

theorem bolt_traps {f : Needle → NRes} (h : s.runsAt k j n) (hb : boltReady s k) (hf : f n = .error e) :
    bolt k f s = needleTrap k.toNat j s := (bolt_runs h hb).trans (congrArg (settle k.toNat j s) hf)

end Sys2Proof.Machine
end

section
/-! SUPPORT. The values of the integer instructions (R282). -/
namespace Sys2Proof.Machine

variable (a b : BitVec 64)

theorem slt_eq_lt_toInt : (if a.toInt < b.toInt then 1 else 0 : BitVec 64) = if a.slt b then 1 else 0 := by
  simp only [BitVec.slt, decide_eq_true_eq]

theorem ult_eq_lt_toNat : (if a.toNat < b.toNat then 1 else 0 : BitVec 64) = if a.ult b then 1 else 0 := by
  simp only [BitVec.ult, decide_eq_true_eq]

theorem extractHigh_ofInt (p : Int) : (BitVec.ofInt 128 p).extractLsb' 64 64 = BitVec.ofInt 64 (p / 2 ^ 64) := by
  apply BitVec.eq_of_toNat_eq
  simp only [BitVec.extractLsb'_toNat, BitVec.toNat_ofInt, Nat.shiftRight_eq_div_pow]
  omega

theorem mulh_eq_extract :
    BitVec.ofInt 64 (a.toInt * b.toInt / 2 ^ 64) = (a.signExtend 128 * b.signExtend 128).extractLsb' 64 64 := by
  rw [← extractHigh_ofInt, BitVec.ofInt_mul]
  rfl

theorem mulhu_eq_extract :
    BitVec.ofNat 64 (a.toNat * b.toNat / 2 ^ 64) = (a.zeroExtend 128 * b.zeroExtend 128).extractLsb' 64 64 := by
  apply BitVec.eq_of_toNat_eq
  have h : a.toNat * b.toNat < 2 ^ 128 := by
    have := Nat.mul_lt_mul'' a.isLt b.isLt
    simpa using this
  simp only [BitVec.extractLsb'_toNat, BitVec.toNat_ofNat, BitVec.toNat_mul, Nat.shiftRight_eq_div_pow, BitVec.zeroExtend_eq_setWidth,
    BitVec.toNat_setWidth_of_le (show 64 ≤ 128 by decide), Nat.mod_eq_of_lt h]

theorem divs_eq_sdiv : divs a b = if b = 0 then BitVec.allOnes 64 else a.sdiv b := by
  unfold divs
  split
  · rfl
  · rw [← BitVec.toInt_inj, BitVec.toInt_sdiv, BitVec.toInt_ofInt]

theorem rems_eq_srem : rems a b = if b = 0 then a else a.srem b := by
  unfold rems
  split
  · rfl
  · rw [← BitVec.toInt_srem, BitVec.ofInt_toInt]

end Sys2Proof.Machine
end

section
/-! SUPPORT. The statement on the integer and immediate instructions. -/
namespace Sys2Proof.Machine

variable {s : State} {n : Needle} {k rd rs1 rs2 : BitVec 5} {j : Job}

theorem intOp_goes (f : BitVec 64 → BitVec 64 → BitVec 64) (h : s.runsAt k j n) :
    intOp k rd rs1 rs2 f s = ran s k (n.px rd (f (n.gx rs1) (n.gx rs2))) := stitch_goes h rfl

theorem immOp_goes (f : BitVec 64 → BitVec 64 → BitVec 64) {imm : BitVec 64} (h : s.runsAt k j n) :
    immOp k rd rs1 imm f s = ran s k (n.px rd (f (n.gx rs1) imm)) := stitch_goes h rfl

theorem shiftImm_goes (f : BitVec 64 → BitVec 64 → BitVec 64) {amount : BitVec 6} (h : s.runsAt k j n) :
    shiftImm k rd rs1 0 amount f s = ran s k (n.px rd (f (n.gx rs1) (amount.zeroExtend 64))) := stitch_goes h rfl

theorem luiDo_goes {imm : BitVec 16} (h : s.runsAt k j n) : luiDo k rd 0 imm s = ran s k (n.px rd (imm.signExtend 64 <<< 16)) :=
  stitch_goes h rfl

theorem movnzDo_goes (h : s.runsAt k j n) :
    movnzDo k rd rs1 rs2 s = ran s k (if n.gx rs2 = 0 then n else n.px rd (n.gx rs1)) := stitch_goes h rfl

/-- Settles O1: each instruction goes on in order with its value, by the law of its form; the comparisons, high products and signed
divisions also by the law of their value. -/
theorem integerInstructionsWriteTheirResult : Obligations.IntegerInstructionsWriteTheirResult := by
  unfold Obligations.IntegerInstructionsWriteTheirResult
  intro s k rd rs1 rs2 imm amount j h n a b z i
  have h : s.runsAt k j n := ⟨h, rfl⟩
  have op (f : BitVec 64 → BitVec 64 → BitVec 64) {v : BitVec 64} (hv : f a b = v) :
    (.next (intOp k rd rs1 rs2 f s) : Host.Outcome State Fault Refusal) = .next (ran s k (n.px rd v)) := hv ▸ next_congr (intOp_goes f h)
  have immediate (f : BitVec 64 → BitVec 64 → BitVec 64) (c : BitVec 64) :
    (.next (immOp k rd rs1 c f s) : Host.Outcome State Fault Refusal) = .next (ran s k (n.px rd (f a c))) := next_congr (immOp_goes f h)
  have shift (f : BitVec 64 → BitVec 64 → BitVec 64) {v : BitVec 64} (hv : f a (amount.zeroExtend 64) = v) :
    (.next (shiftImm k rd rs1 0 amount f s) : Host.Outcome State Fault Refusal) = .next (ran s k (n.px rd v)) :=
      hv ▸ next_congr (shiftImm_goes f h)
  have hm : (amount.zeroExtend 64).toNat % 64 = amount.toNat := by
    rw [BitVec.zeroExtend_eq_setWidth, BitVec.toNat_setWidth]
    omega
  refine ⟨forall_pair_of_forall_mem ?rows, next_congr (movnzDo_goes h)⟩
  simp only [List.forall_mem_cons]
  exact ⟨op (· + ·) rfl, op (· - ·) rfl, op (· &&& ·) rfl, op (· ||| ·) rfl, op (· ^^^ ·) rfl, op shl rfl, op shr rfl, op sar rfl,
    op _ (slt_eq_lt_toInt a b), op _ (ult_eq_lt_toNat a b), op (· * ·) rfl, op _ (mulh_eq_extract a b), op _ (mulhu_eq_extract a b),
    op divs (divs_eq_sdiv a b), op divu rfl, op rems (rems_eq_srem a b), op remu rfl,
    immediate (· + ·) i, immediate (· &&& ·) z, immediate (· ||| ·) z, immediate (· ^^^ ·) z,
    shift shl (congrArg _ hm), shift shr (congrArg _ hm), shift sar (congrArg _ hm), next_congr (luiDo_goes h), List.forall_mem_nil _⟩

end Sys2Proof.Machine
end

section
/-! SUPPORT. Registers, local memory and code addresses of a Needle: a read after a write, and when an access raises an exception
(R274, R275, R277 to R280). -/
namespace Sys2Proof.Machine

variable (n : Needle)

/-! ## Registers -/

@[simp] theorem gx_zero : n.gx 0 = 0 := if_pos rfl
@[simp] theorem px_zero (v : BitVec 64) : n.px 0 v = n := if_pos rfl
@[simp] theorem px_v (r : BitVec 5) (v : BitVec 64) : (n.px r v).v = n.v := by unfold Needle.px; split <;> rfl
@[simp] theorem px_mem (r : BitVec 5) (v : BitVec 64) : (n.px r v).mem = n.mem := by unfold Needle.px; split <;> rfl
@[simp] theorem px_window (r : BitVec 5) (v : BitVec 64) : (n.px r v).window = n.window := by unfold Needle.px; split <;> rfl
@[simp] theorem px_pc (r : BitVec 5) (v : BitVec 64) : (n.px r v).pc = n.pc := by unfold Needle.px; split <;> rfl

theorem gx_px (r q : BitVec 5) (v : BitVec 64) : (n.px r v).gx q = if q = r ∧ r ≠ 0 then v else n.gx q := by
  by_cases hr : r = 0
  · rw [hr, px_zero, if_neg fun h => h.2 rfl]
  by_cases hq : q = 0
  · rw [hq, if_neg fun h => hr h.1.symm, gx_zero, gx_zero]
  · simp only [Needle.gx, Needle.px, hr, hq, if_false, tget_tput, BitVec.toNat_inj, ne_eq, not_false_eq_true, and_true]

theorem gx_px_ne {r q : BitVec 5} (h : q ≠ r) (v : BitVec 64) : (n.px r v).gx q = n.gx q := by
  rw [gx_px, if_neg fun hq => h hq.1]

theorem gx_setPc (q : BitVec 5) (t : BitVec 64) : ({ n with pc := t } : Needle).gx q = n.gx q := rfl

theorem px_setPc (r : BitVec 5) (v t : BitVec 64) : { n with pc := t }.px r v = { n.px r v with pc := t } := by
  unfold Needle.px
  split <;> rfl

theorem gv_pv (r q : BitVec 5) (w : BitVec 2048) : (n.pv r w).gv q = if q = r then w else n.gv q := by
  simp only [Needle.gv, Needle.pv, tget_tput, BitVec.toNat_inj]

theorem low_of_replaced (w : BitVec 2048) (v : BitVec 64) : fld ((w >>> 64) <<< 64 ||| v.zeroExtend 2048) 0 64 = v := by
  ext i hi
  simp [fld, hi]
  omega

theorem high_of_replaced (w : BitVec 2048) (v : BitVec 64) : ((w >>> 64) <<< 64 ||| v.zeroExtend 2048) >>> 64 = w >>> 64 := by
  ext i hi
  by_cases h : 64 + i < 2048
  · simp [h]
  · simp [h, w.getLsbD_of_ge _ (Nat.not_lt.mp h)]

theorem gf_pf (r q : BitVec 5) (v : BitVec 64) : (n.pf r v).gf q = if q = r then v else n.gf q := by
  simp only [Needle.gf, Needle.pf, gv_pv]
  split
  · exact low_of_replaced ..
  · rfl

/-- Settles O2: each clause is a read after a write of the register's table; f[r] is the low word of v[r]. -/
theorem registerWritesReadBack : Obligations.RegisterWritesReadBack := by
  unfold Obligations.RegisterWritesReadBack
  intro n r q v w
  refine ⟨gx_zero n, px_zero n v, gx_px n r q v, gv_pv n r q w, ?_, gf_pf n r q v, ?_, fun hq => ?_, px_v n r v, px_mem n r v, px_pc n r v,
    rfl, rfl, rfl⟩
  · exact congrArg (fld · 0 64) ((gv_pv n r r w).trans (if_pos rfl))
  · rw [Needle.pf, gv_pv, if_pos rfl, high_of_replaced]
  · rw [Needle.pf, gv_pv, if_neg hq]

end Sys2Proof.Machine
end

section
/-! SUPPORT. Byte strings and the memories they are written to (R6, R278). -/
namespace Sys2Proof.Machine

/-! ## Little-endian numbers -/

theorem leBytes_eq_map (k v : Nat) : leBytes k v = (List.range k).map (fun i => BitVec.ofNat 8 (v / 256 ^ i)) := by
  induction k generalizing v with
  | zero => rfl
  | succ k ih =>
    simp [leBytes, ih, List.range_succ_eq_map, Function.comp_def, Nat.pow_succ', Nat.div_div_eq_div_mul]

@[simp] theorem leBytes_length (k v : Nat) : (leBytes k v).length = k := by simp [leBytes_eq_map]

theorem byteAt_leBytes {k i : Nat} (v : Nat) (h : i < k) : byteAt (leBytes k v) i = BitVec.ofNat 8 (v / 256 ^ i) := by
  simp [byteAt, leBytes_eq_map, h]

theorem ofLE_leBytes (k v : Nat) : ofLE (leBytes k v) = v % 256 ^ k := by
  induction k generalizing v with
  | zero => simp [leBytes, ofLE, Nat.mod_one]
  | succ k ih => rw [leBytes, ofLE, ih, BitVec.toNat_ofNat, show 256 ^ (k + 1) = 256 * 256 ^ k from Nat.pow_succ', Nat.mod_mul]

/-! ## Places of a byte string -/

theorem byteAt_append_left {as : Bytes} (bs : Bytes) {i : Nat} (h : i < as.length) : byteAt (as ++ bs) i = byteAt as i :=
  List.getD_append _ _ _ _ h

theorem byteAt_append_right (as bs : Bytes) (i : Nat) : byteAt (as ++ bs) (as.length + i) = byteAt bs i := by
  rw [byteAt, List.getD_append_right _ _ _ _ (Nat.le_add_right ..), Nat.add_sub_cancel_left]
  rfl

theorem byteAt_append_of_length {as : Bytes} {m : Nat} (h : as.length = m) (bs : Bytes) (i : Nat) :
    byteAt (as ++ bs) (m + i) = byteAt bs i :=
  h ▸ byteAt_append_right as bs i

theorem byteAt_past {bs : Bytes} {i : Nat} (h : bs.length ≤ i) : byteAt bs i = 0 := List.getD_eq_default _ _ h

theorem byteAt_take {bs : Bytes} {m i : Nat} (h : i < m) : byteAt (bs.take m) i = byteAt bs i := by
  simp [byteAt, List.getD_eq_getElem?_getD, h]

theorem byteAt_drop (bs : Bytes) (m i : Nat) : byteAt (bs.drop m) i = byteAt bs (m + i) := by
  simp [byteAt, List.getD_eq_getElem?_getD]

theorem byteAt_fit {bs : Bytes} {m i : Nat} (h : bs.length ≤ m) : byteAt (fit m bs) i = byteAt bs i := by
  rw [fit, cut, List.drop_zero, List.take_of_length_le h]
  by_cases hi : i < bs.length
  · exact byteAt_append_left _ hi
  · obtain ⟨d, rfl⟩ := Nat.exists_eq_add_of_le (Nat.not_lt.mp hi)
    rw [byteAt_append_right, byteAt_past (Nat.le_add_right ..)]
    simp only [byteAt, List.getD_eq_getElem?_getD, List.getElem?_replicate]
    split <;> rfl

@[simp] theorem fit_length (m : Nat) (bs : Bytes) : (fit m bs).length = m := by
  simp [fit, cut]

/-! ## Memories -/

theorem tget_writeBytes (m : List Host.Cell) (a : Nat) (bs : Bytes) (x : Nat) :
    tget (writeBytes m a bs) 0 x = if a ≤ x ∧ x < a + bs.length then byteAt bs (x - a) else tget m 0 x := by
  induction bs generalizing m a with
  | nil => exact (if_neg (by simp)).symm
  | cons b bs ih =>
    rw [writeBytes, ih, tget_tput, List.length_cons]
    rcases Nat.lt_trichotomy x a with hx | rfl | hx
    · rw [if_neg (by omega), if_neg (by omega), if_neg (by omega)]
    · rw [if_neg (by omega), if_pos rfl, if_pos (by omega), Nat.sub_self]
      rfl
    · obtain ⟨d, rfl⟩ := Nat.exists_eq_add_of_lt hx
      rw [show a + d + 1 - (a + 1) = d by omega, show a + d + 1 - a = d + 1 by omega, if_neg (by omega : a + d + 1 ≠ a)]
      exact if_congr (by omega) rfl rfl

theorem wf_writeBytes {m : List Host.Cell} (h : Memory.wf m = true) (a : Nat) (bs : Bytes) : Memory.wf (writeBytes m a bs) = true := by
  induction bs generalizing m a with
  | nil => exact h
  | cons b bs ih => exact ih (twf_tput a b h) (a + 1)

theorem le_of_mem_cellsOf {a : Nat} {bs : Bytes} {p : Host.Cell} (h : p ∈ cellsOf a bs) : a ≤ p.1 := by
  induction bs generalizing a with
  | nil => cases h
  | cons b bs ih =>
    rw [cellsOf] at h
    split at h
    · exact Nat.le_of_succ_le (ih h)
    · rcases List.mem_cons.mp h with rfl | h
      · exact Nat.le_refl _
      · exact Nat.le_of_succ_le (ih h)

theorem wf_cellsOf (a : Nat) (bs : Bytes) : Memory.wf (cellsOf a bs) = true := by
  induction bs generalizing a with
  | nil => rfl
  | cons b bs ih =>
    rw [cellsOf]
    split
    case isTrue => exact ih (a + 1)
    case isFalse hb => exact twf_cons hb (fun _ hp => le_of_mem_cellsOf hp) (ih (a + 1))

/-- Settles O5: by induction on the bytes, each of which is one write of a table or one cell put in front of higher ones. -/
theorem needleMemoryKeepsItsForm : Obligations.NeedleMemoryKeepsItsForm := by
  unfold Obligations.NeedleMemoryKeepsItsForm
  exact ⟨fun _ a bs h => wf_writeBytes h a bs, wf_cellsOf, tget_writeBytes⟩

end Sys2Proof.Machine
end

section
/-! SUPPORT. The data space and the code space of a Needle (R277 to R281). -/
namespace Sys2Proof.Machine

variable {n : Needle} {a k v : Nat} {bs : Bytes}

/-! ## Bytes and numbers of the data space -/

@[simp] theorem byte_px (r : BitVec 5) (w : BitVec 64) (x : Nat) : (n.px r w).byte x = n.byte x := by simp [Needle.byte]

theorem load_px (r : BitVec 5) (w : BitVec 64) (a k : Nat) : (n.px r w).load a k = n.load a k := by simp [Needle.load, Needle.bytes]

theorem byte_storeBytes (h : a + bs.length ≤ 0x40000) (x : Nat) :
    (n.storeBytes a bs).byte x = if a ≤ x ∧ x < a + bs.length then byteAt bs (x - a) else n.byte x := by
  simp only [Needle.byte, Needle.storeBytes, tget_writeBytes]
  by_cases hx : x < 0x40000
  · simp only [hx, if_true]
  · rw [if_neg hx, if_neg (by omega), if_neg hx]

theorem byte_store (h : a + k ≤ 0x40000) (v x : Nat) :
    (n.store a k v).byte x = if a ≤ x ∧ x < a + k then BitVec.ofNat 8 (v / 256 ^ (x - a)) else n.byte x := by
  rw [Needle.store, byte_storeBytes (by rwa [leBytes_length]), leBytes_length]
  split
  · exact byteAt_leBytes v (by omega)
  · rfl

theorem load_of_bytes (hv : v < 256 ^ k) (hb : ∀ i < k, n.byte (a + i) = BitVec.ofNat 8 (v / 256 ^ i)) : n.load a k = v := by
  have h : n.bytes a k = leBytes k v := by
    rw [leBytes_eq_map]
    exact List.map_congr_left fun i hi => hb i (List.mem_range.mp hi)
  rw [Needle.load, h, ofLE_leBytes, Nat.mod_eq_of_lt hv]

/-! ## Which accesses and transfers raise no exception -/

theorem accessTrap_eq_none {w : Bool} {a : BitVec 64} {k al : Nat} :
    accessTrap w a k al = none ↔ a.toNat % al = 0 ∧ a.toNat + k ≤ if w then 0x40000 else 0x41000 := by
  by_cases ha : a.toNat % al = 0
  · simp only [accessTrap, ha, ne_eq, not_true_eq_false, if_false, true_and, ite_eq_right_iff, reduceCtorEq, imp_false, Nat.not_lt]
  · simp [accessTrap, ha]

theorem readTrap_eq_none {a : BitVec 64} {b : Nat} : accessTrap false a b b = none ↔ readable a b := accessTrap_eq_none
theorem writeTrap_eq_none {a : BitVec 64} {b : Nat} : accessTrap true a b b = none ↔ writable a b := accessTrap_eq_none

theorem targetTrap_eq_none {t : BitVec 64} : targetTrap t = none ↔ codeTarget t := by
  unfold codeTarget
  by_cases ht : t.toNat % 4 = 0
  · simp [targetTrap, ht]
  · simp [targetTrap, ht]

/-! ## Scalar accesses -/

variable {rs1 : BitVec 5} {imm : BitVec 16} {b : Nat}

theorem loadThen_goes (f : Nat → Needle) (h : readable (n.ea rs1 imm) b) :
    n.loadThen rs1 imm b f = go (f (n.load (n.ea rs1 imm).toNat b)) := by
  rw [Needle.loadThen, readTrap_eq_none.mpr h]
  rfl

theorem loadThen_traps (f : Nat → Needle) (h : ¬ readable (n.ea rs1 imm) b) : ∃ e, n.loadThen rs1 imm b f = .error e := by
  obtain ⟨e, he⟩ := Option.ne_none_iff_exists'.mp (readTrap_eq_none.not.mpr h)
  exact ⟨e, by rw [Needle.loadThen, he]⟩

theorem storeReg_goes (w : BitVec 64) (h : writable (n.ea rs1 imm) b) :
    n.storeReg rs1 imm b w = go (n.store (n.ea rs1 imm).toNat b w.toNat) := by
  rw [Needle.storeReg, writeTrap_eq_none.mpr h]
  rfl

theorem storeReg_traps (w : BitVec 64) (h : ¬ writable (n.ea rs1 imm) b) : ∃ e, n.storeReg rs1 imm b w = .error e := by
  obtain ⟨e, he⟩ := Option.ne_none_iff_exists'.mp (writeTrap_eq_none.not.mpr h)
  exact ⟨e, by rw [Needle.storeReg, he]⟩

/-! ## Transfers -/

variable {t : BitVec 64}

theorem jump_goes (h : codeTarget t) : n.jump t = .ok { n with pc := t } := by rw [Needle.jump, targetTrap_eq_none.mpr h]

theorem jump_traps (h : ¬ codeTarget t) : ∃ e, n.jump t = .error e := by
  obtain ⟨e, he⟩ := Option.ne_none_iff_exists'.mp (targetTrap_eq_none.not.mpr h)
  exact ⟨e, by rw [Needle.jump, he]⟩

theorem rel_eq_mul {w : Nat} (off : BitVec w) : n.rel off = n.pc + off.signExtend 64 * 4 := by
  rw [Needle.rel, BitVec.shiftLeft_eq_mul_twoPow]
  rfl

end Sys2Proof.Machine
end

section
/-! SUPPORT. The statements on scalar loads, stores, branches and jumps (R279 to R281, R285). -/
namespace Sys2Proof.Machine

variable {s : State} {n : Needle} {k rd src rs1 rs2 : BitVec 5} {imm : BitVec 16} {b : Nat} {j : Job}

/-! ## Loads and stores -/

theorem loadOp_goes (f : Nat → BitVec 64) (h : s.runsAt k j n) (hr : readable (n.ea rs1 imm) b) :
    loadOp k rd rs1 imm b f s = ran s k (n.px rd (f (n.load (n.ea rs1 imm).toNat b))) := stitch_goes h (loadThen_goes _ hr)

theorem fldDo_goes (h : s.runsAt k j n) (hr : readable (n.ea rs1 imm) 8) :
    fldDo k rd rs1 imm s = ran s k (n.pf rd (BitVec.ofNat 64 (n.load (n.ea rs1 imm).toNat 8))) := stitch_goes h (loadThen_goes _ hr)

theorem storeOp_goes (h : s.runsAt k j n) (hw : writable (n.ea rs1 imm) b) :
    storeOp k src rs1 imm b s = ran s k (n.store (n.ea rs1 imm).toNat b (n.gx src).toNat) := stitch_goes h (storeReg_goes _ hw)

theorem fstDo_goes (h : s.runsAt k j n) (hw : writable (n.ea rs1 imm) 8) :
    fstDo k src rs1 imm s = ran s k (n.store (n.ea rs1 imm).toNat 8 (n.gf src).toNat) := stitch_goes h (storeReg_goes _ hw)

/-- Settles O3: a readable address raises no exception, so the load goes on with the number read. -/
theorem loadsReadTheDataSpace : Obligations.LoadsReadTheDataSpace := by
  unfold Obligations.LoadsReadTheDataSpace
  intro s k rd rs1 imm j h n a
  have h : s.runsAt k j n := ⟨h, rfl⟩
  have load (b : Nat) (f : Nat → BitVec 64) (hr : readable a b) :
    (.next (loadOp k rd rs1 imm b f s) : Host.Outcome State Fault Refusal) = .next (ran s k (n.px rd (f (n.load a.toNat b)))) :=
      next_congr (loadOp_goes f h hr)
  refine ⟨forall_triple_of_forall_mem ?rows, fun hr => next_congr (fldDo_goes h hr)⟩
  simp only [List.forall_mem_cons]
  exact ⟨load 1 _, load 2 _, load 4 _, load 8 _, load 1 _, load 2 _, load 4 _, List.forall_mem_nil _⟩

/-- Settles O4: a writable address raises no exception, and the bytes of the source are written to local memory alone. -/
theorem storesWriteExactlyTheirBytes : Obligations.StoresWriteExactlyTheirBytes := by
  unfold Obligations.StoresWriteExactlyTheirBytes
  intro s k src rs1 imm j h n a
  have h : s.runsAt k j n := ⟨h, rfl⟩
  have stored (c : Instr) (b : Nat) (v : BitVec 64) (hw : writable a b) (hc : exec c s = .next (ran s k (n.store a.toNat b v.toNat))) :
      ∃ m, exec c s = .next (ran s k { n with mem := m }) ∧ ∀ x, ({ n with mem := m } : Needle).byte x =
        if a.toNat ≤ x ∧ x < a.toNat + b then BitVec.ofNat 8 (v.toNat / 256 ^ (x - a.toNat)) else n.byte x :=
    ⟨_, hc, byte_store hw.2 v.toNat⟩
  refine forall_triple_of_forall_mem ?_
  simp only [List.forall_mem_cons]
  exact ⟨fun hw => stored _ _ _ hw (next_congr (storeOp_goes h hw)), fun hw => stored _ _ _ hw (next_congr (storeOp_goes h hw)),
    fun hw => stored _ _ _ hw (next_congr (storeOp_goes h hw)), fun hw => stored _ _ _ hw (next_congr (storeOp_goes h hw)),
    fun hw => stored _ _ _ hw (next_congr (fstDo_goes h hw)), List.forall_mem_nil _⟩

/-! ## Branches and jumps -/

variable {c : BitVec 4} {off : BitVec 12}

theorem cbrDo_taken (h : s.runsAt k j n) (hc : condHolds c (n.gx rs1) (n.gx rs2) = some true) (hu : c = 6 → rs1 = 0 ∧ rs2 = 0)
    (ht : codeTarget (n.rel off)) : cbrDo k c rs1 rs2 off s = withNeedle s k { n with pc := n.rel off } := by
  refine stitch_jumps h ?_
  have hn : ¬ (c = 6 ∧ (rs1 ≠ 0 ∨ rs2 ≠ 0)) := fun ⟨h6, hr⟩ => hr.elim (absurd (hu h6).1) (absurd (hu h6).2)
  simp only [hc, hn, if_false, if_true, jump_goes ht]

theorem cbrDo_falls (h : s.runsAt k j n) (hc : condHolds c (n.gx rs1) (n.gx rs2) = some false) (h6 : c ≠ 6) :
    cbrDo k c rs1 rs2 off s = ran s k n := by
  refine stitch_goes h ?_
  simp only [hc, h6, false_and, if_false, Bool.false_eq_true]

theorem jrDo_goes (h : s.runsAt k j n) (ht : codeTarget (n.gx rs1)) :
    jrDo k rs1 0 s = withNeedle s k { n with pc := n.gx rs1 } := stitch_jumps h (jump_goes ht)

/-- Settles O6: a condition that holds jumps, one that does not goes on; the six conditions by their definitions. -/
theorem branchesAndJumpsGoToTheirTarget : Obligations.BranchesAndJumpsGoToTheirTarget := by
  unfold Obligations.BranchesAndJumpsGoToTheirTarget
  intro s k rs1 rs2 off j h n a b t
  have h : s.runsAt k j n := ⟨h, rfl⟩
  have ht : n.rel off = t := rel_eq_mul off
  rw [← ht]
  have branch {c : BitVec 4} {holds : Bool} (hc : condHolds c a b = some holds) (h6 : c ≠ 6) :
      (holds = true → codeTarget (n.rel off) → exec (.cbr k c rs1 rs2 off) s = .next (withNeedle s k { n with pc := n.rel off })) ∧
      (holds = false → exec (.cbr k c rs1 rs2 off) s = .next (ran s k n)) :=
    ⟨fun hh ht => next_congr (cbrDo_taken h (hh ▸ hc) (absurd · h6) ht), fun hh => next_congr (cbrDo_falls h (hh ▸ hc) h6)⟩
  have hge : decide (b.toInt ≤ a.toInt) = !a.slt b := by rw [BitVec.slt, ← decide_not, decide_eq_decide, not_lt]
  have hgeu : decide (b.toNat ≤ a.toNat) = !a.ult b := by rw [BitVec.ult, ← decide_not, decide_eq_decide, not_lt]
  refine ⟨forall_pair_of_forall_mem ?_, fun ht => next_congr (cbrDo_taken h rfl (fun _ => ⟨rfl, rfl⟩) ht),
    fun ht => next_congr (jrDo_goes h ht)⟩
  simp only [List.forall_mem_cons]
  exact ⟨branch rfl (by decide), branch rfl (by decide), branch rfl (by decide), branch (congrArg some hge) (by decide),
    branch rfl (by decide), branch (congrArg some hgeu) (by decide), List.forall_mem_nil _⟩

end Sys2Proof.Machine
end

section
/-! SUPPORT. Frames: what CALL writes and what RET restores (R286, R287). -/
namespace Sys2Proof.Machine

/-! ## Words in a row -/

theorem flatten_words_length (ws : List Nat) : (ws.map (leBytes 8)).flatten.length = 8 * ws.length := by
  induction ws with
  | nil => rfl
  | cons w ws ih => rw [List.map_cons, List.flatten_cons, List.length_append, ih, leBytes_length, List.length_cons]; omega

theorem byteAt_flatten_words (ws : List Nat) {p i : Nat} (hp : p < ws.length) (hi : i < 8) :
    byteAt (ws.map (leBytes 8)).flatten (8 * p + i) = BitVec.ofNat 8 (ws[p] / 256 ^ i) := by
  induction ws generalizing p with
  | nil => exact absurd hp (Nat.not_lt_zero p)
  | cons w ws ih =>
    rw [List.map_cons, List.flatten_cons]
    cases p with
    | zero =>
      rw [Nat.mul_zero, Nat.zero_add, byteAt_append_left _ (by rwa [leBytes_length]), byteAt_leBytes w hi]
      rfl
    | succ p =>
      rw [show 8 * (p + 1) + i = (leBytes 8 w).length + (8 * p + i) by rw [leBytes_length]; omega, byteAt_append_right]
      exact ih (Nat.lt_of_succ_lt_succ hp)

/-! ## The registers of a mask -/

theorem mem_maskRegs {mask : BitVec 16} {r : Nat} : r ∈ maskRegs mask ↔ 8 ≤ r ∧ r < 24 ∧ mask.getLsbD (r - 8) = true := by
  simp only [maskRegs, List.mem_map, List.mem_filter, List.mem_range]
  constructor
  · rintro ⟨i, ⟨hi, hm⟩, rfl⟩
    exact ⟨by omega, by omega, by rwa [Nat.add_sub_cancel]⟩
  · rintro ⟨h8, h24, hm⟩
    exact ⟨r - 8, ⟨by omega, hm⟩, by omega⟩

theorem maskRegs_nodup (mask : BitVec 16) : (maskRegs mask).Nodup :=
  (List.nodup_range.filter _).map fun _ _ h => Nat.add_right_cancel h

theorem frame_fits (mask : BitVec 16) : 16 + 8 * (maskRegs mask).length ≤ frameSize mask := by
  unfold frameSize
  omega

/-- The header gives back the mask it was made for: the size of the frame lies above bit 15. -/
theorem fld_frameHeader (mask : BitVec 16) : fld (frameHeader mask) 0 16 = mask := by
  have hlo : (frameHeader mask).toNat % 2 ^ 32 = (mask.toNat + frameSize mask / 16 * 2 ^ 16) % 2 ^ 32 := by
    rw [frameHeader, BitVec.toNat_append, ← Nat.shiftLeft_add_eq_or_of_lt (BitVec.isLt _), Nat.shiftLeft_eq, Nat.mul_add_mod_self_right,
      BitVec.toNat_ofNat, Nat.mod_mod]
  apply BitVec.eq_of_toNat_eq
  rw [fld, BitVec.extractLsb'_toNat, Nat.shiftRight_zero]
  have := mask.isLt
  omega

/-! ## The frame in memory -/

variable {n : Needle} {mask : BitVec 16} {base : Nat}

/-- The words of a frame from its base on: return address, header, registers. -/
def Needle.frameWords (n : Needle) (mask : BitVec 16) : List Nat :=
  (n.pc + 4).toNat :: (frameHeader mask).toNat :: (maskRegs mask).map (fun r => (n.gx (BitVec.ofNat 5 r)).toNat)

theorem frameBytes_eq_words : n.frameBytes mask = fit (frameSize mask) ((n.frameWords mask).map (leBytes 8)).flatten := by
  simp [Needle.frameBytes, Needle.frameWords, Function.comp_def]

theorem frameWords_length : (n.frameWords mask).length = 2 + (maskRegs mask).length := by
  rw [Needle.frameWords, List.length_cons, List.length_cons, List.length_map]
  omega

theorem frameWords_lt {w : Nat} (h : w ∈ n.frameWords mask) : w < 256 ^ 8 := by
  simp only [Needle.frameWords, List.mem_cons, List.mem_map] at h
  rcases h with rfl | rfl | ⟨r, -, rfl⟩ <;> exact BitVec.isLt _

theorem frameBytes_length : (n.frameBytes mask).length = frameSize mask := fit_length ..

theorem frameWords_fit : ((n.frameWords mask).map (leBytes 8)).flatten.length ≤ frameSize mask := by
  rw [flatten_words_length, frameWords_length]
  exact (by omega : 8 * (2 + (maskRegs mask).length) ≤ 16 + 8 * (maskRegs mask).length).trans (frame_fits mask)

/-- A word of a frame that has been stored reads back. -/
theorem load_frame (hb : base + frameSize mask ≤ 0x40000) {p : Nat} (hp : p < (n.frameWords mask).length) :
    (n.storeBytes base (n.frameBytes mask)).load (base + 8 * p) 8 = (n.frameWords mask)[p] := by
  have hfit := frameWords_fit (n := n) (mask := mask)
  rw [flatten_words_length] at hfit
  refine load_of_bytes (frameWords_lt (List.getElem_mem hp)) fun i hi => ?_
  rw [byte_storeBytes (by rwa [frameBytes_length]), frameBytes_length, if_pos (by omega), frameBytes_eq_words,
    byteAt_fit frameWords_fit, ← byteAt_flatten_words _ hp hi]
  congr 1
  omega

theorem load_frame_return (hb : base + frameSize mask ≤ 0x40000) :
    (n.storeBytes base (n.frameBytes mask)).load base 8 = (n.pc + 4).toNat :=
  load_frame hb (p := 0) (by rw [frameWords_length]; omega)

theorem load_frame_header (hb : base + frameSize mask ≤ 0x40000) :
    (n.storeBytes base (n.frameBytes mask)).load (base + 8) 8 = (frameHeader mask).toNat :=
  load_frame hb (p := 1) (by rw [frameWords_length]; omega)

theorem load_frame_register (hb : base + frameSize mask ≤ 0x40000) {p : Nat} (hp : p < (maskRegs mask).length) :
    (n.storeBytes base (n.frameBytes mask)).load (base + 16 + 8 * p) 8 = (n.gx (BitVec.ofNat 5 (maskRegs mask)[p])).toNat := by
  rw [show base + 16 + 8 * p = base + 8 * (p + 2) by omega, load_frame hb (by rw [frameWords_length]; omega)]
  exact List.getElem_map ..

theorem byte_frame_padding (hb : base + frameSize mask ≤ 0x40000) {x : Nat} (hx : 16 + 8 * (maskRegs mask).length ≤ x)
    (hs : x < frameSize mask) : (n.storeBytes base (n.frameBytes mask)).byte (base + x) = 0 := by
  rw [byte_storeBytes (by rwa [frameBytes_length]), frameBytes_length, if_pos (by omega), frameBytes_eq_words, byteAt_fit frameWords_fit]
  apply byteAt_past
  rw [flatten_words_length, frameWords_length]
  omega

theorem byte_outside_frame (hb : base + frameSize mask ≤ 0x40000) {x : Nat} (hx : x < base ∨ base + frameSize mask ≤ x) :
    (n.storeBytes base (n.frameBytes mask)).byte x = n.byte x := by
  rw [byte_storeBytes (by rwa [frameBytes_length]), frameBytes_length, if_neg (by omega)]

/-- The Needle with a frame for a mask below x31, at the target of the call. -/
def Needle.framed (n : Needle) (mask : BitVec 16) (t : BitVec 64) : Needle :=
  let base := (n.gx 31).toNat - frameSize mask
  { n.storeBytes base (n.frameBytes mask) with pc := t }.px 31 (BitVec.ofNat 64 base)

theorem call_goes {t : BitVec 64} (ht : codeTarget t) (h16 : (n.gx 31).toNat % 16 = 0) (hs : frameSize mask ≤ (n.gx 31).toNat)
    (htop : (n.gx 31).toNat ≤ 0x40000) : n.call t mask = .ok (n.framed mask t) := by
  simp only [Needle.call, targetTrap_eq_none.mpr ht, h16, ne_eq, not_true_eq_false, if_false]
  rw [if_neg (by omega), Needle.framed, px_setPc]
  rfl

theorem call_traps {t : BitVec 64} (ht : ¬ codeTarget t) : ∃ e, n.call t mask = .error e := by
  obtain ⟨e, he⟩ := Option.ne_none_iff_exists'.mp (targetTrap_eq_none.not.mpr ht)
  exact ⟨e, by simp only [Needle.call, he]⟩

/-! ## Restoring registers -/

@[simp] theorem restore_mem (n : Needle) (a : Nat) (rs : List Nat) : (n.restore a rs).mem = n.mem := by
  induction rs generalizing n a with
  | nil => rfl
  | cons r rs ih => exact (ih ..).trans (px_mem ..)

@[simp] theorem restore_v (n : Needle) (a : Nat) (rs : List Nat) : (n.restore a rs).v = n.v := by
  induction rs generalizing n a with
  | nil => rfl
  | cons r rs ih => exact (ih ..).trans (px_v ..)

theorem ofNat_ne_of_ne {r : Nat} {q : BitVec 5} (hr : r < 32) (h : r ≠ q.toNat) : q ≠ BitVec.ofNat 5 r := by
  rintro rfl
  exact h (Nat.mod_eq_of_lt hr).symm

theorem gx_restore_other {rs : List Nat} {q : BitVec 5} (hrs : ∀ r ∈ rs, r < 32) (hq : q.toNat ∉ rs) (n : Needle) (a : Nat) :
    (n.restore a rs).gx q = n.gx q := by
  induction rs generalizing n a with
  | nil => rfl
  | cons r rs ih =>
    obtain ⟨hr, hrs⟩ := List.forall_mem_cons.mp hrs
    have hne : r ≠ q.toNat := (List.ne_of_not_mem_cons hq).symm
    exact (ih hrs (List.not_mem_of_not_mem_cons hq) ..).trans (gx_px_ne _ (ofNat_ne_of_ne hr hne) _)

theorem gx_restore {rs : List Nat} (hrs : ∀ r ∈ rs, 0 < r ∧ r < 32) (hd : rs.Nodup) (n : Needle) (a : Nat) {p : Nat} (hp : p < rs.length) :
    (n.restore a rs).gx (BitVec.ofNat 5 rs[p]) = BitVec.ofNat 64 (n.load (a + 8 * p) 8) := by
  induction rs generalizing n a p with
  | nil => exact absurd hp (Nat.not_lt_zero p)
  | cons r rs ih =>
    obtain ⟨⟨h0, hr⟩, hrs⟩ := List.forall_mem_cons.mp hrs
    obtain ⟨hnot, hd⟩ := List.nodup_cons.mp hd
    cases p with
    | zero =>
      have hself : (BitVec.ofNat 5 r).toNat = r := Nat.mod_eq_of_lt hr
      have h0 : BitVec.ofNat 5 r ≠ 0 := fun h => by rw [h] at hself; exact h0.ne hself
      refine (gx_restore_other (fun r hr => (hrs r hr).2) (by rw [List.getElem_cons_zero, hself]; exact hnot) ..).trans ?_
      rw [List.getElem_cons_zero, gx_px, if_pos ⟨rfl, h0⟩]
      rfl
    | succ p =>
      refine (ih hrs hd _ (a + 8) (Nat.lt_of_succ_lt_succ hp)).trans ?_
      rw [load_px]
      congr 2
      omega

/-- The Needle after RET on a frame for a mask at x31. -/
def Needle.returned (n : Needle) (mask : BitVec 16) : Needle :=
  let top := (n.gx 31).toNat
  { n.restore (top + 16) (maskRegs mask) with pc := BitVec.ofNat 64 (n.load top 8) }.px 31 (BitVec.ofNat 64 (top + frameSize mask))

theorem gx_returned_top : (n.returned mask).gx 31 = BitVec.ofNat 64 ((n.gx 31).toNat + frameSize mask) :=
  (gx_px ..).trans (if_pos ⟨rfl, by decide⟩)

theorem gx_returned_saved {p : Nat} (hp : p < (maskRegs mask).length) :
    (n.returned mask).gx (BitVec.ofNat 5 (maskRegs mask)[p]) = BitVec.ofNat 64 (n.load ((n.gx 31).toNat + 16 + 8 * p) 8) := by
  have hregs (r : Nat) (hr : r ∈ maskRegs mask) : 0 < r ∧ r < 32 := by have := mem_maskRegs.mp hr; omega
  have h31 : BitVec.ofNat 5 (maskRegs mask)[p] ≠ 31 := by
    obtain ⟨-, h24, -⟩ := mem_maskRegs.mp (List.getElem_mem hp)
    exact (ofNat_ne_of_ne (by omega) (h24.trans (by decide)).ne).symm
  rw [Needle.returned, gx_px_ne _ h31, gx_setPc, gx_restore hregs (maskRegs_nodup mask)]

theorem gx_returned_other {q : BitVec 5} (h31 : q ≠ 31) (hq : ¬(8 ≤ q.toNat ∧ q.toNat < 24 ∧ mask.getLsbD (q.toNat - 8) = true)) :
    (n.returned mask).gx q = n.gx q := by
  have hregs (r : Nat) (hr : r ∈ maskRegs mask) : r < 32 := by have := mem_maskRegs.mp hr; omega
  rw [Needle.returned, gx_px_ne _ h31, gx_setPc, gx_restore_other hregs (mem_maskRegs.not.mpr hq)]

theorem returned_pc : (n.returned mask).pc = BitVec.ofNat 64 (n.load (n.gx 31).toNat 8) := px_pc ..
theorem returned_mem : (n.returned mask).mem = n.mem := by simp only [Needle.returned, px_mem, restore_mem]
theorem returned_v : (n.returned mask).v = n.v := by simp only [Needle.returned, px_v, restore_v]

theorem ret_goes (h16 : (n.gx 31).toNat % 16 = 0) (htop : (n.gx 31).toNat + frameSize mask ≤ 0x41000)
    (hh : n.load ((n.gx 31).toNat + 8) 8 = (frameHeader mask).toNat) (ht : codeTarget (BitVec.ofNat 64 (n.load (n.gx 31).toNat 8))) :
    n.ret = .ok (n.returned mask) := by
  have hfits := frame_fits mask
  have hread (b : Nat) (hb : (n.gx 31).toNat + b ≤ 0x41000) : accessTrap false (n.gx 31) b 8 = none :=
    accessTrap_eq_none.mpr ⟨by omega, hb⟩
  simp only [Needle.ret, h16, ne_eq, not_true_eq_false, if_false, hread 16 (by omega), hh, BitVec.ofNat_toNat, BitVec.setWidth_eq,
    fld_frameHeader, hread _ htop, targetTrap_eq_none.mpr ht, Needle.returned, px_setPc]

theorem ret_traps (h16 : (n.gx 31).toNat % 16 ≠ 0) : n.ret = .error .align := by
  simp only [Needle.ret, h16, ne_eq, not_false_eq_true, if_true]

end Sys2Proof.Machine
end

section
/-! SUPPORT. The statement on calls and returns. -/
namespace Sys2Proof.Machine

variable {s : State} {n : Needle} {k rs1 : BitVec 5} {mask : BitVec 16} {off : BitVec 14} {j : Job}

theorem callDo_goes (h : s.runsAt k j n) (ht : codeTarget (n.rel off)) (h16 : (n.gx 31).toNat % 16 = 0)
    (hs : frameSize mask ≤ (n.gx 31).toNat) (htop : (n.gx 31).toNat ≤ 0x40000) :
    callDo k mask off s = withNeedle s k (n.framed mask (n.rel off)) := stitch_jumps h (call_goes ht h16 hs htop)

theorem callrDo_goes (h : s.runsAt k j n) (ht : codeTarget (n.gx rs1)) (h16 : (n.gx 31).toNat % 16 = 0)
    (hs : frameSize mask ≤ (n.gx 31).toNat) (htop : (n.gx 31).toNat ≤ 0x40000) :
    callrDo k rs1 mask s = withNeedle s k (n.framed mask (n.gx rs1)) := stitch_jumps h (call_goes ht h16 hs htop)

theorem retDo_goes (h : s.runsAt k j n) (h16 : (n.gx 31).toNat % 16 = 0) (htop : (n.gx 31).toNat + frameSize mask ≤ 0x41000)
    (hh : n.load ((n.gx 31).toNat + 8) 8 = (frameHeader mask).toNat) (ht : codeTarget (BitVec.ofNat 64 (n.load (n.gx 31).toNat 8))) :
    retDo k 0 0 s = withNeedle s k (n.returned mask) := stitch_jumps h (ret_goes h16 htop hh ht)

/-- Settles O7: the words of the stored frame read back, the rest of it is zero, and RET restores the registers of the mask from
consecutive words. -/
theorem callsBuildFramesThatReturnsUndo : Obligations.CallsBuildFramesThatReturnsUndo := by
  unfold Obligations.CallsBuildFramesThatReturnsUndo
  intro s k rs1 mask off j h n regs size lo top
  have h : s.runsAt k j n := ⟨h, rfl⟩
  have hlen : (maskRegs mask).length = regs.length := List.length_map _
  have hsize : frameSize mask = size := by rw [frameSize, hlen]
  have hheader : frameHeader mask = (~~~lo) ++ lo := by
    rw [frameHeader, hsize]
    rfl
  have hreg (p : Nat) (hp : p < regs.length) : (maskRegs mask)[p]'(hlen ▸ hp) = 8 + regs[p] :=
    (List.getElem_map ..).trans (Nat.add_comm ..)
  refine ⟨forall_pair_of_forall_mem ?calls, fun h16 htop hh ht => ?returns⟩
  case calls =>
    have frame (hs : size ≤ top) (htop : top ≤ 0x40000) (n' : Needle) (hn' : n' = n.storeBytes (top - size) (n.frameBytes mask)) :
        n'.load (top - size) 8 = (n.pc + 4).toNat ∧ n'.load (top - size + 8) 8 = ((~~~lo) ++ lo).toNat ∧
        (∀ p (hp : p < regs.length), n'.load (top - size + 16 + 8 * p) 8 = (n.gx (BitVec.ofNat 5 (8 + regs[p]))).toNat) ∧
        (∀ x, 16 + 8 * regs.length ≤ x → x < size → n'.byte (top - size + x) = 0) ∧
        (∀ x, (x < top - size ∨ top ≤ x) → n'.byte x = n.byte x) := by
      have hb : top - size + frameSize mask ≤ 0x40000 := by omega
      subst hn'
      refine ⟨load_frame_return hb, hheader ▸ load_frame_header hb, fun p hp => ?_, fun x hx hs => ?_, fun x hx => ?_⟩
      · rw [← hreg p hp]
        exact load_frame_register hb (hlen ▸ hp)
      · exact byte_frame_padding hb (hlen ▸ hx) (hsize ▸ hs)
      · exact byte_outside_frame hb (by omega)
    simp only [List.forall_mem_cons]
    rw [← rel_eq_mul, ← hsize]
    rw [← hsize] at frame
    exact ⟨fun ht h16 hs htop => ⟨_, next_congr (callDo_goes h ht h16 hs htop), frame hs htop _ rfl⟩,
      fun ht h16 hs htop => ⟨_, next_congr (callrDo_goes h ht h16 hs htop), frame hs htop _ rfl⟩, List.forall_mem_nil _⟩
  case returns =>
    exact ⟨n.returned mask, next_congr (retDo_goes h h16 (hsize ▸ htop) (hheader ▸ hh) ht), returned_pc, returned_mem,
      hsize ▸ gx_returned_top, returned_v, fun p hp => hreg p hp ▸ gx_returned_saved (hlen ▸ hp), fun r h31 hr => gx_returned_other h31 hr⟩

end Sys2Proof.Machine
end

section
/-! SUPPORT. The statement on the scalar floating-point instructions (R281, R290, R291). -/
namespace Sys2Proof.Machine

/-! ## A result and its flags -/

theorem raise_zero (n : Needle) : n.raise 0 = n := congrArg (fun fl => { n with fflags := fl }) BitVec.or_zero

theorem raise_px (n : Needle) (r : BitVec 5) (v : BitVec 64) (fl : BitVec 5) : (n.px r v).raise fl = (n.raise fl).px r v := by
  unfold Needle.px
  split <;> rfl

/-- The Needle with a result in f[r] and its flags raised, and the same with the result in x[r] (R290, R291). -/
def Needle.resultF (n : Needle) (r : BitVec 5) (v : FRes) : Needle := (n.raise v.flags).pf r v.val
def Needle.resultX (n : Needle) (r : BitVec 5) (v : FRes) : Needle := (n.raise v.flags).px r v.val

theorem resultF_flagless (n : Needle) (r : BitVec 5) (v : BitVec 64) : n.resultF r { val := v } = n.pf r v := by
  rw [Needle.resultF, raise_zero]

theorem resultX_flagless (n : Needle) (r : BitVec 5) (v : BitVec 64) : n.resultX r { val := v } = n.px r v := by
  rw [Needle.resultX, raise_zero]

theorem fcsr_eq_append (n : Needle) : n.fcsr = 0#56 ++ n.rm ++ n.fflags := by
  apply BitVec.eq_of_toNat_eq
  rw [Needle.fcsr, BitVec.toNat_ofNat, BitVec.toNat_append, BitVec.toNat_append, ← Nat.shiftLeft_add_eq_or_of_lt n.fflags.isLt,
    ← Nat.shiftLeft_add_eq_or_of_lt n.rm.isLt, Nat.shiftLeft_eq, Nat.shiftLeft_eq, BitVec.toNat_zero]
  have := n.rm.isLt
  have := n.fflags.isLt
  omega

/-! ## The instructions -/

variable {s : State} {n : Needle} {k rd rs1 rs2 : BitVec 5} {j : Job}

theorem fpOp_goes (f : BitVec 3 → BitVec 64 → BitVec 64 → FRes) (h : s.runsAt k j n) :
    fpOp k rd rs1 rs2 f s = ran s k (n.resultF rd (f n.rm (n.gf rs1) (n.gf rs2))) := stitch_goes h rfl

theorem fsqrtDo_goes (h : s.runsAt k j n) : fsqrtDo k rd rs1 0 s = ran s k (n.resultF rd (fsqrt n.rm (n.gf rs1))) := stitch_goes h rfl

theorem fmaDo_goes (h : s.runsAt k j n) :
    fmaDo k rd rs1 rs2 s = ran s k (n.resultF rd (fma n.rm (n.gf rs1) (n.gf rs2) (n.gf rd))) := stitch_goes h rfl

theorem fcvtDLDo_goes (h : s.runsAt k j n) : fcvtDLDo k rd rs1 0 s = ran s k (n.resultF rd (fcvtDL n.rm (n.gx rs1))) := stitch_goes h rfl

theorem fmvDXDo_goes (h : s.runsAt k j n) : fmvDXDo k rd rs1 0 s = ran s k (n.resultF rd { val := n.gx rs1 }) :=
  stitch_goes h (congrArg go (resultF_flagless ..).symm)

theorem fpCmp_goes (c : FCmp) (h : s.runsAt k j n) : fpCmp k rd rs1 rs2 c s = ran s k (n.resultX rd (fcmp c (n.gf rs1) (n.gf rs2))) :=
  stitch_goes h (congrArg go (raise_px ..))

theorem fcvtLDDo_goes (h : s.runsAt k j n) : fcvtLDDo k rd rs1 0 s = ran s k (n.resultX rd (fcvtLD n.rm (n.gf rs1))) :=
  stitch_goes h (congrArg go (raise_px ..))

theorem fmvXDDo_goes (h : s.runsAt k j n) : fmvXDDo k rd rs1 0 s = ran s k (n.resultX rd { val := n.gf rs1 }) :=
  stitch_goes h (congrArg go (resultX_flagless ..).symm)

theorem fcsrRDo_goes (h : s.runsAt k j n) : fcsrRDo k rd 0 0 s = ran s k (n.resultX rd { val := 0#56 ++ n.rm ++ n.fflags }) := by
  rw [resultX_flagless, ← fcsr_eq_append]
  exact stitch_goes h rfl

theorem fcsrWDo_goes (h : s.runsAt k j n) : fcsrWDo k 0 rs1 0 s = ran s k { n with
    rm := if (n.gx rs1).extractLsb' 5 3 < 4#3 then (n.gx rs1).extractLsb' 5 3 else n.rm
    fflags := (n.gx rs1).extractLsb' 0 5 } := stitch_goes h rfl

/-- Settles O8: each instruction goes on with its result, whose flags are raised beside the register write. -/
theorem scalarFloatsWriteResultAndFlags : Obligations.ScalarFloatsWriteResultAndFlags := by
  unfold Obligations.ScalarFloatsWriteResultAndFlags
  intro s k rd rs1 rs2 j h n x y
  have h : s.runsAt k j n := ⟨h, rfl⟩
  refine ⟨forall_pair_of_forall_mem ?floats, forall_pair_of_forall_mem ?integers, next_congr (fcsrWDo_goes h)⟩
  case floats =>
    have op (f : BitVec 3 → BitVec 64 → BitVec 64 → FRes) : (.next (fpOp k rd rs1 rs2 f s) : Host.Outcome State Fault Refusal) =
      .next (ran s k (n.resultF rd (f n.rm x y))) := next_congr (fpOp_goes f h)
    simp only [List.forall_mem_cons]
    exact ⟨op fadd, op fsub, op fmul, op fdiv, next_congr (fsqrtDo_goes h), next_congr (fmaDo_goes h), op (fun _ => fminmax false),
      op (fun _ => fminmax true), next_congr (fcvtDLDo_goes h), next_congr (fmvDXDo_goes h), List.forall_mem_nil _⟩
  case integers =>
    have comparison (c : FCmp) : (.next (fpCmp k rd rs1 rs2 c s) : Host.Outcome State Fault Refusal) =
      .next (ran s k (n.resultX rd (fcmp c x y))) := next_congr (fpCmp_goes c h)
    simp only [List.forall_mem_cons]
    exact ⟨comparison .eq, comparison .lt, comparison .le, next_congr (fcvtLDDo_goes h), next_congr (fmvXDDo_goes h),
      next_congr (fcsrRDo_goes h), List.forall_mem_nil _⟩

end Sys2Proof.Machine
end

section
/-! SUPPORT. NaN results and the corners of binary64 arithmetic (R290). -/
namespace Sys2Proof.Machine

/-! ## Which data are NaNs -/

theorem isNan_fdecode {x : BitVec 64} : (fdecode x).isNan = true ↔ (fld x 52 11).toNat = 2047 ∧ (fld x 0 52).toNat ≠ 0 := by
  unfold fdecode
  by_cases he : (fld x 52 11).toNat = 2047
  · by_cases hf : (fld x 0 52).toNat = 0 <;> simp [he, hf, FVal.isNan]
  · by_cases h0 : (fld x 52 11).toNat = 0 <;> simp [he, h0, FVal.isNan]

theorem eq_nan_of_isNan {v : FVal} (h : v.isNan = true) : v = .nan v.isSnan := by
  cases v with
  | nan s => rfl
  | inf neg => cases h
  | fin neg m e => cases h

/-- Up to infinity the largest exponent comes with a zero fraction. -/
theorem fraction_eq_zero_of_top_exponent {f m : Nat} (hm : m ≤ 2047 * 4503599627370496)
    (he : (f * 9223372036854775808 + m) / 4503599627370496 % 2048 = 2047) : (f * 9223372036854775808 + m) % 4503599627370496 = 0 := by
  omega

/-- No datum up to infinity is a NaN. -/
theorem fbits_not_nan (neg : Bool) {m : Nat} (hm : m ≤ 2047 * 2 ^ 52) : ¬ (fdecode (fbits neg m)).isNan = true := by
  rw [isNan_fdecode]
  rintro ⟨he, hf⟩
  have hflag : flag neg ≤ 1 := by cases neg <;> decide
  have hv : (fbits neg m).toNat = flag neg * 2 ^ 63 + m := by
    rw [fbits, BitVec.toNat_ofNat, Nat.mod_eq_of_lt]
    omega
  rw [fld, BitVec.extractLsb'_toNat, hv, Nat.shiftRight_eq_div_pow] at he
  rw [fld, BitVec.extractLsb'_toNat, hv, Nat.shiftRight_zero] at hf
  exact hf (fraction_eq_zero_of_top_exponent hm he)

/-- A result that is no NaN but the canonical one. -/
def FRes.canonical (r : FRes) : Prop := (fdecode r.val).isNan = true → r.val = canonNan

theorem canonical_nanRes (invalid : Bool) : (nanRes invalid).canonical := fun _ => rfl

theorem canonical_fbits (neg : Bool) {m : Nat} (hm : m ≤ 2047 * 2 ^ 52) (fl : BitVec 5) :
    FRes.canonical { val := fbits neg m, flags := fl } :=
  fun h => absurd h (fbits_not_nan neg hm)

theorem canonical_finf (neg : Bool) (fl : BitVec 5) : FRes.canonical { val := finf neg, flags := fl } :=
  canonical_fbits neg (Nat.le_refl _) fl

theorem canonical_fzero (neg : Bool) (fl : BitVec 5) : FRes.canonical { val := fzero neg, flags := fl } :=
  canonical_fbits neg (Nat.zero_le _) fl

/-! ## Rounding gives no NaN -/

theorem canonical_largest (neg toInf : Bool) (fl : BitVec 5) :
    FRes.canonical { val := if toInf then finf neg else fbits neg (2047 * 2 ^ 52 - 1), flags := fl } := by
  split
  · exact canonical_finf neg fl
  · exact canonical_fbits neg (Nat.sub_le ..) fl

theorem canonical_overflowRes (rm : BitVec 3) (neg : Bool) : (overflowRes rm neg).canonical := canonical_largest neg _ _

theorem canonical_roundPack (rm : BitVec 3) (neg : Bool) (m : Nat) (e : Int) : (roundPack rm neg m e).canonical := by
  unfold roundPack
  simp only
  split
  · exact canonical_overflowRes rm neg
  · exact canonical_fbits neg (by omega) _

theorem canonical_packInt (rm : BitVec 3) (zneg : Bool) (v e : Int) : (packInt rm zneg v e).canonical := by
  unfold packInt
  split
  · exact canonical_fzero zneg _
  · exact canonical_roundPack _ _ _ _

theorem canonical_packVal (rm : BitVec 3) (v : FVal) : (packVal rm v).canonical := by
  cases v with
  | nan s => exact canonical_nanRes s
  | inf n => exact canonical_finf n _
  | fin n m e => exact canonical_packInt _ _ _ _

/-! ## The operations -/

theorem canonical_faddVal (rm : BitVec 3) (a b : FVal) : (faddVal rm a b).canonical := by
  unfold faddVal
  split
  · exact canonical_packInt _ _ _ _
  · split
    · exact canonical_finf _ _
    · exact canonical_nanRes true
  · exact canonical_finf _ _
  · exact canonical_finf _ _
  · exact canonical_nanRes _

theorem canonical_fmul (rm : BitVec 3) (x y : BitVec 64) : (fmul rm x y).canonical := by
  unfold fmul
  simp only
  split
  · exact canonical_packVal _ _
  · exact canonical_nanRes _

theorem canonical_fma (rm : BitVec 3) (x y z : BitVec 64) : (fma rm x y z).canonical := by
  unfold fma
  simp only
  split
  · exact canonical_faddVal _ _ _
  · exact canonical_nanRes _

theorem canonical_fdiv (rm : BitVec 3) (x y : BitVec 64) : (fdiv rm x y).canonical := by
  unfold fdiv
  split
  case h_1 =>
    split
    · split
      · exact canonical_nanRes true
      · exact canonical_finf _ _
    · split
      · exact canonical_fzero _ _
      · exact canonical_roundPack _ _ _ _
  case h_2 => exact canonical_nanRes true
  case h_3 => exact canonical_finf _ _
  case h_4 => exact canonical_fzero _ _
  case h_5 => exact canonical_nanRes _

theorem canonical_fsqrt (rm : BitVec 3) (x : BitVec 64) : (fsqrt rm x).canonical := by
  unfold fsqrt
  split
  case h_1 s _ => exact canonical_nanRes s
  case h_2 =>
    split
    · exact canonical_nanRes true
    · exact canonical_finf false _
  case h_3 =>
    split
    · exact canonical_fzero _ _
    · split
      · exact canonical_nanRes true
      · exact canonical_roundPack _ _ _ _

/-- A minimum or maximum is the canonical NaN or an operand that is no NaN. -/
theorem fminmax_val (larger : Bool) (x y : BitVec 64) :
    (fminmax larger x y).val = canonNan ∨ (fdecode (fminmax larger x y).val).isNan = false := by
  unfold fminmax
  simp only
  split
  case isTrue => exact .inl rfl
  case isFalse hxy =>
    right
    split
    case isTrue hx => simpa [hx] using hxy
    case isFalse hx =>
      split
      case isTrue => simpa using hx
      case isFalse hy =>
        split
        · simpa using hx
        · simpa using hy

theorem canonical_fminmax (larger : Bool) (x y : BitVec 64) : (fminmax larger x y).canonical := fun h =>
  (fminmax_val larger x y).resolve_right (Bool.not_eq_false _ ▸ h)

/-- Settles O9: what an operation gives is the canonical NaN, an operand that is no NaN, or a datum up to infinity. -/
theorem floatNansAreCanonical : Obligations.FloatNansAreCanonical := by
  unfold Obligations.FloatNansAreCanonical
  intro rm x y z
  simp only [List.forall_mem_cons]
  exact ⟨canonical_faddVal _ _ _, canonical_faddVal _ _ _, canonical_fmul _ _ _, canonical_fdiv _ _ _, canonical_fsqrt _ _,
    canonical_fma _ _ _ _, canonical_fminmax _ _ _, canonical_fminmax _ _ _, canonical_packInt _ _ _ _, List.forall_mem_nil _⟩

/-! ## Comparisons, minima and conversions of NaNs -/

variable {x y : BitVec 64}

theorem fcmp_val_of_nan (c : FCmp) (h : (fdecode x).isNan = true ∨ (fdecode y).isNan = true) : (fcmp c x y).val = 0 := by
  rcases h with h | h <;> simp [fcmp, h]

theorem fcmp_flags_of_nan (c : FCmp) (h : (fdecode x).isNan = true ∨ (fdecode y).isNan = true) :
    (fcmp c x y).flags = 16 ↔ c ≠ .eq ∨ (fdecode x).isSnan = true ∨ (fdecode y).isSnan = true := by
  have hany : ((fdecode x).isNan || (fdecode y).isNan) = true := (Bool.or_eq_true ..).mpr h
  simp only [fcmp, hany, Bool.and_true, Bool.or_eq_true, bne_iff_ne]
  split
  case isTrue hc => exact iff_of_true rfl (by tauto)
  case isFalse hc => exact iff_of_false (by decide) (by tauto)

theorem fminmax_of_nan (larger : Bool) (hx : (fdecode x).isNan = true) (hy : (fdecode y).isNan = false) :
    (fminmax larger x y).val = y ∧ (fminmax larger y x).val = y := by simp [fminmax, hx, hy]

theorem fcvtLD_of_nan (rm : BitVec 3) (hx : (fdecode x).isNan = true) : fcvtLD rm x = { val := 0x7FFFFFFFFFFFFFFF, flags := 16 } := by
  rw [fcvtLD, eq_nan_of_isNan hx]

/-- Settles O10: NaN operands by the laws above, the two ends of the range by evaluation. -/
theorem floatCornersFollowTheRules : Obligations.FloatCornersFollowTheRules := by
  unfold Obligations.FloatCornersFollowTheRules
  exact ⟨fun c _ _ h => ⟨fcmp_val_of_nan c h, fcmp_flags_of_nan c h⟩, fun l _ _ hx hy => fminmax_of_nan l hx hy, by decide, by decide,
    fun rm _ hx => fcvtLD_of_nan rm hx, fun _ => ⟨rfl, rfl⟩⟩

end Sys2Proof.Machine
end

section
/-! SUPPORT. The elements of a vector register and the element-wise instructions (R293 to R295). -/
namespace Sys2Proof.Machine

/-! ## Elements put together read back -/

theorem ofElems_lt (w : Nat) (l : List Nat) : ofElems w l < 2 ^ (w * l.length) := by
  induction l with
  | nil => exact Nat.one_pos
  | cons e es ih =>
    have he : e % 2 ^ w < 2 ^ w := Nat.mod_lt _ (Nat.two_pow_pos w)
    rw [ofElems, List.length_cons, Nat.mul_succ, Nat.add_comm (w * _), Nat.pow_add]
    calc e % 2 ^ w + 2 ^ w * ofElems w es < 2 ^ w * (ofElems w es + 1) := by rw [Nat.mul_succ]; omega
      _ ≤ 2 ^ w * 2 ^ (w * es.length) := Nat.mul_le_mul_left _ ih

theorem ofElems_div (w : Nat) (l : List Nat) (i : Nat) : ofElems w l / 2 ^ (w * i) % 2 ^ w = l.getD i 0 % 2 ^ w := by
  induction l generalizing i with
  | nil => simp [ofElems]
  | cons e es ih =>
    cases i with
    | zero => simp [ofElems]
    | succ i =>
      rw [ofElems, Nat.mul_succ, Nat.add_comm (w * i), Nat.pow_add, ← Nat.div_div_eq_div_mul,
        Nat.add_mul_div_left _ _ (Nat.two_pow_pos w), Nat.mod_div_self, Nat.zero_add, ih]
      rfl

theorem elem_ofElems {w : Nat} {l : List Nat} (h : w * l.length ≤ 2048) (i : Nat) :
    elem (BitVec.ofNat 2048 (ofElems w l)) w i = l.getD i 0 % 2 ^ w := by
  rw [elem, BitVec.toNat_ofNat, Nat.mod_eq_of_lt ((ofElems_lt w l).trans_le (Nat.pow_le_pow_right (by decide) h)), ofElems_div]

/-- Settles O12: an element of the register is the list's, or the zero past its end. -/
theorem boltElementsReadBack : Obligations.BoltElementsReadBack := by
  unfold Obligations.BoltElementsReadBack
  intro w l _ h
  refine ⟨fun i hi => ?_, fun i hi => ?_⟩
  · rw [elem_ofElems h, List.getD_eq_getElem _ _ hi]
  · rw [elem_ofElems h, List.getD_eq_default _ _ hi, Nat.zero_mod]

/-! ## Integer instructions -/

variable {s : State} {n : Needle} {k vd vs1 vs2 : BitVec 5} {m : Bool} {j : Job}

theorem vecOp_goes (f : Nat → Nat → Nat → Nat) (h : s.runsAt k j n) (hb : boltReady s k) : vecOp k m vd vs1 vs2 f s =
    ran s k (n.fill n.ew m vd (fun i => f n.ew (elem (n.gv vs1) n.ew i) (elem (n.gv vs2) n.ew i))) := bolt_goes h hb rfl

theorem vecCmp_goes (f : Nat → Nat → Nat → Bool) (h : s.runsAt k j n) (hb : boltReady s k) : vecCmp k m vd vs1 vs2 f s =
    ran s k (n.fill 1 m vd (fun i => flag (f n.ew (elem (n.gv vs1) n.ew i) (elem (n.gv vs2) n.ew i)))) := bolt_goes h hb rfl

theorem vbcastDo_goes (h : s.runsAt k j n) (hb : boltReady s k) : vbcastDo k m vd vs1 0 s =
    ran s k (n.fill n.ew m vd (fun _ => (n.gx vs1).toNat)) := bolt_goes h hb rfl

/-- Settles O11: each instruction fills vd with its function of the elements. -/
theorem boltArithmeticComputesActiveElements : Obligations.BoltArithmeticComputesActiveElements := by
  unfold Obligations.BoltArithmeticComputesActiveElements
  intro s k vd vs1 vs2 m j h hb n w a b sg put
  have h : s.runsAt k j n := ⟨h, rfl⟩
  have op (f : Nat → Nat → Nat → Nat) : (.next (vecOp k m vd vs1 vs2 f s) : Host.Outcome State Fault Refusal) =
    .next (ran s k (put w (fun i => f w (a i) (b i)))) := next_congr (vecOp_goes f h hb)
  have comparison (f : Nat → Nat → Nat → Bool) : (.next (vecCmp k m vd vs1 vs2 f s) : Host.Outcome State Fault Refusal) =
    .next (ran s k (put 1 (fun i => if f w (a i) (b i) then 1 else 0))) := next_congr (vecCmp_goes f h hb)
  refine ⟨forall_pair_of_forall_mem ?arithmetic, forall_pair_of_forall_mem ?comparisons⟩
  case arithmetic =>
    simp only [List.forall_mem_cons]
    exact ⟨op (fun _ a b => a + b), op (fun w a b => a + 2 ^ w - b), op (fun _ a b => a &&& b), op (fun _ a b => a ||| b),
      op (fun _ a b => a ^^^ b), op (fun _ a b => a * b), op (fun w a b => a * b / 2 ^ w), op (fun w a b => a * 2 ^ (b % w)),
      op (fun w a b => a / 2 ^ (b % w)), op (fun w a b => (signedElem w a / 2 ^ (b % w) % 2 ^ w).toNat),
      op (fun w a b => if signedElem w a ≤ signedElem w b then a else b),
      op (fun w a b => if signedElem w a ≤ signedElem w b then b else a),
      op (fun _ a b => min a b), op (fun _ a b => max a b), next_congr (vbcastDo_goes h hb), List.forall_mem_nil _⟩
  case comparisons =>
    simp only [List.forall_mem_cons]
    exact ⟨comparison (fun _ a b => a == b), comparison (fun w a b => decide (signedElem w a < signedElem w b)),
      comparison (fun _ a b => decide (a < b)), List.forall_mem_nil _⟩

end Sys2Proof.Machine
end

section
/-! SUPPORT. The statements on VSETVL, VEXT, VRED.ADD, VSAD and the vector floating-point instructions (R292, R294, R298). -/
namespace Sys2Proof.Machine

variable {s : State} {n : Needle} {k vd vs1 vs2 : BitVec 5} {m sg : Bool} {j : Job}

theorem elementWidth_of_code : ∀ c : BitVec 5, c.toNat < 4 → 8 * 2 ^ (fld c 0 2).toNat = [8, 16, 32, 64].getD c.toNat 0 := by decide

theorem vsetvlDo_goes {ew : Nat} (hc : vs2.toNat < 4) (hew : [8, 16, 32, 64].getD vs2.toNat 0 = ew) (h : s.runsAt k j n)
    (hb : boltReady s k) :
    vsetvlDo k false vd vs1 vs2 s = ran s k { n.px vd (BitVec.ofNat 64 (min (n.gx vs1).toNat (2048 / ew))) with
      ew := ew, vl := min (n.gx vs1).toNat (2048 / ew) } := by
  refine bolt_goes h hb ?_
  rw [elementWidth_of_code vs2 hc, hew, Bool.false_or, if_neg (by simpa using Nat.le_of_lt_succ hc)]

theorem vextDo_goes (h : s.runsAt k j n) (hb : boltReady s k) : vextDo k false vd vs1 vs2 s =
    ran s k (if n.vl = 0 then n else n.px vd
      (if (n.gx vs2).toNat < n.vl then BitVec.ofNat 64 (elem (n.gv vs1) n.ew (n.gx vs2).toNat) else 0)) := by
  refine bolt_goes h hb ?_
  rw [if_neg Bool.false_ne_true]
  exact (apply_ite go ..).symm

theorem vredAddDo_goes (h : s.runsAt k j n) (hb : boltReady s k) : vredAddDo k m vd vs1 0 s =
    ran s k (n.fill n.ew false vd (fun i =>
      if i = 0 then ((n.actives m).map (elem (n.gv vs1) n.ew)).sum else elem (n.gv vd) n.ew i)) := by
  rw [List.sum_eq_foldl]
  exact bolt_goes h hb rfl

/-- Element `i` as VSAD reads it: signed where its S bit says so (R298). -/
def Needle.sadElem (n : Needle) (sg : Bool) (v : BitVec 5) (i : Nat) : Int :=
  if sg && decide (2 ^ (n.ew - 1) ≤ elem (n.gv v) n.ew i) then (elem (n.gv v) n.ew i : Int) - 2 ^ n.ew else elem (n.gv v) n.ew i

theorem sadElem_eq (n : Needle) (sg : Bool) (v : BitVec 5) (i : Nat) : n.sadElem sg v i =
    if sg then signedElem n.ew (elem (n.gv v) n.ew i) else (elem (n.gv v) n.ew i : Int) := by
  cases sg
  · rfl
  · simp [Needle.sadElem, signedElem]

theorem vsadDo_goes (h : s.runsAt k j n) (hb : boltReady s k) : vsadDo k m sg vd vs1 vs2 s =
    ran s k (n.px vd (BitVec.ofNat 64 (min ((n.actives m).map (fun i =>
      (n.sadElem sg vs1 i - n.sadElem sg vs2 i).natAbs)).sum (2 ^ 64 - 1)))) := by
  simp only [List.sum_eq_foldl, sadElem_eq]
  exact bolt_goes h hb rfl

/-- Settles O13: each clause is the law of its instruction. -/
theorem boltScalarsAndSetup : Obligations.BoltScalarsAndSetup := by
  unfold Obligations.BoltScalarsAndSetup
  intro s k vd vs1 vs2 m sg j h hb n w e act sv
  have h : s.runsAt k j n := ⟨h, rfl⟩
  exact ⟨fun hc => next_congr (vsetvlDo_goes hc rfl h hb), next_congr (vextDo_goes h hb), next_congr (vredAddDo_goes h hb),
    next_congr (vsadDo_goes h hb)⟩

/-! ## Floating point -/

/-- The Needle after a binary64 instruction with result `f` on each element; with VL = 0 it is as it was (R293, R294). -/
def Needle.fillFp (n : Needle) (m : Bool) (vd : BitVec 5) (f : Nat → FRes) : Needle :=
  if n.vl = 0 then n else (n.raise ((n.actives m).foldl (fun x i => x ||| (f i).flags) 0)).pv vd (BitVec.ofNat 2048 (ofElems 64
    ((List.range n.vl).map (fun i => if n.active m i then (f i).val.toNat else elem (n.gv vd) 64 i))))

theorem vecFp_goes {n : Needle} (hw : n.ew = 64) (f : Nat → FRes) : vecFp n m vd f = go (n.fillFp m vd f) := by
  rw [vecFp, if_neg (not_not.mpr hw)]
  by_cases hv : n.vl = 0
  · rw [Needle.fill, Needle.fillFp, if_pos hv, if_pos hv, Needle.actives, hv]
    exact congrArg go (raise_zero n)
  · rw [Needle.fill, Needle.fillFp, if_neg hv, if_neg hv]
    rfl

theorem vecFp2_goes (f : BitVec 3 → BitVec 64 → BitVec 64 → FRes) (hw : n.ew = 64) (h : s.runsAt k j n) (hb : boltReady s k) :
    vecFp2 k m vd vs1 vs2 f s = ran s k (n.fillFp m vd (fun i => f n.rm (n.fe vs1 i) (n.fe vs2 i))) :=
  bolt_goes h hb (vecFp_goes hw _)

theorem vecFp1_goes (f : BitVec 3 → BitVec 64 → FRes) (hw : n.ew = 64) (h : s.runsAt k j n) (hb : boltReady s k) :
    vecFp1 k m vd vs1 0 f s = ran s k (n.fillFp m vd (fun i => f n.rm (n.fe vs1 i))) :=
  bolt_goes h hb (vecFp_goes hw _)

theorem vfmaDo_goes (hw : n.ew = 64) (h : s.runsAt k j n) (hb : boltReady s k) :
    vfmaDo k m vd vs1 vs2 s = ran s k (n.fillFp m vd (fun i => fma n.rm (n.fe vs1 i) (n.fe vs2 i) (n.fe vd i))) :=
  bolt_goes h hb (vecFp_goes hw _)

/-- Settles O14: each instruction is its form on the elements as data. -/
theorem boltFloatsComputeActiveElements : Obligations.BoltFloatsComputeActiveElements := by
  unfold Obligations.BoltFloatsComputeActiveElements
  intro s k vd vs1 vs2 m j h hb hw n a b d act
  have h : s.runsAt k j n := ⟨h, rfl⟩
  have binary (f : BitVec 3 → BitVec 64 → BitVec 64 → FRes) : (.next (vecFp2 k m vd vs1 vs2 f s) : Host.Outcome State Fault Refusal) =
    .next (ran s k (n.fillFp m vd (fun i => f n.rm (a i) (b i)))) := next_congr (vecFp2_goes f hw h hb)
  have unary (f : BitVec 3 → BitVec 64 → FRes) : (.next (vecFp1 k m vd vs1 0 f s) : Host.Outcome State Fault Refusal) =
    .next (ran s k (n.fillFp m vd (fun i => f n.rm (a i)))) := next_congr (vecFp1_goes f hw h hb)
  refine forall_pair_of_forall_mem ?_
  simp only [List.forall_mem_cons]
  exact ⟨binary fadd, binary fsub, binary fmul, next_congr (vfmaDo_goes hw h hb), binary fdiv, unary fsqrt, unary fcvtDL, unary fcvtLD,
    List.forall_mem_nil _⟩

end Sys2Proof.Machine
end

section
/-! SUPPORT. Vector loads and stores (R296, R297). -/
namespace Sys2Proof.Machine

/-! ## Elements stored one after the other -/

/-- Stores `b` bytes of each element of a list at its address, in the order of the list. -/
def Needle.storeElems (n : Needle) (addr : Nat → BitVec 64) (b : Nat) (val : Nat → Nat) (l : List Nat) : Needle :=
  l.foldl (fun t i => t.store (addr i).toNat b (val i)) n

variable {addr : Nat → BitVec 64} {b : Nat} {val : Nat → Nat} {l : List Nat}

theorem storeElems_mem_only (n : Needle) : n.storeElems addr b val l = { n with mem := (n.storeElems addr b val l).mem } := by
  induction l generalizing n with
  | nil => rfl
  | cons i l ih => exact ih (n.store (addr i).toNat b (val i))

/-- No byte outside the elements changes. -/
theorem byte_storeElems_outside (hw : ∀ i ∈ l, writable (addr i) b) {x : Nat}
    (hx : ∀ i ∈ l, x < (addr i).toNat ∨ (addr i).toNat + b ≤ x) (n : Needle) : (n.storeElems addr b val l).byte x = n.byte x := by
  induction l generalizing n with
  | nil => rfl
  | cons i l ih =>
    obtain ⟨hwi, hw⟩ := List.forall_mem_cons.mp hw
    obtain ⟨hxi, hx⟩ := List.forall_mem_cons.mp hx
    refine (ih hw hx (n.store (addr i).toNat b (val i))).trans ?_
    rw [byte_store hwi.2, if_neg (by omega)]

/-- A byte of an element that no later element addresses holds that element's value. -/
theorem byte_storeElems_last (hw : ∀ i ∈ l, writable (addr i) b) (hl : l.Pairwise (· < ·)) {i x : Nat} (hi : i ∈ l) (hx : x < b)
    (hlast : ∀ i' ∈ l, i < i' → (addr i).toNat + x < (addr i').toNat ∨ (addr i').toNat + b ≤ (addr i).toNat + x) (n : Needle) :
    (n.storeElems addr b val l).byte ((addr i).toNat + x) = BitVec.ofNat 8 (val i / 256 ^ x) := by
  induction l generalizing n with
  | nil => cases hi
  | cons i0 l ih =>
    obtain ⟨hw0, hws⟩ := List.forall_mem_cons.mp hw
    obtain ⟨hrise, hrises⟩ := List.pairwise_cons.mp hl
    have hlasts := (List.forall_mem_cons.mp hlast).2
    rcases List.mem_cons.mp hi with rfl | hi
    · refine (byte_storeElems_outside hws (fun i' hi' => hlasts i' hi' (hrise i' hi')) (n.store (addr i).toNat b (val i))).trans ?_
      rw [byte_store hw0.2, if_pos (by omega), Nat.add_sub_cancel_left]
    · exact ih hws hrises hi hlasts (n.store (addr i0).toNat b (val i0))

/-! ## The instructions -/

theorem actives_rise (n : Needle) (m : Bool) : (n.actives m).Pairwise (· < ·) := List.pairwise_lt_range.filter _

theorem vload_goes {n : Needle} {m : Bool} (vd : BitVec 5) (h : ∀ i ∈ n.actives m, readable (addr i) (n.ew / 8)) :
    n.vload m vd addr = go (n.fill n.ew m vd (fun i => n.load (addr i).toNat (n.ew / 8))) := by
  have hnone : n.vecTrap false m addr = none := List.findSome?_eq_none_iff.mpr fun i hi => readTrap_eq_none.mpr (h i hi)
  rw [Needle.vload, hnone]

theorem vstore_goes {n : Needle} {m : Bool} (vd : BitVec 5) (h : ∀ i ∈ n.actives m, writable (addr i) (n.ew / 8)) :
    n.vstore m vd addr = go (n.storeElems addr (n.ew / 8) (elem (n.gv vd) n.ew) (n.actives m)) := by
  have hnone : n.vecTrap true m addr = none := List.findSome?_eq_none_iff.mpr fun i hi => writeTrap_eq_none.mpr (h i hi)
  rw [Needle.vstore, hnone]
  rfl

variable {s : State} {n : Needle} {k vd vs1 vs2 : BitVec 5} {m : Bool} {j : Job}

theorem vload_runs (addr : Needle → Nat → BitVec 64) (h : s.runsAt k j n) (hb : boltReady s k)
    (hr : ∀ i ∈ n.actives m, readable (addr n i) (n.ew / 8)) :
    bolt k (fun n => n.vload m vd (addr n)) s = ran s k (n.fill n.ew m vd (fun i => n.load (addr n i).toNat (n.ew / 8))) :=
  bolt_goes h hb (vload_goes vd hr)

theorem vstore_runs (addr : Needle → Nat → BitVec 64) (h : s.runsAt k j n) (hb : boltReady s k)
    (hw : ∀ i ∈ n.actives m, writable (addr n i) (n.ew / 8)) :
    bolt k (fun n => n.vstore m vd (addr n)) s = ran s k (n.storeElems (addr n) (n.ew / 8) (elem (n.gv vd) n.ew) (n.actives m)) :=
  bolt_goes h hb (vstore_goes vd hw)

/-- Settles O15: where no address raises an exception a load fills vd with the numbers read, and a store leaves what storing the active
elements in ascending order leaves. -/
theorem boltMemoryMovesActiveElements : Obligations.BoltMemoryMovesActiveElements := by
  unfold Obligations.BoltMemoryMovesActiveElements
  intro s k vd vs1 vs2 m j h hb n b act unit stride index
  have h : s.runsAt k j n := ⟨h, rfl⟩
  refine ⟨forall_pair_of_forall_mem ?loads, forall_pair_of_forall_mem ?stores⟩
  case loads =>
    simp only [List.forall_mem_cons]
    exact ⟨fun hr => next_congr (vload_runs (Needle.contig · vs1) h hb hr),
      fun hr => next_congr (vload_runs (Needle.strided · vs1 vs2) h hb hr),
      fun hr => next_congr (vload_runs (Needle.indexed · vs1 vs2) h hb hr), List.forall_mem_nil _⟩
  case stores =>
    have stored (c : Instr) (f : Nat → BitVec 64) (hw : ∀ i ∈ act, writable (f i) b)
        (hc : exec c s = .next (ran s k (n.storeElems f b (elem (n.gv vd) n.ew) act))) :
        ∃ mem, exec c s = .next (ran s k { n with mem := mem }) ∧
          (∀ x, (∀ i ∈ act, x < (f i).toNat ∨ (f i).toNat + b ≤ x) → ({ n with mem := mem } : Needle).byte x = n.byte x) ∧
          (∀ i ∈ act, ∀ x < b, (∀ i' ∈ act, i < i' → (f i).toNat + x < (f i').toNat ∨ (f i').toNat + b ≤ (f i).toNat + x) →
            ({ n with mem := mem } : Needle).byte ((f i).toNat + x) = BitVec.ofNat 8 (elem (n.gv vd) n.ew i / 256 ^ x)) := by
      refine ⟨(n.storeElems f b (elem (n.gv vd) n.ew) act).mem, ?_⟩
      rw [← storeElems_mem_only]
      exact ⟨hc, fun x hx => byte_storeElems_outside hw hx n,
        fun i hi x hx hlast => byte_storeElems_last hw (actives_rise n m) hi hx hlast n⟩
    simp only [List.forall_mem_cons]
    exact ⟨fun hw => stored _ _ hw (next_congr (vstore_runs (Needle.contig · vs1) h hb hw)),
      fun hw => stored _ _ hw (next_congr (vstore_runs (Needle.strided · vs1 vs2) h hb hw)),
      fun hw => stored _ _ hw (next_congr (vstore_runs (Needle.indexed · vs1 vs2) h hb hw)), List.forall_mem_nil _⟩

end Sys2Proof.Machine
end

section
/-! SUPPORT. The statement on the Press (R299). -/
namespace Sys2Proof.Machine

variable {s : State} {n : Needle} {k rd rs1 rs2 : BitVec 5} {j : Job}

theorem pressLoad_goes {b al : Nat} (f : Nat → Needle) (ha : (n.gx rs1).toNat % al = 0) (hl : (n.gx rs1).toNat + b ≤ 0x40000) :
    n.pressLoad rs1 b al f = go (f (n.load (n.gx rs1).toNat b)) := by
  rw [Needle.pressLoad, accessTrap_eq_none.mpr ⟨ha, hl⟩]

/-- A safe point stops a job only that is to stop. -/
theorem safePoint_eq_self (h : ∀ i ∈ s.jobs, i.stop = none) (id : Nat) : safePoint id s = s := by
  unfold safePoint
  split
  case h_1 i hi => rw [h i (List.mem_of_find?_eq_some hi)]
  case h_2 => rfl

theorem pldaDo_goes (h : s.runsAt k j n) (hs : ∀ i ∈ s.jobs, i.stop = none) (ha : (n.gx rs1).toNat % 64 = 0)
    (hl : (n.gx rs1).toNat + 64 ≤ 0x40000) :
    pldaDo k 0 rs1 0 s = ran s k { n with pa := BitVec.ofNat 512 (n.load (n.gx rs1).toNat 64) } := by
  have hload := pressLoad_goes (fun v => { n with pa := BitVec.ofNat 512 v }) ha hl
  have hstop := safePoint_eq_self (s := ran s k { n with pa := BitVec.ofNat 512 (n.load (n.gx rs1).toNat 64) }) hs j.id
  exact (onNeedle_runs h).trans ((congrArg (fun r => safePoint j.id (settle k.toNat j s r)) hload).trans hstop)

theorem pmacDo_goes (h : s.runsAt k j n) :
    pmacDo k 0 0 rs2 s = ran s k { n with acc := BitVec.ofNat 640 (n.acc.toNat + n.pa.toNat * (n.gx rs2).toNat) } := by
  rw [BitVec.ofNat_add, BitVec.ofNat_toNat, BitVec.setWidth_eq]
  exact stitch_goes h rfl

theorem pshrDo_goes (h : s.runsAt k j n) :
    pshrDo k rd 0 0 s = ran s k { n.px rd (n.acc.extractLsb' 0 64) with acc := n.acc >>> 64 } := stitch_goes h rfl

theorem prdDo_goes (h : s.runsAt k j n) (hi : (n.gx rs2).toNat < 10) :
    prdDo k rd 0 rs2 s = ran s k (n.px rd (n.acc.extractLsb' (64 * (n.gx rs2).toNat) 64)) :=
  stitch_goes h (if_neg (Nat.not_lt.mpr (Nat.le_of_lt_succ hi)))

theorem pclrDo_goes (h : s.runsAt k j n) : pclrDo k 0 0 0 s = ran s k { n with acc := 0 } := stitch_goes h rfl

theorem pldaccDo_goes (h : s.runsAt k j n) (ha : (n.gx rs1).toNat % 16 = 0) (hl : (n.gx rs1).toNat + 80 ≤ 0x40000) :
    pldaccDo k 0 rs1 0 s = ran s k { n with acc := BitVec.ofNat 640 (n.load (n.gx rs1).toNat 80) } := by
  have hload := pressLoad_goes (fun v => { n with acc := BitVec.ofNat 640 v }) ha hl
  exact stitch_goes h hload

/-- Settles O16: each clause is the law of its instruction. -/
theorem pressComputes : Obligations.PressComputes := by
  unfold Obligations.PressComputes
  intro s k rd rs1 rs2 j h n p
  have h : s.runsAt k j n := ⟨h, rfl⟩
  exact ⟨fun ha hl hs => next_congr (pldaDo_goes h hs ha hl), next_congr (pmacDo_goes h), next_congr (pshrDo_goes h),
    fun hi => next_congr (prdDo_goes h hi), next_congr (pclrDo_goes h), fun ha hl => next_congr (pldaccDo_goes h ha hl)⟩

end Sys2Proof.Machine
end

section
/-! SUPPORT. The task instructions: input, output, keys, random numbers and the end (R300, R301). -/
namespace Sys2Proof.Machine

variable {s : State} {n : Needle} {k rd rs1 rs2 : BitVec 5} {arg : BitVec 4} {j : Job}

/-! ## Staging -/

theorem bytes_length (n : Needle) (a m : Nat) : (n.bytes a m).length = m := by rw [Needle.bytes, List.length_map, List.length_range]

theorem byteAt_bytes (n : Needle) (a : Nat) {m x : Nat} (h : x < m) : byteAt (n.bytes a m) x = n.byte (a + x) := by
  simp [byteAt, Needle.bytes, h]

theorem freeBytes_length (s : State) (m : Nat) : (freeBytes s m).length = m := by simp [freeBytes, Config.freeBytes]

variable {old new gap : Bytes} {off : Nat}

theorem stageAt_nil : stageAt old off [] gap = old := if_pos rfl

/-- What stands below the offset after staging: the old bytes, then the gap. -/
theorem staged_below_length (hgap : off ≤ gap.length) : ((old ++ gap.take (off - old.length)).take off).length = off := by
  simp
  omega

theorem stageAt_length (hgap : off ≤ gap.length) (hnew : new ≠ []) :
    (stageAt old off new gap).length = max (off + new.length) old.length := by
  rw [stageAt, if_neg hnew, List.length_append, List.length_append, staged_below_length hgap, List.length_drop]
  omega

theorem byteAt_stageAt_new (hgap : off ≤ gap.length) {x : Nat} (hx : x < new.length) :
    byteAt (stageAt old off new gap) (off + x) = byteAt new x := by
  have hbelow := staged_below_length (old := old) hgap
  have hnew : new ≠ [] := List.ne_nil_of_length_pos (Nat.zero_lt_of_lt hx)
  have hlt : off + x < ((old ++ gap.take (off - old.length)).take off ++ new).length := by rw [List.length_append, hbelow]; omega
  rw [stageAt, if_neg hnew, byteAt_append_left _ hlt, byteAt_append_of_length hbelow]

theorem byteAt_stageAt_old (hgap : off ≤ gap.length) {x : Nat} (hx : x < old.length) (hout : x < off ∨ off + new.length ≤ x) :
    byteAt (stageAt old off new gap) x = byteAt old x := by
  have hbelow := staged_below_length (old := old) hgap
  by_cases hnew : new = []
  · rw [hnew, stageAt_nil]
  rw [stageAt, if_neg hnew, List.append_assoc]
  rcases hout with hlow | hhigh
  · rw [byteAt_append_left _ (by rwa [hbelow]), byteAt_take hlow, byteAt_append_left _ hx]
  · obtain ⟨d, rfl⟩ := Nat.exists_eq_add_of_le hhigh
    rw [← List.append_assoc, byteAt_append_of_length (by rw [List.length_append, hbelow]), byteAt_drop]

/-! ## Input and output -/

theorem fxinDo_goes (h : s.runsAt k j n) (hd : (n.gx rd).toNat + (n.gx rs2).toNat ≤ 0x40000)
    (hp : (n.gx rs1).toNat + (n.gx rs2).toNat ≤ (j.input arg.toNat).length) :
    fxinDo k rd rs1 rs2 arg s =
      ran s k (n.storeBytes (n.gx rd).toNat (((j.input arg.toNat).drop (n.gx rs1).toNat).take (n.gx rs2).toNat)) := by
  refine (onNeedle_runs h).trans ?_
  rw [if_neg (by simp only [Job.inputLength, leavesLocal, decide_eq_true_eq]; omega)]
  rfl

theorem byte_storeBytes_slice {input : Bytes} {d p len : Nat} (hd : d + len ≤ 0x40000) (hp : p + len ≤ input.length) (x : Nat) :
    (n.storeBytes d ((input.drop p).take len)).byte x = if d ≤ x ∧ x < d + len then byteAt input (p + (x - d)) else n.byte x := by
  have hlen : ((input.drop p).take len).length = len := by
    rw [List.length_take, List.length_drop]
    omega
  rw [byte_storeBytes (by rwa [hlen]), hlen]
  split
  · rw [byteAt_take (by omega), byteAt_drop]
  · rfl

/-- The staging of an output argument after FXOUT. -/
def State.fxoutStaging (s : State) (n : Needle) (d p len arg : Nat) : Bytes :=
  stageAt (tget n.fxout [] arg) p (n.bytes d len) (freeBytes s p)

theorem fxoutDo_goes (h : s.runsAt k j n) (hd : (n.gx rd).toNat + (n.gx rs2).toNat ≤ 0x40000)
    (hp : (n.gx rs1).toNat + (n.gx rs2).toNat ≤ s.outputMax j arg.toNat) :
    fxoutDo k rd rs1 rs2 arg s = fresh (ran s k { n with
      fxout := tput n.fxout [] arg.toNat (s.fxoutStaging n (n.gx rd).toNat (n.gx rs1).toNat (n.gx rs2).toNat arg.toNat) }) := by
  refine (onNeedle_runs h).trans ?_
  rw [if_neg (by simp only [leavesLocal, decide_eq_true_eq]; omega)]
  rfl

theorem fxoutStaging_length (n : Needle) (d p len arg : Nat) : (s.fxoutStaging n d p len arg).length =
    if len = 0 then (tget n.fxout [] arg).length else max (p + len) (tget n.fxout [] arg).length := by
  unfold State.fxoutStaging
  split
  case isTrue hz => rw [hz]; exact congrArg List.length stageAt_nil
  case isFalse hz =>
    rw [stageAt_length (freeBytes_length s p).ge (List.ne_nil_of_length_pos (by rw [bytes_length]; omega)), bytes_length]

theorem byteAt_fxoutStaging_new (n : Needle) (d p arg : Nat) {len x : Nat} (hx : x < len) :
    byteAt (s.fxoutStaging n d p len arg) (p + x) = n.byte (d + x) :=
  (byteAt_stageAt_new (freeBytes_length s p).ge (by rwa [bytes_length])).trans (byteAt_bytes n d hx)

theorem byteAt_fxoutStaging_old {n : Needle} (d : Nat) {p len arg x : Nat} (hx : x < (tget n.fxout [] arg).length)
    (hout : x < p ∨ p + len ≤ x) : byteAt (s.fxoutStaging n d p len arg) x = byteAt (tget n.fxout [] arg) x :=
  byteAt_stageAt_old (freeBytes_length s p).ge hx (by rwa [bytes_length])

/-! ## Keys -/

theorem xorBytes_cancel {as bs : Bytes} (h : as.length = bs.length) : xorBytes as (xorBytes as bs) = bs := by
  induction as generalizing bs with
  | nil => rw [List.length_eq_zero_iff.mp h.symm]; rfl
  | cons a as ih =>
    cases bs with
    | nil => cases h
    | cons b bs => rw [xorBytes, xorBytes, ih (Nat.succ.inj h), ← BitVec.xor_assoc, BitVec.xor_self, BitVec.zero_xor]

theorem drawShares_join {material : Bytes} (h : material.length ≤ 2048) : (drawShares s material).1.length = material.length ∧
    xorBytes (drawShares s material).1 (drawShares s material).2 = material := by
  have hmask : (freeBytes s (min material.length 2048)).length = material.length := by rw [freeBytes_length, Nat.min_eq_left h]
  refine ⟨hmask, ?_⟩
  rw [drawShares, List.take_of_length_le h]
  exact xorBytes_cancel hmask

theorem krecvDo_delivers {b : Bound} {bs : List Bound} (h : s.runsAt k j n) (hb : j.bound = b :: bs) :
    krecvDo k rd 0 0 0 s = fresh (ran s k
      { n.px rd (BitVec.ofNat 64 (n.shares.getD (drawShares s b.material)).1.length) with
        shares := some (n.shares.getD (drawShares s b.material))
        window := cellsOf 0 (fit 2048 (n.shares.getD (drawShares s b.material)).1) ++
          cellsOf 2048 (fit 2048 (n.shares.getD (drawShares s b.material)).2) }) := by
  refine (onNeedle_runs h).trans ?_
  rw [if_neg (by decide), hb]
  rfl

theorem krecvDo_keyless (h : s.runsAt k j n) (hb : j.bound = []) :
    krecvDo k rd 0 0 0 s = fresh (ran s k (n.px rd (BitVec.ofNat 64 (Config.freeNat s.freeCtr)))) := by
  refine (onNeedle_runs h).trans ?_
  rw [if_neg (by decide), hb]
  rfl

/-! ## Random numbers -/

theorem randDo_draws (h : s.runsAt k j n) (hs : s.stalled (0x40 + k.toNat) = false) : randDo k rd 0 0 0 s =
    fresh (ran (s.modGen (68 + k.toNat) (fun g => { g with draws := g.draws + 1 })) k
      (n.px rd (BitVec.ofNat 64 (Config.freeNat s.freeCtr)))) := by
  refine (onNeedle_runs h).trans ?_
  rw [if_neg (by decide), if_neg (ne_true_of_eq_false hs)]
  rfl

theorem randDo_waits (h : s.runsAt k j n) (hs : s.stalled (0x40 + k.toNat) = true) : randDo k rd 0 0 0 s = s := by
  refine (onNeedle_runs h).trans ?_
  rw [if_neg (by decide), if_pos hs]

/-! ## The end of a task -/

theorem endTaskDo_decides (h : s.runsAt k j n) : endTaskDo k 0 rs1 0 0 s =
    decideJob j.id (if knownStatus.contains ((n.gx rs1).toNat % 65536) then (n.gx rs1).toNat % 65536
      else stEngineFault) n.fxout (s.modNeedle k.toNat (fun _ => {})) := by
  refine (onNeedle_runs h).trans ?_
  rw [if_neg (by decide)]

theorem job_of_runsTask (h : runsTask s k j) : ∃ i, s.job? j.id = some i := by
  have htask := h.1
  unfold State.task at htask
  split at htask
  · exact Option.isSome_iff_exists.mp (List.find?_isSome.mpr ⟨j, List.mem_of_find?_eq_some htask, beq_self_eq_true _⟩)
  · cases htask

/-- What the end of a task leaves: a wiped Needle and the job decided with its status. -/
theorem endTask_leaves (h : s.runsAt k j n) (st : Nat) (outs : List (Nat × Bytes)) :
    (decideJob j.id st outs (s.modNeedle k.toNat (fun _ => {}))).needle k.toNat = {} ∧
    decidedAs (decideJob j.id st outs (s.modNeedle k.toNat (fun _ => {}))) j.id st (if st = 0 then outs else []) := by
  obtain ⟨i, hi⟩ := job_of_runsTask h.1
  have hwiped : (s.modNeedle k.toNat (fun _ => {})).job? j.id = some i := (job_congr (modNeedle_jobs ..) j.id).trans hi
  have heng : (decideJob j.id st outs (s.modNeedle k.toNat (fun _ => {}))).eng = (s.modNeedle k.toNat (fun _ => {})).eng := by
    rw [(decideJob_onlyJob ..).1]
  refine ⟨?_, decideJob_decides st outs hwiped⟩
  rw [State.needle, heng]
  exact needle_modNeedle s k.toNat (fun _ => {})

/-- Settles O17: each clause is the law of its instruction; the bytes of a staging and the shares of a key by the laws above. -/
theorem taskInstructionsMoveDataAndEnd : Obligations.TaskInstructionsMoveDataAndEnd := by
  unfold Obligations.TaskInstructionsMoveDataAndEnd
  intro s k rd rs1 rs2 arg j h n d p len input old st
  have h : s.runsAt k j n := ⟨h, rfl⟩
  have hend : exec (.endTask k 0 rs1 0 0) s = .next (decideJob j.id st n.fxout (s.modNeedle k.toNat (fun _ => {}))) :=
    next_congr (endTaskDo_decides h)
  refine ⟨fun hd hp => ⟨_, next_congr (fxinDo_goes h hd hp), byte_storeBytes_slice hd hp⟩,
    fun hd hp => ⟨_, next_congr (fxoutDo_goes h hd hp), fxoutStaging_length n d p len _, fun _ hx => byteAt_fxoutStaging_new n d p _ hx,
      fun _ hx hout => byteAt_fxoutStaging_old d hx hout⟩,
    fun b bs hb => next_congr (krecvDo_delivers h hb), fun m hm => drawShares_join hm, fun hb => ⟨_, next_congr (krecvDo_keyless h hb)⟩,
    fun hs => ⟨_, _, next_congr (randDo_draws h hs)⟩, fun hs => next_congr (randDo_waits h hs), hend, fun t ht => ?_⟩
  rw [hend] at ht
  cases ht
  exact endTask_leaves h st n.fxout

end Sys2Proof.Machine
end

section
/-! SUPPORT. The statement on exceptions (R288). -/
namespace Sys2Proof.Machine

variable {s : State} {n : Needle} {k rd src rs1 rs2 : BitVec 5} {imm mask : BitVec 16} {b : Nat} {j : Job}

theorem loadOp_traps (f : Nat → BitVec 64) (h : s.runsAt k j n) (hr : ¬ readable (n.ea rs1 imm) b) :
    loadOp k rd rs1 imm b f s = needleTrap k.toNat j s := by
  obtain ⟨e, he⟩ := loadThen_traps (fun v => n.px rd (f v)) hr
  exact stitch_traps h he

theorem fldDo_traps (h : s.runsAt k j n) (hr : ¬ readable (n.ea rs1 imm) 8) :
    fldDo k rd rs1 imm s = needleTrap k.toNat j s := by
  obtain ⟨e, he⟩ := loadThen_traps (fun v => n.pf rd (BitVec.ofNat 64 v)) hr
  exact stitch_traps h he

theorem storeOp_traps (h : s.runsAt k j n) (hw : ¬ writable (n.ea rs1 imm) b) :
    storeOp k src rs1 imm b s = needleTrap k.toNat j s := by
  obtain ⟨e, he⟩ := storeReg_traps (n.gx src) hw
  exact stitch_traps h he

theorem fstDo_traps (h : s.runsAt k j n) (hw : ¬ writable (n.ea rs1 imm) 8) :
    fstDo k src rs1 imm s = needleTrap k.toNat j s := by
  obtain ⟨e, he⟩ := storeReg_traps (n.gf src) hw
  exact stitch_traps h he

theorem condHolds_reserved {c : BitVec 4} (h : 7 ≤ c.toNat) (x y : BitVec 64) : condHolds c x y = none := by
  unfold condHolds
  split
  case h_8 => rfl
  all_goals exact absurd h (by decide)

theorem cbrDo_traps {c : BitVec 4} {off : BitVec 12} (h : s.runsAt k j n) (hc : 7 ≤ c.toNat) :
    cbrDo k c rs1 rs2 off s = needleTrap k.toNat j s := by
  refine stitch_traps (e := .illegal) h ?_
  rw [condHolds_reserved hc]

theorem unused_traps {w : Nat} {v : BitVec w} (hv : v ≠ 0) (r : NRes) : unused [v] r = .error .illegal :=
  if_neg (by simpa using hv)

theorem jrDo_target_traps (h : s.runsAt k j n) (ht : ¬ codeTarget (n.gx rs1)) : jrDo k rs1 0 s = needleTrap k.toNat j s := by
  obtain ⟨e, he⟩ := jump_traps (n := n) ht
  exact stitch_traps h he

theorem callrDo_traps (h : s.runsAt k j n) (ht : ¬ codeTarget (n.gx rs1)) : callrDo k rs1 mask s = needleTrap k.toNat j s := by
  obtain ⟨e, he⟩ := call_traps (n := n) (mask := mask) ht
  exact stitch_traps h he

theorem retDo_traps (h : s.runsAt k j n) (h16 : (n.gx 31).toNat % 16 ≠ 0) : retDo k 0 0 s = needleTrap k.toNat j s :=
  stitch_traps h (ret_traps h16)

theorem jrDo_mask_traps (h : s.runsAt k j n) (hm : mask ≠ 0) : jrDo k rs1 mask s = needleTrap k.toNat j s :=
  stitch_traps h (unused_traps hm _)

theorem retDo_mask_traps (h : s.runsAt k j n) (hm : mask ≠ 0) : retDo k rs1 mask s = needleTrap k.toNat j s :=
  stitch_traps h (unused_traps hm _)

theorem prdDo_traps (h : s.runsAt k j n) (hi : 9 < (n.gx rs2).toNat) : prdDo k rd 0 rs2 s = needleTrap k.toNat j s :=
  stitch_traps h (if_pos hi)

theorem vecFp2_traps (f : BitVec 3 → BitVec 64 → BitVec 64 → FRes) {m : Bool} (hw : n.ew ≠ 64) (h : s.runsAt k j n)
    (hb : boltReady s k) : vecFp2 k m rd rs1 rs2 f s = needleTrap k.toNat j s := bolt_traps h hb (if_pos hw)

/-- Settles O18: each instruction gives an exception, and an exception has the one effect of `needleTrap`. -/
theorem needleExceptionsEndTheTask : Obligations.NeedleExceptionsEndTheTask := by
  unfold Obligations.NeedleExceptionsEndTheTask
  intro s k rd rs1 rs2 imm mask off c m j h n a out
  have h : s.runsAt k j n := ⟨h, rfl⟩
  have load (b : Nat) (f : Nat → BitVec 64) (hr : ¬ readable a b) : .next (loadOp k rd rs1 imm b f s) = out :=
    next_congr (loadOp_traps f h hr)
  have store (b : Nat) (hw : ¬ writable a b) : .next (storeOp k rd rs1 imm b s) = out := next_congr (storeOp_traps h hw)
  refine ⟨forall_pair_of_forall_mem ?loads, forall_pair_of_forall_mem ?stores, fun hc => next_congr (cbrDo_traps h hc),
    fun ht => ⟨next_congr (jrDo_target_traps h ht), next_congr (callrDo_traps h ht)⟩, fun h16 => next_congr (retDo_traps h h16),
    fun hm => ⟨next_congr (jrDo_mask_traps h hm), next_congr (retDo_mask_traps h hm)⟩, fun hi => next_congr (prdDo_traps h hi),
    fun hb hw => next_congr (vecFp2_traps fadd hw h hb)⟩
  case loads =>
    simp only [List.forall_mem_cons]
    exact ⟨load 1 _, load 1 _, load 2 _, load 2 _, load 4 _, load 4 _, load 8 _, fun hr => next_congr (fldDo_traps h hr),
      List.forall_mem_nil _⟩
  case stores =>
    simp only [List.forall_mem_cons]
    exact ⟨store 1, store 2, store 4, store 8, fun hw => next_congr (fstDo_traps h hw), List.forall_mem_nil _⟩

end Sys2Proof.Machine
end

section
/-! SUPPORT. How the payment opcodes end their jobs (R346, R347, R349, R350). -/
namespace Sys2Proof.Machine

variable {s : State} {id op : Nat} {j : Job}

/-- A computation that takes a free value for its outputs. -/
theorem runOp_ends_of_drawn {f : Job → State → State} {outs : List (Nat × Bytes)} (h : computes s id op j)
    (hf : f j s = fresh (done j outs s)) : ends (fresh s) (runOp op f id s) id 0 outs := by
  rw [runOp_computes f h, hf]
  exact ends_fresh (decided_ok h.1)

/-! ## PIN blocks (R344, R346, R347) -/

/-- The key serial number and the PAN field of a PIN job, and the key that opens its block. -/
def Job.pinKsn (j : Job) : Bytes := cut j.params 4 12
def Job.pinPan (j : Job) : Bytes := cut j.params 24 10
def Job.pinOpener (j : Job) (s : State) : Bytes := pinKey s j.keyB (j.pb 2 == 1) j.pinKsn

/-- A PIN job derives its key from a serial number that R348 excludes. -/
def Job.pinKsnBad (j : Job) : Bool := j.pb 2 == 1 && !ksnOk j.pinKsn

/-- The first block of a PIN job keeps its format, and the digits that it holds. -/
def Job.pinFormed (j : Job) (s : State) : Bool := pinGood (j.pb 0) j.keyB.alg (j.pinOpener s) (j.input 0) j.pinPan
def Job.pinHeld (j : Job) (s : State) : Bytes := pinDigits (j.pb 0) j.keyB.alg (j.pinOpener s) (j.input 0) j.pinPan

/-- A PIN job reads the digits of its first block. -/
def Job.pinOpens (j : Job) (s : State) : Bool := !j.pinKsnBad && j.pinFormed s

/-- The block that PIN_TRANSLATE seals. -/
def Job.pinSealed (j : Job) (s : State) : Bytes :=
  pinSeal (j.pb 1) (j.keyN 1).alg (secretOf s (j.keyN 1)) (j.pinHeld s) j.pinPan (freeBytes s 16)

theorem pinTranslateDo_eq (h : computes s id 0x0901 j) :
    pinTranslateDo id s = if j.pinOpens s then fresh (done j [(0, j.pinSealed s)] s) else fail j stInputMalformed s := by
  refine (runOp_computes _ h).trans ?_
  change (if j.pinKsnBad then _ else if !j.pinFormed s then _ else fresh (done j [(0, j.pinSealed s)] s)) = _
  unfold Job.pinOpens
  cases j.pinKsnBad <;> cases j.pinFormed s <;> rfl

theorem pinTranslateDo_malformed (h : computes s id 0x0901 j) (ho : j.pinOpens s = false) :
    ends s (pinTranslateDo id s) id stInputMalformed [] := by
  rw [pinTranslateDo_eq h, if_neg (ne_true_of_eq_false ho)]
  exact decided_fail h.1 (by decide)

theorem pinTranslateDo_ends (h : computes s id 0x0901 j) (ho : j.pinOpens s = true) :
    ends (fresh s) (pinTranslateDo id s) id 0 [(0, j.pinSealed s)] := by
  rw [pinTranslateDo_eq h, if_pos ho]
  exact ends_fresh (decided_ok h.1)

/-- PIN_VERIFY compares with a reference block; that block keeps its format. -/
def Job.pinByBlock (j : Job) : Bool := j.pb 1 == 0
def Job.pinRefFormed (j : Job) (s : State) : Bool :=
  pinGood (j.pb 34) (j.keyN 1).alg (secretOf s (j.keyN 1)) (j.input 1) j.pinPan

/-- PIN_VERIFY has both PINs, or the PIN and a reference value. -/
def Job.pinCompares (j : Job) (s : State) : Bool := j.pinOpens s && (!j.pinByBlock || j.pinRefFormed s)

/-- The PIN of a PIN_VERIFY job is that of its reference. -/
def Job.pinAgrees (j : Job) (s : State) : Bool :=
  if j.pinByBlock then j.pinHeld s == pinDigits (j.pb 34) (j.keyN 1).alg (secretOf s (j.keyN 1)) (j.input 1) j.pinPan
  else kmac256 (secretOf s (j.keyN 1)) (j.pinPan ++ j.pinHeld s) 16 (ascii "EQX-PIN") == j.input 1

theorem pinVerifyDo_eq (h : computes s id 0x0902 j) : pinVerifyDo id s = if j.pinCompares s then
    (if j.pinAgrees s then done j [] s else fail j stNotEqual s) else fail j stInputMalformed s := by
  refine (runOp_computes _ h).trans ?_
  change (if j.pinKsnBad then _ else if j.pb 1 = 0 then (if j.pinFormed s && j.pinRefFormed s then _ else _)
    else if j.pinFormed s then _ else _) = _
  unfold Job.pinCompares Job.pinOpens Job.pinAgrees Job.pinByBlock
  by_cases hb : j.pb 1 = 0
  · rw [if_pos hb, beq_iff_eq.mpr hb]
    cases j.pinKsnBad <;> cases j.pinFormed s <;> rfl
  · rw [if_neg hb, beq_eq_false_iff_ne.mpr hb]
    cases j.pinKsnBad <;> cases j.pinFormed s <;> rfl

theorem pinVerifyDo_malformed (h : computes s id 0x0902 j) (hc : j.pinCompares s = false) :
    ends s (pinVerifyDo id s) id stInputMalformed [] := by
  rw [pinVerifyDo_eq h, if_neg (ne_true_of_eq_false hc)]
  exact decided_fail h.1 (by decide)

theorem pinVerifyDo_ends (h : computes s id 0x0902 j) (hc : j.pinCompares s = true) :
    ends s (pinVerifyDo id s) id (if j.pinAgrees s then 0 else stNotEqual) [] :=
  runOp_ends_of_check h ((runOp_computes _ h).symm.trans ((pinVerifyDo_eq h).trans (if_pos hc))) (by decide)

/-! ## EMV (R349) -/

theorem emvArqcVerifyDo_ends (h : computes s id 0x0911 j) : ends s (emvArqcVerifyDo id s) id
    (if alg .emv 8 (num 0 :: emvArgs j ++ [j.input 0]) = cut j.params 14 8 then 0 else stNotEqual) [] :=
  runOp_ends_of_check h rfl (by decide)

theorem emvArpcGenerateDo_ends (h : computes s id 0x0912 j) : ends s (emvArpcGenerateDo id s) id 0
    [(0, alg .emv (if j.pb 22 = 1 then 8 else 4) (num (j.pb 22) :: emvArgs j ++ [cut j.params 14 8, cut j.params 24 4]))] :=
  runOp_ends_of_done h rfl

/-! ## Key blocks and the policy (R346, R350) -/

/-- The length of the block that KB_EXPORT makes, and its header. -/
def Job.kbSize (j : Job) (s : State) : Nat := kbLen (secretOf s (j.keyN 1)).length
def Job.kbHeader (j : Job) (s : State) : Bytes :=
  ascii "D" ++ ascii ("".pushn '0' (4 - (toString (j.kbSize s)).length) ++ toString (j.kbSize s)) ++
    ascii ((kbExportRow (j.keyN 1).attr).elim "" (fun r => r.1.headD "")) ++ ascii (kbLetter (j.keyN 1).fam (j.keyN 1).alg) ++ ascii "N" ++
    ascii "00" ++ ascii "N" ++ ascii "0000"

theorem kbExportDo_ends (h : computes s id 0x0932 j) : ends (fresh s) (kbExportDo id s) id 0 [(0, j.kbHeader s ++
    alg .keyBlock (j.kbSize s - 16) [secretOf s j.keyB, j.kbHeader s, secretOf s (j.keyN 1), freeBytes s 16])] :=
  runOp_ends_of_drawn h rfl

theorem paySetPolicyDo_ends (h : computes s id 0x09F0 j) :
    ends { s with thm.payPolicy := BitVec.ofNat 2 (j.pb 0) } (paySetPolicyDo id s) id 0 [] :=
  runOp_ends_in_of_done h h.1 rfl

end Sys2Proof.Machine
end

section
/-! SUPPORT. The statement on PIN, EMV, key-block and policy jobs. -/
namespace Sys2Proof.Machine

/-- Settles O27: each row is a law of its opcode under the row's condition; both PIN opcodes first read the digits of their block. -/
theorem paymentJobsDecide : Obligations.PaymentJobsDecide := by
  unfold Obligations.PaymentJobsDecide
  intro s id j dukpt ksn pan k ksnBad good d r good1 ref same emv key n digits header
  have hopens : (!ksnBad && good) = j.pinOpens s := rfl
  have hshut : (ksnBad || !good) = !j.pinOpens s := by simp [← hopens]
  have hcompares : (j.pinOpens s && (!ref || good1)) = j.pinCompares s := rfl
  have hrefuses : (!j.pinOpens s || (ref && !good1)) = !j.pinCompares s := by simp [← hcompares]
  refine forall_sextuple_of_forall_mem ?_
  simp only [List.forall_mem_cons, hrefuses, hcompares, hshut, hopens, Bool.not_eq_true']
  exact ⟨fun hc => ⟨_, rfl, pinTranslateDo_malformed hc⟩,
    fun hc => ⟨_, rfl, pinTranslateDo_ends hc⟩,
    fun hc => ⟨_, rfl, pinVerifyDo_malformed hc⟩,
    fun hc => ⟨_, rfl, pinVerifyDo_ends hc⟩,
    fun hc => ⟨_, rfl, fun _ => emvArqcVerifyDo_ends hc⟩,
    fun hc => ⟨_, rfl, fun _ => emvArpcGenerateDo_ends hc⟩,
    fun hc => ⟨_, rfl, fun _ => kbExportDo_ends hc⟩,
    fun hc => ⟨_, rfl, fun _ => paySetPolicyDo_ends hc⟩,
    List.forall_mem_nil _⟩

end Sys2Proof.Machine
end

section
/-! SUPPORT. How COMPOSITE_BIND and KB_IMPORT store their key (R339, R340, R350, R351). -/
namespace Sys2Proof.Machine

variable {s : State} {id : Nat} {j : Job}

/-! ## Composite keys (R339, R340) -/

/-- The algorithms of a composite key whose parts are those that a COMPOSITE_BIND job names. -/
def Job.partsMatch (j : Job) (p : (Nat × Nat) × (Nat × Nat)) : Bool :=
  (j.keyN 0).fam == p.1.1 && (j.keyN 0).alg == p.1.2 && (j.keyN 1).fam == p.2.1 && (j.keyN 1).alg == p.2.2

/-- The operations that a new composite key permits. -/
def Job.bindOps (j : Job) : Nat := aUsage (j.input 0) &&& (uSign + uVerify + uEncaps + uDecaps)

/-- Both parts permit the operations of the new key. -/
def Job.partsPermit (j : Job) : Bool :=
  (aUsage (j.keyN 0).attr &&& j.bindOps) == j.bindOps && (aUsage (j.keyN 1).attr &&& j.bindOps) == j.bindOps

/-- The usages of the new key are those of its algorithm. -/
def Job.bindUsageFits (j : Job) : Bool :=
  (aUsage (j.input 0) &&& (if aAlg (j.input 0) < 0x10 then uSign + uVerify else uEncaps + uDecaps)) == aUsage (j.input 0)

/-- A persistent composite key takes a part that is not persistent. -/
def Job.bindsVolatile (j : Job) : Bool := j.pb 0 == 1 && ((j.keyN 0).kt || (j.keyN 1).kt)

/-- The material of a composite key: the handles of its parts. -/
def Job.bindMaterial (j : Job) : Bytes := leBytes 8 (j.keyN 0).handle ++ leBytes 8 (j.keyN 1).handle

/-- The checks of COMPOSITE_BIND once its ALG is one of R339, in the order of R340. -/
theorem compositeBindDo_eq {p : (Nat × Nat) × (Nat × Nat)} (h : computes s id 0x0A01 j) (ha : s.attrFam j 0x0A = true)
    (hp : compositeParts (aAlg (j.input 0)) = some p) : compositeBindDo id s =
      if !j.partsMatch p then fail j stKeyAlgorithmMismatch s
      else if !j.partsPermit then fail j stKeyPolicyDenied s
      else if !j.bindUsageFits then fail j stBadParameter s
      else if aOrder2 (j.input 0) then fail j stBadParameter s
      else if j.bindsVolatile then fail j stBadParameter s
      else withKey j (j.pb 0) (j.input 0) 0 j.bindMaterial (fun i s => done j (handleOuts (j.pb 0 != 1) s i) s) s := by
  refine (runOp_computes _ h).trans ((passedBy (Bool.not_and ..).symm ha).trans ?_)
  simp only [hp]
  refine if_congr ?_ rfl (if_congr ?_ rfl (if_congr ?_ rfl (if_congr Iff.rfl rfl (if_congr ?_ rfl rfl))))
  · simp only [Job.partsMatch, Bool.not_eq_true', Bool.and_eq_false_iff, beq_eq_false_iff_ne, or_assoc]
  · simp only [Job.partsPermit, Job.bindOps, Bool.not_eq_true', Bool.and_eq_false_iff, beq_eq_false_iff_ne]
  · simp only [Job.bindUsageFits, Bool.not_eq_true', beq_eq_false_iff_ne]
  · simp only [Job.bindsVolatile, Bool.and_eq_true, Bool.or_eq_true, beq_iff_eq]

theorem compositeBindDo_otherParts {p : (Nat × Nat) × (Nat × Nat)} (h : computes s id 0x0A01 j) (ha : s.attrFam j 0x0A = true)
    (hp : compositeParts (aAlg (j.input 0)) = some p) (hm : j.partsMatch p = false) :
    ends s (compositeBindDo id s) id stKeyAlgorithmMismatch [] := by
  rw [compositeBindDo_eq h ha hp, refusedBy rfl hm]
  exact decided_fail h.1 (by decide)

theorem compositeBindDo_makes {p : (Nat × Nat) × (Nat × Nat)} (h : computes s id 0x0A01 j) (ha : s.attrFam j 0x0A = true)
    (hp : compositeParts (aAlg (j.input 0)) = some p) (hm : j.partsMatch p = true) (hu : j.partsPermit = true)
    (hf : j.bindUsageFits = true) (ho : aOrder2 (j.input 0) = false) (hv : j.bindsVolatile = false) :
    keyMade s (compositeBindDo id s) id j.slice (j.pb 0) (j.input 0) 0 j.bindMaterial (handleOuts (j.pb 0 != 1)) := by
  rw [compositeBindDo_eq h ha hp, passedBy rfl hm, passedBy rfl hu, passedBy rfl hf, if_neg (ne_true_of_eq_false ho),
    if_neg (ne_true_of_eq_false hv)]
  exact withKey_makes_plain h.1 (fun _ _ => rfl) fun _ _ _ _ => rfl

/-! ## Key blocks (R350, R351) -/

/-- What the cryptography of a KB_IMPORT job is asked: the protection key's algorithm, the protection key and the block. -/
def Job.kbArgs (j : Job) (s : State) : List Bytes := [num j.keyB.alg, secretOf s j.keyB, j.input 0]

/-- The block has the version of its protection key, and its fields are well-formed. -/
def Job.kbFormed (j : Job) : Bool :=
  cut (j.input 0) 0 1 == ascii (if isTdes j.keyB.alg then "B" else "D") && Config.check .keyBlockOk [num j.keyB.alg, j.input 0]

/-- The CMAC of the block verifies. -/
def Job.kbAuthentic (j : Job) (s : State) : Bool := Config.check .keyBlock (j.kbArgs s)

/-- The family and the usages of the new key are those that a row of R351 and the block's mode and exportability permit. -/
def Job.kbRowPermits (j : Job) (r : List String × List String × Nat × Nat) : Bool :=
  aFam (j.input 1) == r.2.2.1 && (aUsage (j.input 1) &&& kbUsage (j.input 0) r.2.2.2) == aUsage (j.input 1)

/-- The algorithm and the length of the new key are those of the key in the block. -/
def Job.kbFits (j : Job) (s : State) : Bool :=
  ascii (kbLetter (aFam (j.input 1)) (aAlg (j.input 1))) == cut (j.input 0) 7 1 &&
    decide (Config.measure .keyBlockOpen (j.kbArgs s) = s.secretLen (j.input 1))

/-- The key in the block. -/
def Job.kbKey (j : Job) (s : State) : Bytes := fit (s.secretLen (j.input 1)) (Config.crypto .keyBlockOpen (j.kbArgs s))

/-- What KB_IMPORT does with an authentic block whose row of R351 is `r`. -/
def Job.kbStored (j : Job) (r : List String × List String × Nat × Nat) (s : State) : State :=
  if !s.attrOk j.slice (j.input 1) then fail j stBadParameter s
  else if !j.kbRowPermits r then fail j stKeyPolicyDenied s
  else if !j.kbFits s then fail j stBadParameter s
  else j.afterCheck (importStatus s (j.input 1) (j.kbKey s)) (storeKey j (j.pb 0) (j.input 1) 1 (j.kbKey s) s) s

/-- The checks of KB_IMPORT in the order of R350: form, CMAC, usage, then the attributes and the key. -/
theorem kbImportDo_eq (h : computes s id 0x0931 j) : kbImportDo id s = if !j.kbFormed then fail j stInputMalformed s
    else if !j.kbAuthentic s then fail j stAuthFailed s
    else (kbRow (j.input 0)).elim (fail j stKeyPolicyDenied s) (fun r => j.kbStored r s) := by
  refine (runOp_computes _ h).trans (if_congr ?_ rfl (if_congr Iff.rfl rfl ?_))
  · simp only [Job.kbFormed, Bool.not_eq_true', Bool.and_eq_false_iff, beq_eq_false_iff_ne]
  · cases hr : kbRow (j.input 0) with
    | none => rfl
    | some r =>
      refine if_congr Iff.rfl rfl (if_congr ?_ rfl (if_congr ?_ rfl rfl))
      · simp only [Job.kbRowPermits, Bool.not_eq_true', Bool.and_eq_false_iff, beq_eq_false_iff_ne]
      · simp only [Job.kbFits, Bool.not_eq_true', Bool.and_eq_false_iff, beq_eq_false_iff_ne, decide_eq_false_iff_not]
        exact Iff.rfl

theorem kbImportDo_unauthentic (h : computes s id 0x0931 j) (hf : j.kbFormed = true) (hm : j.kbAuthentic s = false) :
    ends s (kbImportDo id s) id stAuthFailed [] := by
  rw [kbImportDo_eq h, passedBy rfl hf, refusedBy rfl hm]
  exact decided_fail h.1 (by decide)

theorem kbImportDo_makes {r : List String × List String × Nat × Nat} (h : computes s id 0x0931 j) (hf : j.kbFormed = true)
    (hm : j.kbAuthentic s = true) (hr : kbRow (j.input 0) = some r) (hu : j.kbRowPermits r = true)
    (ha : s.attrOk j.slice (j.input 1) = true) (hl : j.kbFits s = true) (hi : importStatus s (j.input 1) (j.kbKey s) = 0)
    (hs : aStateful (j.input 1) = false) :
    keyMade s (kbImportDo id s) id j.slice (j.pb 0) (j.input 1) 1 (j.kbKey s) (handleOuts (j.pb 0 != 1)) := by
  have he : j.kbStored r s = storeKey j (j.pb 0) (j.input 1) 1 (j.kbKey s) s :=
    (passedBy rfl ha).trans ((passedBy rfl hu).trans ((passedBy rfl hl).trans (afterCheck_passed hi)))
  rw [kbImportDo_eq h, passedBy rfl hf, passedBy rfl hm, hr, Option.elim_some, he]
  exact storeKey_makes h.1 hs

end Sys2Proof.Machine
end

section
/-! SUPPORT. The statement on bound and imported keys. -/
namespace Sys2Proof.Machine

/-- Settles O24: COMPOSITE_BIND and KB_IMPORT go on to the key where every check of their chain passes, and end at the check that fails. -/
theorem boundKeysAreComposedAndImported : Obligations.BoundKeysAreComposedAndImported := by
  unfold Obligations.BoundKeysAreComposedAndImported
  intro s id j a b0 b1 u parts attrGood partsGood rest blk ka kbpk args kb blockGood
  have hparts : partsGood = parts.any j.partsMatch := rfl
  have hrest : rest = (j.partsPermit && j.bindUsageFits && !aOrder2 a && !j.bindsVolatile) := rfl
  have hformed : (cut blk 0 1 == ascii (if isTdes j.keyB.alg then "B" else "D") && Config.check .keyBlockOk [num j.keyB.alg, blk]) =
    j.kbFormed := rfl
  have hblock : blockGood = (j.kbFormed && j.kbAuthentic s && (kbRow blk).any j.kbRowPermits && s.attrOk j.slice ka && j.kbFits s &&
      importStatus s ka (j.kbKey s) == 0 && !aStateful ka) := by
    simp only [blockGood, Job.kbFormed, Job.kbFits, Bool.and_assoc]
    rfl
  refine ⟨fun hc => ⟨_, rfl, fun hg => ?bound, fun hg => ?otherParts⟩,
    fun hc => ⟨_, rfl, fun hg => ?imported, fun hg => ?unauthentic⟩⟩
  case bound =>
    simp only [hparts, hrest, Bool.and_eq_true, Bool.not_eq_true', Option.any_eq_true] at hg
    obtain ⟨⟨ha, p, hp, hm⟩, ⟨⟨hu, hf⟩, ho⟩, hv⟩ := hg
    exact compositeBindDo_makes hc ha hp hm hu hf ho hv
  case otherParts =>
    simp only [hparts, Bool.and_eq_true, Bool.not_eq_true', Option.isSome_iff_exists, Option.any_eq_false] at hg
    obtain ⟨⟨ha, p, hp⟩, hm⟩ := hg
    exact compositeBindDo_otherParts hc ha hp (hm p hp)
  case imported =>
    simp only [hblock, Bool.and_eq_true, Bool.not_eq_true', beq_iff_eq, Option.any_eq_true] at hg
    obtain ⟨⟨⟨⟨⟨⟨hf, hm⟩, r, hr, hu⟩, ha⟩, hl⟩, hi⟩, hs⟩ := hg
    exact kbImportDo_makes hc hf hm hr hu ha hl hi hs
  case unauthentic =>
    simp only [hformed, Bool.and_eq_true, Bool.not_eq_true'] at hg
    exact kbImportDo_unauthentic hc hg.1 hg.2

end Sys2Proof.Machine
end

section
/-! SUPPORT. How the opcodes of the quorum end their jobs (R334 to R337, R357). -/
namespace Sys2Proof.Machine

variable {s : State} {id : Nat} {j : Job}

theorem quorumCloseDo_ends (h : computes s id 0x0A81 j) : ends (endQuorum s) (quorumCloseDo id s) id 0 [] :=
  runOp_ends_in_of_done h h.1 rfl

theorem quorumStatusDo_ends (h : computes s id 0x0A82 j) : ends (fresh s) (quorumStatusDo id s) id 0 [(0, quorumStatus s)] :=
  runOp_ends_of_drawn h rfl

/-! ## Enrolment (R335) -/

/-- The custodians that a QUORUM_ENROLL job enrols, and the count of them that makes a quorum. -/
def Job.enrolled (j : Job) : List Custodian := enrolSet (j.input 0)
def Job.enrolM (j : Job) : Nat := (byteAt (j.input 0) 0).toNat

/-- The counts of the set agree, and its identifiers differ. -/
def Job.enrolFits (j : Job) : Bool :=
  !(decide ((byteAt (j.input 0) 1).toNat ≠ j.enrolled.length ∨ j.enrolM = 0 ∨ j.enrolled.length < j.enrolM) ||
    !decide (j.enrolled.map (·.id)).Nodup)

/-- The status that the checks of the custodians' public keys give. -/
def Job.enrolKeyStatus (j : Job) (s : State) : Nat := firstBad (j.enrolled.map (fun c => pkStatus s 1 c.key))

/-- The state in which the set of a QUORUM_ENROLL job is enrolled. -/
def Job.enrol (j : Job) (s : State) : State := endQuorum { s with thm.custodians := j.enrolled, thm.m := j.enrolM }

theorem quorumEnrollDo_eq (h : computes s id 0x0A83 j) : quorumEnrollDo id s = if !j.enrolFits then fail j stBadParameter s
    else j.afterCheck (j.enrolKeyStatus s) (done j [] (j.enrol s)) s :=
  (runOp_computes _ h).trans (if_congr (by
    simp only [Job.enrolFits, Bool.not_not, Bool.or_eq_true, decide_eq_true_eq, or_assoc]
    exact Iff.rfl) rfl rfl)

theorem quorumEnrollDo_disagrees (h : computes s id 0x0A83 j) (hf : j.enrolFits = false) :
    ends s (quorumEnrollDo id s) id stBadParameter [] := by
  rw [quorumEnrollDo_eq h, refusedBy rfl hf]
  exact decided_fail h.1 (by decide)

theorem quorumEnrollDo_keyRefused (h : computes s id 0x0A83 j) (hf : j.enrolFits = true) (hk : j.enrolKeyStatus s ≠ 0) :
    ends s (quorumEnrollDo id s) id (j.enrolKeyStatus s) [] := by
  rw [quorumEnrollDo_eq h, passedBy rfl hf, afterCheck_failed hk]
  exact decided_fail h.1 hk

theorem quorumEnrollDo_ends (h : computes s id 0x0A83 j) (hf : j.enrolFits = true) (hk : j.enrolKeyStatus s = 0) :
    ends (j.enrol s) (quorumEnrollDo id s) id 0 [] := by
  rw [quorumEnrollDo_eq h, passedBy rfl hf, afterCheck_passed hk]
  exact decided_ok (s := j.enrol s) h.1

/-! ## Opening (R336, step 1) -/

/-- Cards are being collected, for another QUORUM_OPEN or for a RESTORE. -/
def State.cardsAwaited (s : State) : Bool := s.thm.run.isSome || s.crd.run.any (fun r => r.step == .collect)

/-- The run that a QUORUM_OPEN job starts, and the state in which the job waits for its cards. -/
def Job.quorumRun (j : Job) : QuorumRun := { job := j.id, challenge := fit 32 j.seed, ttl := fieldLE j.params 2 4 }
def Job.opening (j : Job) (s : State) : State :=
  { s.modJob j.id (fun j => { j with phase := .held .cards }) with thm.run := some j.quorumRun }

theorem quorumOpenDo_waits (h : computes s id 0x0A80 j) (hb : s.cardsAwaited = true) : quorumOpenDo id s = s :=
  (runOp_computes _ h).trans (if_pos hb)

theorem quorumOpenDo_starts (h : computes s id 0x0A80 j) (hb : s.cardsAwaited = false) : quorumOpenDo id s = j.opening s :=
  (runOp_computes _ h).trans (if_neg (ne_true_of_eq_false hb))

theorem opening_phase (hj : s.job? id = some j) : ((j.opening s).job? id).map (·.phase) = some (.held .cards) := by
  obtain rfl := job_id hj
  rw [job_congr (s := j.opening s) (t := s.modJob j.id (fun j => { j with phase := .held .cards })) rfl,
    job_modJob _ _ _ _ (by simp), if_pos rfl, hj]
  rfl

end Sys2Proof.Machine
end

section
/-! SUPPORT. The statement on the jobs of the quorum. -/
namespace Sys2Proof.Machine

/-- Settles O29: each row is a law of its opcode under the row's condition; QUORUM_OPEN waits as it stands, or starts its run. -/
theorem quorumJobsDecide : Obligations.QuorumJobsDecide := by
  unfold Obligations.QuorumJobsDecide
  intro s id j b m set off bad busy
  refine ⟨forall_sextuple_of_forall_mem ?rows, fun hc hb => next_congr (quorumOpenDo_waits hc hb), fun hc hb => ?starts⟩
  case rows =>
    have hfit : (!off) = j.enrolFits := rfl
    have hoff : off = !j.enrolFits := by rw [← hfit, Bool.not_not]
    simp only [List.forall_mem_cons, hoff, Bool.not_not, Bool.and_eq_true, Bool.not_eq_true', beq_iff_eq, bne_iff_ne]
    exact ⟨fun hc => ⟨_, rfl, fun _ => quorumCloseDo_ends hc⟩,
      fun hc => ⟨_, rfl, fun _ => quorumStatusDo_ends hc⟩,
      fun hc => ⟨_, rfl, quorumEnrollDo_disagrees hc⟩,
      fun hc => ⟨_, rfl, fun ⟨hf, hk⟩ => quorumEnrollDo_keyRefused hc hf hk⟩,
      fun hc => ⟨_, rfl, fun ⟨hf, hk⟩ => quorumEnrollDo_ends hc hf hk⟩,
      List.forall_mem_nil _⟩
  case starts =>
    refine ⟨_, next_congr (quorumOpenDo_starts hc hb), ?_, opening_phase hc.1, rfl, rfl, rfl⟩
    exact congrArg (fun n => some ({ j.quorumRun with job := n } : QuorumRun)) (job_id hc.1)

end Sys2Proof.Machine
end

section
/-! SUPPORT. The operator card ports: activation, what a deactivation leaves, and what a card's answers do (R489 to R492). -/
namespace Sys2Proof.Machine

variable {s : State} {port : BitVec 1} {k i last : Nat} {f : OcPort → OcPort}

/-! ## Ports -/

@[simp] theorem ocPort_modOc : (s.modOc k f).ocPort k = f (s.ocPort k) := tget_tmod_same ..

theorem ocPort_modOc_ne (h : i ≠ k) : (s.modOc k f).ocPort i = s.ocPort i := tget_tmod_ne _ _ _ h

/-! ## Deactivation (R491) -/

/-- A deactivation writes its port and the pin. -/
theorem ocOff_eq : ocOff k last s = { s with crd.oc := (ocOff k last s).crd.oc, outbox := (ocOff k last s).outbox } := by
  unfold ocOff
  dsimp only
  split <;> rfl

@[simp] theorem ocOff_thm : (ocOff k last s).thm = s.thm := (congrArg State.thm (ocOff_eq (s := s)) :)
@[simp] theorem ocOff_jobs : (ocOff k last s).jobs = s.jobs := (congrArg State.jobs (ocOff_eq (s := s)) :)
@[simp] theorem ocOff_time : (ocOff k last s).time = s.time := (congrArg State.time (ocOff_eq (s := s)) :)
@[simp] theorem ocClasses_ocOff : (ocOff k last s).ocClasses i = s.ocClasses i := (congrArg (State.ocClasses · i) (ocOff_eq (s := s)) :)

/-- The port that is deactivated is off, and no other goes on. -/
theorem ocOff_off (h : i = k ∨ (s.ocPort i).active = false) : ((ocOff k last s).ocPort i).active = false := by
  unfold ocOff
  dsimp only
  split
  · by_cases hi : i = k
    · subst hi
      exact congrArg OcPort.active ocPort_modOc
    · exact (congrArg OcPort.active (ocPort_modOc_ne hi)).trans (h.resolve_left hi)
  · next ha =>
    obtain rfl | h := h
    · exact eq_false_of_ne_true ha
    · exact h

/-! ## Both ports at the end of a quorum's run (R336) -/

theorem onlyJob_thm {t : State} {id : Nat} (h : onlyJob s t id) : t.thm = s.thm := by rw [h.1]
theorem onlyJob_crd {t : State} {id : Nat} (h : onlyJob s t id) : t.crd = s.crd := by rw [h.1]

/-- The end of a quorum's run: both ports off, and the job of the run decided. -/
def runEnds (r : QuorumRun) (st : Nat) (outs : List (Nat × Bytes)) (s : State) : State :=
  decideJob r.job st outs (ocOff 1 0 (ocOff 0 0 s))

variable {r : QuorumRun} {st : Nat} {outs : List (Nat × Bytes)}

theorem runEnds_thm : (runEnds r st outs s).thm = s.thm :=
  (onlyJob_thm (decideJob_onlyJob ..)).trans (ocOff_thm.trans ocOff_thm)

theorem runEnds_port (hi : i = 0 ∨ i = 1) : ((runEnds r st outs s).ocPort i).active = false := by
  have hoff : ((ocOff 1 0 (ocOff 0 0 s)).ocPort i).active = false := ocOff_off (hi.symm.imp_right fun h => ocOff_off (.inl h))
  rwa [State.ocPort, runEnds, onlyJob_crd (decideJob_onlyJob ..)]

theorem runEnds_job {j : Job} (hj : s.job? r.job = some j) :
    decidedAs (runEnds r st outs s) r.job st (if st = stSuccess then outs else []) :=
  decideJob_decides st outs ((job_congr (by simp) r.job).trans hj)

/-! ## Records (R508) -/

theorem logRecord_thm {code : Nat} {data : Bytes} : (logRecord code data s).thm = s.thm :=
  (congrArg State.thm (unrecorded_logRecord (s := s)) :)

theorem logRecord_jobs {code : Nat} {data : Bytes} : (logRecord code data s).jobs = s.jobs :=
  (congrArg State.jobs (unrecorded_logRecord (s := s)) :)

/-! ## Activation (R489, R490) -/

theorem ocAtrReceivedDo_unawaited {x : Option Bytes} (h : (s.ocPort port.toNat).stage ≠ .atr) : ocAtrReceivedDo port x s = s := if_pos h

/-- The port asks a card for the rates of the TA1 byte `t` of its ATR. -/
def askPps (k : Nat) (a : Atr) (t : Nat) (s : State) : State :=
  let pp : Byte := 0x10 + BitVec.ofNat 8 a.proto
  emit (.card k [0xFF, pp, BitVec.ofNat 8 t, 0xFF ^^^ pp ^^^ BitVec.ofNat 8 t]) (s.modOc k (fun p => { p with stage := .pps }))

/-- The port has taken the protocol of an ATR. -/
def Atr.chosen (a : Atr) (k : Nat) (s : State) : State := s.modOc k (fun p => { p with proto := a.proto == 1 })

/-- An ATR's class indicator leaves the port's class out. -/
def Atr.excludes (a : Atr) (p : OcPort) : Bool := a.classes.any (fun c => !c.testBit (3 - p.cls.toNat))

section
variable {bs : Bytes} {a : Atr} (h : (s.ocPort port.toNat).stage = .atr)
include h

theorem ocAtrReceivedDo_none : ocAtrReceivedDo port none s = tryClass port.toNat (s.ocPort port.toNat).cls.toNat s :=
  if_neg (not_not_intro h)

theorem ocAtrReceivedDo_malformed (hp : parseAtr bs = none) : ocAtrReceivedDo port (some bs) s = ocOff port.toNat 2 s :=
  (if_neg (not_not_intro h)).trans (by simp only [hp])

theorem ocAtrReceivedDo_excluded (hp : parseAtr bs = some a) (hx : a.excludes (s.ocPort port.toNat) = true) :
    ocAtrReceivedDo port (some bs) s = tryClass port.toNat (s.ocPort port.toNat).cls.toNat s :=
  (if_neg (not_not_intro h)).trans (by
    simp only [hp]
    exact if_pos hx)

/-- An ATR of the port's class is taken; its TA1 decides whether PPS comes before SELECT. -/
theorem ocAtrReceivedDo_taken (hp : parseAtr bs = some a) (hx : a.excludes (s.ocPort port.toNat) = false) :
    ocAtrReceivedDo port (some bs) s = a.ta1.elim (startSelect port.toNat (a.chosen port.toNat s)) (fun t =>
      if wantsPps t && !(s.ocPort port.toNat).retried then askPps port.toNat a t (a.chosen port.toNat s)
      else startSelect port.toNat (a.chosen port.toNat s)) :=
  (if_neg (not_not_intro h)).trans (by
    simp only [hp]
    refine (if_neg (ne_true_of_eq_false hx)).trans ?_
    cases a.ta1 <;> rfl)

end

theorem ocPpsResponseDo_unawaited {good : Bool} (h : (s.ocPort port.toNat).stage ≠ .pps) : ocPpsResponseDo port good s = s := if_pos h

theorem ocPpsResponseDo_good (h : (s.ocPort port.toNat).stage = .pps) : ocPpsResponseDo port true s = startSelect port.toNat s :=
  if_neg (not_not_intro h)

theorem ocPpsResponseDo_bad (h : (s.ocPort port.toNat).stage = .pps) : ocPpsResponseDo port false s =
    tryClass port.toNat ((s.ocPort port.toNat).cls.toNat - 1)
      ((ocOff port.toNat 3 s).modOc port.toNat (fun p => { p with retried := true })) :=
  if_neg (not_not_intro h)

end Sys2Proof.Machine
end

section
/-! SUPPORT. The card application: SELECT, GET_ID, and the cryptogram of a custodian (R336, R492). -/
namespace Sys2Proof.Machine

variable {s : State} {port : BitVec 1} {id sig z : Bytes} {sw : BitVec 16} {answer : CardAnswer} {r : QuorumRun} {b : BkpRun}

/-! ## A custodian's signature (R336) -/

/-- A signature is that of an enrolled custodian over the challenge of the run. -/
def State.custodianSigned (s : State) (r : QuorumRun) (id sig : Bytes) : Bool :=
  s.thm.custodians.any (fun c => c.id == id && Config.check .ecdsaVerify [num 1, [], c.key, sig, quorumDigest r.challenge id, num 1])

/-- The state in which a run has opened the quorum. -/
def quorumOpened (r : QuorumRun) (s : State) : State :=
  { s with thm.quorum := some { ttl := r.ttl, since := s.time.epoch.toNat }, thm.run := none }

theorem countCustodian_invalid (hs : s.custodianSigned r id sig = false) : countCustodian r id sig s = logRecord 0x0402 id s :=
  refusedBy rfl hs

section
variable (hs : s.custodianSigned r id sig = true)
include hs

theorem countCustodian_again (hc : r.counted.contains id = true) : countCustodian r id sig s = s := (passedBy rfl hs).trans (if_pos hc)

theorem countCustodian_counts (hc : r.counted.contains id = false) (hm : (r.counted ++ [id]).length < s.thm.m) :
    countCustodian r id sig s = { s with thm.run := some { r with counted := r.counted ++ [id] } } :=
  (passedBy rfl hs).trans ((if_neg (ne_true_of_eq_false hc)).trans (if_pos hm))

theorem countCustodian_opens (hc : r.counted.contains id = false) (hm : s.thm.m ≤ (r.counted ++ [id]).length) :
    ∃ outs data, countCustodian r id sig s = runEnds r stSuccess outs (logRecord 0x0401 data (quorumOpened r s)) :=
  ⟨_, _, (passedBy rfl hs).trans ((if_neg (ne_true_of_eq_false hc)).trans (if_neg (Nat.not_lt.mpr hm)))⟩

end

theorem opened_thm {st code : Nat} {outs : List (Nat × Bytes)} {data : Bytes} :
    (runEnds r st outs (logRecord code data (quorumOpened r s))).thm = (quorumOpened r s).thm := runEnds_thm.trans logRecord_thm

theorem opened_job {st code : Nat} {outs : List (Nat × Bytes)} {data : Bytes} {j : Job} (hj : s.job? r.job = some j) :
    decidedAs (runEnds r st outs (logRecord code data (quorumOpened r s))) r.job st (if st = stSuccess then outs else []) :=
  runEnds_job ((job_congr (t := quorumOpened r s) logRecord_jobs r.job).trans hj)

/-! ## Answers that end the transaction (R491, R492) -/

/-- The port awaits the answer to an APDU. -/
def OcPort.awaits (p : OcPort) : Bool :=
  match p.stage with
  | .select | .getId | .sign | .ecdh => true
  | _ => false

theorem awaits_iff {p : OcPort} : p.awaits = true ↔ p.stage = .select ∨ p.stage = .getId ∨ p.stage = .sign ∨ p.stage = .ecdh := by
  unfold OcPort.awaits
  cases p.stage <;> simp

theorem ocApduResponseDo_unawaited (h : (s.ocPort port.toNat).awaits = false) : ocApduResponseDo port answer sw s = s := refusedBy rfl h

theorem ocApduResponseDo_exhausted (h : (s.ocPort port.toNat).awaits = true) :
    ocApduResponseDo port .exhausted sw s = ocOff port.toNat 5 s := passedBy rfl h

theorem ocApduResponseDo_status (h : (s.ocPort port.toNat).awaits = true) (ha : answer ≠ .exhausted) (hw : sw ≠ 0x9000) :
    ocApduResponseDo port answer sw s = ocOff port.toNat 7 s :=
  (passedBy rfl h).trans (by
    cases answer with
    | exhausted => exact absurd rfl ha
    | _ => exact if_pos hw)

theorem ocApduResponseDo_refused (h : (s.ocPort port.toNat).awaits = true) :
    ocApduResponseDo port .refused 0x9000 s = ocOff port.toNat 7 s :=
  (passedBy rfl h).trans ((if_neg (not_not_intro rfl)).trans (by cases (s.ocPort port.toNat).stage <;> rfl))

/-! ## Answers that are awaited (R492) -/

/-- The port sends an APDU and awaits its answer. -/
def sendApdu (k : Nat) (apdu : Bytes) (st : OcStage) (s : State) : State :=
  emit (.card k apdu) (s.modOc k (fun p => { p with stage := st }))

theorem ocApduResponseDo_select (h : (s.ocPort port.toNat).stage = .select) : ocApduResponseDo port .selected 0x9000 s =
    sendApdu port.toNat [0x80, 0x10, 0x00, 0x00, 0x08] .getId s := by
  simp only [ocApduResponseDo, h]
  rfl

theorem ocApduResponseDo_badIdentity (h : (s.ocPort port.toNat).stage = .getId) (hl : id.length ≠ 8) :
    ocApduResponseDo port (.identity id) 0x9000 s = ocOff port.toNat 7 s := by
  simp only [ocApduResponseDo, h]
  exact if_pos hl

/-- The port holds the identity that its card gave. -/
def State.named (s : State) (k : Nat) (id : Bytes) : State := s.modOc k (fun p => { p with id := id })

section
variable (h : (s.ocPort port.toNat).stage = .getId) (hl : id.length = 8)
include h hl

theorem ocApduResponseDo_identity_signs (hr : s.thm.run = some r) : ocApduResponseDo port (.identity id) 0x9000 s =
    sendApdu port.toNat ([0x80, 0x20, 0x00, 0x00, 0x20] ++ quorumDigest r.challenge id) .sign (s.named port.toNat id) := by
  simp only [ocApduResponseDo, h, modOc_thm, hr]
  exact if_neg (not_not_intro hl)

theorem ocApduResponseDo_identity_shares (hr : s.thm.run = none) (hb : s.crd.run = some b) (hs : b.step = .collect) :
    ocApduResponseDo port (.identity id) 0x9000 s =
      sendApdu port.toNat ([0x80, 0x30, 0x00, 0x00, 0x41] ++ b.stream.take 65) .ecdh (s.named port.toNat id) := by
  have hc : (s.modOc port.toNat (fun p => { p with id := id })).crd.run = some b := hb
  simp only [ocApduResponseDo, h, modOc_thm, hr, hc, hs]
  exact if_neg (not_not_intro hl)

theorem ocApduResponseDo_identity_idle (hr : s.thm.run = none) (hb : ∀ b, s.crd.run = some b → b.step ≠ .collect) :
    ocApduResponseDo port (.identity id) 0x9000 s = ocOff port.toNat 0 (s.named port.toNat id) := by
  have hc : (s.modOc port.toNat (fun p => { p with id := id })).crd.run = s.crd.run := rfl
  simp only [ocApduResponseDo, h, modOc_thm, hr, hc]
  refine (if_neg (by decide)).trans ((if_neg (not_not_intro rfl)).trans ((if_neg (not_not_intro hl)).trans ?_))
  cases hx : s.crd.run with
  | none => rfl
  | some b => exact if_neg (hb b hx)

end

theorem ocApduResponseDo_unasked (h : (s.ocPort port.toNat).stage = .sign) (hr : s.thm.run = none) :
    ocApduResponseDo port (.signature sig) 0x9000 s = ocOff port.toNat 0 s := by
  simp only [ocApduResponseDo, h, hr]
  rfl

theorem ocApduResponseDo_sign (h : (s.ocPort port.toNat).stage = .sign) (hr : s.thm.run = some r) :
    ocApduResponseDo port (.signature sig) 0x9000 s = countCustodian r (s.ocPort port.toNat).id sig (ocOff port.toNat 0 s) := by
  simp only [ocApduResponseDo, h, hr]
  rfl

theorem ocApduResponseDo_ecdh (h : (s.ocPort port.toNat).stage = .ecdh) : ocApduResponseDo port (.secret z) 0x9000 s =
    if z.length = 32 then addShare (s.ocPort port.toNat).id z (ocOff port.toNat 0 s) else ocOff port.toNat 7 s := by
  simp only [ocApduResponseDo, h]
  rfl

/-! ## Expiry (R336) -/

theorem quorumWaitExpiryDo_idle (h : s.thm.run = none) : quorumWaitExpiryDo s = s := by simp only [quorumWaitExpiryDo, h]

theorem quorumWaitExpiryDo_ends (h : s.thm.run = some r) :
    quorumWaitExpiryDo s = runEnds r stCardTimeout [] { s with thm.run := none } := by
  simp only [quorumWaitExpiryDo, h]
  rfl

end Sys2Proof.Machine
end

section
/-! SUPPORT. The statement on operator cards. -/
namespace Sys2Proof.Machine

/-- Settles O53: each clause is the law of its event at the stage of its port; the M-th signature and the wait's expiry are the two ends
of a quorum's run. -/
theorem operatorCardsAreTakenStepByStep : Obligations.OperatorCardsAreTakenStepByStep := by
  unfold Obligations.OperatorCardsAreTakenStepByStep
  intro s port atr a sw id sig z r b answer k p pin classes off next sends select proto pp named respond awaits digest good seen full
  have hnext (c : Nat) {u : State} (hu : u.ocClasses k = classes) : tryClass k c u = next c u := by
    unfold tryClass
    rw [hu]
    rfl
  have hawaits : awaits ↔ p.awaits = true := awaits_iff.symm
  refine ⟨?insert, rfl, rfl, fun h x => next_congr (ocAtrReceivedDo_unawaited h), fun h => ⟨?silent, ?malformed, ?excluded, ?taken⟩,
    fun h x => next_congr (ocPpsResponseDo_unawaited h), fun h => ⟨next_congr (ocPpsResponseDo_good h), ?ppsFails⟩, fun h => ?unawaited,
    fun h => ?awaited, fun h => next_congr (ocApduResponseDo_select h), fun h hl => next_congr (ocApduResponseDo_badIdentity h hl),
    fun h hl => ⟨fun hr => next_congr (ocApduResponseDo_identity_signs h hl hr),
      fun hr hb hs => next_congr (ocApduResponseDo_identity_shares h hl hr hb hs),
      fun hr hb => next_congr (ocApduResponseDo_identity_idle h hl hr hb)⟩,
    fun h hr => next_congr (ocApduResponseDo_unasked h hr), fun h hr => ?signed, fun h => next_congr (ocApduResponseDo_ecdh h),
    fun hr => next_congr (quorumWaitExpiryDo_idle hr), fun hr => ?expires, rfl⟩
  case insert =>
    refine next_congr (if_congr ?_ rfl (hnext 0 rfl))
    rw [Bool.not_eq_true']
  case silent => exact next_congr ((ocAtrReceivedDo_none h).trans (hnext _ rfl))
  case malformed => exact fun hp => next_congr (ocAtrReceivedDo_malformed h hp)
  case excluded => exact fun hp hx => next_congr ((ocAtrReceivedDo_excluded h hp hx).trans (hnext _ rfl))
  case taken =>
    intro hp hx
    refine next_congr ((ocAtrReceivedDo_taken h hp hx).trans ?_)
    cases a.ta1 with
    | none => rfl
    | some t => exact if_congr (by rw [Bool.and_eq_true, Bool.not_eq_true']) rfl rfl
  case ppsFails => exact next_congr ((ocPpsResponseDo_bad h).trans (hnext _ ocClasses_ocOff))
  case unawaited => exact next_congr (ocApduResponseDo_unawaited (eq_false_of_ne_true (mt hawaits.mpr h)))
  case awaited =>
    have h := hawaits.mp h
    exact ⟨next_congr (ocApduResponseDo_exhausted h), fun ha hw => next_congr (ocApduResponseDo_status h ha hw),
      next_congr (ocApduResponseDo_refused h)⟩
  case signed =>
    have hsigned : (ocOff k 0 s).custodianSigned r p.id sig = good := by
      rw [State.custodianSigned, ocOff_thm]
      rfl
    have hm : (ocOff k 0 s).thm.m = s.thm.m := congrArg _ ocOff_thm
    have hs (u : State) (hu : countCustodian r p.id sig (ocOff k 0 s) = u) : exec (respond (.signature sig) 0x9000) s = .next u :=
      next_congr ((ocApduResponseDo_sign h hr).trans hu)
    refine ⟨fun hg => hs _ (countCustodian_invalid (hsigned.trans hg)), fun hg hc => hs _ (countCustodian_again (hsigned.trans hg) hc),
      fun hg hc hf => hs _ (countCustodian_counts (hsigned.trans hg) hc ?counts), fun hg hc hf => ?opens⟩
    case counts => exact hm ▸ Nat.not_le.mp (of_decide_eq_false hf)
    case opens =>
      obtain ⟨outs, data, he⟩ := countCustodian_opens (hsigned.trans hg) hc (hm ▸ of_decide_eq_true hf)
      have hquorum : (quorumOpened r (ocOff k 0 s)).thm.quorum = some { ttl := r.ttl, since := s.time.epoch.toNat } := by
        rw [quorumOpened, ocOff_time]
      refine ⟨_, hs _ he, congrArg ThimbleState.run opened_thm, (congrArg ThimbleState.quorum opened_thm).trans hquorum,
        runEnds_port (.inl rfl), runEnds_port (.inr rfl), fun j hj => ?_⟩
      obtain ⟨j', hj', hphase, hstatus, -⟩ := opened_job (r := r) (st := stSuccess) (outs := outs) (code := 0x0401) (data := data)
        ((job_congr (s := ocOff k 0 s) ocOff_jobs r.job).trans hj)
      rw [hj', Option.map_some, hphase, hstatus]
  case expires =>
    refine ⟨_, next_congr (quorumWaitExpiryDo_ends hr), congrArg ThimbleState.run runEnds_thm,
      (congrArg ThimbleState.quorum runEnds_thm :), runEnds_port (.inl rfl), runEnds_port (.inr rfl), fun j hj => ?_⟩
    obtain ⟨j', hj', hphase, hstatus, houts⟩ := runEnds_job (s := { s with thm.run := none }) (st := stCardTimeout) (outs := []) hj
    rw [hj', Option.map_some, hphase, hstatus, houts]
    rfl

end Sys2Proof.Machine
end

section
/-! SUPPORT. Epoch Time, its reference, ticks and class configurations (R404 to R408, R414, R415, R420). -/
namespace Sys2Proof.Machine

variable {s : State} {f : State → State}

/-! ## Where an event of the core domain takes effect (R30) -/

theorem powered_reset (h : s.pwr.inReset = true) : powered f s = s := if_pos h
theorem powered_running (h : s.pwr.inReset = false) : powered f s = f s := if_neg (by simp [h])

/-- An event that changes nothing changes nothing in reset either. -/
theorem powered_idle (h : f s = s) : powered f s = s := by
  unfold powered
  split
  · rfl
  · exact h

/-- A command of the core domain runs its function out of reset. -/
theorem next_powered (h : s.pwr.inReset = false) {t : State} (hf : f s = t) :
    (.next (powered f s) : Host.Outcome State Fault Refusal) = .next t := next_congr ((powered_running h).trans hf)
/-- A register's command runs its function where BAR0 answers. -/
theorem next_atBar (h : barOpen s) {t : State} (hf : f s = t) :
    (.next (atBar f s) : Host.Outcome State Fault Refusal) = .next t := next_congr ((atBar_open h).trans hf)

/-! ## Ticks (R404, R407, R415) -/

/-- A write for each class of a list leaves what was written. -/
theorem tget_foldl_tput {f : Nat → Nat} (l : List Nat) (t : Tbl Nat) (k : Nat) (h : k ∈ l ∨ tget t 0 k = f k) :
    tget (l.foldl (fun t c => tput t 0 c (f c)) t) 0 k = f k := by
  induction l generalizing t with
  | nil => exact h.resolve_left List.not_mem_nil
  | cons c l ih =>
    refine ih _ ?_
    rcases h with h | h
    · refine (List.mem_cons.mp h).symm.imp_right fun hk => ?_
      rw [hk, tget_tput_same]
    · refine .inr ?_
      rw [tget_tput]
      split
      · next hk => rw [hk]
      · exact h

theorem tick_credit_contract {x : Slice} {k : Nat} (hk : k < 7) : match x.nextContract with
    | none => tget x.tick.credit 0 k = grow (tget x.contract {} k) (tget x.credit 0 k) ∧ x.tick.contract = x.contract
    | some t => tget x.tick.credit 0 k = (tget t {} k).rate ∧ x.tick.contract = t ∧ x.tick.nextContract = none := by
  have hm {p : Prop} : k ∈ List.range 7 ∨ p := .inl (List.mem_range.mpr hk)
  unfold Slice.tick
  cases x.nextContract with
  | none => exact ⟨tget_foldl_tput (f := fun c => grow (tget x.contract {} c) (tget x.credit 0 c)) _ _ k hm, rfl⟩
  | some t => exact ⟨tget_foldl_tput (f := fun c => (tget t {} c).rate) _ _ k hm, rfl, rfl⟩

theorem tickBoundaryDo_eq : tickBoundaryDo s = { s with
    time.epoch := ((s.time.epoch >>> 18) + 1) <<< 18
    time.slew := slewLeft s.time.slew
    time.holdFrac := if s.time.state = .holdover then (s.time.holdFrac + 1) % 16384 else s.time.holdFrac
    time.holdoverSecs := if s.time.state = .holdover ∧ s.time.holdFrac + 1 = 16384 then s.time.holdoverSecs + 1 else s.time.holdoverSecs
    evr.opTicks := s.evr.opTicks + 1
    slices := tmap s.slices {} (fun _ x => x.tick) } := by
  simp only [tickBoundaryDo, beq_iff_eq, Bool.and_eq_true]

/-! ## Acquisition and loss of the reference (R406 to R408) -/

theorem qualify_good {need : Nat} {ref : BitVec 64} : qualify true need ref s =
    if s.time.state = .acquiring ∨ s.time.state = .holdover then
      (if need ≤ s.time.qualifying + 1 then lock ref s else { s with time.qualifying := s.time.qualifying + 1 })
    else s := by
  unfold qualify
  cases s.time.state <;> simp

theorem qualify_bad {need : Nat} {ref : BitVec 64} : qualify false need ref s =
    if s.time.state = .acquiring ∨ s.time.state = .holdover then { s with time.qualifying := 0 } else s := by
  unfold qualify
  cases s.time.state <;> simp

theorem loseReference_taiPending : (loseReference s).time.taiPending = s.time.taiPending := by
  unfold loseReference
  cases s.time.state <;> rfl

theorem ppsEdgeDo_otherSource {cycles : Nat} (h : s.time.source ≠ 2) : ppsEdgeDo cycles s = s := if_pos h

section
variable {cycles : Nat} (h : s.time.source = 2)
include h

theorem ppsEdgeDo_good (hl : 9999990 ≤ cycles) (hu : cycles ≤ 10000010) : ppsEdgeDo cycles s =
    let u := match s.time.taiPending with
      | some v => loadSeconds (v ++ (0 : BitVec 32)) { s with time.taiPending := none }
      | none => s
    qualify true 3 (nearestSecond u.time.epoch) u := by
  have hg : (decide (9999990 ≤ cycles) && decide (cycles ≤ 10000010)) = true := by simp [hl, hu]
  unfold ppsEdgeDo
  rw [if_neg (not_not_intro h), hg]
  rfl

theorem ppsEdgeDo_bad (hc : cycles < 9999990 ∨ 10000010 < cycles) (ht : s.time.taiPending = none) : ppsEdgeDo cycles s =
    qualify false 3 (nearestSecond (loseReference s).time.epoch) (loseReference s) := by
  have hg : (decide (9999990 ≤ cycles) && decide (cycles ≤ 10000010)) = false := by
    simp only [Bool.and_eq_false_iff, decide_eq_false_iff_not]
    omega
  unfold ppsEdgeDo
  rw [if_neg (not_not_intro h), hg]
  simp [loseReference_taiPending, ht]

end

theorem ptmExchangeDo_otherSource {master : BitVec 64} {good : Bool} (h : s.time.source ≠ 1) : ptmExchangeDo master good s = s := if_pos h

theorem ptmExchangeDo_ptm {master : BitVec 64} {good : Bool} (h : s.time.source = 1) : ptmExchangeDo master good s =
    let ref := master + s.time.ptmOffset
    let u := if s.time.set then s else loadSeconds ref s
    if u.time.state = .locked then lock ref u else qualify good 4 ref u := if_neg (not_not_intro h)

/-- The loss names the source in use. -/
theorem referenceLossDo_eq {cause : RefLoss} : referenceLossDo cause s =
    if (if cause = .ptm then s.time.source = 1 else s.time.source = 2) then loseReference s else s := by
  unfold referenceLossDo
  cases cause <;> simp

end Sys2Proof.Machine
end

section
/-! SUPPORT. The statement on Epoch Time, ticks and class configurations. -/
namespace Sys2Proof.Machine

/-- Settles O56: each command runs the function of its rule, whose branches the laws above name. -/
theorem timeTicksSlewsAndSteps : Obligations.TimeTicksSlewsAndSteps := by
  unfold Obligations.TimeTicksSlewsAndSteps
  intro s v cycles master good cls cause tm hold step load locked lost counts second src ppm ref mine c n
  have hcounts {need : Nat} {ref : BitVec 64} {u : State} : qualify true need ref u = counts need ref u := qualify_good
  have hlost : loseReference s = lost := by
    unfold loseReference
    simp only [lost, tm]
    cases s.time.state <;> rfl
  refine ⟨fun hr => ?reset, fun hr => next_powered hr tickBoundaryDo_eq, fun x k hk => tick_credit_contract hk,
    fun h => next_atBar h rfl, fun h => next_atBar h rfl, fun h => next_congr (powered_idle (ppsEdgeDo_otherSource h)),
    fun hr h hl hu => next_powered hr ((ppsEdgeDo_good h hl hu).trans hcounts), fun hr h hc ht => next_powered hr ?badEdge,
    fun h => next_congr (powered_idle (ptmExchangeDo_otherSource h)), fun hr h => next_powered hr ((ptmExchangeDo_ptm h).trans ?exchange),
    fun hr h => next_powered hr (referenceLossDo_eq.trans ((if_pos h).trans hlost)),
    fun h => next_congr (powered_idle (referenceLossDo_eq.trans (if_neg h))), fun h hc => next_atBar h (if_pos hc),
    fun h hc => next_atBar h ((if_neg hc).trans ?configured)⟩
  case reset =>
    simp only [List.forall_mem_cons]
    exact ⟨next_congr (powered_reset hr), next_congr (powered_reset hr), next_congr (powered_reset hr), next_congr (powered_reset hr),
      List.forall_mem_nil _⟩
  case badEdge => rw [ppsEdgeDo_bad h hc ht, qualify_bad, hlost]
  case exchange =>
    refine ite_congr rfl (fun _ => rfl) fun _ => ?_
    cases good with
    | true => exact hcounts
    | false => exact qualify_bad
  case configured =>
    unfold writeRwl
    refine ite_congr rfl (fun _ => (ite_congr (propext bne_iff_ne) (fun _ => rfl) fun _ => rfl).trans (ite_not ..)) fun _ => rfl

end Sys2Proof.Machine
end

section
/-! SUPPORT. How the metrology opcodes end their jobs (R427 to R434). -/
namespace Sys2Proof.Machine

variable {s : State} {id : Nat} {j : Job} {ses : Bytes} {stamp : Stamp}

/-! ## MET_SOURCE_ADD (R434) -/

/-- The state in which the source of a MET_SOURCE_ADD job has its number. -/
def Job.sourceAdded (j : Job) (s : State) : State :=
  { s with met.sources := s.met.sources ++ [{ num := s.met.sources.length, slice := j.pb 0, key := j.input 0 }] }

theorem metSourceAddDo_eq (h : computes s id 0x0B01 j) : metSourceAddDo id s = j.afterCheck (pkStatus s 0x01 (j.input 0))
    (if 1024 ≤ s.met.sources.length then fail j stPersistentStoreFull s
      else done j [(0, leBytes 2 s.met.sources.length)] (j.sourceAdded s)) s := runOp_computes _ h

theorem metSourceAddDo_badPoint (h : computes s id 0x0B01 j) (hk : pkStatus s 0x01 (j.input 0) ≠ 0) :
    ends s (metSourceAddDo id s) id (pkStatus s 0x01 (j.input 0)) [] := by
  rw [metSourceAddDo_eq h, afterCheck_failed hk]
  exact decided_fail h.1 hk

section
variable (h : computes s id 0x0B01 j) (hk : pkStatus s 0x01 (j.input 0) = 0)
include h hk

theorem metSourceAddDo_full (hn : 1024 ≤ s.met.sources.length) : ends s (metSourceAddDo id s) id stPersistentStoreFull [] := by
  rw [metSourceAddDo_eq h, afterCheck_passed hk, if_pos hn]
  exact decided_fail h.1 (by decide)

theorem metSourceAddDo_adds (hn : s.met.sources.length < 1024) :
    ends (j.sourceAdded s) (metSourceAddDo id s) id 0 [(0, leBytes 2 s.met.sources.length)] := by
  rw [metSourceAddDo_eq h, afterCheck_passed hk, if_neg (Nat.not_le.mpr hn)]
  exact decided_ok (s := j.sourceAdded s) h.1

end

/-! ## MET_EVENT (R428) -/

/-- The checks of a MET_EVENT job, the session it names, and the state in which its COUNTER is that of its source. -/
def Job.metCheck (j : Job) (s : State) : Nat :=
  s.eventCheck j (s.met.sources.find? (fun m => m.num == fieldLE j.params 0 2 && m.slice == j.slice))
def Job.metSession (j : Job) : Bytes := cut j.params 12 16
def Job.counterTaken (j : Job) (s : State) : State :=
  { s with met.sources := mapIf (fun m => m.num == fieldLE j.params 0 2) (fun m => { m with counter := fieldLE j.params 4 8 }) s.met.sources }

theorem metEventDo_eq (h : computes s id 0x0B02 j) : metEventDo id s = j.afterCheck (j.metCheck s)
    (if j.pb 2 = 1 then metStart j j.metSession (s.stampOf j) (j.counterTaken s) else metEnd j j.metSession (s.stampOf j) (j.counterTaken s)) s :=
  runOp_computes _ h

theorem metEventDo_refused (h : computes s id 0x0B02 j) (hk : j.metCheck s ≠ 0) : ends s (metEventDo id s) id (j.metCheck s) [] := by
  rw [metEventDo_eq h, afterCheck_failed hk]
  exact decided_fail h.1 hk

theorem metEventDo_start (h : computes s id 0x0B02 j) (hk : j.metCheck s = 0) (hs : j.pb 2 = 1) :
    metEventDo id s = metStart j j.metSession (s.stampOf j) (j.counterTaken s) := by
  rw [metEventDo_eq h, afterCheck_passed hk, if_pos hs]

theorem metEventDo_end (h : computes s id 0x0B02 j) (hk : j.metCheck s = 0) (hs : j.pb 2 ≠ 1) :
    metEventDo id s = metEnd j j.metSession (s.stampOf j) (j.counterTaken s) := by
  rw [metEventDo_eq h, afterCheck_passed hk, if_neg hs]

/-- The session has an open interval. -/
def State.metOpen (s : State) (ses : Bytes) : Bool := s.met.intervals.any (fun o => o.session == ses)

/-- The state in which the interval of a START is open. -/
def Job.opened (j : Job) (ses : Bytes) (stamp : Stamp) (s : State) : State :=
  { s with met.intervals := s.met.intervals ++ [{ session := ses, slice := j.slice, source := fieldLE j.params 0 2, start := stamp }] }

theorem metStart_eq : metStart j ses stamp s = if s.metOpen ses then fail j stInputMalformed s
    else if 16384 ≤ s.met.intervals.length then fail j stSessionUnavailable s
    else if !stamp.ok then fail j stTimeUntraceable s else done j [(0, leBytes 8 stamp.epoch.toNat)] (j.opened ses stamp s) := rfl

/-- The open interval that an END closes, the state in which it is closed, and that in which its record is kept. -/
def Job.metFound (j : Job) (ses : Bytes) (s : State) : Option MetOpen :=
  s.met.intervals.find? (fun o => o.session == ses && o.slice == j.slice)
def intervalClosed (ses : Bytes) (s : State) : State :=
  { s with met.intervals := s.met.intervals.filter (fun x => x.session != ses) }
def Job.recorded (j : Job) (body : Bytes) (s : State) : State :=
  { s with met.ring := lastN 2048 (s.met.ring ++ [{ seq := s.met.recordSeq, slice := j.slice, body := body }]), met.recordSeq := s.met.recordSeq + 1 }

/-- The record of an interval that a job closes. -/
def Job.metBody (j : Job) (o : MetOpen) (stamp : Stamp) (s : State) : Bytes := tariffBody s o stamp.epoch (fieldLE j.params 0 2)

theorem metEnd_unknown_eq (hf : j.metFound ses s = none) :
    metEnd j ses stamp s = if !s.makesRecords then fail j stKeyPolicyDenied s else fail j stInputMalformed s := by
  unfold metEnd
  rw [show s.met.intervals.find? _ = none from hf]

theorem metEnd_found_eq {o : MetOpen} (hf : j.metFound ses s = some o) :
    metEnd j ses stamp s = if !s.makesRecords then fail j stKeyPolicyDenied s
      else if !traceable o.start stamp then fail j stTimeUntraceable (intervalClosed ses s)
      else fresh (done j [(0, tariffRecord (intervalClosed ses s) (j.metBody o stamp (intervalClosed ses s)))]
        (j.recorded (j.metBody o stamp (intervalClosed ses s)) (intervalClosed ses s))) := by
  unfold metEnd
  rw [show s.met.intervals.find? _ = some o from hf]
  rfl

section
variable (h : s.job? id = some j)
include h

theorem metStart_again (ho : s.metOpen ses = true) : ends s (metStart j ses stamp s) id stInputMalformed [] := by
  rw [metStart_eq, if_pos ho]
  exact decided_fail h (by decide)

theorem metStart_full (ho : s.metOpen ses = false) (hr : 16384 ≤ s.met.intervals.length) :
    ends s (metStart j ses stamp s) id stSessionUnavailable [] := by
  rw [metStart_eq, if_neg (ne_true_of_eq_false ho), if_pos hr]
  exact decided_fail h (by decide)

theorem metStart_untraceable (ho : s.metOpen ses = false) (hr : s.met.intervals.length < 16384) (hs : stamp.ok = false) :
    ends s (metStart j ses stamp s) id stTimeUntraceable [] := by
  rw [metStart_eq, if_neg (ne_true_of_eq_false ho), if_neg (Nat.not_le.mpr hr), refusedBy rfl hs]
  exact decided_fail h (by decide)

theorem metStart_opens (ho : s.metOpen ses = false) (hr : s.met.intervals.length < 16384) (hs : stamp.ok = true) :
    ends (j.opened ses stamp s) (metStart j ses stamp s) id 0 [(0, leBytes 8 stamp.epoch.toNat)] := by
  rw [metStart_eq, if_neg (ne_true_of_eq_false ho), if_neg (Nat.not_le.mpr hr), passedBy rfl hs]
  exact decided_ok (s := j.opened ses stamp s) h

theorem metEnd_denied (hm : s.makesRecords = false) : ends s (metEnd j ses stamp s) id stKeyPolicyDenied [] := by
  rw [metEnd, refusedBy rfl hm]
  exact decided_fail h (by decide)

theorem metEnd_unknown (hm : s.makesRecords = true) (hf : j.metFound ses s = none) :
    ends s (metEnd j ses stamp s) id stInputMalformed [] := by
  rw [metEnd_unknown_eq hf, passedBy rfl hm]
  exact decided_fail h (by decide)

section
variable {o : MetOpen} (hm : s.makesRecords = true) (hf : j.metFound ses s = some o)
include hm hf

theorem metEnd_untraceable (ht : traceable o.start stamp = false) :
    ends (intervalClosed ses s) (metEnd j ses stamp s) id stTimeUntraceable [] := by
  rw [metEnd_found_eq hf, passedBy rfl hm, refusedBy rfl ht]
  exact decided_fail (s := intervalClosed ses s) h (by decide)

theorem metEnd_records (ht : traceable o.start stamp = true) :
    ends (fresh (j.recorded (j.metBody o stamp (intervalClosed ses s)) (intervalClosed ses s))) (metEnd j ses stamp s) id 0
      [(0, tariffRecord (intervalClosed ses s) (j.metBody o stamp (intervalClosed ses s)))] := by
  rw [metEnd_found_eq hf, passedBy rfl hm, passedBy rfl ht]
  exact ends_fresh (decided_ok (s := j.recorded _ (intervalClosed ses s)) h)

end
end

/-! ## MET_INFO and MET_RECORD_GET (R433, R434) -/

theorem metInfoDo_ends (h : computes s id 0x0B03 j) : ends s (metInfoDo id s) id 0 [(0, leBytes 4 s.met.swId.toNat ++ fit 32 s.met.swSum ++
    leBytes 1 s.met.st.code ++ leBytes 1 s.breaks ++ [s.met.keyEpoch, 0] ++ leBytes 8 s.met.recordSeq ++ fit 2021 s.met.pubKey)] :=
  runOp_ends_of_done h rfl

/-- The newest record of the session that a MET_RECORD_GET job names. -/
def Job.metNewest (j : Job) (s : State) : Option MetRecord :=
  (s.met.ring.filter (fun r => r.slice == j.slice && cut r.body 48 16 == cut j.params 0 16)).getLast?

theorem metRecordGetDo_unknown (h : computes s id 0x0B04 j) (hr : j.metNewest s = none) :
    ends s (metRecordGetDo id s) id stInputMalformed [] := by
  refine runOp_ends_of_fail h ?_ (by decide)
  rw [show List.getLast? _ = none from hr]

section
variable {r : MetRecord} (h : computes s id 0x0B04 j) (hr : j.metNewest s = some r)
include h hr

theorem metRecordGetDo_denied (hd : s.met.st = .fuseInvalid ∨ s.makesRecords = false) :
    ends s (metRecordGetDo id s) id stKeyPolicyDenied [] := by
  refine runOp_ends_of_fail h ?_ (by decide)
  rw [show List.getLast? _ = some r from hr]
  exact if_pos (by simpa using hd)

theorem metRecordGetDo_ends (hd : ¬(s.met.st = .fuseInvalid ∨ s.makesRecords = false)) :
    ends (fresh s) (metRecordGetDo id s) id 0 [(0, tariffRecord s r.body)] := by
  refine runOp_ends_of_drawn h ?_
  rw [show List.getLast? _ = some r from hr]
  exact if_neg (by simpa using hd)

end

end Sys2Proof.Machine
end

section
/-! SUPPORT. The statement on metrology jobs. -/
namespace Sys2Proof.Machine

/-- Settles O30: each row is a law of its opcode under the row's condition; an END that finds its interval closes it, with or without a
record. -/
theorem metrologyJobsDecide : Obligations.MetrologyJobsDecide := by
  unfold Obligations.MetrologyJobsDecide
  intro s id j n point p num_ stamp chk s1 ses open_ room found s2 start rec_ mk shut
  refine ⟨forall_sextuple_of_forall_mem ?rows, fun o ho hs hc => ⟨_, rfl, fun hu => ?untraceable, fun ht => ?records⟩⟩
  case rows =>
    have hroom : room = true ↔ (j.counterTaken s).met.intervals.length < 16384 := decide_eq_true_iff
    have hfull : room = false ↔ 16384 ≤ (j.counterTaken s).met.intervals.length := by
      rw [← Nat.not_lt, ← hroom, Bool.not_eq_true]
    have hstart : start = true ↔ j.pb 2 = 1 := beq_iff_eq
    have hend : start = false ↔ j.pb 2 ≠ 1 := beq_eq_false_iff_ne
    have hshut : shut = true ↔ s.met.st = .fuseInvalid ∨ s.makesRecords = false := by simp [shut, mk]
    simp only [List.forall_mem_cons, Bool.and_eq_true, Bool.not_eq_true', beq_iff_eq, bne_iff_ne, decide_eq_true_eq, hroom, hfull,
      hstart, hend, Option.isNone_iff_eq_none]
    refine ⟨fun hc => ⟨_, rfl, metSourceAddDo_badPoint hc⟩,
      fun hc => ⟨_, rfl, fun ⟨hk, hn⟩ => metSourceAddDo_full hc hk hn⟩,
      fun hc => ⟨_, rfl, fun ⟨hk, hn⟩ => metSourceAddDo_adds hc hk hn⟩,
      fun hc => ⟨_, rfl, metEventDo_refused hc⟩,
      fun hc => ⟨_, rfl, fun ⟨⟨hk, hs⟩, ho⟩ => metEventDo_start hc hk hs ▸ metStart_again (s := j.counterTaken s) hc.1 ho⟩,
      fun hc => ⟨_, rfl, fun ⟨⟨⟨hk, hs⟩, ho⟩, hr⟩ => metEventDo_start hc hk hs ▸ metStart_full (s := j.counterTaken s) hc.1 ho hr⟩,
      fun hc => ⟨_, rfl, fun ⟨⟨⟨⟨hk, hs⟩, ho⟩, hr⟩, ht⟩ => metEventDo_start hc hk hs ▸ metStart_untraceable (s := j.counterTaken s) hc.1 ho hr ht⟩,
      fun hc => ⟨_, rfl, fun ⟨⟨⟨⟨hk, hs⟩, ho⟩, hr⟩, ht⟩ => metEventDo_start hc hk hs ▸ metStart_opens (s := j.counterTaken s) hc.1 ho hr ht⟩,
      fun hc => ⟨_, rfl, fun ⟨⟨hk, hs⟩, hm⟩ => metEventDo_end hc hk hs ▸ metEnd_denied (s := j.counterTaken s) hc.1 hm⟩,
      fun hc => ⟨_, rfl, fun ⟨⟨⟨hk, hs⟩, hm⟩, hf⟩ => metEventDo_end hc hk hs ▸ metEnd_unknown (s := j.counterTaken s) hc.1 hm hf⟩,
      fun hc => ⟨_, rfl, fun _ => metInfoDo_ends hc⟩,
      fun hc => ⟨_, rfl, metRecordGetDo_unknown hc⟩,
      fun hc => ⟨_, rfl, ?denied⟩,
      fun hc => ⟨_, rfl, ?got⟩,
      List.forall_mem_nil _⟩
    case denied =>
      intro ⟨hr, hd⟩
      obtain ⟨r, hr⟩ := Option.isSome_iff_exists.mp hr
      exact metRecordGetDo_denied hc hr (hshut.mp hd)
    case got =>
      intro ⟨hr, hd⟩
      obtain ⟨r, hr⟩ := Option.isSome_iff_exists.mp hr
      rw [hr]
      exact metRecordGetDo_ends hc hr (mt hshut.mpr (ne_true_of_eq_false hd))
  case untraceable =>
    simp only [Bool.and_eq_true, Bool.not_eq_true', beq_iff_eq] at hu
    obtain ⟨⟨hk, hm⟩, ht⟩ := hu
    rw [metEventDo_end hc hk (beq_eq_false_iff_ne.mp hs)]
    exact metEnd_untraceable (s := j.counterTaken s) hc.1 hm ho ht
  case records =>
    simp only [Bool.and_eq_true, beq_iff_eq] at ht
    obtain ⟨⟨hk, hm⟩, ht⟩ := ht
    rw [metEventDo_end hc hk (beq_eq_false_iff_ne.mp hs)]
    exact metEnd_records (s := j.counterTaken s) hc.1 hm ho ht

end Sys2Proof.Machine
end

section
/-! SUPPORT. Tamper sources and detectors, the committed configuration and the burned fuses (R436 to R440, R444, R456). -/
namespace Sys2Proof.Machine

variable {s : State} {n code d : Nat} {detail : BitVec 8} {value : BitVec 32}

/-! ## Alarms (R436 to R438, R444) -/

/-- In reset an alarm brings RINSE alone, as RINSE_ASSERT does. -/
theorem tamperAlarm_reset (h : s.pwr.inReset = true) (hc : code < 256) :
    .next (tamperAlarm code detail.toNat s) = exec (.rinseAssert (BitVec.ofNat 8 code) detail) s := by
  have hn : (BitVec.ofNat 8 code).toNat = code := Nat.mod_eq_of_lt hc
  exact next_congr ((if_pos h).trans (congrArg (rinse · detail.toNat s) hn.symm))

theorem tamperAlarm_running (h : s.pwr.inReset = false) : tamperAlarm code d s = raiseEvent code d .none .own s := if_neg (by simp [h])

theorem sourceOff_iff : s.sourceOff n = true ↔ bit s.otp.tdis (2 * n) = true ∧ bit s.otp.tdis (2 * n + 1) = true := Bool.and_eq_true_iff

theorem sourceOn_iff : s.sourceOff n = false ↔ bit s.otp.tdis (2 * n) = false ∨ bit s.otp.tdis (2 * n + 1) = false := Bool.and_eq_false_iff

theorem sourceAlarm_off (h : s.sourceOff n = true) : sourceAlarm n code d s = s := if_pos h

theorem sourceAlarm_reset (h : s.sourceOff n = false) (hr : s.pwr.inReset = true) (hc : code < 256) :
    .next (sourceAlarm n code detail.toNat s) = exec (.rinseAssert (BitVec.ofNat 8 code) detail) s := by
  rw [← tamperAlarm_reset hr hc]
  simp [sourceAlarm, h, hr]

theorem sourceAlarm_running (h : s.sourceOff n = false) (hr : s.pwr.inReset = false) :
    sourceAlarm n code d s = raiseEvent code d .none .own { s with tmp.alarm := s.tmp.alarm ||| (1 <<< n) } := by
  rw [← tamperAlarm_running (s := { s with tmp.alarm := s.tmp.alarm ||| (1 <<< n) }) hr]
  simp [sourceAlarm, h, hr]

/-- A command that is a source's alarm. -/
theorem source_alarms {c : Instr} (he : exec c s = .next (sourceAlarm n code detail.toNat s)) (hc : code < 256) :
    (bit s.otp.tdis (2 * n) = true ∧ bit s.otp.tdis (2 * n + 1) = true → exec c s = .next s) ∧
    (bit s.otp.tdis (2 * n) = false ∨ bit s.otp.tdis (2 * n + 1) = false →
      (s.pwr.inReset = true → exec c s = exec (.rinseAssert (BitVec.ofNat 8 code) detail) s) ∧
      (s.pwr.inReset = false →
        exec c s = .next (raiseEvent code detail.toNat .none .own { s with tmp.alarm := s.tmp.alarm ||| (1 <<< n) }))) := by
  rw [he, ← sourceOff_iff, ← sourceOn_iff]
  exact ⟨fun h => next_congr (sourceAlarm_off h), fun h =>
    ⟨fun hr => sourceAlarm_reset h hr hc, fun hr => next_congr (sourceAlarm_running h hr)⟩⟩

/-- A detector whose condition is `works` and whose code is `code`. -/
theorem detector_alarms {det : Detector} {works : Prop} (hd : s.detects det = true ↔ works) (hk : detectorCode det = code) (hc : code < 256) :
    (¬works → exec (.tamperAlarm det detail) s = .next s) ∧
    (works → (s.pwr.inReset = true → exec (.tamperAlarm det detail) s = exec (.rinseAssert (BitVec.ofNat 8 code) detail) s) ∧
      (s.pwr.inReset = false → exec (.tamperAlarm det detail) s = .next (raiseEvent code detail.toNat .none .own s))) := by
  subst hk
  have he : exec (.tamperAlarm det detail) s = .next (tamperAlarmDo det detail s) := rfl
  rw [← hd, he]
  refine ⟨fun h => next_congr (if_neg h), fun h => ?_⟩
  rw [show tamperAlarmDo det detail s = tamperAlarm (detectorCode det) detail.toNat s from if_pos h]
  exact ⟨fun hr => tamperAlarm_reset hr hc, fun hr => next_congr (tamperAlarm_running hr)⟩

/-- VBAT is measured; the warning is raised out of reset, under main power, below 2.3 V. -/
theorem vbatLowWarningDo_eq {mv : BitVec 16} : vbatLowWarningDo mv s =
    if (s.pwr.mainPower = true ∧ s.pwr.inReset = false) ∧ mv < 2300 then raiseOpen 0x05 { s with tmp.vbat := mv } else { s with tmp.vbat := mv } := by
  simp [vbatLowWarningDo]

/-! ## Configuration (R440) -/

theorem earlyLife_iff : s.earlyLife = true ↔ s.lcs.state = .maker ∨ s.lcs.state = .integrator := by
  unfold State.earlyLife
  split <;> simp_all

theorem commitAllowed_iff : (s.earlyLife || s.quorumInForce) = true ↔ (s.lcs.state = .maker ∨ s.lcs.state = .integrator) ∨ s.thm.quorum.isSome = true :=
  Bool.or_eq_true_iff.trans (or_congr_left earlyLife_iff)

theorem tamperCommitDo_idle (h : bit value 0 = false) : tamperCommitDo value s = s := by simp [tamperCommitDo, h]

theorem tamperCommitDo_taken (h : bit value 0 = true) (ha : (s.earlyLife || s.quorumInForce) = true) (hc : s.configOk s.tmp.stage = true) :
    tamperCommitDo value s = { s with tmp.active := s.tmp.stage, tmp.mirror := s.tmp.stage, tmp.mirrorGood := true } := by
  simp [tamperCommitDo, h, ha, hc]

theorem tamperCommitDo_rejected (h : bit value 0 = true) (hn : ((s.earlyLife || s.quorumInForce) && s.configOk s.tmp.stage) = false) :
    tamperCommitDo value s = raiseOpen 0x06 { s with tmp.cfgReject := true } := by
  simp only [tamperCommitDo, h, hn, Bool.not_true, Bool.false_eq_true, if_false]

/-- A PRBS loop without a seed is not taken. -/
theorem configOk_seedless {c : TamperCfg} (hn : n < 8) (hp : (tget c.loops {} n).prbs = true) (hs : (tget c.loops {} n).seed = 0) :
    s.configOk c = false := by
  refine List.all_eq_false.mpr ⟨n, List.mem_range.mpr hn, ?_⟩
  rw [hp, hs]
  exact Bool.false_ne_true

/-- Two enabled PRBS loops with one seed are not taken. -/
theorem configOk_sameSeed {c : TamperCfg} {m : Nat} (hn : n < 8) (hm : m < n) (hp : (tget c.loops {} n).prbs = true)
    (hq : (tget c.loops {} m).prbs = true) (hs : (tget c.loops {} n).seed = (tget c.loops {} m).seed) (ho : s.sourceOff n = false)
    (hu : s.sourceOff m = false) : s.configOk c = false := by
  have hx : (List.range n).all (fun m => !(tget c.loops {} m).prbs || s.sourceOff m || (tget c.loops {} m).seed != (tget c.loops {} n).seed) = false :=
    List.all_eq_false.mpr ⟨m, List.mem_range.mpr hm, by rw [hq, hs, hu, bne_self_eq_false]; exact Bool.false_ne_true⟩
  refine List.all_eq_false.mpr ⟨n, List.mem_range.mpr hn, ?_⟩
  rw [hx, hp, ho, Bool.or_self, Bool.and_false]
  exact Bool.false_ne_true

/-! ## Fuses (R439) -/

/-- The pairs of the sources below `n` that `p` names, as one number. -/
def pairSum (p : Nat → Bool) (n : Nat) : Nat := ((List.range n).filter p).foldl (fun a n => a + 3 * 4 ^ n) 0

theorem pairSum_succ (p : Nat → Bool) (n : Nat) : pairSum p (n + 1) = 2 ^ (2 * n) * (if p n then 3 else 0) + pairSum p n := by
  have hw : (4 : Nat) ^ n = 2 ^ (2 * n) := (Nat.pow_mul 2 2 n).symm
  unfold pairSum
  rw [List.range_succ, List.filter_append, List.foldl_append]
  cases hp : p n <;> simp [hp, hw]
  omega

theorem pairSum_lt (p : Nat → Bool) (n : Nat) : pairSum p n < 2 ^ (2 * n) := by
  induction n with
  | zero => exact Nat.one_pos
  | succ n ih =>
    rw [pairSum_succ, show 2 ^ (2 * (n + 1)) = 2 ^ (2 * n) * 4 from Nat.pow_add 2 (2 * n) 2]
    split <;> omega

/-- Each source named has both bits of its pair set, each other one neither. -/
theorem testBit_pairSum (p : Nat → Bool) {k b : Nat} (hb : b < 2) (n : Nat) :
    (pairSum p n).testBit (2 * k + b) = (decide (k < n) && p k) := by
  induction n with
  | zero => simp [pairSum]
  | succ n ih =>
    rw [pairSum_succ, Nat.testBit_two_pow_mul_add _ (pairSum_lt p n)]
    rcases Nat.lt_trichotomy k n with hk | rfl | hk
    · rw [if_pos (by omega), ih]
      simp [hk, Nat.lt_succ_of_lt hk]
    · rw [if_neg (by omega), Nat.add_sub_cancel_left]
      have h3 : Nat.testBit 3 b = true := by interval_cases b <;> rfl
      cases p k <;> simp [h3]
    · rw [if_neg (by omega)]
      have hx : ∀ m, (if p n then 3 else 0 : Nat).testBit (m + 2) = false := fun m => by split <;> simp [Nat.testBit_add]
      rw [show 2 * k + b - 2 * n = (2 * k + b - 2 * n - 2) + 2 by omega, hx]
      simp [show ¬k < n + 1 by omega]

theorem bit_fusePairs {v : BitVec 12} {b : Nat} (hb : b < 2) (hn : n < 12) : bit (fusePairs v) (2 * n + b) = bit v n := by
  have hp := testBit_pairSum (bit v) (k := n) hb 12
  rw [decide_eq_true hn, Bool.true_and] at hp
  unfold bit fusePairs
  rw [BitVec.getLsbD_ofNat, decide_eq_true (show 2 * n + b < 24 by omega), Bool.true_and]
  exact hp

theorem bit_tdisBurned {b : Nat} (hb : b < 2) (hn : n < 12) :
    bit (s.otp.tdis ||| fusePairs (fld value 0 12)) (2 * n + b) = (bit s.otp.tdis (2 * n + b) || bit value n) := by
  have hv : bit (fld value 0 12) n = bit value n := by simp [bit, fld, hn]
  rw [← hv, ← bit_fusePairs hb hn]
  exact BitVec.getLsbD_or

/-! ## The obligation -/

/-- Settles O46: each alarm by the fuses of its source or the condition of its detector, in reset and out of it; the commit by its
permission and the first fault of its seeds; the burn by the bits of the pairs it sets. -/
theorem tamperSourcesAlarm : Obligations.TamperSourcesAlarm := by
  intro s loop sw detail mv value early running vbat staged reject
  have reject_of {hb : barOpen s} (h : bit value 0 = true) (hc : s.configOk s.tmp.stage = false) : exec (.tamperCommit value) s = .next reject :=
    next_atBar hb (tamperCommitDo_rejected h (Bool.and_eq_false_iff.mpr (.inr hc)))
  refine ⟨?_, ?_, fun h => next_congr (vbatLowWarningDo_eq.trans (if_pos h)), fun h => next_congr (vbatLowWarningDo_eq.trans (if_neg h)),
    fun hb h => next_atBar hb (tamperCommitDo_idle h), fun hb h => ⟨fun ha hc => next_atBar hb (tamperCommitDo_taken h (commitAllowed_iff.mpr ha) hc),
      fun ha => next_atBar hb (tamperCommitDo_rejected h ?_), fun n hn hp hs => reject_of (hb := hb) h (configOk_seedless hn hp hs),
      fun n m hn hm hp hq hs ho hu => reject_of (hb := hb) h (configOk_sameSeed hn hm hp hq hs ho hu)⟩,
    fun hb h => next_atBar hb (if_neg (mt earlyLife_iff.mp h)), fun hb h => ⟨_, next_atBar hb (if_pos (earlyLife_iff.mpr h)), rfl, fun n hn =>
      ⟨bit_tdisBurned Nat.two_pos hn, bit_tdisBurned Nat.one_lt_two hn⟩⟩⟩
  · have hl := loop.isLt
    have hw := sw.isLt
    refine forall_quadruple_of_forall_mem ?_
    simp only [List.forall_mem_cons]
    exact ⟨source_alarms rfl (by omega), source_alarms rfl (by omega), List.forall_mem_nil _⟩
  · refine forall_triple_of_forall_mem ?_
    simp only [List.forall_mem_cons]
    refine ⟨detector_alarms ?_ rfl ?_, detector_alarms ?_ rfl ?_, detector_alarms ?_ rfl ?_, detector_alarms ?_ rfl ?_, detector_alarms ?_ rfl ?_,
      detector_alarms ?_ rfl ?_, detector_alarms ?_ rfl ?_, List.forall_mem_nil _⟩ <;> simp [State.detects, running]
  · exact Bool.and_eq_false_iff.mpr (.inl (Bool.eq_false_iff.mpr (mt commitAllowed_iff.mp ha)))

end Sys2Proof.Machine
end

section
/-! SUPPORT. What jobs that go on to their end leave of the state, field by field, and of one another (R35, R106, R113 to R115, R447). -/
namespace Sys2Proof.Machine

variable {r s t : State} {k status : Nat}

/-! ## The state beside the jobs -/

/-- A request for random bytes that a job makes. -/
def DrbgFor.ofJob : DrbgFor → Bool
  | .job _ _ => true
  | _ => false

/-- The engines without what the end of a job changes of them. -/
def EngState.beside (e : EngState) : EngState := { e with lanes := [], switches := 0, ekc.entries := [], dpk.entries := [] }

/-- The Key Vault without what the end of a job changes of it. -/
def KvState.beside (v : KvState) : KvState :=
  { v with kt := [], ps := [], dying := [], hbs := [], pairs := [], replacing := [], journal := [] }

/-- The state without what the end of a job can change. -/
def State.beside (s : State) : State :=
  { s with jobs := [], ctxs := [], eng := s.eng.beside, kv := s.kv.beside, slices := [], cqs := [], sched.misses := [],
           rng.queue := s.rng.queue.filter (fun d => !d.ofJob), thm.run := none, met.mailbox := [], hif.pba := [], hif.dmaFaults := 0,
           outbox := [], freeCtr := 0 }

/-- The job is the same, further on: its slice and its parent are as before, a suppressed completion stays suppressed, and it does not
come to run. -/
structure Job.Onward (j i : Job) : Prop where
  slice : i.slice = j.slice
  parent : i.parent = j.parent
  suppressed : j.suppressed = true → i.suppressed = true
  stoppable : j.stoppable = false → i.stoppable = false

theorem Job.Onward.refl {j : Job} : j.Onward j := ⟨rfl, rfl, fun h => h, fun h => h⟩
theorem Job.Onward.trans {j i l : Job} (h : j.Onward i) (h' : i.Onward l) : j.Onward l :=
  ⟨h'.slice.trans h.slice, h'.parent.trans h.parent, h'.suppressed ∘ h.suppressed, h'.stoppable ∘ h.stoppable⟩

/-- A job whose phase becomes one in which it does not run. -/
theorem Job.Onward.at {j i : Job} (hs : i.slice = j.slice) (hp : i.parent = j.parent) (hu : j.suppressed = true → i.suppressed = true)
    (h : i.stoppable = false) : j.Onward i := ⟨hs, hp, hu, fun _ => h⟩

/-- A job whose phase is as before. -/
theorem Job.Onward.still {j i : Job} (hs : i.slice = j.slice) (hp : i.parent = j.parent) (hu : j.suppressed = true → i.suppressed = true)
    (h : i.phase = j.phase) : j.Onward i := ⟨hs, hp, hu, fun hj => by rwa [Job.stoppable, h]⟩

/-- From `r` to `s` jobs have gone on: beside them nothing differs, no request for random bytes is new, and each job that is left is one
of before, further on. -/
structure JobsGoOn (r s : State) : Prop where
  beside : s.beside = r.beside
  requests : s.rng.queue ⊆ r.rng.queue
  onward : ∀ id i, s.job? id = some i → ∃ j, r.job? id = some j ∧ j.Onward i

theorem JobsGoOn.refl : JobsGoOn s s := ⟨rfl, List.Subset.refl _, fun _ i h => ⟨i, h, .refl⟩⟩

theorem JobsGoOn.trans (h : JobsGoOn r s) (h' : JobsGoOn s t) : JobsGoOn r t := by
  refine ⟨h'.beside.trans h.beside, List.Subset.trans h'.requests h.requests, fun id i hi => ?_⟩
  obtain ⟨j, hj, hji⟩ := h'.onward id i hi
  obtain ⟨l, hl, hlj⟩ := h.onward id j hj
  exact ⟨l, hl, hlj.trans hji⟩

theorem job_of_map {g : Job → Job} (hj : t.jobs = s.jobs.map g) (hid : ∀ j, (g j).id = j.id) (id : Nat) : t.job? id = (s.job? id).map g := by
  unfold State.job?
  rw [hj, List.find?_map]
  exact congrArg (fun p => (List.find? p s.jobs).map g) (funext fun j => congrArg (· == id) (hid j))

section
variable (h : JobsGoOn r s)
include h

theorem JobsGoOn.aside (hb : t.beside = s.beside) (hj : t.jobs = s.jobs)
    (hq : t.rng.queue ⊆ s.rng.queue := by exact List.Subset.refl _) : JobsGoOn r t :=
  ⟨hb.trans h.beside, List.Subset.trans hq h.requests, fun id i hi => h.onward id i ((job_congr hj id).symm.trans hi)⟩

theorem JobsGoOn.map {g : Job → Job} (hb : t.beside = s.beside) (hj : t.jobs = s.jobs.map g) (hid : ∀ j, (g j).id = j.id)
    (hg : ∀ j : Job, j.Onward (g j)) (hq : t.rng.queue ⊆ s.rng.queue := by exact List.Subset.refl _) : JobsGoOn r t := by
  refine h.trans ⟨hb, hq, fun id i hi => ?_⟩
  rw [job_of_map hj hid] at hi
  obtain ⟨j, hj, rfl⟩ := Option.map_eq_some_iff.mp hi
  exact ⟨j, hj, hg j⟩

theorem JobsGoOn.mapIf {p : Job → Bool} {f : Job → Job} (hb : t.beside = s.beside) (hj : t.jobs = mapIf p f s.jobs)
    (hid : ∀ j, (f j).id = j.id) (hf : ∀ j : Job, j.Onward (f j))
    (hq : t.rng.queue ⊆ s.rng.queue := by exact List.Subset.refl _) : JobsGoOn r t := by
  refine h.map hb hj (fun j => ?_) (fun j => ?_) hq
  · split
    · exact hid j
    · rfl
  · split
    · exact hf j
    · exact .refl

theorem JobsGoOn.foldl {α : Type} {f : State → α → State} {l : List α} (hf : ∀ u a, JobsGoOn r u → JobsGoOn r (f u a)) :
    JobsGoOn r (l.foldl f s) := List.foldlRecOn (motive := JobsGoOn r) l f h fun u hu a _ => hf u a hu

theorem JobsGoOn.modJob {f : Job → Job} (hid : ∀ j, (f j).id = j.id) (hf : ∀ j : Job, j.Onward (f j)) : JobsGoOn r (s.modJob k f) :=
  h.mapIf rfl rfl hid hf

/-- A change of a job that its slice, its parent, its phase and its suppression do not show. -/
theorem JobsGoOn.modStill {f : Job → Job} (hid : ∀ j, (f j).id = j.id) (hs : ∀ j, (f j).slice = j.slice) (hp : ∀ j, (f j).parent = j.parent)
    (hu : ∀ j, j.suppressed = true → (f j).suppressed = true) (hf : ∀ j, (f j).phase = j.phase) : JobsGoOn r (s.modJob k f) :=
  h.modJob hid fun j => .still (hs j) (hp j) (hu j) (hf j)

end

theorem job_dropJob {id : Nat} : (s.dropJob k).job? id = if id = k then none else s.job? id := by
  unfold State.job? State.dropJob
  rw [List.find?_filter]
  split
  · next hk => exact List.find?_eq_none.mpr fun j _ => by simp [hk]
  · next hk =>
    refine congrArg (fun p => List.find? p s.jobs) (funext fun j => ?_)
    by_cases hj : j.id = id
    · simp [hj, hk]
    · simp [hj]

/-! ## The walk -/

section
variable (h : JobsGoOn r s)
include h

theorem JobsGoOn.dropJob : JobsGoOn r (s.dropJob k) := by
  refine h.trans ⟨rfl, List.Subset.refl _, fun id i hi => ?_⟩
  rw [job_dropJob] at hi
  split at hi
  · cases hi
  · exact ⟨i, hi, .refl⟩

theorem JobsGoOn.countLoad {c : Nat} : JobsGoOn r (countLoad c s) := by
  unfold Machine.countLoad
  split
  · exact h.aside rfl rfl
  · exact h

theorem JobsGoOn.leaveWho {c : Nat} {w : Who} : JobsGoOn r (leaveWho c w s) := by
  have hl {f : LaneState → LaneState} : JobsGoOn r (s.modLane c f) := h.aside rfl rfl
  unfold Machine.leaveWho
  dsimp only
  split
  · split
    · exact hl
    · exact hl.countLoad
  · exact hl

theorem JobsGoOn.leaveLane {j : Job} : JobsGoOn r (leaveLane j s) := by
  unfold Machine.leaveLane
  split
  · exact h.leaveWho
  · exact h

theorem JobsGoOn.leaveTree {c : Nat} : JobsGoOn r (leaveTree c s) := by
  unfold Machine.leaveTree
  split
  · exact h.foldl fun _ _ hu => hu.leaveWho
  · exact h

theorem JobsGoOn.modSlot {kt : Bool} {i : Nat} {f : Slot → Slot} : JobsGoOn r (s.modSlot kt i f) := by
  cases kt <;> exact h.aside rfl rfl

theorem JobsGoOn.freeSlots {kt : Bool} {i n : Nat} : JobsGoOn r (freeSlots kt i n s) := h.foldl fun _ _ hu => hu.modSlot

theorem JobsGoOn.sweepRuns : JobsGoOn r (sweepRuns s) := by
  unfold Machine.sweepRuns
  exact (h.aside (t := { s with kv.dying := _ }) (by rfl) (by rfl)).foldl fun _ _ hu => hu.freeSlots

theorem JobsGoOn.sweepOld : JobsGoOn r (sweepOld s) := by
  refine JobsGoOn.sweepRuns ?_
  split
  · exact h.aside rfl rfl
  · exact h

theorem JobsGoOn.releaseRun {kt : Bool} {first count i : Nat} {g : BitVec 16} : JobsGoOn r (releaseRun kt first count i g s) := by
  unfold Machine.releaseRun
  split
  · exact h.aside rfl rfl
  · exact h.freeSlots

theorem JobsGoOn.deleteKey {kt : Bool} {i : Nat} : JobsGoOn r (deleteKey kt i s) := by
  have hi : JobsGoOn r (invalidateKey kt i (s.slot kt i).gen s) := h.aside rfl rfl
  unfold Machine.deleteKey
  dsimp only
  refine JobsGoOn.modSlot ?_
  split
  · exact hi.releaseRun
  · exact hi.releaseRun.aside rfl rfl

theorem JobsGoOn.wakeFill {e : CacheEntry} : JobsGoOn r (wakeFill e s) := h.mapIf rfl rfl (fun _ => rfl) fun _ => .at rfl rfl id rfl

theorem JobsGoOn.wakeFills {es : List CacheEntry} : JobsGoOn r (wakeFills es s) := h.foldl fun _ _ hu => hu.wakeFill

theorem JobsGoOn.dropFills : JobsGoOn r (dropFills k s) := by
  unfold Machine.dropFills
  dsimp only
  split
  · exact h
  · exact (h.aside (by rfl) (by rfl)).wakeFills

theorem JobsGoOn.dropReplacing : JobsGoOn r (dropReplacing k s) := by
  unfold Machine.dropReplacing
  split
  · exact h
  · exact h.freeSlots.aside rfl rfl

theorem JobsGoOn.dropMade {j : Job} : JobsGoOn r (dropMade j s) := by
  unfold Machine.dropMade
  split
  · exact h.deleteKey.modStill (fun _ => rfl) (fun _ => rfl) (fun _ => rfl) (fun _ => id) fun _ => rfl
  · exact h

theorem JobsGoOn.dropSession {j : Job} : JobsGoOn r (dropSession j s) := by
  unfold Machine.dropSession
  split
  · exact (h.aside (t := s.modCtx _ _) rfl rfl).modStill (fun _ => rfl) (fun _ => rfl) (fun _ => rfl) (fun _ => id) fun _ => rfl
  · exact h

theorem JobsGoOn.restoreCtx {j : Job} : JobsGoOn r (restoreCtx j s) := by
  unfold Machine.restoreCtx
  split
  · exact (h.aside (t := s.modCtx _ _) rfl rfl).modStill (fun _ => rfl) (fun _ => rfl) (fun _ => rfl) (fun _ => id) fun _ => rfl
  · exact h

theorem JobsGoOn.undo : JobsGoOn r (undo k s) := by
  unfold Machine.undo
  split
  · refine JobsGoOn.dropReplacing (JobsGoOn.dropFills (JobsGoOn.dropMade (JobsGoOn.restoreCtx (JobsGoOn.dropSession ?_))))
    split
    · exact h.leaveLane
    · exact h
  · exact h

omit h in
/-- A job that leaves takes its request for random bytes with it, and no other. -/
theorem retire_beside {j : Job} {u : State} (hu : u = Machine.sweepOld (Machine.leaveTree j.engine (Machine.leaveLane j (s.dropJob j.id)))) :
    (retire j s).beside = u.beside := by
  have hq : ({ u with
      rng.queue := u.rng.queue.filter (fun d => match d with | .job id _ => id != j.id | _ => true)
      thm.run := u.thm.run.filter (fun r => r.job != j.id)
      met.mailbox := u.met.mailbox.filter (fun m => m.1 != j.id) } : State).beside = u.beside := by
    unfold State.beside
    dsimp only
    rw [List.filter_filter]
    have hp : (fun d => !DrbgFor.ofJob d && (match d with | .job id _ => id != j.id | _ => true)) = fun d => !DrbgFor.ofJob d := by
      funext d
      cases d <;> simp [DrbgFor.ofJob]
    rw [hp]
  subst hu
  exact hq

theorem JobsGoOn.retire {j : Job} : JobsGoOn r (retire j s) :=
  h.dropJob.leaveLane.leaveTree.sweepOld.aside (retire_beside rfl) rfl (List.filter_subset_self ..)

theorem JobsGoOn.decideLate : JobsGoOn r (decideLate k s) := by
  unfold Machine.decideLate
  split
  · exact h
  · next j _ =>
    have hm := h.modStill (k := k) (f := fun i => { i with
      late := j.parent.isNone && (s.effDeadline j).elim false (fun d => tickAfter s.tick d) })
      (fun _ => rfl) (fun _ => rfl) (fun _ => rfl) (fun _ => id) fun _ => rfl
    dsimp only
    split
    · exact hm.aside rfl rfl
    · exact hm

theorem JobsGoOn.decideJob {outs : List (Nat × Bytes)} : JobsGoOn r (decideJob k status outs s) := by
  unfold Machine.decideJob
  dsimp only
  refine JobsGoOn.decideLate (JobsGoOn.modJob ?_ (fun _ => rfl) fun _ => .at rfl rfl id rfl)
  split
  · split
    · exact h
    · exact h.dropSession
  · exact h

theorem JobsGoOn.beginWipe : JobsGoOn r (beginWipe k status s) := h.undo.modJob (fun _ => rfl) fun _ => .at rfl rfl id rfl

theorem JobsGoOn.stopTasks : JobsGoOn r (stopTasks k status s) := by
  refine h.foldl fun u t hu => ?_
  have hm {f : Job → Job} := @JobsGoOn.modStill r u t.id hu f
  dsimp only
  split
  · have hs := hm (f := fun t => { t with suppressed := true, stop := some (t.stop.getD status) })
      (fun _ => rfl) (fun _ => rfl) (fun _ => rfl) (fun _ _ => rfl) fun _ => rfl
    split
    · exact hs.beginWipe
    · exact hs
  · exact hm (fun _ => rfl) (fun _ => rfl) (fun _ => rfl) (fun _ _ => rfl) fun _ => rfl
  · exact hm (fun _ => rfl) (fun _ => rfl) (fun _ => rfl) (fun _ _ => rfl) fun _ => rfl
  · exact hu.undo.retire

theorem JobsGoOn.taskFailed {p : Nat} : JobsGoOn r (taskFailed p k status s) :=
  JobsGoOn.stopTasks (h.modStill (fun _ => rfl) (fun _ => rfl) (fun _ => rfl) (fun _ => id) fun _ => rfl)

theorem JobsGoOn.endWiping : JobsGoOn r (endWiping k status s) := by
  unfold Machine.endWiping
  dsimp only
  split
  · exact h
  · split
    · split
      · exact h.beginWipe
      · exact h.beginWipe.taskFailed
    · exact h.beginWipe.decideLate.stopTasks

theorem JobsGoOn.settleTasks : JobsGoOn r (settleTasks k s) := by
  unfold Machine.settleTasks
  split
  · split
    · split
      · exact h.endWiping
      · exact h
    · exact h
  · exact h

theorem JobsGoOn.endTaskOf {t : Job} {p : Nat} : JobsGoOn r (endTaskOf t p s) := by
  refine JobsGoOn.settleTasks (JobsGoOn.retire ?_)
  split
  · exact h.modStill (fun _ => rfl) (fun _ => rfl) (fun _ => rfl) (fun _ => id) fun _ => rfl
  · exact h

theorem JobsGoOn.emit {o : Output} : JobsGoOn r (emit o s) := h.aside rfl rfl

theorem JobsGoOn.msixDue {v : Nat} : JobsGoOn r (msixDue v s) := by
  unfold Machine.msixDue
  split
  · exact h.emit
  · exact h.aside rfl rfl

theorem JobsGoOn.postEntry {i q : Nat} {e : Entry} : JobsGoOn r (postEntry i q e s) := by
  have hc {u : State} (hu : JobsGoOn r u) {f : Cq → Cq} : JobsGoOn r (u.modCq i q f) := hu.aside rfl rfl
  have hm {u : State} (hu : JobsGoOn r u) : JobsGoOn r (moderate i q u) := by
    unfold moderate
    dsimp only
    split
    · exact (hc hu).msixDue
    · exact hu
  exact hm (hc h.emit)

theorem JobsGoOn.settleFreeze {i : Nat} : JobsGoOn r (settleFreeze i s) := by
  have hm : JobsGoOn r (s.modSlice i (fun sl => { sl with state := .frozen })) := h.aside rfl rfl
  unfold Machine.settleFreeze
  dsimp only
  split
  · split
    · split
      · split
        · exact hm.decideJob
        · exact hm
      · exact hm
    · exact h
  · exact h

theorem JobsGoOn.countFreeze {j : Job} : JobsGoOn r (countFreeze j s) := h.aside rfl rfl

theorem JobsGoOn.complete : JobsGoOn r (complete k s) := by
  unfold Machine.complete
  split
  · exact h
  · next j _ =>
    split
    · exact h.endTaskOf
    · split
      · exact h.retire
      · split
        · refine JobsGoOn.settleFreeze (JobsGoOn.countFreeze (JobsGoOn.retire (JobsGoOn.postEntry ?_)))
          split
          · exact h.aside rfl rfl
          · exact h
        · exact h.modJob (fun _ => rfl) fun _ => .at rfl rfl id rfl

theorem JobsGoOn.endNow {engine : Nat} : JobsGoOn r (endNow k status engine s) := by
  unfold Machine.endNow
  dsimp only
  split
  · exact h
  · have hm := h.undo (k := k) |>.modStill (k := k) (f := fun j => { j with status := status, outs := [], engine := engine })
      (fun _ => rfl) (fun _ => rfl) (fun _ => rfl) (fun _ => id) fun _ => rfl
    split
    · exact hm.taskFailed.retire.settleTasks
    · exact hm.stopTasks.decideLate.complete

theorem JobsGoOn.stopJob {j : Job} : JobsGoOn r (stopJob status j s) := by
  have hm := h.modStill (k := j.id) (f := fun j => { j with stop := some (j.stop.getD status) })
    (fun _ => rfl) (fun _ => rfl) (fun _ => rfl) (fun _ => id) fun _ => rfl
  unfold Machine.stopJob
  split
  iterate 4 exact h.endNow
  iterate 2
    split
    · exact h.endWiping
    · exact hm
  · split
    · exact h.endWiping
    · exact h
  · exact h.endNow
  · exact h

theorem JobsGoOn.stopJobs {p : Job → Bool} : JobsGoOn r (stopJobs p status s) := h.foldl fun _ _ hu => hu.stopJob

theorem JobsGoOn.alarmJobs {p : Job → Bool} : JobsGoOn r (alarmJobs p status s) := by
  refine h.foldl fun u j hu => ?_
  split
  · exact hu.endWiping
  · exact hu.stopJob

end

/-! ## Fences and alarms (R188, R195, R230, R447, R453) -/

section
variable (h : JobsGoOn r s)
include h

theorem JobsGoOn.abortStarted : JobsGoOn r (abortStarted s) := by
  refine h.foldl fun u j hu => ?_
  split
  · exact hu.endWiping
  · exact hu.endNow

theorem JobsGoOn.joinLane {c : Nat} {w : Who} : JobsGoOn r (joinLane c w s) := by
  unfold Machine.joinLane
  split
  · exact h.aside rfl rfl
  · split
    · exact (h.aside (t := s.modLane c _) rfl rfl).countLoad
    · exact h.aside rfl rfl

theorem JobsGoOn.joinSpare {i c : Nat} : JobsGoOn r (joinSpare i c s) := by
  unfold Machine.joinSpare
  cases s.pickLane 0x20 32 (fun k => k != c && !s.laneHas k (.tree i) && !(s.homeLanes i).contains k) with
  | none => exact h
  | some k => exact h.joinLane

theorem JobsGoOn.endTreeTask {c : Nat} : JobsGoOn r (endTreeTask c status s) := by
  unfold Machine.endTreeTask
  dsimp only
  split
  · split
    · exact (h.aside (t := fresh s) rfl rfl).endWiping
    · exact h
  · exact h

theorem JobsGoOn.dropDarner {c : Nat} : JobsGoOn r (dropDarner c s) := by
  unfold Machine.dropDarner
  split
  · exact (h.aside (by rfl) (by rfl)).wakeFills
  · exact h

omit h in
/-- A job that is suspended waits to be placed again: it does not come to run by that. -/
theorem Job.Onward.replaced {i j : Job} (hs : i.slice = j.slice) (hp : i.parent = j.parent) (hu : i.suppressed = j.suppressed)
    (h : i.phase = if j.phase = .reading then .preread else if j.phase = .running then .ready else j.phase) : j.Onward i := by
  refine ⟨hs, hp, fun hj => hu.trans hj, fun hj => ?_⟩
  obtain ⟨hr, hn⟩ := Bool.or_eq_false_iff.mp hj
  rw [if_neg (beq_eq_false_iff_ne.mp hr), if_neg (beq_eq_false_iff_ne.mp hn)] at h
  rwa [Job.stoppable, h]

theorem JobsGoOn.moveSuspended {c : Nat} : JobsGoOn r (moveSuspended c s) := by
  unfold Machine.moveSuspended
  dsimp only
  have hl := (h.aside (t := s.modLane c (fun l => { l with
    waiting := [], running := l.running.filter (fun r => match r.who with | .job _ => true | _ => false) })) rfl rfl)
  split
  · refine JobsGoOn.foldl ?_ fun u w hu => ?_
    · exact hl.mapIf (by rfl) rfl (fun _ => rfl) fun _ => .replaced rfl rfl rfl rfl
    · split
      · exact hu.joinSpare
      · exact hu
  · exact hl.mapIf (by rfl) rfl (fun _ => rfl) fun _ => .replaced rfl rfl rfl rfl

end

/-! ## What this says of one job -/

theorem JobsGoOn.gone (h : JobsGoOn s t) (hk : s.job? k = none) : t.job? k = none := by
  cases ht : t.job? k with
  | none => rfl
  | some i =>
    obtain ⟨j, hj, -⟩ := h.onward k i ht
    cases hk.symm.trans hj

theorem mayRequest_of_beside (h : t.beside = s.beside) (i : Nat) : t.mayRequest i = s.mayRequest i := (congrArg (·.mayRequest i) h :)

/-- A job that no engine runs, if it is there, and whose completion can go out or is not wanted. -/
def State.idle (s : State) (id : Nat) : Prop :=
  ∀ j, s.job? id = some j → j.stoppable = false ∧ (j.suppressed = true ∨ s.mayRequest j.slice = true)

/-- The completion of the job can go out, or is not wanted. -/
def State.canLeave (s : State) (id : Nat) : Prop := ∀ j, s.job? id = some j → j.suppressed = true ∨ s.mayRequest j.slice = true

theorem JobsGoOn.canLeave (h : JobsGoOn s t) (hs : s.canLeave k) : t.canLeave k := by
  intro i hi
  obtain ⟨j, hj, ho⟩ := h.onward k i hi
  rw [ho.slice, mayRequest_of_beside h.beside]
  exact (hs j hj).imp_left ho.suppressed

theorem job_retire {j : Job} (hk : j.id = k) : (retire j s).job? k = none := by
  have hd : (s.dropJob j.id).job? k = none := job_dropJob.trans (if_pos hk.symm)
  rw [← hd]
  exact job_congr (by simp [retire]) k

/-- A completion that can go out, or that is not wanted, takes its job with it. -/
theorem complete_gone (h : s.canLeave k) : (complete k s).job? k = none := by
  unfold complete
  split
  · assumption
  · next j hj =>
    have hid := job_id hj
    split
    · exact JobsGoOn.refl.settleTasks.gone (job_retire hid)
    · split
      · exact job_retire hid
      · next hs =>
        rw [if_pos ((h j hj).resolve_left hs)]
        exact JobsGoOn.refl.countFreeze.settleFreeze.gone (job_retire hid)

/-- So does an end before any engine has started the job. -/
theorem endNow_gone {engine : Nat} (h : s.canLeave k) : (endNow k status engine s).job? k = none := by
  unfold endNow
  dsimp only
  split
  · assumption
  · next j hj =>
    have hm := JobsGoOn.undo (s := s) (k := k) .refl |>.modStill (k := k) (f := fun j => { j with status := status, outs := [], engine := engine })
      (fun _ => rfl) (fun _ => rfl) (fun _ => rfl) (fun _ => id) fun _ => rfl
    split
    · exact JobsGoOn.refl.settleTasks.gone (job_retire (job_id hj))
    · exact complete_gone (hm.stopTasks.decideLate.canLeave h)

end Sys2Proof.Machine
end

section
/-! SUPPORT. What an event counts, and what each response level does (R446 to R449). -/
namespace Sys2Proof.Machine

variable {s t : State} {code detail cls base lv k status i : Nat} {u : FenceUnit} {kind : Fence}

/-! ## What a record, a notice and a backup's end leave -/

/-- The state without what a record and the response NOTIFY change: the Event Recorder, what the Vent holds for it, messages and pins. -/
def State.unnotified (s : State) : State :=
  { s with evr := {}, hif.pba := [], outbox := [], vent.held := [], vent.recDropped := 0, vent.alert := false }

theorem unnotified_of_unrecorded (h : t.unrecorded = s.unrecorded) : t.unnotified = s.unnotified := (congrArg State.unnotified h :)

theorem unnotified_ventRecord {r : EvRec} : (ventRecord r s).unnotified = s.unnotified := by
  unfold ventRecord
  split
  · split <;> rfl
  · exact unnotified_of_unrecorded unrecorded_queueRecord

theorem unnotified_msixDue {n : Nat} : (msixDue n s).unnotified = s.unnotified := by
  unfold msixDue
  split <;> rfl

theorem unnotified_updateAlert : (updateAlert s).unnotified = s.unnotified := by
  unfold updateAlert
  dsimp only
  split <;> rfl

theorem unnotified_signalPme : (signalPme cls s).unnotified = s.unnotified := by
  unfold signalPme
  split <;> rfl

/-- The state without what the end of a backup and its record change. -/
def State.uncarded (s : State) : State := { s with evr := {}, crd := {}, outbox := [] }

theorem uncarded_ocOff {n last : Nat} : (ocOff n last s).uncarded = s.uncarded := by
  unfold ocOff
  dsimp only
  split <;> rfl

theorem uncarded_of_unrecorded (h : t.unrecorded = s.unrecorded) : t.uncarded = s.uncarded := (congrArg State.uncarded h :)

theorem uncarded_bkpEnd {block : Option Nat} : (bkpEnd code detail block s).uncarded = s.uncarded := by
  unfold bkpEnd
  split
  · rfl
  · next r _ =>
    have hu : (if r.step = .collect then ocOff 1 0 (ocOff 0 0 s) else s).uncarded = s.uncarded := by
      split
      · exact uncarded_ocOff.trans uncarded_ocOff
      · rfl
    dsimp only
    generalize (if r.step = .collect then ocOff 1 0 (ocOff 0 0 s) else s) = u at hu ⊢
    exact (uncarded_of_unrecorded unrecorded_logRecord).trans hu

/-- The state without what the end of the link's session and its record change. -/
def State.unlinked (s : State) : State := { s with evr := {}, svc := {}, lcs.waiting := [], lcs.burning := none }

theorem unlinked_endRsl {cause : Nat} : (endRsl cause s).unlinked = s.unlinked := by
  unfold endRsl
  dsimp only
  split
  · exact (congrArg State.unlinked unrecorded_logRecord :)
  · rfl

/-! ## What every response leaves: the counts of the classes and the latest event -/

/-- What the Vent shows of the classes and of the latest event (R449, R455). -/
def State.shown (s : State) : Tbl VentClass × BitVec 8 × BitVec 8 × BitVec 3 × BitVec 3 :=
  (s.vent.cls, s.vent.lastCode, s.vent.lastDetail, s.vent.lastLevel, s.vent.lastClass)

theorem shown_of_unnotified (h : t.unnotified = s.unnotified) : t.shown = s.shown := (congrArg State.shown h :)
theorem shown_of_beside (h : t.beside = s.beside) : t.shown = s.shown := (congrArg State.shown h :)

/-- SVC_ATTN# is a pin of the service side alone. -/
theorem updateAttn_sides : (updateAttn s).vent = s.vent ∧ (updateAttn s).tmp = s.tmp ∧ (updateAttn s).eng = s.eng ∧ (updateAttn s).thm = s.thm ∧
    (updateAttn s).slices = s.slices := by
  unfold updateAttn
  dsimp only
  split <;> exact ⟨rfl, rfl, rfl, rfl, rfl⟩

/-! ## HALT -/

theorem jobsEnd_alarmJobs {r : State} {p : Job → Bool} (h : JobsEnd r s) : JobsEnd r (alarmJobs p status s) := by
  refine jobsEnd_foldl h fun _ _ hu => ?_
  split
  · exact jobsEnd_endWiping hu
  · exact jobsEnd_stopJob hu

/-- What HALT leaves as it is, and what it sets. -/
theorem haltNow_sides {sec : Bool} : (haltNow sec s).shown = s.shown ∧ (haltNow sec s).tmp = s.tmp ∧ (haltNow sec s).eng.fence = s.eng.fence ∧
    (haltNow sec s).thm.restarting = s.thm.restarting ∧ (haltNow sec s).vent.halt = true ∧
    (∀ n, ((haltNow sec s).slice n).fence = (s.slice n).fence) := by
  have hj := JobsGoOn.refl (s := { s with vent.halt := true, vent.haltSec := s.vent.haltSec || sec }) |>.alarmJobs (status := stAborted) (p := fun _ => true)
  have hf := fun n => (jobsEnd_alarmJobs (status := stAborted) (p := fun _ => true)
    (JobsEnd.refl (s := { s with vent.halt := true, vent.haltSec := s.vent.haltSec || sec }))).fence n
  unfold haltNow
  generalize alarmJobs _ _ _ = v at hj hf ⊢
  obtain ⟨hv, ht, he, hm, hs⟩ := updateAttn_sides (s := v)
  have hb := hj.beside
  have hvv : v.vent = { s.vent with halt := true, haltSec := s.vent.haltSec || sec } := (congrArg State.vent hb :)
  refine ⟨?_, ht.trans (congrArg State.tmp hb :), (congrArg EngState.fence he).trans (congrArg (·.eng.fence) hb :),
    (congrArg ThimbleState.restarting hm).trans (congrArg (·.thm.restarting) hb :), ?_, fun n => ?_⟩
  · rw [State.shown, hv, hvv]
    rfl
  · rw [hv, hvv]
  · rw [State.slice, hs]
    exact hf n

/-! ## FENCE (R447, R453) -/

theorem restartThimble_sides : (restartThimble s).shown = s.shown ∧ (restartThimble s).tmp = s.tmp ∧ (restartThimble s).thm.restarting = true := by
  have hc := uncarded_bkpEnd (code := stAborted) (detail := 0) (block := none) (s := endQuorum { s with thm.restarting := true, thm.run := none })
  unfold restartThimble
  generalize bkpEnd _ _ _ _ = v at hc ⊢
  have hb := (JobsGoOn.refl (s := v)).abortStarted.beside
  exact ⟨(shown_of_beside hb).trans (congrArg State.shown hc :), (congrArg State.tmp hb :).trans (congrArg State.tmp hc :),
    (congrArg (·.thm.restarting) hb :).trans (congrArg (·.thm.restarting) hc :)⟩

/-- The engine is fenced, unless a fence that lasts longer is there. -/
def engineFenced (c : Nat) (kind : Fence) (s : State) : State := if s.fence c = .porst ∨ s.fence c = .check then s else s.setFence c kind

theorem fenceUnit_engine {c : Nat} : JobsGoOn (engineFenced c kind s) (fenceUnit (.engine c) kind s) := by
  refine JobsGoOn.alarmJobs (JobsGoOn.dropDarner (JobsGoOn.moveSuspended ?_))
  split
  · exact JobsGoOn.refl.endTreeTask
  · exact .refl

theorem fenceUnit_slice : JobsGoOn (s.modSlice i (fun sl => { sl with fence := kind })) (fenceUnit (.slice i) kind s) := JobsGoOn.refl.stopJobs

theorem engineFenced_sides {c : Nat} : (engineFenced c kind s).shown = s.shown ∧ (engineFenced c kind s).tmp = s.tmp := by
  unfold engineFenced
  split <;> exact ⟨rfl, rfl⟩

/-- A FENCE leaves the counts of the classes, the latest event and the Tamper Unit as they are. -/
theorem fenceUnit_sides : (fenceUnit u kind s).shown = s.shown ∧ (fenceUnit u kind s).tmp = s.tmp := by
  cases u with
  | none => exact ⟨rfl, rfl⟩
  | engine c =>
    have hb := (fenceUnit_engine (c := c) (kind := kind) (s := s)).beside
    obtain ⟨hs, ht⟩ := engineFenced_sides (c := c) (kind := kind) (s := s)
    exact ⟨(shown_of_beside hb).trans hs, (congrArg State.tmp hb :).trans ht⟩
  | slice i =>
    have hb := (fenceUnit_slice (i := i) (kind := kind) (s := s)).beside
    exact ⟨(shown_of_beside hb).trans rfl, (congrArg State.tmp hb :).trans rfl⟩
  | thimble =>
    obtain ⟨hs, ht, -⟩ := restartThimble_sides (s := { s with thm.fenced := true })
    exact ⟨hs, ht⟩

theorem fence_fenceUnit_engine {c : Nat} (h : kind ≠ .none) : (fenceUnit (.engine c) kind s).fence c ≠ .none := by
  have hb := (fenceUnit_engine (c := c) (kind := kind) (s := s)).beside
  have hf : (fenceUnit (.engine c) kind s).fence c = (engineFenced c kind s).fence c := (congrArg (·.fence c) hb :)
  rw [hf]
  unfold engineFenced
  split
  · next hl => rcases hl with hl | hl <;> simp [hl]
  · rwa [fence_setFence]

theorem restarting_fenceUnit_thimble : (fenceUnit .thimble kind s).thm.restarting = true := restartThimble_sides.2.2

/-! ## RINSE (R327, R442) -/

/-- The state in which RINSE has erased the keys and ended the session, the backup and the jobs, before its marks are set. -/
def rinsed (source detail : Nat) (s : State) : State :=
  abortAll (bkpEnd stAborted 0 none (endRsl 7 { battLog source detail (eraseKeys s) with thm.restarting := true }))

theorem shown_abortAll : (abortAll s).shown = s.shown := by
  have hb (l : List Job) : (l.foldl (fun s j => decideLate j.id s) s).shown = s.shown :=
    shown_of_beside (JobsGoOn.refl.foldl fun _ _ hu => hu.decideLate).beside
  exact hb _

theorem shown_rinsed : (rinsed code detail s).shown = s.shown :=
  shown_abortAll.trans ((congrArg State.shown uncarded_bkpEnd :).trans (congrArg State.shown unlinked_endRsl :))

theorem shown_rinse : (rinse code detail s).shown = s.shown := by
  have hs := shown_rinsed (code := code) (detail := detail) (s := s)
  unfold rinse
  split
  · rfl
  · split
    · rfl
    · unfold rinsed at hs
      dsimp only
      generalize abortAll _ = v at hs ⊢
      exact (congrArg (fun x : VentState => (x.cls, x.lastCode, x.lastDetail, x.lastLevel, x.lastClass)) updateAttn_sides.1).trans hs

theorem rinse_sets (h : s.pwr.inReset = false) : (rinse code detail s).tmp.rinse = true := by
  unfold rinse
  rw [if_neg (by simp [h])]
  split
  · assumption
  · dsimp only
    rw [updateAttn_sides.2.1]
    rfl

/-! ## One event -/

/-- The class has counted the event, which is the latest one. -/
def counted (code detail cls lv : Nat) (s : State) : State := { s.modVentClass cls (ventArrive lv) with
  vent.lastCode := BitVec.ofNat 8 code, vent.lastDetail := BitVec.ofNat 8 detail
  vent.lastLevel := BitVec.ofNat 3 lv, vent.lastClass := BitVec.ofNat 3 cls }

theorem raiseEvent_none (he : eventInfo code = none) : raiseEvent code detail u kind s = s := by
  unfold raiseEvent
  rw [he]

/-- From RINSE on Thimble restarts, once. -/
def alarmRestarts (lv : Nat) (s : State) : State := if 4 ≤ lv && !s.tmp.rinse then { s with thm.restarting := true } else s

/-- The record of an event (R448, R506). -/
def eventRecord (code detail lv : Nat) (u : FenceUnit) (fi : Bool) : EvRec where
  code := code
  source := match u with | .engine c => c | .thimble => engThimble | _ => 0xFF
  level := lv
  slice := match u with | .slice i => i | _ => 0
  data := leBytes 1 detail ++ leBytes 1 lv
  fi := fi

/-- The event is counted, an alarm restarts Thimble, and then its record and its response follow. -/
theorem raiseEvent_level (he : eventInfo code = some (cls, base)) (hl : ventLevel (s.ventClass cls) cls base = lv) :
    raiseEvent code detail u kind s = applyLevel code detail cls base lv u kind
      (ventRecord (eventRecord code detail lv u (alarmRestarts lv (counted code detail cls lv s)).vent.fi)
        (alarmRestarts lv (counted code detail cls lv s))) := by
  subst hl
  unfold raiseEvent
  rw [he]
  rfl

/-! ## The response levels (R446) -/

/-- NOTIFY: the message, ALERT# and the power-management event. -/
def notified (cls lv : Nat) (s : State) : State := if 1 ≤ lv then signalPme cls (updateAlert (msixDue s.vent.vec.toNat s)) else s
/-- NOTIFY, and at the highest level RINSE. -/
def alarmed (code detail cls lv : Nat) (s : State) : State := if 4 ≤ lv then rinse code detail (notified cls lv s) else notified cls lv s
/-- How a FENCE that a response brings fences its unit: as the event says, or as an escalation of its class. -/
def fenceKind (cls base : Nat) (kind : Fence) : Fence := if 2 ≤ base then kind else .escalation cls

theorem fenceKind_ne_none (h : kind ≠ .none) : fenceKind cls base kind ≠ .none := by
  unfold fenceKind
  split
  · exact h
  · exact Fence.noConfusion

theorem unnotified_notified : (notified cls lv s).unnotified = s.unnotified := by
  unfold notified
  split
  · exact unnotified_signalPme.trans (unnotified_updateAlert.trans unnotified_msixDue)
  · rfl

theorem shown_alarmed : (alarmed code detail cls lv s).shown = s.shown := by
  have hn := shown_of_unnotified (unnotified_notified (cls := cls) (lv := lv) (s := s))
  unfold alarmed
  split
  · exact shown_rinse.trans hn
  · exact hn

theorem applyLevel_eq : applyLevel code detail cls base lv u kind s =
    let f := if 2 ≤ lv then fenceUnit u (fenceKind cls base kind) (alarmed code detail cls lv s) else alarmed code detail cls lv s
    if 3 ≤ lv then haltNow (decide (cls = 5) || decide (code = 0x44)) f else f := rfl

/-- Below FENCE a response is a NOTIFY, or nothing. -/
theorem applyLevel_low (h : lv < 2) : applyLevel code detail cls base lv u kind s = notified cls lv s := by
  simp only [applyLevel_eq, alarmed, if_neg (show ¬4 ≤ lv by omega), if_neg (show ¬2 ≤ lv by omega), if_neg (show ¬3 ≤ lv by omega)]

/-- FENCE fences the unit and no more. -/
theorem applyLevel_fence (h : lv = 2) :
    applyLevel code detail cls base lv u kind s = fenceUnit u (fenceKind cls base kind) (alarmed code detail cls lv s) := by
  subst h
  rfl

/-- HALT and RINSE fence the unit and halt the device. -/
theorem applyLevel_halt (h : 3 ≤ lv) : applyLevel code detail cls base lv u kind s =
    haltNow (decide (cls = 5) || decide (code = 0x44)) (fenceUnit u (fenceKind cls base kind) (alarmed code detail cls lv s)) := by
  simp only [applyLevel_eq, if_pos h, if_pos (show 2 ≤ lv by omega)]

/-- No response changes the counts of the classes or the latest event. -/
theorem shown_applyLevel : (applyLevel code detail cls base lv u kind s).shown = s.shown := by
  rcases Nat.lt_trichotomy lv 2 with h | h | h
  · rw [applyLevel_low h]
    exact shown_of_unnotified unnotified_notified
  · rw [applyLevel_fence h]
    exact fenceUnit_sides.1.trans shown_alarmed
  · rw [applyLevel_halt h]
    exact haltNow_sides.1.trans (fenceUnit_sides.1.trans shown_alarmed)

/-- What FENCE and the levels above it leave of the fences and of Thimble is what the FENCE itself left. -/
theorem applyLevel_fences (h : 2 ≤ lv) :
    let t := applyLevel code detail cls base lv u kind s
    let f := fenceUnit u (fenceKind cls base kind) (alarmed code detail cls lv s)
    t.eng.fence = f.eng.fence ∧ (∀ n, (t.slice n).fence = (f.slice n).fence) ∧ t.thm.restarting = f.thm.restarting ∧ t.tmp = f.tmp := by
  rcases Nat.eq_or_lt_of_le h with h | h
  · dsimp only
    rw [applyLevel_fence h.symm]
    exact ⟨rfl, fun _ => rfl, rfl, rfl⟩
  · dsimp only
    rw [applyLevel_halt h]
    generalize fenceUnit _ _ _ = f
    obtain ⟨-, ht, he, hr, -, hs⟩ := haltNow_sides (sec := decide (cls = 5) || decide (code = 0x44)) (s := f)
    exact ⟨he, hs, hr, ht⟩

theorem halt_applyLevel (h : 3 ≤ lv) : (applyLevel code detail cls base lv u kind s).vent.halt = true := by
  rw [applyLevel_halt h]
  exact haltNow_sides.2.2.2.2.1

theorem rinse_applyLevel (h : 4 ≤ lv) (hr : s.pwr.inReset = false) : (applyLevel code detail cls base lv u kind s).tmp.rinse = true := by
  have hn : (notified cls lv s).pwr.inReset = false := (congrArg (·.pwr.inReset) unnotified_notified :).trans hr
  rw [(applyLevel_fences (by omega)).2.2.2, fenceUnit_sides.2, alarmed, if_pos h]
  exact rinse_sets hn

/-! ## The obligation -/

theorem ventClass_of_shown (h : t.shown = s.shown) (c : Nat) : t.ventClass c = s.ventClass c := by
  show tget t.shown.1 {} c = tget s.shown.1 {} c
  rw [h]

theorem unnotified_counted_of_low (h : lv < 4) : (alarmRestarts lv s).unnotified = s.unnotified := by
  unfold alarmRestarts
  rw [if_neg (by simp; omega)]

theorem shown_alarmRestarts : (alarmRestarts lv s).shown = s.shown := by
  unfold alarmRestarts
  split <;> rfl

theorem inReset_alarmRestarts : (alarmRestarts lv s).pwr = s.pwr := by
  unfold alarmRestarts
  split <;> rfl

/-- Settles O45: what the event counts is kept by its record and its response; each level is read off the parts of the response. -/
theorem responseLevelsFollowTheClass : Obligations.ResponseLevelsFollowTheClass := by
  intro s code detail cls base f kind v applied lv t
  refine ⟨raiseEvent_none, fun he => ?_⟩
  have hl : ventLevel (s.ventClass cls) cls base = lv := rfl
  clear_value lv
  have ht : t = _ := raiseEvent_level he hl
  clear_value t
  generalize eventRecord _ _ _ _ _ = r at ht
  generalize hw : ventRecord r (alarmRestarts lv (counted code detail cls lv s)) = w at ht
  have hu : w.unnotified = (alarmRestarts lv (counted code detail cls lv s)).unnotified := hw ▸ unnotified_ventRecord
  have hs : t.shown = (counted code detail cls lv s).shown := by
    rw [ht, shown_applyLevel, shown_of_unnotified hu, shown_alarmRestarts]
  have hlow (h : lv < 2) : t.unnotified = (counted code detail cls lv s).unnotified := by
    rw [ht, applyLevel_low h, unnotified_notified, hu, unnotified_counted_of_low (by omega)]
  have calm (h : lv < 2) : t.jobs = s.jobs ∧ t.slices = s.slices ∧ t.eng = s.eng ∧ t.kv = s.kv ∧ t.vent.halt = s.vent.halt ∧ t.tmp = s.tmp :=
    ⟨(congrArg State.jobs (hlow h) :), (congrArg State.slices (hlow h) :), (congrArg State.eng (hlow h) :), (congrArg State.kv (hlow h) :),
      (congrArg (·.vent.halt) (hlow h) :), (congrArg State.tmp (hlow h) :)⟩
  refine ⟨(ventClass_of_shown hs cls).trans (tget_tmod_same ..), fun c hc => (ventClass_of_shown hs c).trans (tget_tmod_ne _ _ _ hc),
    congrArg (·.2.1) hs, congrArg (·.2.2.1) hs, congrArg (·.2.2.2.2) hs, congrArg (·.2.2.2.1) hs, fun h => calm (by omega), fun h => calm (by omega),
    fun c hf hk h => ?_, fun i hf hk h => ?_, fun hf h => ?_, fun h => ?_, fun h hr => ?_⟩
  · subst hf
    rw [ht, State.fence, (applyLevel_fences h).1]
    exact fence_fenceUnit_engine (fenceKind_ne_none hk)
  · subst hf
    rw [ht, (applyLevel_fences h).2.1 i, fence_fenceUnit, if_pos rfl]
    exact fenceKind_ne_none hk
  · subst hf
    rw [ht, (applyLevel_fences h).2.2.1]
    exact restarting_fenceUnit_thimble
  · rw [ht]
    exact halt_applyLevel h
  · rw [ht]
    refine rinse_applyLevel h ((congrArg (·.pwr.inReset) hu :).trans ?_)
    show (alarmRestarts lv (counted code detail cls lv s)).pwr.inReset = false
    rw [inReset_alarmRestarts]
    exact hr

end Sys2Proof.Machine
end

section
/-! SUPPORT. Intake that resumes, Thimble's return from a restart, and the Vent's control (R447, R449 to R455, R503). -/
namespace Sys2Proof.Machine

variable {s t u : State} {i k c : Nat}

/-! ## Intake that resumes -/

/-- The state without what a fetch changes. -/
def State.unfetched (s : State) : State := { s with sqs := [], outbox := [] }

theorem unfetched_fetchWindow : (fetchWindow i k s).unfetched = s.unfetched := by
  unfold fetchWindow issueFetch
  dsimp only
  (repeat' split) <;> rfl

theorem unfetched_refetchSlice : (refetchSlice i s).unfetched = s.unfetched := foldl_keeps State.unfetched _ (fun _ _ => unfetched_fetchWindow) _ s

theorem unfetched_refetchAll : (refetchAll s).unfetched = s.unfetched := foldl_keeps State.unfetched _ (fun _ _ => unfetched_refetchSlice) _ s

/-! ## The return from a restart (R453, R503) -/

/-- What the return of Thimble shows: the service side, what the Vent holds, whether Thimble is restarting, fenced or halted. -/
def State.thimbleView (s : State) : SvcState × List EvRec × Bool × Bool × Bool :=
  (s.svc, s.vent.held, s.thm.restarting, s.thm.fenced, s.thm.halted)

/-- The state in which the Vent holds no record. -/
def heldGone (s : State) : State := { s with vent.held := [] }

theorem thimbleView_heldGone (h : t.thimbleView = s.thimbleView) : (heldGone t).thimbleView = (heldGone s).thimbleView :=
  congrArg (fun v : SvcState × List EvRec × Bool × Bool × Bool => (v.1, ([] : List EvRec), v.2.2)) h

theorem canRecord_of_thimbleView (h : t.thimbleView = s.thimbleView) : t.canRecord = s.canRecord :=
  congrArg (fun v : SvcState × List EvRec × Bool × Bool × Bool => !v.2.2.1 && !v.2.2.2.2) h

theorem thimbleView_of_unrecorded (h : t.unrecorded = s.unrecorded) : t.thimbleView = s.thimbleView := (congrArg State.thimbleView h :)

theorem thimbleView_replayJournal : (replayJournal s).thimbleView = s.thimbleView := by
  have hp : JobsGoOn s (recordsPlaced s) := JobsGoOn.refl.foldl fun u r hu => by
    unfold journalPut
    dsimp only
    split
    · exact hu.modSlot.modSlot
    · exact hu.modSlot
  have hb : (shadowsFreed (recordsPlaced s)).beside = s.beside := (hp.foldl fun _ _ hu => hu.freeSlots).sweepRuns.beside
  obtain ⟨found, hf⟩ := unrecorded_replayJournal (s := s)
  exact (thimbleView_of_unrecorded hf).trans (congrArg State.thimbleView hb :)

theorem thimbleView_takeHeldRecords : (takeHeldRecords s).thimbleView = (heldGone s).thimbleView :=
  foldl_keeps State.thimbleView (fun s r => queueRecord r s) (fun _ _ => thimbleView_of_unrecorded unrecorded_queueRecord) s.vent.held (heldGone s)

/-- The queue of the Event Recorder stays where what it has written changes. -/
theorem queue_written {rs : List EvStored} {n : Nat} {m : Bytes} {b : Bool} :
    ({ s with evr.records := rs, evr.nextSeq := n, evr.lastMac := m, evr.chainStart := b } : State).evr.queue = s.evr.queue := rfl

theorem queue_writeRecord {r : EvRec} : (writeRecord r s).evr.queue = s.evr.queue := by
  unfold writeRecord
  exact queue_written

/-- Once records can be written none waits. -/
theorem queue_drainRecords (h : s.canRecord = true) : (drainRecords s).evr.queue = [] := by
  have hq := foldl_keeps (·.evr.queue) (fun s r => writeRecord r s) (fun _ _ => queue_writeRecord) s.evr.queue { s with evr.queue := [], vent.held := s.vent.held }
  unfold drainRecords
  rw [if_pos h]
  dsimp only
  split
  · exact hq
  · exact queue_writeRecord.trans hq

theorem queue_logRecord {code : Nat} {data : Bytes} (h : s.canRecord = true) : (logRecord code data s).evr.queue = [] := by
  refine queue_drainRecords ?_
  split <;> exact h

/-- The records of Thimble's restart have been written. -/
def recordsBack (s : State) : State := drainRecords (takeHeldRecords (replayJournal s))

theorem thimbleView_taken : (takeHeldRecords (replayJournal s)).thimbleView = (heldGone s).thimbleView :=
  thimbleView_takeHeldRecords.trans (thimbleView_heldGone thimbleView_replayJournal)

theorem thimbleView_recordsBack : (recordsBack s).thimbleView = (heldGone s).thimbleView :=
  (thimbleView_of_unrecorded unrecorded_drainRecords).trans thimbleView_taken

theorem queue_recordsBack (h : s.canRecord = true) : (recordsBack s).evr.queue = [] :=
  queue_drainRecords ((canRecord_of_thimbleView thimbleView_taken).trans h)

theorem answerHeld_sides : (answerHeld s).svc = s.svc ∧ (answerHeld s).vent = s.vent ∧ (answerHeld s).thm = s.thm ∧ (answerHeld s).evr = s.evr := by
  unfold answerHeld answerDiscovery doeReady
  split
  · unfold msixDue
    split <;> exact ⟨rfl, rfl, rfl, rfl⟩
  · exact ⟨rfl, rfl, rfl, rfl⟩

/-- The state in which the new firmware has been kept or taken back, with its record, and the pause goes on. -/
def activationDecided (s : State) : State :=
  let failed := Config.freeBool s.freeCtr
  let old := s.inactive
  let new := s.activeBank
  let s := fresh s
  if failed then
    let s := selectOther .invalid s
    let s := (List.range 32).foldl (fun s k => loadPatch k old.pattern old.matchSet s) { s with eng.patSetId := old.setId }
    logRecord 0x0111 (leBytes 4 old.version.toNat ++ leBytes 4 new.version.toNat) s
  else
    let floor := if s.svc.svnFloor < new.svn then new.svn else s.svc.svnFloor
    let s := { s with svc.svnFloor := floor }.modInactive (fun b => { b with st := if floor ≤ b.svn then .staged else .invalid })
    logRecord 0x0110 (leBytes 4 old.version.toNat ++ leBytes 4 new.version.toNat) s

theorem endActivation_eq : endActivation s =
    refetchAll (answerHeld { activationDecided s with svc.paused := false, svc.activating := none, svc.loaded := [] }) := rfl

/-- What Thimble and the Vent hold, which an activation leaves. -/
def State.restarted (s : State) : VentState × ThimbleState := (s.vent, s.thm)

theorem restarted_selectOther {old : BankSt} : (selectOther old s).restarted = s.restarted := by
  unfold selectOther
  split <;> rfl

theorem restarted_loadPatch {ws : List (BitVec 160)} {ms : List MatchEntry} : (loadPatch k ws ms s).restarted = s.restarted := by
  unfold loadPatch State.restarted
  rfl

theorem restarted_modInactive {f : Bank → Bank} : (s.modInactive f).restarted = s.restarted := by
  unfold State.modInactive
  split <;> rfl

theorem logRecord_restarted {code : Nat} {data : Bytes} : (logRecord code data s).restarted = s.restarted ∧
    (s.canRecord = true → (logRecord code data s).evr.queue = []) :=
  ⟨(congrArg State.restarted (unrecorded_logRecord (s := s)) :), queue_logRecord⟩

theorem canRecord_of_restarted (h : t.restarted = s.restarted) : t.canRecord = s.canRecord :=
  congrArg (fun v : VentState × ThimbleState => !v.2.restarting && !v.2.halted) h

/-- A record written after steps that leave Thimble and the Vent. -/
theorem logRecord_after {code : Nat} {data : Bytes} (h : t.restarted = s.restarted) : (logRecord code data t).restarted = s.restarted ∧
    (s.canRecord = true → (logRecord code data t).evr.queue = []) :=
  ⟨logRecord_restarted.1.trans h, fun hc => queue_logRecord ((canRecord_of_restarted h).trans hc)⟩

theorem activationDecided_sides : (activationDecided s).restarted = s.restarted ∧ (s.canRecord = true → (activationDecided s).evr.queue = []) := by
  unfold activationDecided
  dsimp only
  split
  · exact logRecord_after ((foldl_keeps State.restarted _ (fun _ _ => restarted_loadPatch) _ _).trans (restarted_selectOther (s := fresh s)))
  · exact logRecord_after restarted_modInactive

theorem endActivation_sides : (endActivation s).svc.paused = false ∧ (endActivation s).restarted = s.restarted ∧
    (s.canRecord = true → (endActivation s).evr.queue = []) := by
  obtain ⟨hr, hq⟩ := activationDecided_sides (s := s)
  rw [endActivation_eq]
  generalize activationDecided s = v at hr hq ⊢
  obtain ⟨hs, hv, ht, he⟩ := answerHeld_sides (s := { v with svc.paused := false, svc.activating := none, svc.loaded := [] })
  generalize answerHeld _ = w at hs hv ht he ⊢
  have hf := unfetched_refetchAll (s := w)
  generalize refetchAll w = x at hf ⊢
  have hs' : x.svc = w.svc := (congrArg State.svc hf :)
  have he' : x.evr = w.evr := (congrArg State.evr hf :)
  refine ⟨by rw [hs', hs], ?_, fun hc => by rw [he', he, ← hq hc]⟩
  rw [← hr]
  exact (congrArg State.restarted hf :).trans (congrArg₂ Prod.mk hv ht)

/-- Thimble is back, and no RINSE restricts it: the journal replayed, the records written, an activation ended whose swap is done. -/
theorem thimbleRestartCompleteDo_back (ht : s.thm.restarting = true) (hr : s.pwr.inReset = false) (hn : s.tmp.rinse = false) :
    let v := recordsBack { s with thm.restarting := false, thm.fenced := false }
    thimbleRestartCompleteDo s = if v.svc.paused && v.activatingBank.isNone then endActivation v else v := by
  unfold thimbleRestartCompleteDo
  rw [if_neg (by simp [ht, hr])]
  dsimp only
  rw [if_neg (by simp [hn])]
  rfl

theorem thimbleRestartCompleteDo_sides (ht : s.thm.restarting = true) (hr : s.pwr.inReset = false) (hn : s.tmp.rinse = false) :
    let t := thimbleRestartCompleteDo s
    t.thm.restarting = false ∧ t.thm.fenced = false ∧ t.svc.paused = (s.svc.paused && s.activatingBank.isSome) ∧ t.vent.held = [] ∧
    (s.thm.halted = false → t.evr.queue = []) := by
  dsimp only
  rw [thimbleRestartCompleteDo_back ht hr hn]
  have hv := thimbleView_recordsBack (s := { s with thm.restarting := false, thm.fenced := false })
  have hq := queue_recordsBack (s := { s with thm.restarting := false, thm.fenced := false })
  generalize recordsBack _ = v at hv hq ⊢
  have hs : v.svc = s.svc := congrArg (·.1) hv
  have ha : v.activatingBank = s.activatingBank := by simp only [State.activatingBank, hs]
  have hd : v.vent.held = [] := congrArg (·.2.1) hv
  have hg : v.thm.restarting = false := congrArg (·.2.2.1) hv
  have hf : v.thm.fenced = false := congrArg (·.2.2.2.1) hv
  have hh : v.thm.halted = s.thm.halted := congrArg (·.2.2.2.2) hv
  have hc (h : s.thm.halted = false) : v.canRecord = true := by simp [State.canRecord, hg, hh, h]
  obtain ⟨hp, hk, he⟩ := endActivation_sides (s := v)
  split
  · next hw =>
    have hx : s.activatingBank.isSome = false := by
      rw [← ha]
      simpa using (Bool.and_eq_true_iff.mp hw).2
    have hvt : (endActivation v).vent = v.vent := congrArg (·.1) hk
    have htt : (endActivation v).thm = v.thm := congrArg (·.2) hk
    exact ⟨by rw [htt, hg], by rw [htt, hf], by rw [hp, hx, Bool.and_false], by rw [hvt, hd], fun h => he (hc h)⟩
  · next hw =>
    refine ⟨hg, hf, ?_, hd, fun h => hq (by simp [State.canRecord, h])⟩
    rw [ha, hs] at hw
    rw [hs]
    cases hb : s.svc.paused <;> cases hx : s.activatingBank <;> simp_all

/-! ## Acknowledging (R447, R449) -/

/-- From `s` to `t` the classes of a list, and no others, are acknowledged. -/
def Acknowledged (l : List Nat) (s t : State) : Prop :=
  (∀ k, t.ventClass k = if l.contains k then { s.ventClass k with pending := false, newRun := true } else s.ventClass k) ∧
  t.eng.fence = l.foldl (fun m k => tmap m .none (fun _ f => if f = .escalation k then .memTest else f)) s.eng.fence ∧
  t.slices = l.foldl (fun m k => tmap m {} (fun _ sl => if sl.fence = .escalation k then { sl with fence := .none } else sl)) s.slices ∧
  t.jobs = s.jobs ∧ t.vent.halt = s.vent.halt

theorem acknowledged_one : Acknowledged [c] s (acknowledgeClass c s) := by
  have hr : (acknowledgeClass c s).unfetched = (acknowledge c s).unfetched :=
    foldl_keeps State.unfetched (fun s i => refetchSlice i s) (fun _ _ => unfetched_refetchSlice) _ _
  have ha : (acknowledge c s).unnotified = (unfence c (s.modVentClass c (fun v => { v with pending := false, newRun := true }))).unnotified :=
    unnotified_updateAlert
  refine ⟨fun k => ?_, (congrArg (·.eng.fence) hr :).trans (congrArg (·.eng.fence) ha :), (congrArg State.slices hr :).trans (congrArg State.slices ha :),
    (congrArg State.jobs hr :).trans (congrArg State.jobs ha :), (congrArg (·.vent.halt) hr :).trans (congrArg (·.vent.halt) ha :)⟩
  have hk : (acknowledgeClass c s).ventClass k = tget (tmod s.vent.cls {} c (fun v => { v with pending := false, newRun := true })) {} k :=
    (congrArg (·.ventClass k) hr :).trans (congrArg (·.ventClass k) ha :)
  rw [hk]
  by_cases h : k = c
  · subst h
    rw [tget_tmod_same, if_pos (by simp)]
    rfl
  · rw [tget_tmod_ne _ _ _ h, if_neg (by simpa using h)]
    rfl

theorem Acknowledged.cons {l : List Nat} (h : Acknowledged [c] s t) (h' : Acknowledged l t u) : Acknowledged (c :: l) s u := by
  obtain ⟨hc, hf, hs, hj, hh⟩ := h
  obtain ⟨hc', hf', hs', hj', hh'⟩ := h'
  refine ⟨fun k => ?_, by rw [hf', hf]; rfl, by rw [hs', hs]; rfl, hj'.trans hj, hh'.trans hh⟩
  rw [hc' k, hc k]
  by_cases hk : k = c <;> by_cases hl : l.contains k <;> simp_all

theorem acknowledged_foldl (l : List Nat) : Acknowledged l s (l.foldl (fun s k => acknowledgeClass k s) s) := by
  induction l generalizing s with
  | nil => exact ⟨fun _ => rfl, rfl, rfl, rfl, rfl⟩
  | cons c l ih => exact acknowledged_one.cons ih

/-- A write of the low or the high status register acknowledges the classes of its PENDING bits. -/
theorem ventAcknowledgeDo_eq {high : Bool} {value : BitVec 32} : ventAcknowledgeDo high value s =
    (if high then [4, 5].filter (fun k => bit value (8 * (k - 4) + 7)) else [0, 1, 2, 3].filter (fun k => bit value (8 * k + 7))).foldl
      (fun s k => acknowledgeClass k s) s := by
  cases high
  · simp only [ventAcknowledgeDo, below, Bool.false_eq_true, if_false, Nat.zero_add]
    rfl
  · have hl : [4, 5].filter (fun k => bit value (8 * (k - 4) + 7)) = (([0, 1].filter fun k => bit value (8 * k + 7)).map (4 + ·)) :=
      List.filter_map (f := (4 + ·)) (l := [0, 1])
    rw [if_pos rfl, hl, List.foldl_map]
    rfl

/-! ## RESUME, and the settings beside it (R451) -/

/-- RESUME ends a HALT that it may end. -/
def resumed (value : BitVec 32) (s : State) : State :=
  if bit value 11 && s.vent.halt && !s.vent.haltSec && (List.range 6).all (fun k => !(s.ventClass k).pending)
  then refetchAll (updateAttn { s with vent.halt := false }) else s

theorem ventResumeDo_eq {value : BitVec 32} : ventResumeDo value s = resumed value
    (writeRwl 4 (fld value 8 3 != s.vent.vec || fld value 0 5 != s.vent.autoAck)
      (fun s => { s with vent.vec := fld value 8 3, vent.autoAck := fld value 0 5 }) s) := rfl

theorem resumed_idle {value : BitVec 32} (h : bit value 11 = false) : resumed value s = s := by simp [resumed, h]

/-! ## Shadow mismatches (R452) -/

variable {code detail : BitVec 8}

theorem shadowMismatchDo_idle (h : code.toNat < 0x51 ∨ 0x56 < code.toNat ∨ s.pwr.inReset = true) : shadowMismatchDo code detail s = s := if_pos h

/-- The job whose key is in flight on the engine that DETAIL names. -/
def inFlight (d : Nat) (s : State) : Option Job := s.jobs.find? (fun j => j.engine == d && j.faulted && !s.suspended j && !j.bound.isEmpty)

theorem shadowMismatchDo_raises (hr : s.pwr.inReset = false) (hl : 0x51 ≤ code.toNat) (hh : code.toNat ≤ 0x56) :
    shadowMismatchDo code detail s = raiseEvent code.toNat detail.toNat (setUnit code.toNat detail.toNat) .own
      (if code.toNat = 0x51 then (inFlight detail.toNat s).elim s (fun j => endWiping j.id stEngineFault s) else s) := by
  refine if_neg ?_
  simp only [hr, Bool.false_eq_true, or_false]
  omega

theorem setUnit_shadow {n d : Nat} (h : 0x51 ≤ n) : setUnit n d = if n = 0x52 ∨ n = 0x53 then .slice d else .none := by
  unfold setUnit
  rw [if_neg (by omega), if_neg (by omega)]

/-- The state in which a mismatch is raised is the one before, where no key was in flight. -/
theorem shadowMismatchDo_quiet (hr : s.pwr.inReset = false) (hl : 0x51 ≤ code.toNat) (hh : code.toNat ≤ 0x56)
    (hn : code.toNat ≠ 0x51 ∨ inFlight detail.toNat s = none) :
    shadowMismatchDo code detail s = raiseEvent code.toNat detail.toNat
      (if code.toNat = 0x52 ∨ code.toNat = 0x53 then .slice detail.toNat else .none) .own s := by
  rw [shadowMismatchDo_raises hr hl hh, setUnit_shadow hl]
  rcases hn with hn | hn
  · rw [if_neg hn]
  · rw [hn, Option.elim_none, ite_self]

theorem shadowMismatchDo_flying {j : Job} (hr : s.pwr.inReset = false) (hc : code.toNat = 0x51) (hf : inFlight detail.toNat s = some j) :
    shadowMismatchDo code detail s = raiseEvent code.toNat detail.toNat .none .own (endWiping j.id stEngineFault s) := by
  rw [shadowMismatchDo_raises hr (by omega) (by omega), setUnit_shadow (by omega), hf, if_pos hc, if_neg (by omega)]
  rfl

/-! ## Injected events (R454) -/

variable {value : BitVec 32}

theorem mayInject_iff : (s.lcs.ftm || (s.lcs.state == .maker && s.right 6)) = true ↔ s.lcs.ftm = true ∨ (s.lcs.state = .maker ∧ s.right 6 = true) := by
  rw [Bool.or_eq_true_iff, Bool.and_eq_true_iff, beq_iff_eq]

theorem ventInjectDo_idle (h : bit value 0 = false) : ventInjectDo value s = s := by simp [ventInjectDo, h]

theorem ventInjectDo_refused (h : bit value 0 = true)
    (hn : ¬(s.lcs.ftm = true ∨ (s.lcs.state = .maker ∧ s.right 6 = true)) ∨ eventInfo (fld value 8 8).toNat = none) :
    ventInjectDo value s = raiseOpen 0x07 s := by
  simp only [ventInjectDo, h, Bool.not_true, Bool.false_eq_true, if_false]
  split
  · next ha => rw [hn.resolve_left (not_not_intro (mayInject_iff.mp ha))]
  · rfl

theorem ventInjectDo_raises {ec eb : Nat} (h : bit value 0 = true) (ha : s.lcs.ftm = true ∨ (s.lcs.state = .maker ∧ s.right 6 = true))
    (he : eventInfo (fld value 8 8).toNat = some (ec, eb)) :
    ventInjectDo value s = raiseEvent (fld value 8 8).toNat (fld value 16 8).toNat (injectUnit ec (fld value 8 8).toNat (fld value 16 8).toNat)
      (.escalation ec) { s with vent.fi := true } := by
  simp only [ventInjectDo, h, Bool.not_true, Bool.false_eq_true, if_false, mayInject_iff.mpr ha, if_true, he]

/-! ## The obligation -/

/-- Settles O47: each command by the rule of its branch; acknowledgement class by class, Thimble's return by what each of its steps
leaves. -/
theorem ventControlActsAsWritten : Obligations.VentControlActsAsWritten := by
  intro s code detail high value cls j ec eb c d unit flying back asked acked auto vec aa set resumes allowed icode id
  refine ⟨fun h => next_congr (shadowMismatchDo_idle h), fun hr hl hh hn => next_congr (shadowMismatchDo_quiet hr hl hh hn),
    fun hr hc hf => ⟨_, next_congr (shadowMismatchDo_flying hr hc hf),
      endWiping_wipes ⟨j, List.mem_of_find?_eq_some hf, rfl⟩⟩, rfl, fun h => next_congr (if_pos ?_), fun ht hr hn => next_congr ?_,
    fun ht hr hn => ⟨_, rfl, thimbleRestartCompleteDo_sides ht hr hn⟩, fun hb => ⟨_, next_atBar hb ventAcknowledgeDo_eq, acknowledged_foldl asked⟩,
    fun h => ⟨_, next_congr (if_pos ?_), acknowledged_one⟩, fun h => next_congr (if_neg ?_), fun hb hl => next_atBar hb ?_,
    fun hb hl hv ha => next_atBar hb ?_, fun hb hl hd h11 => next_atBar hb ?_, fun hb h => next_atBar hb (ventInjectDo_idle h),
    fun hb h hn => next_atBar hb (ventInjectDo_refused h hn), fun hb h ha he => next_atBar hb (ventInjectDo_raises h ha he)⟩
  · simpa using h
  · unfold thimbleRestartCompleteDo
    rw [if_neg (by simp [ht, hr])]
    exact if_pos hn
  · simpa [auto] using h
  · simpa [auto] using h
  · rw [ventResumeDo_eq, writeRwl_unlocked hl]
    rfl
  · rw [ventResumeDo_eq, writeRwl_locked_same hl (by simp [← hv, ← ha, vec, aa])]
    rfl
  · rw [ventResumeDo_eq, resumed_idle h11]
    exact writeRwl_locked_differs hl (by simpa using hd)

end Sys2Proof.Machine
end

section
/-! SUPPORT. The Random Unit: its tests, its failures, the requests it serves, its resets and its masking generators (R363 to R373, R376). -/
namespace Sys2Proof.Machine

variable {s t : State} {k id n status : Nat} {j : Job} {q : List DrbgFor}

/-! ## The end of a job on an engine -/

/-- The job is wiped, and ends with this status. -/
def Job.wipedWith (status : Nat) (j : Job) : Prop := (j.phase, j.status) = (.wiping, status)

theorem lasting_wipedWith : Lasting (Job.wipedWith status) where
  same h := by
    obtain ⟨-, hp, hs, -⟩ := by simpa only [Job.standing, Prod.mk.injEq] using h
    simp only [Job.wipedWith, hp, hs, imp_self]
  woken h := by simp [Job.wipedWith, h]
  stopped h := by simp [Job.wipedWith, h]
  runs _ hj := Or.inr (Or.inr (congrArg Prod.fst hj))

/-- A job that is there and ends on its engine is wiped with its status, whatever becomes of its tasks. -/
theorem endWiping_wipesWith (h : s.job? id = some j) :
    ((endWiping id status s).job? id).map (fun j => (j.phase, j.status)) = some (.wiping, status) := by
  have hu : (undo id s).each id (fun _ => True) := ⟨undoStable_present.undo ⟨j, List.mem_of_find?_eq_some h, job_id h⟩, fun _ _ _ => trivial⟩
  have hw : (beginWipe id status s).each id (Job.wipedWith status) := each_modJob_same (fun _ => rfl) (fun _ => rfl) hu
  have hn : s.job? id ≠ none := by simp [h]
  obtain ⟨i, hi, hf⟩ := job_of_each (each_endWiping_of_beginWipe lasting_wipedWith (fun h => absurd h hn) hw)
  exact (congrArg _ hi).trans (congrArg some hf)

/-! ## Requests that fail (R367, R368) -/

theorem JobsGoOn.drbgFail {r : State} (h : JobsGoOn r s) : JobsGoOn r (drbgFail k status s) := by
  unfold Machine.drbgFail
  split
  · split
    · exact h.endWiping
    · exact h.endNow
  · exact h

/-- A job that no engine runs is gone with its request, where its completion can go out. -/
theorem drbgFail_gone (hs : ∀ j, s.job? id = some j → j.stoppable = false) (hl : s.canLeave id) : (drbgFail id status s).job? id = none := by
  unfold drbgFail
  split
  · next j hj =>
    rw [if_neg (by simp [hs j hj])]
    exact endNow_gone hl
  · assumption

theorem drbgFail_wipes (h : s.job? id = some j) (hs : j.stoppable = true) :
    ((drbgFail id status s).job? id).map (fun j => (j.phase, j.status)) = some (.wiping, status) := by
  simp only [drbgFail, h, hs, if_true]
  exact endWiping_wipesWith h

/-- One waiting request ends: its job, if a job waits. -/
def failRequest (s : State) (d : DrbgFor) : State := match d with | .job id _ => drbgFail id stRngFailed s | _ => s

/-- The state in which only the request of a TMK rotation still waits. -/
def onlyTmk (s : State) : State := { s with rng.queue := s.rng.queue.filter (· == .tmk) }

theorem failRequests_eq : failRequests s = s.rng.queue.foldl failRequest (onlyTmk s) := rfl

theorem JobsGoOn.failRequest {r : State} (h : JobsGoOn r s) {d : DrbgFor} : JobsGoOn r (failRequest s d) := by
  unfold Machine.failRequest
  split
  · exact h.drbgFail
  · exact h

theorem jobsGoOn_failRequests : JobsGoOn (onlyTmk s) (failRequests s) := JobsGoOn.refl.foldl fun _ _ hu => hu.failRequest

/-- Only the request of a TMK rotation waits on. -/
theorem queue_failRequests : (failRequests s).rng.queue = s.rng.queue.filter (· == .tmk) := by
  have h := jobsGoOn_failRequests (s := s)
  have hb : (failRequests s).rng.queue.filter (fun d => !d.ofJob) = (onlyTmk s).rng.queue.filter (fun d => !d.ofJob) :=
    (congrArg (·.rng.queue) h.beside :)
  have ht : ∀ d ∈ (onlyTmk s).rng.queue, (!d.ofJob) = true := fun d hd => by
    rw [beq_iff_eq.mp (List.mem_filter.mp hd).2]
    rfl
  rwa [List.filter_eq_self.mpr fun d hd => ht d (h.requests hd), List.filter_eq_self.mpr ht] at hb

/-- A waiting job is gone with its request. -/
theorem failRequests_gone (hd : DrbgFor.job id n ∈ s.rng.queue) (hj : s.job? id = some j) (hs : j.stoppable = false) (hl : s.canLeave id) :
    (failRequests s).job? id = none := by
  obtain ⟨l, m, hq⟩ := List.append_of_mem hd
  rw [failRequests_eq, hq, List.foldl_append, List.foldl_cons]
  have h : JobsGoOn (onlyTmk s) (l.foldl failRequest (onlyTmk s)) := JobsGoOn.refl.foldl fun _ _ hu => hu.failRequest
  generalize l.foldl failRequest (onlyTmk s) = u at h ⊢
  have hg : (failRequest u (.job id n)).job? id = none := by
    refine drbgFail_gone (fun i hi => ?_) (h.canLeave hl)
    obtain ⟨j', hj', ho⟩ := h.onward id i hi
    cases hj.symm.trans hj'
    exact ho.stoppable hs
  exact (JobsGoOn.refl.foldl (f := failRequest) (l := m) fun _ _ hu => hu.failRequest).gone hg

theorem rng_failRequests : (failRequests s).rng.state = s.rng.state ∧ (failRequests s).rng.cause = s.rng.cause := by
  have hb := (jobsGoOn_failRequests (s := s)).beside
  exact ⟨(congrArg (·.rng.state) hb :), (congrArg (·.rng.cause) hb :)⟩

theorem stoppable_of_held {w : Wait} (h : j.phase = .held w) : j.stoppable = false := by simp [Job.stoppable, h]

/-- The unit fails with a cause: what waits ends, and the event and its record follow. `t` holds the counts of the tests. -/
theorem fails {c : Instr} {why : BitVec 3} (he : exec c s = .next (logRecord 0x0404 [why.zeroExtend 8]
      (raiseOpenAt 0x42 (.engine engRandom) (failRequests (rngFail why t)))))
    (hq : t.rng.queue = s.rng.queue) (hj : t.jobs = s.jobs) (hm : ∀ i, t.mayRequest i = s.mayRequest i) :
    ∃ u, exec c s = .next (logRecord 0x0404 [why.zeroExtend 8] (raiseOpenAt 0x42 (.engine engRandom) u)) ∧
      u.rng.state = .failed ∧ u.rng.cause = why ∧ u.rng.queue = s.rng.queue.filter (· == .tmk) ∧
      ∀ id n j, DrbgFor.job id n ∈ s.rng.queue → s.job? id = some j → j.phase = .held .drbg →
        j.suppressed = true ∨ s.mayRequest j.slice = true → u.job? id = none := by
  obtain ⟨hs, hc⟩ := rng_failRequests (s := rngFail why t)
  refine ⟨_, he, hs, hc, queue_failRequests.trans (congrArg _ hq), fun id n j hd hj' hp hl => ?_⟩
  have hjt : (rngFail why t).job? id = some j := (job_congr hj id).trans hj'
  refine failRequests_gone (hq.symm ▸ hd) hjt (stoppable_of_held hp) fun i hi => ?_
  cases hjt.symm.trans hi
  exact (hm j.slice).symm ▸ hl

/-! ## Requests that are served (R364, R365, R376) -/

/-- The counts after one internal request; `pr` tells that it reseeds first. -/
def RngState.drawn (pr : Bool) (r : RngState) : RngState :=
  { r with requests := if pr then 0 else r.requests + 1, reseeds := if pr then satInc r.reseeds else r.reseeds }

/-- The unit serves. -/
def State.serves (s : State) : Prop := s.rng.state = .ready ∧ s.fence engRandom = .none

theorem drbgRequestServedDo_idle (h : ¬s.serves ∨ s.rng.queue = []) : drbgRequestServedDo s = s := by
  unfold drbgRequestServedDo
  split
  · rfl
  · next hn =>
    rw [not_or, not_not, not_not] at hn
    rw [h.resolve_left (not_not_intro hn)]

/-- What a served request starts from: out of the queue, with the internal request counted. -/
def afterDraw (pr : Bool) (q : List DrbgFor) (s : State) : State := { s with rng := { s.rng.drawn pr with queue := q, part := (0, 0) } }

theorem not_idle (h : s.serves) : ¬(s.rng.state ≠ .ready ∨ s.fence engRandom ≠ .none) := by
  rw [not_or, not_not, not_not]
  exact h

theorem drbgRequestServedDo_gen {g : Nat} (h : s.serves) (hq : s.rng.queue = .gen g :: q) :
    drbgRequestServedDo s = serveDrbg (.gen g) (afterDraw s.rng.prAll q s) := by
  unfold drbgRequestServedDo
  rw [if_neg (not_idle h), hq]
  dsimp only
  rw [Bool.or_false]
  rfl

theorem drbgRequestServedDo_tmk (h : s.serves) (hq : s.rng.queue = .tmk :: q) :
    drbgRequestServedDo s = serveDrbg .tmk (afterDraw s.rng.prAll q s) := by
  unfold drbgRequestServedDo
  rw [if_neg (not_idle h), hq]
  dsimp only
  rw [Bool.or_false]
  rfl

theorem gen_modGen_ne {g i : Nat} {f : MaskGen → MaskGen} (h : i ≠ g) : (s.modGen g f).gen i = s.gen i := tget_tmod_ne _ _ _ h

/-- A generator that gets its seed leaves the others, and the unit, as they are (R365). -/
theorem serveDrbg_gen_sides {g : Nat} : let t := serveDrbg (.gen g) s
    t.gen g = {} ∧ (∀ i, i ≠ g → t.gen i = s.gen i) ∧ t.rng.queue = s.rng.queue ∧ t.rng.reseeds = s.rng.reseeds ∧ t.jobs = s.jobs :=
  ⟨gen_modGen .., fun _ hi => gen_modGen_ne hi, rfl, rfl, rfl⟩

theorem serveDrbg_gen {pr : Bool} {g : Nat} : let t := serveDrbg (.gen g) (afterDraw pr q s)
    t.gen g = {} ∧ (∀ i, i ≠ g → t.gen i = s.gen i) ∧ t.rng.queue = q ∧ t.rng.reseeds = (s.rng.drawn pr).reseeds ∧ t.jobs = s.jobs :=
  serveDrbg_gen_sides (s := afterDraw pr q s)

theorem freeBytes_afterDraw {pr : Bool} : freeBytes (afterDraw pr q s) n = freeBytes s n := rfl

/-- The re-masking sequencer has its new TMK, and its sweep starts (R324). -/
theorem serveDrbg_tmk {pr : Bool} : serveDrbg .tmk (afterDraw pr q s) = { afterDraw pr q s with
    freeCtr := s.freeCtr + 1
    kv.tmkOld := s.kv.tmk, kv.tmk := BitVec.ofNat 512 (ofLE (freeBytes s 64)), kv.sweep := true, kv.tmkWaiting := false } := by
  rw [← freeBytes_afterDraw (pr := pr) (q := q)]
  rfl

/-- Internal requests of the job at the front that have been served. -/
def State.partsServed (s : State) (id : Nat) : Nat := if s.rng.part.1 = id then s.rng.part.2 else 0

/-- The internal request of this job reseeds first. -/
def State.resists (s : State) (j : Job) : Bool := s.rng.prAll || (j.opcode == 0x0801 && j.pb 0 % 2 == 1)

theorem drbgRequestServedDo_job (h : s.serves) (hq : s.rng.queue = .job id n :: q) (hj : s.job? id = some j) : drbgRequestServedDo s =
    if s.partsServed id + 1 < requestsFor n then { s with rng := { s.rng.drawn (s.resists j) with part := (id, s.partsServed id + 1) } }
    else serveDrbg (.job id n) (afterDraw (s.resists j) q s) := by
  have hl : s.drbgLeft (.job id n) = requestsFor n - 1 - s.partsServed id := rfl
  unfold drbgRequestServedDo
  rw [if_neg (not_idle h), hq]
  dsimp only
  simp only [hj, hl, Option.elim_some]
  cases hk : requestsFor n - 1 - s.partsServed id with
  | zero => exact (if_neg (show ¬s.partsServed id + 1 < requestsFor n by omega)).symm
  | succ m => exact (if_pos (show s.partsServed id + 1 < requestsFor n by omega)).symm

/-! ## Start-up tests (R363, R367, R369) -/

section
variable {a b kat : Bool} {rct apt : BitVec 16} {am : BitVec 11} {rm : BitVec 6}

/-- The state in which the start-up tests have been counted. -/
def tested (a : Bool) (rct apt : BitVec 16) (am : BitVec 11) (rm : BitVec 6) (s : State) : State := { s with
  rng.rct := satAdd s.rng.rct rct.toNat, rng.apt := satAdd s.rng.apt apt.toNat, rng.aptMax := am, rng.rctMax := rm, rng.aFailed := !a }

theorem noiseStartupTestCompleteDo_startup (h : s.rng.state = .startup) : noiseStartupTestCompleteDo a b kat rct apt am rm s =
    let t := tested a rct apt am rm s
    if !a && !b then logRecord 0x0404 [0x03] (raiseOpenAt 0x42 (.engine engRandom) (failRequests (rngFail 3 t)))
    else if !kat then logRecord 0x0404 [0x04] (raiseOpenAt 0x42 (.engine engRandom) (failRequests (rngFail 4 t)))
    else if a then rngReady false t
    else raiseOpenAt 0x03 (.engine engRandom) (rngReady true t) := if_neg (not_not_intro h)

end

/-! ## Timeouts, resets and generators (R367, R370, R372, R373) -/

theorem requests_any : (s.rng.queue.any fun d => match d with | .job i _ => i == id | _ => false) = true ↔ ∃ n, DrbgFor.job id n ∈ s.rng.queue := by
  rw [List.any_eq_true]
  constructor
  · rintro ⟨d, hd, h⟩
    cases d with
    | job i n =>
      cases beq_iff_eq.mp h
      exact ⟨n, hd⟩
    | gen g => cases h
    | tmk => cases h
  · rintro ⟨n, hn⟩
    exact ⟨_, hn, beq_self_eq_true id⟩

/-- The state in which no request of a job waits. -/
def unasked (id : Nat) (s : State) : State :=
  { s with rng.queue := s.rng.queue.filter (fun d => match d with | .job i _ => i != id | _ => true) }

theorem rngRequestTimeoutDo_idle (h : s.rng.state ≠ .startup ∨ ∀ n, DrbgFor.job id n ∉ s.rng.queue) : rngRequestTimeoutDo id s = s := by
  refine if_neg fun ⟨hs, ha⟩ => ?_
  obtain ⟨n, hn⟩ := requests_any.mp ha
  exact h.elim (· hs) (· n hn)

theorem rngRequestTimeoutDo_asked (hs : s.rng.state = .startup) (hq : DrbgFor.job id n ∈ s.rng.queue) :
    rngRequestTimeoutDo id s = drbgFail id stRngNotReady (unasked id s) := if_pos ⟨hs, requests_any.mpr ⟨n, hq⟩⟩

/-- A job that gets its bytes goes on with them. -/
theorem job_serveDrbg {pr : Bool} (hj : s.job? id = some j) : (serveDrbg (.job id n) (afterDraw pr q s)).job? id =
    some { j with seed := freeBytes s n, phase := if j.phase = .held .drbg then .ready else j.phase } := by
  have hm := job_modJob (s := afterDraw pr q s) id id (fun j => { j with
    seed := freeBytes (afterDraw pr q s) n, phase := if j.phase = .held .drbg then .ready else j.phase }) fun _ => rfl
  have ha : (afterDraw pr q s).job? id = some j := hj
  rw [if_pos rfl, ha] at hm
  exact hm

/-- A generator asks for a seed once, and of a unit that is READY. -/
theorem mgReseedRequestDo_asks {gen : BitVec 7} (hg : gen < 109) (hn : (s.gen gen.toNat).requested = false) :
    (mgReseedRequestDo gen s).gen gen.toNat =
      { s.gen gen.toNat with draws := max (s.gen gen.toNat).draws (2 ^ 19), requested := true } ∧
    (mgReseedRequestDo gen s).rng.queue = (if s.rng.state = .ready then s.rng.queue ++ [.gen gen.toNat] else s.rng.queue) ∧
    (mgReseedRequestDo gen s).jobs = s.jobs := by
  have hs : (s.modGen gen.toNat (fun g => { g with draws := max g.draws (2 ^ 19), requested := true })).rng.state = s.rng.state := rfl
  have hm : (s.modGen gen.toNat (fun g => { g with draws := max g.draws (2 ^ 19), requested := true })).gen gen.toNat =
      { s.gen gen.toNat with draws := max (s.gen gen.toNat).draws (2 ^ 19), requested := true } := gen_modGen ..
  unfold mgReseedRequestDo
  rw [if_pos ⟨hg, by simp [hn]⟩]
  dsimp only
  rw [hs]
  split
  · exact ⟨hm, rfl, rfl⟩
  · exact ⟨hm, rfl, rfl⟩

theorem mgReseedRequestDo_idle {gen : BitVec 7} (h : 109 ≤ gen ∨ (s.gen gen.toNat).requested = true) : mgReseedRequestDo gen s = s := by
  refine if_neg fun ⟨hg, hn⟩ => ?_
  rcases h with h | h
  · exact BitVec.not_lt.mpr h hg
  · simp [h] at hn

theorem mgSeedArrivalDo_idle {gen : BitVec 7} (h : ¬s.serves ∨ (s.gen gen.toNat).requested = false) : mgSeedArrivalDo gen s = s := by
  refine if_neg fun ⟨hs, hf, hn⟩ => ?_
  rcases h with h | h
  · exact h ⟨hs, hf⟩
  · simp [h] at hn

theorem mgStallTimeoutDo_engine (hj : s.job? id = some j) (h : (j.stoppable && s.stalled j.engine) = true) :
    mgStallTimeoutDo id s = endWiping id stRngUnavailable s := by
  simp only [mgStallTimeoutDo, hj, h, if_true]

theorem mgStallTimeoutDo_vault (hj : s.job? id = some j) (h : (j.phase == .ready && s.stalled engVault) = true) :
    mgStallTimeoutDo id s = endNow id stRngUnavailable engVault s := by
  have hn : (j.stoppable && s.stalled j.engine) = false := by simp [Job.stoppable, beq_iff_eq.mp (Bool.and_eq_true_iff.mp h).1]
  simp only [mgStallTimeoutDo, hj, h, hn, Bool.false_eq_true, if_false, if_true]

/-! ## The obligation -/

/-- Settles O44: each command by the rule of its branch; the failures by what the end of waiting jobs leaves of the queue and of them. -/
theorem randomUnitStartsFailsAndServes : Obligations.RandomUnitStartsFailsAndServes := by
  intro s a b kat rct apt am rm value gen job id n q j g r tests seen ready failed prAll one served before up start
  refine ⟨fun hr => ?_, fun hb => next_atBar hb rfl, fun hr => ?_⟩
  · simp only [List.forall_mem_cons]
    refine ⟨?_, ?_, ?_, ?_, ?_, ?_, ?_, ?_, ?_, ?_, ?_, List.forall_mem_nil _⟩ <;> exact next_congr (powered_reset hr)
  have run {c : Instr} {f : State → State} {t : State} (he : exec c s = .next (powered f s)) (hf : f s = t) : exec c s = .next t :=
    he.trans (next_powered hr hf)
  refine ⟨fun h => run rfl (if_pos h), fun h => ?_, fun h x => run rfl (if_pos h), fun h => ?_, run rfl rfl,
    fun h => run rfl (drbgRequestServedDo_idle h), fun h hq => ⟨_, run rfl (drbgRequestServedDo_gen h hq), serveDrbg_gen⟩,
    fun h hq => ⟨_, run rfl ((drbgRequestServedDo_tmk h hq).trans serveDrbg_tmk), rfl, rfl, rfl, rfl, rfl, rfl⟩,
    fun h hq hj hn => run rfl ((drbgRequestServedDo_job h hq hj).trans (if_pos hn)),
    fun h hq hj hn => ⟨_, run rfl ((drbgRequestServedDo_job h hq hj).trans (if_neg (Nat.not_lt.mpr hn))), ?_, rfl, rfl⟩,
    fun h => run rfl (rngRequestTimeoutDo_idle h), fun hs hq hj => ⟨fun hp hl => ⟨_, run rfl (rngRequestTimeoutDo_asked hs hq), ?_⟩,
      fun hp => ⟨_, run rfl (rngRequestTimeoutDo_asked hs hq), drbgFail_wipes hj hp⟩⟩,
    run rfl ?_, run rfl rfl, fun hg hn => ?_, fun h => run rfl ?_, fun h hn => ⟨_, run rfl (if_pos ⟨h.1, h.2, hn⟩), ?_⟩,
    fun h => run rfl ?_, run rfl rfl, fun h => run rfl ?_, fun hj h h' => run rfl ?_, fun hj h => ?_, fun hj h hl => ?_⟩
  · have hd := noiseStartupTestCompleteDo_startup (a := a) (b := b) (kat := kat) (rct := rct) (apt := apt) (am := am) (rm := rm) h
    refine ⟨fun ha hb => fails (t := tested a rct apt am rm s) (run rfl (hd.trans ?_)) rfl rfl fun _ => rfl,
      fun hab hk => fails (t := tested a rct apt am rm s) (run rfl (hd.trans ?_)) rfl rfl fun _ => rfl,
      fun ha hk => run rfl (hd.trans ?_), fun ha hb hk => run rfl (hd.trans ?_)⟩
    · simp [ha, hb]
    · rcases hab with hab | hab <;> simp [hab, hk]
    · subst ha hk
      rfl
    · subst ha hb hk
      rfl
  · exact ⟨fails (t := { s with rng.apt := satInc s.rng.apt }) (run rfl (if_neg (not_not_intro h))) rfl rfl fun _ => rfl,
      fails (t := { s with rng.rct := satInc s.rng.rct }) (run rfl (if_neg (not_not_intro h))) rfl rfl fun _ => rfl⟩
  · exact job_serveDrbg hj
  · refine drbgFail_gone (fun i hi => ?_) fun i hi => ?_ <;> cases (hi.symm.trans hj :) <;> assumption
  · unfold rngAutoResetDo
    simp only [Bool.not_eq_true']
    rfl
  · exact ⟨_, run rfl rfl, mgReseedRequestDo_asks hg hn⟩
  · exact mgReseedRequestDo_idle h
  · exact ⟨gen_modGen .., rfl, rfl⟩
  · exact mgSeedArrivalDo_idle h
  · simp only [mgStallTimeoutDo, h]
  · simp only [mgStallTimeoutDo, hj, h, h', Bool.false_eq_true, if_false]
  · exact ⟨_, run rfl (mgStallTimeoutDo_engine hj h), endWiping_wipesWith hj⟩
  · refine ⟨_, run rfl (mgStallTimeoutDo_vault hj h), endNow_gone fun i hi => ?_⟩
    cases hj.symm.trans hi
    exact hl

end Sys2Proof.Machine
end

section
/-! SUPPORT. The erasure, the wipe and the burn, the decode of the fuse words, and the TAP (R459, R460, R462, R463, R468 to R471). -/
namespace Sys2Proof.Machine

variable {s t u r : State} {k : Nat}

/-! ## Jobs that are wiped leave -/

/-- What the leaving of wiped jobs is watched for: the jobs, the session contexts and the Key Vault. -/
def State.heldView (s : State) : List Job × Tbl Ctx × KvState := (s.jobs, s.ctxs, s.kv)

/-- From `r` to `s` wiped jobs have left: each job that is left is wiped, no context has changed, an empty table of session keys is
empty still, and where no data run was dying no persistent slot has changed. -/
structure WipedLeave (r s : State) : Prop where
  phases : ∀ j ∈ s.jobs, j.phase = .wiping ∨ j.phase = .post
  ctxs : s.ctxs = r.ctxs
  kt : r.kv.kt = [] → s.kv.kt = []
  runs : r.kv.dying = [] → s.kv.dying = [] ∧ s.kv.ps = r.kv.ps

theorem WipedLeave.refl (h : ∀ j ∈ s.jobs, j.phase = .wiping ∨ j.phase = .post) : WipedLeave s s := ⟨h, rfl, fun h => h, fun h => ⟨h, rfl⟩⟩

section
variable (h : WipedLeave r s)
include h

theorem WipedLeave.aside (hv : t.heldView = s.heldView) : WipedLeave r t := by
  obtain ⟨hj, hc, hk⟩ := by simpa only [State.heldView, Prod.mk.injEq] using hv
  obtain ⟨hp, hx, ht, hr⟩ := h
  exact ⟨by rwa [hj], hc.trans hx, by rwa [hk], by rwa [hk]⟩

theorem WipedLeave.mapIf {p : Job → Bool} {f : Job → Job} (hf : ∀ j : Job, j.phase = .wiping ∨ j.phase = .post → (f j).phase = .wiping ∨ (f j).phase = .post)
    (hj : t.jobs = mapIf p f s.jobs) (hc : t.ctxs = s.ctxs) (hk : t.kv = s.kv) : WipedLeave r t := by
  obtain ⟨hp, hx, ht, hr⟩ := h
  refine ⟨fun i hi => ?_, hc.trans hx, by rwa [hk], by rwa [hk]⟩
  obtain ⟨j, hjm, rfl⟩ := List.mem_map.mp (hj ▸ hi)
  split
  · exact hf j (hp j hjm)
  · exact hp j hjm

theorem WipedLeave.modJob {f : Job → Job} (hf : ∀ j : Job, j.phase = .wiping ∨ j.phase = .post → (f j).phase = .wiping ∨ (f j).phase = .post) :
    WipedLeave r (s.modJob k f) := h.mapIf hf rfl rfl rfl

theorem WipedLeave.dropJob : WipedLeave r (s.dropJob k) := ⟨fun j hj => h.phases j (List.mem_filter.mp hj).1, h.ctxs, h.kt, h.runs⟩

end

theorem heldView_countLoad : (countLoad k s).heldView = s.heldView := by
  unfold countLoad
  split <;> rfl

theorem heldView_leaveWho {w : Who} : (leaveWho k w s).heldView = s.heldView := by
  unfold leaveWho
  dsimp only
  split
  · split
    · rfl
    · exact heldView_countLoad
  · rfl

theorem heldView_leaveLane {j : Job} : (leaveLane j s).heldView = s.heldView := by
  unfold leaveLane
  split
  · exact heldView_leaveWho
  · rfl

theorem heldView_leaveTree : (leaveTree k s).heldView = s.heldView := by
  unfold leaveTree
  split
  · exact foldl_keeps State.heldView _ (fun _ _ => heldView_leaveWho) _ s
  · rfl

theorem heldView_msixDue : (msixDue k s).heldView = s.heldView := by
  unfold msixDue
  split <;> rfl

theorem heldView_postEntry {i q : Nat} {e : Entry} : (postEntry i q e s).heldView = s.heldView := by
  have hm {u : State} : (moderate i q u).heldView = u.heldView := by
    unfold moderate
    dsimp only
    split
    · exact heldView_msixDue
    · rfl
  exact hm

theorem freeSlots_sides {kt : Bool} {i n : Nat} : (freeSlots kt i n s).jobs = s.jobs ∧ (freeSlots kt i n s).ctxs = s.ctxs ∧
    (freeSlots kt i n s).kv.dying = s.kv.dying := by
  have hf := foldl_keeps (fun u : State => (u.jobs, u.ctxs, u.kv.dying)) (fun s k => s.modSlot kt (i + k) (fun sl => { gen := sl.gen }))
    (fun _ _ => by cases kt <;> rfl) (List.range n) s
  obtain ⟨hj, hc, hd⟩ := by simpa only [Prod.mk.injEq] using hf
  exact ⟨hj, hc, hd⟩

theorem sweepRuns_sides : (sweepRuns s).jobs = s.jobs ∧ (sweepRuns s).ctxs = s.ctxs := by
  have hf := foldl_keeps (fun u : State => (u.jobs, u.ctxs)) (fun (s : State) (d : DyingRun) => freeSlots d.kt d.first d.count s)
    (fun _ _ => Prod.ext freeSlots_sides.1 freeSlots_sides.2.1) (s.kv.dying.filter (fun d => !s.needed d.kt d.index d.gen))
    { s with kv.dying := s.kv.dying.filter (fun d => s.needed d.kt d.index d.gen) }
  obtain ⟨hj, hc⟩ := by simpa only [Prod.mk.injEq] using hf
  exact ⟨hj, hc⟩

/-- Where no data run is dying none is freed. -/
theorem sweepRuns_idle (h : s.kv.dying = []) : (sweepRuns s).kv.dying = [] ∧ (sweepRuns s).kv.ps = s.kv.ps := by
  unfold sweepRuns
  rw [h]
  exact ⟨rfl, rfl⟩

section
variable (h : WipedLeave r s)
include h

theorem WipedLeave.sweepRuns : WipedLeave r (sweepRuns s) := by
  obtain ⟨hj, hc⟩ := sweepRuns_sides (s := s)
  refine ⟨hj.symm ▸ h.phases, hc.trans h.ctxs, fun hk => sweepRuns_kt (h.kt hk), fun hd => ?_⟩
  obtain ⟨hd', hp⟩ := h.runs hd
  obtain ⟨hi, hps⟩ := sweepRuns_idle hd'
  exact ⟨hi, hps.trans hp⟩

theorem WipedLeave.retire {j : Job} : WipedLeave r (retire j s) := by
  have hl := (h.dropJob (k := j.id)).aside (heldView_leaveTree.trans (heldView_leaveLane (j := j)) : (leaveTree j.engine _).heldView = _)
  refine WipedLeave.aside (s := sweepOld _) (WipedLeave.sweepRuns ?_) rfl
  split
  · exact hl.aside rfl
  · exact hl

/-- A job that is wiped is not ended by its tasks. -/
theorem WipedLeave.settleTasks : WipedLeave r (settleTasks k s) := by
  have hs : Machine.settleTasks k s = s := by
    unfold Machine.settleTasks
    split
    · next j hj =>
      have hn : j.stoppable = false := by rcases h.phases j (List.mem_of_find?_eq_some hj) with hp | hp <;> simp [Job.stoppable, hp]
      split
      · exact if_neg (by simp [hn])
      · rfl
    · rfl
  exact hs.symm ▸ h

/-- Nor is a SLICE_FREEZE that is wiped answered. -/
theorem WipedLeave.settleFreeze {i : Nat} : WipedLeave r (settleFreeze i s) := by
  have hm : WipedLeave r (s.modSlice i (fun sl => { sl with state := .frozen })) := h.aside rfl
  unfold Machine.settleFreeze
  split
  · split
    · dsimp only
      split
      · next j hj =>
        have hn : j.phase ≠ .held .drain := by rcases hm.phases j (List.mem_of_find?_eq_some hj) with hp | hp <;> simp [hp]
        rw [if_neg hn]
        exact hm
      · exact hm
    · exact h
  · exact h

theorem WipedLeave.countFreeze {j : Job} : WipedLeave r (countFreeze j s) := h.aside rfl

theorem WipedLeave.complete : WipedLeave r (complete k s) := by
  unfold Machine.complete
  split
  · exact h
  · next j _ =>
    split
    · next p _ =>
      refine WipedLeave.settleTasks (WipedLeave.retire ?_)
      split
      · exact h.modJob fun _ hj => hj
      · exact h
    · split
      · exact h.retire
      · split
        · have hd : WipedLeave r (if j.status = stDmaFault then { s with hif.dmaFaults := satInc s.hif.dmaFaults } else s) := by
            split
            · exact h.aside rfl
            · exact h
          exact (hd.aside heldView_postEntry).retire.countFreeze.settleFreeze
        · exact h.modJob fun _ _ => .inr rfl

theorem WipedLeave.foldl_complete {l : List Job} : WipedLeave r (l.foldl (fun s j => Machine.complete j.id s) s) :=
  List.foldlRecOn (motive := WipedLeave r) l _ h fun _ hu _ _ => hu.complete

end

/-! ## The erasure (R327, R463, R468) -/

/-- The state in which the jobs are told whether they are late, before the erasure aborts them. -/
def lateDecided (s : State) : State :=
  (s.jobs.filter (fun j => match j.phase with | .decided | .release | .wiping | .post => false | _ => true)).foldl (fun s j => decideLate j.id s) s

/-- A job that an erasure ends. -/
def Job.abortedBy (j : Job) : Job := { j with status := stAborted, outs := [], phase := .wiping, stop := none, streamed := 0 }

theorem abortAll_eq : abortAll s = { lateDecided s with
    thm.run := none, mig.contexts := [], hif.reads := [], jobs := (lateDecided s).jobs.map Job.abortedBy } := rfl

theorem jobsGoOn_lateDecided : JobsGoOn s (lateDecided s) := JobsGoOn.refl.foldl fun _ _ hu => hu.decideLate

theorem decideLate_sides : (decideLate k s).ctxs = s.ctxs ∧ (decideLate k s).kv = s.kv := by
  unfold decideLate
  split
  · exact ⟨rfl, rfl⟩
  · dsimp only
    split <;> exact ⟨rfl, rfl⟩

theorem lateDecided_sides : (lateDecided s).ctxs = s.ctxs ∧ (lateDecided s).kv = s.kv := by
  unfold lateDecided
  have hf (l : List Job) := foldl_keeps (fun u : State => (u.ctxs, u.kv)) (fun s j => decideLate j.id s)
    (fun _ _ => Prod.ext decideLate_sides.1 decideLate_sides.2) l s
  exact ⟨congrArg Prod.fst (hf _), congrArg Prod.snd (hf _)⟩

theorem wiped_abortAll : ∀ j ∈ (abortAll s).jobs, j.phase = .wiping ∨ j.phase = .post := by
  rw [abortAll_eq]
  intro j hj
  obtain ⟨i, -, rfl⟩ := List.mem_map.mp hj
  exact .inl rfl

/-- What an erasure shows beside jobs, session keys and contexts. -/
def State.erasedView (s : State) : Otp × LcsState × EngState × KvState := (s.otp, s.lcs, s.eng.beside, s.kv.beside)

theorem erasedView_of_beside (h : t.beside = s.beside) : t.erasedView = s.erasedView := (congrArg State.erasedView h :)

theorem erasedView_abortAll : (abortAll s).erasedView = s.erasedView := by
  have hv : (lateDecided s).erasedView = s.erasedView := erasedView_of_beside jobsGoOn_lateDecided.beside
  rw [abortAll_eq]
  exact hv

/-- The completion of every job can go out, or is not wanted. -/
def State.allLeave (s : State) : Prop := ∀ j ∈ s.jobs, j.suppressed = true ∨ s.mayRequest j.slice = true

theorem canLeave_abortAll (h : s.allLeave) (id : Nat) : (abortAll s).canLeave id := by
  intro i hi
  have hg := jobsGoOn_lateDecided (s := s)
  have ha : (abortAll s).job? id = ((lateDecided s).job? id).map Job.abortedBy :=
    job_of_map (g := Job.abortedBy) rfl (fun _ => rfl) id
  rw [ha] at hi
  obtain ⟨d, hd, rfl⟩ := Option.map_eq_some_iff.mp hi
  obtain ⟨j, hj, ho⟩ := hg.onward id d hd
  have hm : (abortAll s).mayRequest d.slice = s.mayRequest j.slice := by
    rw [ho.slice, ← mayRequest_of_beside hg.beside, abortAll_eq]
    rfl
  exact (h j (List.mem_of_find?_eq_some hj)).imp ho.suppressed fun hl => hm.trans hl

/-- Jobs that can leave have left once each of them has been completed. -/
theorem jobs_foldl_complete (h : ∀ id, s.canLeave id) : (s.jobs.foldl (fun s j => complete j.id s) s).jobs = [] := by
  have hg : JobsGoOn s (s.jobs.foldl (fun s j => complete j.id s) s) := JobsGoOn.refl.foldl fun _ _ hu => hu.complete
  refine List.eq_nil_iff_forall_not_mem.mpr fun i hi => ?_
  obtain ⟨x, hx⟩ : ∃ x, (s.jobs.foldl (fun s j => complete j.id s) s).job? i.id = some x :=
    Option.isSome_iff_exists.mp (List.find?_isSome.mpr ⟨i, hi, beq_self_eq_true _⟩)
  obtain ⟨j, hj, -⟩ := hg.onward i.id x hx
  obtain ⟨l, m, hl⟩ := List.append_of_mem (List.mem_of_find?_eq_some hj)
  rw [hl, List.foldl_append, List.foldl_cons] at hx
  have hu : JobsGoOn s (l.foldl (fun s j => complete j.id s) s) := JobsGoOn.refl.foldl fun _ _ hu => hu.complete
  have hn := complete_gone (hu.canLeave (h j.id))
  have hz := (JobsGoOn.refl.foldl (f := fun s j => complete j.id s) (l := m) fun _ _ hu => hu.complete).gone hn
  rw [← job_id hj] at hx
  cases hz.symm.trans hx

theorem eraseAll_eq : eraseAll s = (abortAll (eraseKeys s)).jobs.foldl (fun s j => complete j.id s) (abortAll (eraseKeys s)) := rfl

theorem erasedView_eraseAll : (eraseAll s).erasedView = (eraseKeys s).erasedView := by
  rw [eraseAll_eq]
  exact (erasedView_of_beside (JobsGoOn.refl.foldl fun _ _ hu => hu.complete).beside).trans erasedView_abortAll

theorem wipedLeave_eraseAll : WipedLeave (abortAll (eraseKeys s)) (eraseAll s) := (WipedLeave.refl wiped_abortAll).foldl_complete

/-- What the erasure leaves of keys, contexts and memories (R327, steps 2 and 4). -/
theorem eraseAll_sides : let t := eraseAll s
    t.kv.kt = [] ∧ t.kv.vrk0 = 0 ∧ t.kv.vrk1 = 0 ∧ t.kv.tmk = 0 ∧ t.ctxs = [] ∧ t.eng.needle = [] ∧ t.eng.mangle = [] := by
  dsimp only
  have hw := wipedLeave_eraseAll (s := s)
  have hv := erasedView_eraseAll (s := s)
  obtain ⟨hc, hk⟩ := lateDecided_sides (s := eraseKeys s)
  have hkt : (abortAll (eraseKeys s)).kv.kt = [] := (congrArg KvState.kt hk).trans rfl
  have hx : (abortAll (eraseKeys s)).ctxs = [] := hc.trans rfl
  exact ⟨hw.kt hkt, (congrArg (·.2.2.2.vrk0) hv :), (congrArg (·.2.2.2.vrk1) hv :), (congrArg (·.2.2.2.tmk) hv :), hw.ctxs.trans hx,
    (congrArg (·.2.2.1.needle) hv :), (congrArg (·.2.2.1.mangle) hv :)⟩

theorem eraseAll_ps (h : s.kv.dying = []) : (eraseAll s).kv.ps = s.kv.ps := by
  have hk := (lateDecided_sides (s := eraseKeys s)).2
  have hd : (abortAll (eraseKeys s)).kv.dying = [] := (congrArg KvState.dying hk).trans h
  have hp : (abortAll (eraseKeys s)).kv.ps = s.kv.ps := (congrArg KvState.ps hk).trans rfl
  exact (wipedLeave_eraseAll.runs hd).2.trans hp

theorem eraseAll_otp : (eraseAll s).otp = s.otp := congrArg (·.1) erasedView_eraseAll
theorem eraseAll_lcs : (eraseAll s).lcs = s.lcs := congrArg (·.2.1) erasedView_eraseAll

theorem eraseAll_jobs (h : s.allLeave) : (eraseAll s).jobs = [] := jobs_foldl_complete (canLeave_abortAll (s := eraseKeys s) h)

/-! ## The wipe and the burn (R462, R463) -/

/-- What the wipe takes beside what the erasure takes. -/
def ownersGone (s : State) : State := { s with
  kv.ps := [], kv.journal := [], kv.replacing := [], kv.dying := [], kv.hbs := [], kv.pairs := [], kv.pairNext := 0
  thm.custodians := [], thm.m := 0, thm.curves := [], thm.templates := [], thm.payPolicy := 0, svc.svnFloor := 0
  met.stored := none, met.key := [], met.pubKey := [], met.sources := [], met.intervals := [], lcs.dac := none, mig.imageSeq := 0 }

theorem unrecorded_wipe : (wipe s).unrecorded = (ownersGone (eraseAll s)).unrecorded := unrecorded_logRecord

theorem wipe_otp : (wipe s).otp = s.otp := (congrArg State.otp unrecorded_wipe :).trans eraseAll_otp

theorem wipe_lcs : (wipe s).lcs = { s.lcs with dac := none } :=
  (congrArg State.lcs unrecorded_wipe :).trans (congrArg (fun l : LcsState => { l with dac := none }) eraseAll_lcs)

theorem wipe_erased : let t := wipe s
    t.kv.kt = [] ∧ t.kv.vrk0 = 0 ∧ t.kv.vrk1 = 0 ∧ t.kv.tmk = 0 ∧ t.ctxs = [] ∧ t.eng.needle = [] ∧ t.eng.mangle = [] := by
  obtain ⟨hk, h0, h1, ht, hc, hn, hm⟩ := eraseAll_sides (s := s)
  have hw := unrecorded_wipe (s := s)
  exact ⟨(congrArg (·.kv.kt) hw :).trans hk, (congrArg (·.kv.vrk0) hw :).trans h0, (congrArg (·.kv.vrk1) hw :).trans h1,
    (congrArg (·.kv.tmk) hw :).trans ht, (congrArg State.ctxs hw :).trans hc, (congrArg (·.eng.needle) hw :).trans hn,
    (congrArg (·.eng.mangle) hw :).trans hm⟩

theorem wipe_stores : let t := wipe s
    t.kv.ps = [] ∧ t.kv.journal = [] ∧ t.kv.dying = [] ∧ t.kv.hbs = [] ∧ t.kv.pairs = [] ∧ t.thm.custodians = [] ∧ t.thm.templates = [] ∧
    t.thm.curves = [] ∧ t.thm.payPolicy = 0 ∧ t.svc.svnFloor = 0 ∧ t.met.key = [] ∧ t.met.sources = [] ∧ t.met.intervals = [] ∧ t.lcs.dac = none := by
  have hw := unrecorded_wipe (s := s)
  exact ⟨(congrArg (·.kv.ps) hw :), (congrArg (·.kv.journal) hw :), (congrArg (·.kv.dying) hw :), (congrArg (·.kv.hbs) hw :),
    (congrArg (·.kv.pairs) hw :), (congrArg (·.thm.custodians) hw :), (congrArg (·.thm.templates) hw :), (congrArg (·.thm.curves) hw :),
    (congrArg (·.thm.payPolicy) hw :), (congrArg (·.svc.svnFloor) hw :), (congrArg (·.met.key) hw :), (congrArg (·.met.sources) hw :),
    (congrArg (·.met.intervals) hw :), (congrArg (·.lcs.dac) hw :)⟩

theorem wipe_jobs (h : s.allLeave) : (wipe s).jobs = [] := (congrArg State.jobs unrecorded_wipe :).trans (eraseAll_jobs h)

section
variable {target : BitVec 32} {q : Option (BitVec 16)} {repair : Bool}

theorem startBurn_wiping (h : target = 0x00FFFFFF ∨ target = 0xFFFFFFFF) :
    startBurn target q repair s = { wipe s with lcs.burning := some { target := target, seq := q, repair := repair } } := by
  unfold startBurn
  rw [if_pos h]

theorem startBurn_plain (h : ¬(target = 0x00FFFFFF ∨ target = 0xFFFFFFFF)) :
    startBurn target q repair s = { s with lcs.burning := some { target := target, seq := q, repair := repair } } := by
  unfold startBurn
  rw [if_neg h]

/-- The fuses and the state are as they were until the burn ends. -/
theorem startBurn_sides : (startBurn target q repair s).lcs.burning = some { target := target, seq := q, repair := repair } ∧
    (startBurn target q repair s).otp = s.otp ∧ (startBurn target q repair s).lcs.state = s.lcs.state := by
  by_cases h : target = 0x00FFFFFF ∨ target = 0xFFFFFFFF
  · rw [startBurn_wiping h]
    exact ⟨rfl, wipe_otp, (congrArg LcsState.state wipe_lcs :)⟩
  · rw [startBurn_plain h]
    exact ⟨rfl, rfl, rfl⟩

end

/-! ## The decode of the fuse words (R459, R460) -/

/-- Two of the three copies hold one word. -/
def Otp.two (o : Otp) (w : BitVec 32) : Prop := (o.lcsA = w ∧ o.lcsB = w) ∨ (o.lcsA = w ∧ o.lcsC = w) ∨ (o.lcsB = w ∧ o.lcsC = w)

theorem stateOf_of_codeword {x : LcsSt} {w : BitVec 32} (h : x.codeword = some w) : stateOf w = some x := by
  cases x <;> simp only [LcsSt.codeword, Option.some.injEq, reduceCtorEq] at h <;> subst h <;> decide

theorem codeword_of_stateOf {x : LcsSt} {w : BitVec 32} (h : stateOf w = some x) : x.codeword = some w := 
  beq_iff_eq.mp (List.find?_some (p := fun x : LcsSt => x.codeword == some w) h)

theorem decodeLcs_two {o : Otp} {x : LcsSt} {w : BitVec 32} (hx : stateOf w = some x) (h : o.two w) : decodeLcs o = x := by
  unfold decodeLcs
  rcases h with ⟨ha, hb⟩ | ⟨ha, hc⟩ | ⟨hb, hc⟩
  · rw [if_pos (.inl (ha.trans hb.symm)), ha, hx, Option.getD_some]
  · rw [if_pos (.inr (ha.trans hc.symm)), ha, hx, Option.getD_some]
  · have hbc : o.lcsB = o.lcsC := hb.trans hc.symm
    split
    · next h =>
      have ha : o.lcsA = w := h.elim (·.trans hb) (·.trans hc)
      rw [ha, hx, Option.getD_some]
    · rw [hb, hx, Option.getD_some]

theorem decodeLcs_locked {o : Otp} (h : ∀ x w, stateOf w = some x → ¬o.two w) : decodeLcs o = .locked := by
  have hn {w : BitVec 32} (hw : o.two w) : stateOf w = none := Option.eq_none_iff_forall_ne_some.mpr fun x hx => h x w hx hw
  have hb : (if o.lcsB = o.lcsC then (stateOf o.lcsB).getD .locked else LcsSt.locked) = .locked := by
    split
    · next hbc => rw [hn (.inr (.inr ⟨rfl, hbc.symm⟩)), Option.getD_none]
    · rfl
  unfold decodeLcs
  rw [hb]
  split
  · next ha =>
    rw [hn (ha.imp (fun e => ⟨rfl, e.symm⟩) fun e => .inl ⟨rfl, e.symm⟩), Option.getD_none]
  · rfl

/-! ## The end of a burn (R462) -/

/-- What the end of a burn shows: fuses, life cycle, Thimble, Key Vault, the last request answered, SVC_ATTN#. -/
def State.burnView (s : State) : Otp × LcsState × ThimbleState × KvState × Option Nat × Bool :=
  (s.otp, s.lcs, s.thm, s.kv, s.svc.lastSeq, s.svc.attn)

theorem burnView_sendFrame {kind seq : Nat} {more : Bool} {p : Bytes} : (sendFrame kind seq more p s).burnView = s.burnView := by
  unfold sendFrame State.burnView
  dsimp only
  split <;> rfl

theorem burnView_sendAll {kind seq fuel : Nat} {p : Bytes} : (sendAll kind seq fuel p s).burnView = s.burnView := by
  induction fuel generalizing p s with
  | zero => rfl
  | succ n ih =>
    unfold sendAll
    split
    · exact burnView_sendFrame
    · exact ih.trans burnView_sendFrame

theorem burnView_rslAnswer {seq : BitVec 16} {status : Nat} {data : Bytes} :
    (rslAnswer seq status data s).burnView = State.burnView { s with svc.lastSeq := some seq.toNat } := burnView_sendAll

theorem burnView_updateAttn : (updateAttn s).burnView =
    State.burnView { s with svc.attn := s.vent.halt || s.lcs.state == .locked || s.svc.bootFailed } := by
  unfold updateAttn
  dsimp only
  split
  · next h => rw [h]
  · rfl

/-- The fuses hold the target and its decode is in effect; certificate and quorum have ended. -/
def burnEnded (b : Burn) (s : State) : State :=
  let s := { s with otp.lcsA := s.otp.lcsA ||| b.target, otp.lcsB := s.otp.lcsB ||| b.target, otp.lcsC := s.otp.lcsC ||| b.target }
  endQuorum { s with lcs.state := decodeLcs s.otp, lcs.burning := none, lcs.dac := none }

/-- The answer of the request that asked for the burn, if one did. -/
def burnReply (q : Option (BitVec 16)) (s : State) : State := match q with | some q => rslAnswer q stSuccess [] s | none => s

theorem burnView_burnReply {q : Option (BitVec 16)} : (burnReply q s).burnView =
    State.burnView { s with svc.lastSeq := match q with | some q => some q.toNat | none => s.svc.lastSeq } := by
  cases q with
  | none => rfl
  | some q => exact burnView_rslAnswer

/-- The end of a burn before the requests that waited: its record, its answer, and intake where the device was locked. -/
def burnAnswered (b : Burn) (s : State) : State :=
  let u := logRecord (if b.repair then 0x0204 else 0x0201) (leBytes 1 s.lcs.state.code ++ leBytes 1 (burnEnded b s).lcs.state.code)
    (updateAttn (burnEnded b s))
  let v := burnReply b.seq u
  if s.lcs.state = .locked then refetchAll v else v

/-- The fuse words after a burn. -/
def Otp.burnt (o : Otp) (target : BitVec 32) : Otp := { o with lcsA := o.lcsA ||| target, lcsB := o.lcsB ||| target, lcsC := o.lcsC ||| target }

theorem burnView_logged {code : Nat} {data : Bytes} {b : Burn} : (logRecord code data (updateAttn (burnEnded b s))).burnView =
    (s.otp.burnt b.target, { s.lcs with state := decodeLcs (s.otp.burnt b.target), burning := none, dac := none }, { s.thm with quorum := none }, s.kv,
      s.svc.lastSeq, s.vent.halt || decodeLcs (s.otp.burnt b.target) == .locked || s.svc.bootFailed) :=
  (congrArg State.burnView unrecorded_logRecord :).trans burnView_updateAttn

theorem burnView_burnAnswered {b : Burn} : (burnAnswered b s).burnView =
    (s.otp.burnt b.target, { s.lcs with state := decodeLcs (s.otp.burnt b.target), burning := none, dac := none }, { s.thm with quorum := none }, s.kv,
      (match b.seq with | some q => some q.toNat | none => s.svc.lastSeq),
      s.vent.halt || decodeLcs (s.otp.burnt b.target) == .locked || s.svc.bootFailed) := by
  have hu := burnView_logged (s := s) (b := b) (code := if b.repair then 0x0204 else 0x0201)
    (data := leBytes 1 s.lcs.state.code ++ leBytes 1 (burnEnded b s).lcs.state.code)
  unfold burnAnswered
  dsimp only
  generalize logRecord _ _ _ = u at hu ⊢
  obtain ⟨ho, hl, ht, hk, hs, ha⟩ := by simpa only [State.burnView, Prod.mk.injEq] using hu
  have hr : (burnReply b.seq u).burnView = (s.otp.burnt b.target,
      { s.lcs with state := decodeLcs (s.otp.burnt b.target), burning := none, dac := none }, { s.thm with quorum := none }, s.kv,
      (match b.seq with | some q => some q.toNat | none => s.svc.lastSeq),
      s.vent.halt || decodeLcs (s.otp.burnt b.target) == .locked || s.svc.bootFailed) := by
    rw [burnView_burnReply, State.burnView, ho, hl, ht, hk, hs, ha]
  split
  · exact (congrArg State.burnView unfetched_refetchAll :).trans hr
  · exact hr

theorem lcsBurnCompleteDo_eq {b : Burn} (h : s.lcs.burning = some b) : lcsBurnCompleteDo s =
    s.lcs.waiting.foldl (fun s r => takeLcsReq r s) { burnAnswered b s with lcs.waiting := [] } := by
  have hw : (burnAnswered b s).lcs.waiting = s.lcs.waiting := congrArg (·.2.1.waiting) burnView_burnAnswered
  rw [← hw]
  unfold lcsBurnCompleteDo
  rw [h]
  rfl

theorem lcsBurnCompleteDo_sides {b : Burn} : let v : State := { burnAnswered b s with lcs.waiting := [] }
    v.otp = s.otp.burnt b.target ∧ v.lcs = { s.lcs with state := decodeLcs (s.otp.burnt b.target), burning := none, dac := none, waiting := [] } ∧
    v.thm.quorum = none ∧ v.svc.lastSeq = (match b.seq with | some q => some q.toNat | none => s.svc.lastSeq) ∧ v.kv = s.kv ∧
    v.svc.attn = (s.vent.halt || decodeLcs (s.otp.burnt b.target) == .locked || s.svc.bootFailed) := by
  obtain ⟨ho, hl, ht, hk, hs, ha⟩ := by simpa only [State.burnView, Prod.mk.injEq] using burnView_burnAnswered (b := b) (s := s)
  exact ⟨ho, congrArg (fun l : LcsState => { l with waiting := [] }) hl, congrArg ThimbleState.quorum ht, hs, hk, ha⟩

/-! ## Factory test mode and the TAP (R468 to R471) -/

theorem ftmEnterDo_enters (hm : s.lcs.state = .maker) (hr : s.pwr.inReset = false) :
    ftmEnterDo s = selectIr 0x3C { eraseAll s with lcs.ftm := true } := if_pos ⟨hm, by simp [hr]⟩

theorem ftmEnterDo_bypassed (h : s.lcs.state ≠ .maker ∨ s.pwr.inReset = true) : ftmEnterDo s = bypassDo s := by
  refine if_neg fun ⟨hm, hr⟩ => ?_
  rcases h with h | h
  · exact h hm
  · simp [h] at hr

/-- Who may drive pins (R470). -/
theorem mayDrive_iff : s.mayDrive = true ↔
    s.pwr.inReset = false ∧ (s.lcs.state = .maker ∨ s.lcs.state = .integrator ∨ s.right 0 = true) := by
  unfold State.mayDrive
  rw [Bool.and_eq_true_iff, Bool.or_eq_true_iff, earlyLife_iff, or_assoc, Bool.not_eq_true']

theorem haltNow_pins {sec : Bool} : (haltNow sec s).tap = s.tap ∧ (haltNow sec s).otp = s.otp := by
  have hb := (JobsGoOn.refl (s := { s with vent.halt := true, vent.haltSec := s.vent.haltSec || sec })
    |>.alarmJobs (status := stAborted) (p := fun _ => true)).beside
  unfold haltNow
  generalize alarmJobs _ _ _ = v at hb ⊢
  have ha : (updateAttn v).tap = v.tap ∧ (updateAttn v).otp = v.otp := by
    unfold updateAttn
    dsimp only
    split <;> exact ⟨rfl, rfl⟩
  exact ⟨ha.1.trans (congrArg State.tap hb :), ha.2.trans (congrArg State.otp hb :)⟩

/-- The pins belong to the boundary register, after HALT, and the link is down. -/
theorem drivePins_sides {ir : BitVec 8} (h : s.mayDrive = true) : let t := drivePins ir s
    t.tap = { s.tap with ir := ir, driving := true, left := false } ∧ t.vent.halt = true ∧ t.hif.dlActive = false ∧ t.hif.speed = 0 ∧
    t.hif.width = 0 ∧ t.otp = s.otp ∧ Output.pin .boundary true ∈ t.outbox := by
  obtain ⟨ht, ho⟩ := haltNow_pins (sec := false) (s := s)
  have hh := (haltNow_sides (sec := false) (s := s)).2.2.2.2.1
  unfold drivePins
  rw [if_pos h]
  generalize haltNow false s = v at ht ho hh ⊢
  exact ⟨congrArg (fun t : TapState => { t with ir := ir, driving := true, left := false }) ht, hh, rfl, rfl, rfl, ho,
    List.mem_append_right _ (List.mem_singleton_self _)⟩

theorem drivePins_bypassed {ir : BitVec 8} (h : ¬s.mayDrive = true) : drivePins ir s = bypassDo s := if_neg h

/-- The words that hold a state's codeword are those of R459. -/
theorem mem_codewords_iff {x : LcsSt} {w : BitVec 32} : (x, w) ∈ [(LcsSt.maker, 0x00000000#32), (.integrator, 0x000000FF#32),
    (.fielded, 0x0000FFFF#32), (.analysis, 0x00FFFFFF#32), (.scrapped, 0xFFFFFFFF#32)] ↔ x.codeword = some w := by
  cases x <;> simp only [List.mem_cons, Prod.mk.injEq, reduceCtorEq, false_and, true_and, false_or, or_false, List.not_mem_nil,
    LcsSt.codeword, Option.some.injEq]
  all_goals exact eq_comm

theorem idcodeValue_toNat : idcodeValue.toNat = 0x16480001 + 2 * Config.jedec.toNat := by
  have hj := Config.jedec.isLt
  unfold idcodeValue word
  simp only [List.foldl_cons, List.foldl_nil, BitVec.toNat_ofNat]
  omega

theorem toNat_fld {n lo w : Nat} {v : BitVec n} : (fld v lo w).toNat = v.toNat / 2 ^ lo % 2 ^ w := by
  rw [fld, BitVec.extractLsb'_toNat, Nat.shiftRight_eq_div_pow]

/-- The fields of the IDCODE register: its last bit, the part and the version (R469). -/
theorem idcodeValue_fields : fld idcodeValue 0 1 = 1 ∧ fld idcodeValue 12 16 = 0x6480 ∧ fld idcodeValue 28 4 = 1 := by
  have hj := Config.jedec.isLt
  have hf {lo w n : Nat} (h : (0x16480001 + 2 * Config.jedec.toNat) / 2 ^ lo % 2 ^ w = n) : fld idcodeValue lo w = BitVec.ofNat w n := by
    refine BitVec.eq_of_toNat_eq ?_
    rw [toNat_fld, idcodeValue_toNat, BitVec.toNat_ofNat, ← h, Nat.mod_mod]
  exact ⟨hf (n := 1) (by omega), hf (n := 0x6480) (by omega), hf (n := 1) (by omega)⟩

/-- A pin-driving instruction acts where it may, otherwise as BYPASS. -/
theorem pins_driven {c : Instr} {ir : BitVec 8} (he : exec c s = .next (drivePins ir s)) :
    (¬(s.pwr.inReset = false ∧ (s.lcs.state = .maker ∨ s.lcs.state = .integrator ∨ s.right 0 = true)) → exec c s = .next { s with tap.ir := 0xFF }) ∧
    (s.pwr.inReset = false ∧ (s.lcs.state = .maker ∨ s.lcs.state = .integrator ∨ s.right 0 = true) → ∃ t, exec c s = .next t ∧
      t.tap = { s.tap with ir := ir, driving := true, left := false } ∧ t.vent.halt = true ∧
      t.hif.dlActive = false ∧ t.hif.speed = 0 ∧ t.hif.width = 0 ∧ t.otp = s.otp ∧ Output.pin .boundary true ∈ t.outbox) := by
  rw [← mayDrive_iff]
  exact ⟨fun h => he.trans (next_congr (drivePins_bypassed h)), fun h => ⟨_, he, drivePins_sides h⟩⟩

/-! ## The obligation -/

/-- Settles O50: the decode by which two copies agree, the burn and the wipe by what each of their steps leaves, the erasure by the leaving
of the jobs it aborts, the TAP by the rule of each instruction. -/
theorem lifeCycleMovesByBurningFuses : Obligations.LifeCycleMovesByBurningFuses := by
  intro s pins preload b target q r o two words burnt u may
  obtain ⟨hb, ho, hl⟩ := startBurn_sides (target := target) (q := q) (repair := r) (s := s)
  refine ⟨fun x w hx o h => decodeLcs_two (stateOf_of_codeword (mem_codewords_iff.mp hx)) h,
    fun o h => decodeLcs_locked fun x w hx => h x w (mem_codewords_iff.mpr (codeword_of_stateOf hx)), fun h => next_congr ?_,
    fun h => ⟨_, next_congr (lcsBurnCompleteDo_eq h), lcsBurnCompleteDo_sides⟩, hb, ho, hl,
    fun ha hs => startBurn_plain (not_or.mpr ⟨ha, hs⟩), fun h => ?_, rfl, fun h => next_congr (ftmEnterDo_bypassed h),
    fun hm hr => ⟨_, next_congr (ftmEnterDo_enters hm hr), ?_⟩, ?_, idcodeValue_fields, ?_⟩
  · unfold lcsBurnCompleteDo
    rw [h]
  · obtain ⟨hk, h0, h1, ht, hc, hn, hm⟩ := wipe_erased (s := s)
    obtain ⟨hps, hj, hd, hh, hp, hcu, hte, hcv, hpp, hsv, hmk, hms, hmi, hda⟩ := wipe_stores (s := s)
    rw [show u = { wipe s with lcs.burning := some { target := target, seq := q, repair := r } } from startBurn_wiping h]
    exact ⟨hk, hps, hj, hd, hh, hp, h0, h1, ht, hc, hn, hm, hcu, hte, hcv, hpp, hsv, hmk, hms, hmi, hda, wipe_jobs⟩
  · obtain ⟨hk, h0, h1, ht, hc, hn, hm⟩ := eraseAll_sides (s := s)
    exact ⟨rfl, rfl, hk, h0, h1, ht, hc, hn, hm, eraseAll_ps, eraseAll_otp, eraseAll_jobs⟩
  · refine forall_pair_of_forall_mem ?_
    simp only [List.forall_mem_cons]
    exact ⟨rfl, rfl, rfl, rfl, List.forall_mem_nil _⟩
  · refine forall_pair_of_forall_mem ?_
    simp only [List.forall_mem_cons]
    exact ⟨pins_driven rfl, pins_driven rfl, pins_driven rfl, pins_driven rfl, pins_driven rfl, List.forall_mem_nil _⟩

end Sys2Proof.Machine
end

section
/-! SUPPORT. Backup operations and the backup card (R473 to R478, R485 to R488, R493). -/
namespace Sys2Proof.Machine

variable {s t u : State} {r : BkpRun} {code detail : Nat} {block : Option Nat} {value : BitVec 32} {wp : Bool}

/-! ## The end of an operation (R474, R485) -/

/-- The operation has ended with a code, a detail and a failing block, the card off and the keys of `s` as they were. -/
def BkpEnded (code detail : Nat) (block : Option Nat) (s t : State) : Prop :=
  t.crd.run = none ∧ t.crd.busy = false ∧ t.crd.code = BitVec.ofNat 16 code ∧ t.crd.detail = BitVec.ofNat 4 detail ∧
  t.crd.block = block.elim 0xFFFFFFFF (BitVec.ofNat 32) ∧ t.crd.phase = 0 ∧ t.crd.powered = false ∧ t.kv = s.kv

/-- The card ports after the end of an operation. -/
def CardState.ended (code detail : Nat) (block : Option Nat) (c : CardState) : CardState := { c with
  run := none, busy := false, code := BitVec.ofNat 16 code, detail := BitVec.ofNat 4 detail
  block := block.elim 0xFFFFFFFF (BitVec.ofNat 32), phase := 0, powered := false, hs := false, wide := false }

/-- The state in which the collected cards are off. -/
def collectOff (r : BkpRun) (s : State) : State := if r.step = .collect then ocOff 1 0 (ocOff 0 0 s) else s

theorem ocOff_sides {k last : Nat} : (ocOff k last s).kv = s.kv ∧ (ocOff k last s).crd.done = s.crd.done := by
  unfold ocOff
  dsimp only
  split <;> exact ⟨rfl, rfl⟩

theorem collectOff_sides : (collectOff r s).kv = s.kv ∧ (collectOff r s).crd.done = s.crd.done := by
  unfold collectOff
  split
  · exact ⟨ocOff_sides.1.trans ocOff_sides.1, ocOff_sides.2.trans ocOff_sides.2⟩
  · exact ⟨rfl, rfl⟩

theorem bkpEnd_sides (h : s.crd.run = some r) : (bkpEnd code detail block s).crd = (collectOff r s).crd.ended code detail block ∧
    (bkpEnd code detail block s).kv = s.kv := by
  have hk := (collectOff_sides (r := r) (s := s)).1
  unfold bkpEnd
  rw [h]
  dsimp only
  change (logRecord _ _ (emit _ { collectOff r s with crd := (collectOff r s).crd.ended code detail block })).crd = _ ∧
    (logRecord _ _ (emit _ { collectOff r s with crd := (collectOff r s).crd.ended code detail block })).kv = _
  generalize collectOff r s = v at hk ⊢
  exact ⟨(congrArg State.crd unrecorded_logRecord :), logRecord_kv.trans hk⟩

theorem bkpEnd_ended (h : u.crd.run = some r) (hk : u.kv = s.kv) : BkpEnded code detail block s (bkpEnd code detail block u) := by
  obtain ⟨hc, hv⟩ := bkpEnd_sides (code := code) (detail := detail) (block := block) h
  unfold BkpEnded
  rw [hc, hv, hk]
  exact ⟨rfl, rfl, rfl, rfl, rfl, rfl, rfl, rfl⟩

theorem bkpEnd_none (h : s.crd.run = none) : bkpEnd code detail block s = s := by
  unfold bkpEnd
  rw [h]

theorem done_bkpEnd : (bkpEnd code detail block s).crd.done = s.crd.done := by
  cases h : s.crd.run with
  | none => rw [bkpEnd_none h]
  | some r => exact (congrArg CardState.done (bkpEnd_sides h).1).trans collectOff_sides.2

/-! ## From block to block: what counts as done stays (R486, R488) -/

theorem done_nextWrite {addr : Nat} {b : Bytes} : (nextWrite addr b s).crd.done = s.crd.done := by
  unfold nextWrite
  split
  · exact done_bkpEnd
  · rfl

theorem done_startWrites {step : BkpStep} {plan : List (Nat × Bytes)} : (startWrites step plan s).crd.done = s.crd.done := by
  unfold startWrites
  dsimp only
  split
  · exact done_nextWrite
  · rfl

theorem done_startReadsAt {step : BkpStep} {l : List Nat} : (startReadsAt step l s).crd.done = s.crd.done := by
  unfold startReadsAt
  dsimp only
  split <;> rfl

theorem done_areaStep : (areaStep r s).crd.done = s.crd.done := by
  unfold areaStep
  dsimp only
  split
  · exact done_nextWrite
  · exact done_startReadsAt

theorem done_beginWrite {volume : Bytes} : (beginWrite r volume s).crd.done = s.crd.done := done_areaStep

theorem done_beginRestore {volume : Bytes} : (beginRestore r volume s).crd.done = s.crd.done := by
  unfold beginRestore
  dsimp only
  split
  · exact done_bkpEnd
  · exact done_startReadsAt

theorem crd_layRun {kt : Bool} {i : Nat} {head : Slot} : (layRun kt i head s).crd = s.crd := by
  have hm {v : State} {k : Nat} {f : Slot → Slot} : (v.modSlot kt k f).crd = v.crd := by cases kt <;> rfl
  exact hm.trans (foldl_keeps State.crd _ (fun _ _ => hm) _ _)

theorem done_installKey {kwrap : Bytes} {x : Nat × Bytes} (h : installKey kwrap x s = .inl t) : t.crd.done = s.crd.done := by
  unfold installKey at h
  extract_lets at h
  split at h
  · cases h
  split at h
  · cases h
    rfl
  split at h
  · cases h
  · rw [← Sum.inl.inj h]
    exact (congrArg CardState.done crd_layRun :)

theorem done_installAll {kwrap : Bytes} {l : List (Nat × Bytes)} (h : installAll kwrap l s = .inl t) : t.crd.done = s.crd.done := by
  induction l generalizing s with
  | nil => cases h; rfl
  | cons x l ih =>
    unfold installAll at h
    split at h
    · next u hu => exact (ih h).trans (done_installKey hu)
    · cases h

theorem done_finishRestore : (finishRestore r s).crd.done = s.crd.done := by
  unfold finishRestore
  dsimp only
  split
  · exact done_bkpEnd
  · split
    · exact done_bkpEnd
    · split
      · next h => exact done_bkpEnd.trans (done_installAll h)
      · exact done_bkpEnd

theorem done_stepDone : (stepDone r s).crd.done = s.crd.done := by
  unfold stepDone
  cases r.step with
  | initCard => rfl
  | format => exact done_bkpEnd
  | readHead =>
    dsimp only
    split
    · exact done_bkpEnd
    · split
      · exact done_beginWrite
      · exact done_beginRestore
  | writeArea => exact done_areaStep
  | verifyArea => exact done_startWrites
  | writeDesc => exact done_startReadsAt
  | verifyDesc => exact done_bkpEnd
  | readShares => rfl
  | collect => rfl
  | readArea => exact done_finishRestore

/-- A block that has been transferred counts, whatever follows it (R485). -/
theorem done_blockDone : (blockDone s).crd.done = s.crd.done + 1 := by
  unfold blockDone
  dsimp only
  split
  · rfl
  · split
    · exact done_bkpEnd
    · split
      · exact done_nextWrite
      · rfl
      · exact done_stepDone

/-! ## A write of CRD_BKP_CTRL (R485, R493) -/

/-- A value of CRD_BKP_CTRL with its operation. -/
def ctrlWord (value : BitVec 32) (op : BitVec 3) : BitVec 32 := (value &&& ~~~7) ||| op.zeroExtend 32

theorem ctrlWord_op {op : BitVec 3} : fld (ctrlWord value op) 0 3 = op := by
  ext i hi
  interval_cases i <;> simp [fld, ctrlWord]

theorem ctrlWord_wait {op : BitVec 3} : fld (ctrlWord value op) 8 8 = fld value 8 8 := by
  ext i hi
  interval_cases i <;> simp [fld, ctrlWord]

/-- The state in which an operation has started, before what it asks is looked at. -/
def bkpStarted (value : BitVec 32) (op : BitVec 3) (s : State) : State := emit (.pin .sdPower true) { s with
  crd.wait := fld value 8 8, crd.run := some { op := op.toNat }, crd.busy := true, crd.op := op, crd.detail := 0, crd.block := 0xFFFFFFFF
  crd.done := 0, crd.keys := 0, crd.powered := true, crd.phase := 1 }

/-- The state in which the WAIT of a write is taken. -/
def waitTaken (value : BitVec 32) (s : State) : State := { s with crd.wait := fld value 8 8 }

theorem writeBkpCtrl_start {op : BitVec 3} (ho : op = 1 ∨ op = 2 ∨ op = 3) : writeBkpCtrl (ctrlWord value op) s =
    if s.crd.busy ∨ !s.thimbleUp then waitTaken value s
    else if s.bkpDenied op.toNat = 0 then bkpStarted value op s else bkpEnd (s.bkpDenied op.toNat) 0 none (bkpStarted value op s) := by
  have hn : (op.toNat ≠ 1 ∧ op.toNat ≠ 2 ∧ op.toNat ≠ 3) = False := by rcases ho with rfl | rfl | rfl <;> simp
  have h5 : ¬op.toNat = 5 := by rcases ho with rfl | rfl | rfl <;> simp
  have hd : (bkpStarted value op s).bkpDenied op.toNat = s.bkpDenied op.toNat := rfl
  unfold writeBkpCtrl
  simp only [ctrlWord_op, ctrlWord_wait, if_neg h5, hn, or_false]
  refine ite_congr rfl (fun _ => rfl) fun _ => ?_
  change (match (bkpStarted value op s).bkpDenied op.toNat with | 0 => bkpStarted value op s | st => bkpEnd st 0 none (bkpStarted value op s)) = _
  rw [hd]
  cases s.bkpDenied op.toNat <;> rfl

/-- An ABORT: at once while cards are collected, otherwise between blocks. -/
def abortRun (s : State) : State :=
  match s.crd.run with
  | some r => if r.step = .collect then bkpEnd stAborted 0 none s else s.modRun (fun r => { r with abort := true })
  | none => s

theorem writeBkpCtrl_abort : writeBkpCtrl (ctrlWord value 5) s = abortRun (waitTaken value s) := by
  unfold writeBkpCtrl
  simp only [ctrlWord_op, ctrlWord_wait]
  rw [if_pos (show (5 : BitVec 3).toNat = 5 from rfl)]
  rfl

theorem abortRun_none (h : s.crd.run = none) : abortRun s = s := by
  unfold abortRun
  rw [h]

theorem abortRun_some (h : s.crd.run = some r) : abortRun s =
    if r.step = .collect then bkpEnd stAborted 0 none s else { s with crd.run := some { r with abort := true } } := by
  unfold abortRun State.modRun
  rw [h]
  rfl

/-! ## The card answers (R474 to R478) -/

/-- The card's level of SD_WP as it answers. -/
def sampled (wp : Bool) (s : State) : State := { s with crd.wp := wp }

/-- A phase in which the device waits for the card. -/
def CardState.moving (c : CardState) : Prop := c.phase = 1 ∨ 3 ≤ c.phase

theorem phase_eq_iff {p : BitVec 4} {n : Nat} (h : n < 16) : p.toNat = n ↔ p = BitVec.ofNat 4 n := by
  rw [← BitVec.toNat_inj, BitVec.toNat_ofNat, Nat.mod_eq_of_lt h]

theorem moving_iff : s.crd.moving ↔ s.crd.phase.toNat = 1 ∨ 3 ≤ s.crd.phase.toNat := or_congr (phase_eq_iff (by decide)).symm BitVec.le_def

theorem current_of_run (h : s.crd.run = some r) : s.crd.run.bind (·.current) = r.current := by rw [h]; rfl

theorem sdTimeoutDo_moving (hm : s.crd.moving) (h : s.crd.run = some r) : BkpEnded stCardTimeout 0 r.current s (sdTimeoutDo s) := by
  have he : sdTimeoutDo s = bkpEnd stCardTimeout 0 (s.crd.run.bind (·.current)) s := if_pos hm
  rw [he, current_of_run h]
  exact bkpEnd_ended h rfl

theorem sdResponseDo_error_moving (hm : s.crd.moving) (h : s.crd.run = some r) :
    BkpEnded stInputMalformed 0 r.current s (sdResponseDo .error wp s) := by
  have he : sdResponseDo .error wp s = bkpEnd stInputMalformed 0 (s.crd.run.bind (·.current)) (sampled wp s) := if_pos (moving_iff.mp hm)
  rw [he, current_of_run h]
  exact bkpEnd_ended h rfl

theorem sdResponseDo_writeProtected (hp : 4 ≤ s.crd.phase) (h : s.crd.run = some r) :
    BkpEnded stCardWriteProtected 0 r.current s (sdResponseDo .writeProtected wp s) := by
  have he : sdResponseDo .writeProtected wp s = bkpEnd stCardWriteProtected 0 (s.crd.run.bind (·.current)) (sampled wp s) :=
    if_pos (BitVec.le_def.mp hp)
  rw [he, current_of_run h]
  exact bkpEnd_ended h rfl

theorem sdResponseDo_unsupported (hp : s.crd.phase = 1) (h : s.crd.run = some r) :
    BkpEnded stCardAbsent 1 none s (sdResponseDo .unsupported wp s) := by
  have he : sdResponseDo .unsupported wp s = bkpEnd stCardAbsent 1 none (sampled wp s) := if_pos ((phase_eq_iff (by decide)).mpr hp)
  rw [he]
  exact bkpEnd_ended h rfl

/-- The state in which an identified card runs at its width and speed. -/
def identified (wp wide hs : Bool) (s : State) : State :=
  { s with crd.wp := wp, crd.phase := 2, crd.wide := wide && s.crd.wideEn, crd.hs := hs && s.crd.hsEn }

theorem sdResponseDo_ready {wide hs : Bool} {blocks : Nat} (hp : s.crd.phase = 1) (h : s.crd.run = some r) :
    sdResponseDo (.ready wide hs blocks) wp s =
      let u := identified wp wide hs s
      if r.abort then bkpEnd stAborted 0 none u
      else if r.op = 1 then
        if blocks < 65600 then bkpEnd stCardAbsent 4 none u
        else startWrites .format ((List.range 64).map (fun k => (k, if k < 2 then headerBlock (freeBytes s 16) else zeros 512))) (fresh u)
      else startReadsAt .readHead [0, 1, 2, 3] u := by
  have he : sdResponseDo (.ready wide hs blocks) wp s = cardReady wide hs blocks (sampled wp s) := if_pos ((phase_eq_iff (by decide)).mpr hp)
  have hr : (sampled wp s).crd.run = some r := h
  rw [he]
  unfold cardReady
  rw [hr]
  rfl

/-- FORMAT writes the header first, where the card may be written. -/
theorem startWrites_format {h : Bytes} : startWrites .format ((List.range 64).map (fun k => (k, if k < 2 then h else zeros 512))) s =
    nextWrite 0 h (s.modRun (fun r => { r with
      step := .format, plan := (List.range 64).map (fun k => (k, if k < 2 then h else zeros 512)), toRead := [], got := [] })) := rfl

theorem run_modRun {f : BkpRun → BkpRun} (h : s.crd.run = some r) : (s.modRun f).crd.run = some (f r) := congrArg (Option.map f) h

theorem nextWrite_protected {addr : Nat} {b : Bytes} (h : s.crd.wp = true) : nextWrite addr b s = bkpEnd stCardWriteProtected 0 (some addr) s := if_pos h

theorem nextWrite_open {addr : Nat} {b : Bytes} (h : s.crd.wp = false) : nextWrite addr b s = emit (.sd true addr b) { s with crd.phase := 4 } :=
  if_neg (by simp [h])

/-- What follows the identification of the card. -/
theorem ready_sides {wide hs : Bool} {blocks : Nat} (hp : s.crd.phase = 1) (h : s.crd.run = some r) :
    let t := sdResponseDo (.ready wide hs blocks) wp s
    (r.abort = true → BkpEnded stAborted 0 none s t) ∧
    (r.abort = false → r.op = 1 → blocks < 65600 → BkpEnded stCardAbsent 4 none s t) ∧
    (r.abort = false → r.op = 1 → 65600 ≤ blocks → wp = true → BkpEnded stCardWriteProtected 0 (some 0) s t) ∧
    (r.abort = false → r.op = 1 → 65600 ≤ blocks → wp = false → t.crd.phase = 4 ∧ t.crd.wide = (wide && s.crd.wideEn) ∧ t.crd.hs = (hs && s.crd.hsEn) ∧
      t.outbox = s.outbox ++ [.sd true 0 (headerBlock (freeBytes s 16))]) ∧
    (r.abort = false → r.op ≠ 1 → t.crd.phase = 3 ∧ t.crd.wide = (wide && s.crd.wideEn) ∧ t.crd.hs = (hs && s.crd.hsEn) ∧
      t.outbox = s.outbox ++ [.sd false 0 []] ∧ t.crd.run.map (·.toRead) = some [0, 1, 2, 3]) := by
  have hr : (identified wp wide hs s).crd.run = some r := h
  dsimp only
  rw [sdResponseDo_ready hp h]
  refine ⟨fun ha => ?_, fun ha ho hb => ?_, fun ha ho hb hw => ?_, fun ha ho hb hw => ?_, fun ha ho => ?_⟩
  · rw [if_pos ha]
    exact bkpEnd_ended hr rfl
  all_goals rw [if_neg (by simp [ha])]
  · rw [if_pos ho, if_pos hb]
    exact bkpEnd_ended hr rfl
  · rw [if_pos ho, if_neg (Nat.not_lt.mpr hb), startWrites_format, nextWrite_protected]
    · exact bkpEnd_ended (run_modRun hr) rfl
    · exact hw
  · rw [if_pos ho, if_neg (Nat.not_lt.mpr hb), startWrites_format, nextWrite_open]
    · exact ⟨rfl, rfl, rfl, rfl⟩
    · exact hw
  · rw [if_neg ho]
    refine ⟨rfl, rfl, rfl, rfl, ?_⟩
    have hm : (startReadsAt .readHead [0, 1, 2, 3] (identified wp wide hs s)).crd.run =
      (identified wp wide hs s).crd.run.map (fun r => { r with step := .readHead, plan := [], toRead := [0, 1, 2, 3], got := [] }) := rfl
    rw [hm, hr]
    rfl

theorem data_sides {data : Bytes} {x : Nat} {rest : List Nat} (hp : s.crd.phase = 3) (h : s.crd.run = some r) (hl : r.toRead = x :: rest) :
    let t := sdResponseDo (.data data) wp s
    if r.blockOk x (fit 512 data) then t.crd.done = s.crd.done + 1 else BkpEnded stInputMalformed 0 (some x) s t := by
  have he : sdResponseDo (.data data) wp s = readArrives data (sampled wp s) := if_pos ((phase_eq_iff (by decide)).mpr hp)
  have hr : (sampled wp s).crd.run = some r := h
  dsimp only
  rw [he, readArrives, hr]
  dsimp only
  rw [hl]
  dsimp only
  by_cases hb : r.blockOk x (fit 512 data) = true
  · rw [if_pos hb, if_pos hb]
    exact done_blockDone
  · rw [if_neg hb, if_neg hb]
    exact bkpEnd_ended hr rfl

theorem accepted_last (hp : s.crd.phase = 7) : (sdResponseDo .accepted wp s).crd.done = s.crd.done + 1 := by
  have hf : 4 ≤ s.crd.phase.toNat := by rw [hp]; decide
  have he : sdResponseDo .accepted wp s = writeAdvances (sampled wp s) := if_pos hf
  have ha : writeAdvances (sampled wp s) = blockDone ((sampled wp s).modRun (fun r => { r with plan := r.plan.drop 1 })) := if_pos hp
  rw [he, ha]
  exact done_blockDone

theorem accepted_next (hp : 4 ≤ s.crd.phase) (hn : s.crd.phase ≠ 7) :
    sdResponseDo .accepted wp s = { sampled wp s with crd.phase := s.crd.phase + 1 } := by
  have he : sdResponseDo .accepted wp s = writeAdvances (sampled wp s) := if_pos (BitVec.le_def.mp hp)
  exact he.trans (if_neg hn)

/-- The state in which the card is gone. -/
def cardGone (s : State) : State := { s with crd.present := false, crd.removed := true }

theorem sdCardRemovalDo_idle (h : s.crd.present = false) : sdCardRemovalDo s = s := if_pos (by simp [h])

theorem sdCardRemovalDo_eq (hp : s.crd.present = true) : sdCardRemovalDo s =
    if s.crd.phase = 6 ∨ s.crd.phase = 7 then bkpEnd stCardRemovedBusy 0 (s.crd.run.bind (·.current)) (cardGone s)
    else if s.crd.phase = 3 ∨ s.crd.phase = 4 ∨ s.crd.phase = 5 then bkpEnd stCardAbsent 0 (s.crd.run.bind (·.current)) (cardGone s)
    else bkpEnd stCardAbsent 0 none (cardGone s) := by
  have hn : sdCardRemovalDo s = match s.crd.phase.toNat with
    | 6 | 7 => bkpEnd stCardRemovedBusy 0 (s.crd.run.bind (·.current)) (cardGone s)
    | 3 | 4 | 5 => bkpEnd stCardAbsent 0 (s.crd.run.bind (·.current)) (cardGone s)
    | _ => bkpEnd stCardAbsent 0 none (cardGone s) := if_neg (by simp [hp])
  have h3 : s.crd.phase = 3 ↔ s.crd.phase.toNat = 3 := (phase_eq_iff (by decide)).symm
  have h4 : s.crd.phase = 4 ↔ s.crd.phase.toNat = 4 := (phase_eq_iff (by decide)).symm
  have h5 : s.crd.phase = 5 ↔ s.crd.phase.toNat = 5 := (phase_eq_iff (by decide)).symm
  have h6 : s.crd.phase = 6 ↔ s.crd.phase.toNat = 6 := (phase_eq_iff (by decide)).symm
  have h7 : s.crd.phase = 7 ↔ s.crd.phase.toNat = 7 := (phase_eq_iff (by decide)).symm
  rw [hn]
  simp only [h3, h4, h5, h6, h7]
  split <;> simp_all

/-- The ports of the card after an operation that its removal ended. -/
theorem gone_ended (h : s.crd.run = some r) : let t := bkpEnd code detail block (cardGone s)
    t.crd.present = false ∧ t.crd.removed = true ∧ BkpEnded code detail block s t := by
  have hr : (cardGone s).crd.run = some r := h
  have ho {k last : Nat} {u : State} : (ocOff k last u).crd.present = u.crd.present ∧ (ocOff k last u).crd.removed = u.crd.removed := by
    unfold ocOff
    dsimp only
    split <;> exact ⟨rfl, rfl⟩
  have hc : (collectOff r (cardGone s)).crd.present = false ∧ (collectOff r (cardGone s)).crd.removed = true := by
    unfold collectOff
    split
    · exact ⟨ho.1.trans ho.1, ho.2.trans ho.2⟩
    · exact ⟨rfl, rfl⟩
  have hs := (bkpEnd_sides (code := code) (detail := detail) (block := block) hr).1
  exact ⟨(congrArg CardState.present hs).trans hc.1, (congrArg CardState.removed hs).trans hc.2, bkpEnd_ended hr rfl⟩

/-- A removal ends the operation as the phase says in which it is recognised (R478). -/
theorem removal_ends (hp : s.crd.present = true) (h : s.crd.run = some r) : let t := sdCardRemovalDo s
    t.crd.present = false ∧ t.crd.removed = true ∧
    (if s.crd.phase = 6 ∨ s.crd.phase = 7 then BkpEnded stCardRemovedBusy 0 r.current s t
      else if s.crd.phase = 3 ∨ s.crd.phase = 4 ∨ s.crd.phase = 5 then BkpEnded stCardAbsent 0 r.current s t
      else BkpEnded stCardAbsent 0 none s t) := by
  dsimp only
  rw [sdCardRemovalDo_eq hp, current_of_run h]
  by_cases h6 : s.crd.phase = 6 ∨ s.crd.phase = 7
  · rw [if_pos h6, if_pos h6]
    exact gone_ended h
  · rw [if_neg h6, if_neg h6]
    by_cases h3 : s.crd.phase = 3 ∨ s.crd.phase = 4 ∨ s.crd.phase = 5
    · rw [if_pos h3, if_pos h3]
      exact gone_ended h
    · rw [if_neg h3, if_neg h3]
      exact gone_ended h

theorem removal_alone (hp : s.crd.present = true) (h : s.crd.run = none) : sdCardRemovalDo s = cardGone s := by
  have hr : (cardGone s).crd.run = none := h
  rw [sdCardRemovalDo_eq hp, bkpEnd_none hr, bkpEnd_none hr, bkpEnd_none hr, ite_self, ite_self]

/-- A command that starts an operation (R485). -/
theorem operation_starts {i : Instr} {op : BitVec 3} (ho : op = 1 ∨ op = 2 ∨ op = 3) (hi : exec i s = .next (writeBkpCtrl (ctrlWord value op) s)) :
    (s.crd.busy = true ∨ s.thimbleUp = false → exec i s = .next (waitTaken value s)) ∧
    (s.crd.busy = false → s.thimbleUp = true → s.bkpDenied op.toNat = 0 → ∃ t, exec i s = .next t ∧ t.crd.run = some { op := op.toNat } ∧
      t.crd.busy = true ∧ t.crd.op = op ∧ t.crd.phase = 1 ∧ t.crd.powered = true ∧ t.crd.done = 0 ∧ t.crd.keys = 0 ∧ t.crd.block = 0xFFFFFFFF ∧
      t.crd.wait = fld value 8 8 ∧ t.outbox = s.outbox ++ [.pin .sdPower true]) ∧
    (s.crd.busy = false → s.thimbleUp = true → s.bkpDenied op.toNat ≠ 0 → ∃ t, exec i s = .next t ∧ BkpEnded (s.bkpDenied op.toNat) 0 none s t) := by
  rw [hi, writeBkpCtrl_start ho]
  refine ⟨fun h => next_congr (if_pos ?_), fun hb ht hd => ⟨bkpStarted value op s, next_congr ?_, rfl, rfl, rfl, rfl, rfl, rfl, rfl, rfl, rfl, rfl⟩,
    fun hb ht hd => ⟨_, rfl, ?_⟩⟩
  · exact h.imp_right fun h => by simp [h]
  · rw [if_neg (by simp [hb, ht]), if_pos hd]
  · rw [if_neg (by simp [hb, ht]), if_neg hd]
    exact bkpEnd_ended (r := { op := op.toNat }) rfl rfl

theorem bkpWaitExpiryDo_none (h : s.crd.run = none) : bkpWaitExpiryDo s = s := by
  unfold bkpWaitExpiryDo
  rw [h]

theorem bkpWaitExpiryDo_some (h : s.crd.run = some r) :
    bkpWaitExpiryDo s = if r.step = .collect then bkpEnd stCardTimeout 0 none s else s := by
  unfold bkpWaitExpiryDo
  rw [h]

/-- What an operation asks before it starts, in order (R485). -/
theorem bkpDenied_eq {op : Nat} : s.bkpDenied op = if s.thm.quorum.isNone then stQuorumRequired
    else if op = 3 ∧ (s.kv.rinsed = true ∨ (s.kv.vrk0 = 0 ∧ s.kv.vrk1 = 0)) then stKeyPolicyDenied
    else if op ≠ 3 ∧ s.rng.state = .failed then stRngFailed else if op ≠ 3 ∧ s.rng.state = .startup then stRngNotReady
    else if s.crd.present = false then stCardAbsent else 0 := by
  have hq : (!s.quorumInForce) = s.thm.quorum.isNone := Option.not_isSome s.thm.quorum
  unfold State.bkpDenied
  simp only [hq, Bool.not_eq_true']

/-! ## The obligation -/

/-- Settles O54: each command by the rule of its branch, each end by what the end of an operation sets, each block by what counts as
done. -/
theorem backupOperationsFollowTheCard : Obligations.BackupOperationsFollowTheCard := by
  intro s wp wide hs value blocks data r x rest c u ended moving waited may
  refine ⟨rfl, fun h => next_congr ?_, fun hp h => next_congr ?_, fun hp h => ⟨_, rfl, removal_ends hp h⟩,
    fun h => ⟨next_congr (if_neg h), next_congr (if_neg (mt moving_iff.mpr h))⟩,
    fun hm h => ⟨⟨_, rfl, sdTimeoutDo_moving hm h⟩, _, rfl, sdResponseDo_error_moving hm h⟩,
    fun h => ⟨next_congr (if_neg (mt (phase_eq_iff (by decide)).mp h)), next_congr (if_neg (mt (phase_eq_iff (by decide)).mp h))⟩,
    fun hp h => ⟨⟨_, rfl, sdResponseDo_unsupported hp h⟩, _, rfl, ready_sides hp h⟩,
    fun h => next_congr (if_neg (mt (phase_eq_iff (by decide)).mp h)), fun hp h hl => ⟨_, rfl, data_sides hp h hl⟩,
    fun h => ⟨next_congr (if_neg (Nat.not_le.mpr (BitVec.lt_def.mp h))), next_congr (if_neg (Nat.not_le.mpr (BitVec.lt_def.mp h)))⟩,
    fun h hn => next_congr (accepted_next h hn), fun h => ⟨_, rfl, accepted_last h⟩, fun hp h => ⟨_, rfl, sdResponseDo_writeProtected hp h⟩,
    fun hb => ?_, fun hb h => next_atBar hb (writeBkpCtrl_abort.trans (abortRun_none h)),
    fun hb h => ⟨_, next_atBar hb writeBkpCtrl_abort, ?_⟩, fun h => next_congr ?_, fun h => ⟨_, rfl, ?_⟩, fun op => ?_⟩
  · exact sdCardRemovalDo_idle h
  · exact removal_alone hp h
  · refine forall_pair_of_forall_mem ?_
    simp only [List.forall_mem_cons]
    refine ⟨?_, ?_, ?_, List.forall_mem_nil _⟩
    · exact operation_starts (op := 1) (.inl rfl) (next_atBar hb rfl)
    · exact operation_starts (op := 2) (.inr (.inl rfl)) (next_atBar hb rfl)
    · exact operation_starts (op := 3) (.inr (.inr rfl)) (next_atBar hb rfl)
  · rw [abortRun_some (show (waitTaken value s).crd.run = some r from h)]
    split
    · exact bkpEnd_ended (s := s) h rfl
    · rfl
  · exact bkpWaitExpiryDo_none h
  · rw [bkpWaitExpiryDo_some h]
    split
    · exact bkpEnd_ended h rfl
    · rfl
  · exact bkpDenied_eq

end Sys2Proof.Machine
end

section
/-! SUPPORT. The session of the service link, and the drain of an activation (R494 to R498, R503). -/
namespace Sys2Proof.Machine

variable {s t : State} {seq : BitVec 16} {point ciphertext : Bytes} {cause code : Nat} {data : Bytes}

/-! ## A record, and what it does not read (R506 to R508) -/

/-- The state with another service side and other waiting requests, which no record reads. -/
def withLink (v : SvcState) (w : List LcsReq) (b : Option Burn) (s : State) : State := { s with svc := v, lcs.waiting := w, lcs.burning := b }

section
variable {v : SvcState} {w : List LcsReq} {b : Option Burn}

theorem writeRecord_withLink {r : EvRec} : writeRecord r (withLink v w b s) = withLink v w b (writeRecord r s) := by
  unfold writeRecord withLink
  rfl

/-- The state in which the queued records are written. -/
def queueWritten (s : State) : State := s.evr.queue.foldl (fun s r => writeRecord r s) { s with evr.queue := [], vent.held := s.vent.held }

/-- The state in which the records dropped are counted by one of their own. -/
def droppedWritten (s : State) : State :=
  if s.evr.dropRun = 0 then s else writeRecord { code := 0x0603, data := leBytes 4 s.evr.dropRun } { s with evr.dropRun := 0 }

theorem drainRecords_eq : drainRecords s = if s.canRecord then droppedWritten (queueWritten s) else s := rfl

theorem queueWritten_withLink : queueWritten (withLink v w b s) = withLink v w b (queueWritten s) :=
  List.foldl_hom (withLink v w b) (l := s.evr.queue) (init := { s with evr.queue := [], vent.held := s.vent.held })
    (g₁ := fun s r => writeRecord r s) (g₂ := fun s r => writeRecord r s) fun _ _ => writeRecord_withLink

theorem droppedWritten_withLink : droppedWritten (withLink v w b s) = withLink v w b (droppedWritten s) := by
  have hd : (withLink v w b s).evr.dropRun = s.evr.dropRun := rfl
  unfold droppedWritten
  rw [hd]
  split
  · rfl
  · exact writeRecord_withLink (s := { s with evr.dropRun := 0 })

theorem drainRecords_withLink : drainRecords (withLink v w b s) = withLink v w b (drainRecords s) := by
  have hc : (withLink v w b s).canRecord = s.canRecord := rfl
  rw [drainRecords_eq, drainRecords_eq, hc, queueWritten_withLink, droppedWritten_withLink]
  split <;> rfl

/-- The state in which a record waits, or is counted as dropped. -/
def recordQueued (r : EvRec) (s : State) : State :=
  if s.evr.queue.length < 256 then { s with evr.queue := s.evr.queue ++ [r] }
  else { s with evr.dropped := satInc s.evr.dropped, evr.dropRun := s.evr.dropRun + 1 }

theorem queueRecord_withLink {r : EvRec} : queueRecord r (withLink v w b s) = withLink v w b (queueRecord r s) := by
  have hq : recordQueued r (withLink v w b s) = withLink v w b (recordQueued r s) := by
    have hl : (withLink v w b s).evr.queue = s.evr.queue := rfl
    unfold recordQueued
    rw [hl]
    split <;> rfl
  exact (congrArg drainRecords hq).trans drainRecords_withLink

theorem logRecord_withLink : logRecord code data (withLink v w b s) = withLink v w b (logRecord code data s) := queueRecord_withLink

end

/-! ## The end of a session (R498) -/

/-- The service side without its session. -/
def SvcState.sessionless (v : SvcState) : SvcState :=
  { v with stage := .none, keys := [], kex := [], transcript := [], lastSeq := none, lastReply := [], txSeq := 0, patRead := none }

theorem endRsl_eq : endRsl cause s = withLink s.svc.sessionless [] (s.lcs.burning.map (fun b => { b with seq := none }))
    (if s.svc.stage = .isOpen then logRecord 0x0104 (leBytes 1 cause) s else s) := by
  by_cases h : s.svc.stage = .isOpen
  · rw [if_pos h, ← logRecord_withLink]
    exact if_pos h
  · rw [if_neg h]
    exact if_neg h

/-- A session of `s` has ended with a cause, and its record read the state `u`. -/
def SessionEnded (s u : State) (cause : Nat) (t : State) : Prop :=
  t.svc.stage = .none ∧ t.svc.keys = [] ∧ t.svc.kex = [] ∧ t.svc.transcript = [] ∧ t.svc.txSeq = 0 ∧
  t.svc.lastSeq = none ∧ t.lcs.waiting = [] ∧ t.kv = s.kv ∧ t.jobs = s.jobs ∧ (s.svc.stage ≠ .isOpen → t.evr = s.evr) ∧
  (s.svc.stage = .isOpen → t.evr = (logRecord 0x0104 (leBytes 1 cause) u).evr)

theorem endRsl_svc : (endRsl cause s).svc = s.svc.sessionless := by
  rw [endRsl_eq]
  rfl

theorem sessionEnded_endRsl : SessionEnded s s cause (endRsl cause s) := by
  have hk : (if s.svc.stage = .isOpen then logRecord 0x0104 (leBytes 1 cause) s else s).unrecorded = s.unrecorded := by
    split
    · exact unrecorded_logRecord
    · rfl
  unfold SessionEnded
  rw [endRsl_eq]
  refine ⟨rfl, rfl, rfl, rfl, rfl, rfl, rfl, (congrArg State.kv hk :), (congrArg State.jobs hk :), fun h => ?_, fun h => ?_⟩
  · rw [if_neg h]
    rfl
  · rw [if_pos h]
    rfl

/-- The loss of the link is seen before its session ends. -/
theorem sessionEnded_rslLinkDown : SessionEnded s s 4 (rslLinkDownDo s) := by
  obtain ⟨hst, hk, hx, ht, htx, hl, hw, hkv, hj, hn, ho⟩ := sessionEnded_endRsl (s := { s with svc.linkUp := false }) (cause := 4)
  have hr : logRecord 0x0104 (leBytes 1 4) { s with svc.linkUp := false } =
      withLink { s.svc with linkUp := false } s.lcs.waiting s.lcs.burning (logRecord 0x0104 (leBytes 1 4) s) :=
    logRecord_withLink (v := { s.svc with linkUp := false }) (w := s.lcs.waiting) (b := s.lcs.burning)
  refine ⟨hst, hk, hx, ht, htx, hl, hw, hkv, hj, hn, fun h => (ho h).trans ?_⟩
  rw [hr]
  rfl

theorem rslLinkDown_svc : (rslLinkDownDo s).svc.linkUp = false := congrArg SvcState.linkUp (endRsl_svc (s := { s with svc.linkUp := false }))

theorem endRsl_linkUp : (endRsl cause s).svc.linkUp = s.svc.linkUp := (congrArg SvcState.linkUp endRsl_svc :)

/-! ## The frames that set a session up (R497) -/

/-- The device answers on the link: it is up, and Thimble has started and runs, outside reset. -/
theorem rslServes_iff :
    s.rslServes = true ↔ s.svc.linkUp = true ∧ s.thm.restarting = false ∧ s.svc.bootFailed = false ∧ s.pwr.inReset = false := by
  simp [State.rslServes, State.thimbleUp, and_assoc]

theorem rslHelloDo_idle (h : ¬s.rslServes = true) : rslHelloDo seq s = s := if_pos (by simpa using h)
theorem rslHelloDo_serves (h : s.rslServes = true) :
    rslHelloDo seq s =
      let p := serialBytes ++ leBytes 1 s.lcs.state.code ++ leBytes 4 s.otp.lcsA.toNat ++ leBytes 4 s.otp.lcsB.toNat ++
        leBytes 4 s.otp.lcsC.toNat ++ leBytes 4 s.activeBank.version.toNat
      emit (.rsl 0x01 (clearFrame 0x01 seq.toNat p)) { s with
        svc.transcript := clearFrame 0x01 seq.toNat [] ++ clearFrame 0x01 seq.toNat p
        svc.stage := if s.svc.stage = .isOpen then .isOpen else .hello } := if_neg (by simp [h])

theorem rslKexDo_idle (h : ¬s.rslServes = true ∨ s.svc.transcript = [] ∨ point.length ≠ 32 ∨ s.rng.state ≠ .ready) :
    rslKexDo seq point s = s := if_pos (by simpa using h)

/-- What a KEX leaves, over the state in which an open session has ended. -/
def kexSent (u : State) (frame transcript kex : Bytes) : State :=
  fresh (emit (.rsl 0x02 frame) { u with svc.stage := .kex, svc.transcript := transcript, svc.kex := kex })

/-- The payload of the answer to a KEX. -/
def kexPayload (s : State) (seq : BitVec 16) (point : Bytes) : Bytes :=
  let d := freeBytes s 144
  let ek := alg .mlKemEk 1568 [num 3, d.take 64]
  let x := alg .ecPk 32 [num 0x12, [], cut d 64 32]
  ek ++ x ++ identitySign (s.svc.transcript ++ clearFrame 0x02 seq.toNat point ++ frameHead 0x02 0 seq.toNat 1696 ++ ek ++ x) (d.drop 96)

theorem rslKexDo_serves (h : s.rslServes = true) (ht : s.svc.transcript ≠ []) (hp : point.length = 32) (hr : s.rng.state = .ready) :
    rslKexDo seq point s =
      let frame := clearFrame 0x02 seq.toNat (kexPayload s seq point)
      kexSent (if s.svc.stage = .isOpen then endRsl 5 s else s) frame (s.svc.transcript ++ clearFrame 0x02 seq.toNat point ++ frame)
        ((freeBytes s 144).take 96 ++ point) := if_neg (by simp [h, ht, hp, hr])

/-- A KEX ends an open session and touches no key and no job. -/
theorem kexEnded_keeps : (if s.svc.stage = .isOpen then endRsl 5 s else s).kv = s.kv ∧
    (if s.svc.stage = .isOpen then endRsl 5 s else s).jobs = s.jobs := by
  split
  · obtain ⟨-, -, -, -, -, -, -, hkv, hj, -⟩ := sessionEnded_endRsl (s := s) (cause := 5)
    exact ⟨hkv, hj⟩
  · exact ⟨rfl, rfl⟩

theorem rslKexDoneDo_idle (h : ¬s.rslServes = true ∨ s.svc.stage ≠ .kex ∨ ciphertext.length ≠ 1568) :
    rslKexDoneDo seq ciphertext s = s := if_pos (by simpa using h)

theorem leBytes_two_zero : leBytes 2 0 = [0, 0] := by decide

theorem rslKexDoneDo_serves (h : s.rslServes = true) (hs : s.svc.stage = .kex) (hc : ciphertext.length = 1568) :
    rslKexDoneDo seq ciphertext s =
      let keys := kmac256 (alg .mlKemDecaps 32 [num 3, s.svc.kex.take 64, ciphertext] ++ alg .ecdh 32 [num 0x12, [], cut s.svc.kex 64 32, cut s.svc.kex 96 32])
        (sha384 (s.svc.transcript ++ clearFrame 0x03 seq.toNat ciphertext)) 64 (ascii "EQX-RSL")
      sendFrame 0x12 0 false [0, 0] (logRecord 0x0103 [] { s with
        svc.stage := .isOpen, svc.keys := keys, svc.kex := [], svc.transcript := [], svc.lastSeq := none, svc.lastReply := [], svc.txSeq := 0 }) := by
  rw [← leBytes_two_zero]
  exact if_neg (by simp [h, hs, hc])

/-! ## The drain of an activation (R503) -/

variable {aseq : BitVec 16}

theorem activationDrainCompleteDo_idle (h : s.svc.activating = none ∨ s.svc.paused = true ∨ s.compositeRunning = true) :
    activationDrainCompleteDo s = s := by
  refine if_neg fun ⟨ha, hp, hc⟩ => ?_
  rcases h with h | h | h <;> simp [h] at ha hp hc

theorem activationDrainCompleteDo_drained (ha : s.svc.activating = some aseq) (hp : s.svc.paused = false) (hc : s.compositeRunning = false) :
    activationDrainCompleteDo s = { s with svc.paused := true, svc.loaded := [] } := if_pos (by simp [ha, hp, hc])

theorem activationDrainTimeoutDo_idle (h : s.svc.activating = none ∨ s.svc.paused = true) : activationDrainTimeoutDo s = s := by
  unfold activationDrainTimeoutDo
  split
  next seq ha => exact if_pos (h.resolve_left (by simp [ha]))
  · rfl

theorem activationDrainTimeoutDo_undrained (ha : s.svc.activating = some aseq) (hp : s.svc.paused = false) :
    activationDrainTimeoutDo s =
      let u : State := { s.modInactive (fun b => { b with st := .staged }) with svc.activating := none }
      if s.svc.stage = .isOpen then rslAnswer aseq stAborted [] u else u := by
  have hst : (s.modInactive (fun b => { b with st := .staged })).svc.stage = s.svc.stage := by
    unfold State.modInactive
    split <;> rfl
  unfold activationDrainTimeoutDo
  simp only [ha, hp, Bool.false_eq_true, if_false, hst]

/-- Settles O49: one lemma per frame and per end of a session; a record reads nothing of the link. -/
theorem serviceSessionsAndActivations : Obligations.ServiceSessionsAndActivations := by
  unfold Obligations.ServiceSessionsAndActivations
  intro s seq point ciphertext aseq
  refine ⟨rfl, ⟨_, rfl, rslLinkDown_svc, sessionEnded_rslLinkDown⟩, ?_, rfl, fun hs => ?_, fun hs => ?_, fun hs h => ?_, fun hs ht hp hr => ?_, fun h => ?_,
    fun hs hk hc => ?_, fun h => next_congr (activationDrainCompleteDo_idle h), fun ha hp hc => next_congr (activationDrainCompleteDo_drained ha hp hc),
    fun h => next_congr (activationDrainTimeoutDo_idle h), fun ha hp => next_congr (activationDrainTimeoutDo_undrained ha hp)⟩
  · refine forall_pair_of_forall_mem ?_
    simp only [List.forall_mem_cons]
    exact ⟨⟨_, rfl, endRsl_linkUp, sessionEnded_endRsl⟩, ⟨_, rfl, endRsl_linkUp, sessionEnded_endRsl⟩, List.forall_mem_nil _⟩
  · have hs : ¬s.rslServes = true := mt rslServes_iff.mp hs
    simp only [List.forall_mem_cons]
    exact ⟨next_congr (rslHelloDo_idle hs), next_congr (rslKexDo_idle (.inl hs)), next_congr (rslKexDoneDo_idle (.inl hs)), List.forall_mem_nil _⟩
  · exact next_congr (rslHelloDo_serves (rslServes_iff.mpr hs))
  · exact next_congr (rslKexDo_idle (.inr h))
  · obtain ⟨hkv, hj⟩ := kexEnded_keeps (s := s)
    exact ⟨_, next_congr (rslKexDo_serves (rslServes_iff.mpr hs) ht hp hr), rfl, rfl, rfl, rfl, hkv, hj⟩
  · exact next_congr (rslKexDoneDo_idle (.inr h))
  · exact next_congr (rslKexDoneDo_serves (rslServes_iff.mpr hs) hk hc)

end Sys2Proof.Machine
end

section
/-! SUPPORT. Freezing, thawing and releasing a slice (R389, R391, R393, R401). -/
namespace Sys2Proof.Machine

variable {s t u : State} {id i k status : Nat} {j : Job} {outs : List (Nat × Bytes)}

/-! ## What a decision keeps (R106, step 12) -/

theorem slice_congr (h : t.slices = s.slices) : t.slice i = s.slice i := by unfold State.slice; rw [h]

theorem done_slices : (done j outs s).slices = s.slices := (congrArg State.slices (decideJob_onlyJob s j.id stSuccess outs).1 :)
theorem done_slice : (done j outs s).slice i = s.slice i := slice_congr done_slices
theorem done_mig : (done j outs s).mig = s.mig := (congrArg State.mig (decideJob_onlyJob s j.id stSuccess outs).1 :)

/-! ## SLICE_FREEZE (R391) -/

/-- One queue of a slice fetches no cell any more. -/
def queueShut (i : Nat) (s : State) (k : Nat) : State :=
  (dropSlot i k s).modSq i k (fun q => { q with held := [], outst := [], missed := [] })

/-- Some queues of a slice fetch no cell any more. -/
def queuesShut (i : Nat) (l : List Nat) (s : State) : State :=
  l.foldl (queueShut i) s

theorem dropSlot_slices : (dropSlot i k s).slices = s.slices := by
  unfold dropSlot
  split <;> rfl

theorem queuesShut_jobs {l : List Nat} : (queuesShut i l s).jobs = s.jobs :=
  foldl_keeps State.jobs (queueShut i) (fun _ _ => dropSlot_jobs) _ _
theorem queuesShut_slices {l : List Nat} : (queuesShut i l s).slices = s.slices :=
  foldl_keeps State.slices (queueShut i) (fun _ _ => dropSlot_slices) _ _

/-- What a freeze keeps of its slice. -/
def Job.freeze (j : Job) (s : State) : Freeze :=
  { job := j.id, sqs := below 16 (fun k => (s.sq (j.pb 0) k).enable), cqs := below 16 (fun k => (s.cq (j.pb 0) k).enable) }

/-- The state at the freeze point: the slice is FREEZING, and its queues fetch no cell. -/
def Job.freezePoint (j : Job) (s : State) : State :=
  queuesShut (j.pb 0) (List.range 16) (s.modSlice (j.pb 0) (fun sl => { sl with state := .freezing, freeze := some (j.freeze s) }))

theorem freezePoint_jobs : (j.freezePoint s).jobs = s.jobs := queuesShut_jobs

theorem freezePoint_slice : (j.freezePoint s).slice (j.pb 0) = { s.slice (j.pb 0) with state := .freezing, freeze := some (j.freeze s) } :=
  (slice_congr queuesShut_slices).trans (slice_modSlice ..)

/-- The job held for the drain of its slice. -/
def Job.draining (j : Job) : Job := { j with phase := .held .drain }

/-- The freeze point, and the job held for the drain. -/
def Job.frozenHold (j : Job) (s : State) : State := (j.freezePoint s).modJob j.id Job.draining

theorem frozenHold_slice : (j.frozenHold s).slice (j.pb 0) = { s.slice (j.pb 0) with state := .freezing, freeze := some (j.freeze s) } := by
  unfold Job.frozenHold
  exact (slice_congr (modJob_slices ..)).trans freezePoint_slice

theorem frozenHold_job (h : s.job? id = some j) : (j.frozenHold s).job? id = some j.draining := by
  rw [Job.frozenHold, job_modJob _ _ _ Job.draining (fun _ => rfl), if_pos (job_id h).symm, job_congr freezePoint_jobs, h]
  rfl

/-- A change that keeps each job's slice leaves the slice as busy as before. -/
theorem busy_modJob {f : Job → Job} (hf : ∀ k, (f k).slice = k.slice) :
    (s.modJob id f).jobs.any (fun k => k.slice == i) = s.jobs.any (fun k => k.slice == i) := by
  refine List.any_map.trans (congrArg (List.any s.jobs) (funext fun k => ?_))
  rw [Function.comp_apply]
  split
  · rw [hf]
  · rfl

theorem frozenHold_busy : (j.frozenHold s).jobs.any (fun k => k.slice == i) = s.jobs.any (fun k => k.slice == i) := by
  rw [Job.frozenHold, busy_modJob (f := Job.draining) fun _ => rfl, freezePoint_jobs]

/-- While a job of a freezing slice is outstanding, the slice stays. -/
theorem settleFreeze_busy (hb : s.jobs.any (fun k => k.slice == i) = true) : settleFreeze i s = s := by
  unfold settleFreeze
  split
  · exact if_neg (by simp [hb])
  · rfl

/-- Without an outstanding job a freezing slice is FROZEN, and its SLICE_FREEZE ends with the counts. -/
theorem settleFreeze_clear {f : Freeze} (hf : (s.slice i).freeze = some f) (hs : (s.slice i).state = .freezing)
    (hb : s.jobs.any (fun k => k.slice == i) = false) (hj : s.job? f.job = some j) (hp : j.phase = .held .drain) :
    settleFreeze i s = done j [(0, leBytes 4 f.done ++ leBytes 4 f.stopped)] (s.modSlice i (fun sl => { sl with state := .frozen })) := by
  have hj' : (s.modSlice i (fun sl => { sl with state := .frozen })).job? f.job = some j := hj
  unfold settleFreeze
  simp only [hf, hs, hb, hj', hp, and_self, if_true, done, job_id hj, Bool.not_false]

theorem sliceFreezeDo_refused (h : computes s id 0x0C01 j) (hr : j.pb 0 = 0 ∨ (s.slice (j.pb 0)).enable = false ∨ (s.slice (j.pb 0)).state ≠ .active) :
    ends s (sliceFreezeDo id s) id stBadParameter [] :=
  runOp_ends_of_fail h (if_pos (by simpa using hr)) (by decide)

section
variable (h : computes s id 0x0C01 j) (hi : j.pb 0 ≠ 0) (he : (s.slice (j.pb 0)).enable = true) (ha : (s.slice (j.pb 0)).state = .active)
include h hi he ha

theorem sliceFreezeDo_eq : sliceFreezeDo id s = settleFreeze (j.pb 0) (j.frozenHold s) := by
  unfold sliceFreezeDo Job.frozenHold Job.freezePoint queuesShut Job.freeze queueShut Job.draining
  rw [runOp_computes _ h]
  exact if_neg (by simp [hi, he, ha])

theorem sliceFreezeDo_busy (hb : s.jobs.any (fun k => k.slice == j.pb 0) = true) :
    ((sliceFreezeDo id s).slice (j.pb 0)).state = .freezing ∧ ((sliceFreezeDo id s).job? id).map (·.phase) = some (.held .drain) := by
  rw [sliceFreezeDo_eq h hi he ha, settleFreeze_busy (frozenHold_busy.trans hb), frozenHold_job h.1]
  exact ⟨congrArg Slice.state frozenHold_slice, rfl⟩

theorem sliceFreezeDo_clear (hb : ¬s.jobs.any (fun k => k.slice == j.pb 0) = true) :
    ((sliceFreezeDo id s).slice (j.pb 0)).state = .frozen ∧ decidedAs (sliceFreezeDo id s) id 0 [(0, leBytes 4 0 ++ leBytes 4 0)] := by
  have hj := frozenHold_job h.1
  rw [sliceFreezeDo_eq h hi he ha, settleFreeze_clear (congrArg Slice.freeze frozenHold_slice) (congrArg Slice.state frozenHold_slice)
    (frozenHold_busy.trans (eq_false_of_ne_true hb)) (job_id h.1 ▸ hj) rfl]
  exact ⟨(congrArg Slice.state (done_slice.trans (slice_modSlice ..)) :), (decided_ok ((job_congr (modSlice_jobs ..) id).trans hj)).1⟩

end

/-! ## SLICE_THAW (R393) -/

/-- A queue pair of a thawed slice is as it was at the freeze point. -/
def queueThawed (i : Nat) (f : Freeze) (s : State) (k : Nat) : State :=
  (s.modSq i k (fun q => { q with enable := f.sqs.contains k })).modCq i k (fun c => { c with enable := f.cqs.contains k })

theorem thawQueues_jobs {f : Freeze} : (thawQueues i f s).jobs = s.jobs := foldl_keeps State.jobs (queueThawed i f) (fun _ _ => rfl) _ _
theorem thawQueues_mig {f : Freeze} : (thawQueues i f s).mig = s.mig := foldl_keeps State.mig (queueThawed i f) (fun _ _ => rfl) _ _

theorem dropMigration_jobs : (dropMigration i s).jobs = s.jobs := by
  unfold dropMigration
  exact foldl_keeps State.jobs _ (fun _ _ => freeSlots_jobs) _ _

theorem dropMigration_contexts : ∀ m ∈ (dropMigration i s).mig.contexts, m.slice ≠ i := fun _ hm => by
  simpa using (List.mem_filter.mp hm).2

theorem sliceThawDo_refused (h : computes s id 0x0C03 j)
    (hr : j.pb 0 = 0 ∨ ((s.slice (j.pb 0)).state ≠ .frozen ∧ (s.slice (j.pb 0)).state ≠ .saved)) :
    ends s (sliceThawDo id s) id stBadParameter [] :=
  runOp_ends_of_fail h (if_pos (by simpa using hr)) (by decide)

/-- The state in which a thawed slice is ACTIVE, before its cells are fetched again. -/
def Job.thawed (j : Job) (s : State) : State :=
  (thawQueues (j.pb 0) ((s.slice (j.pb 0)).freeze.getD {}) (dropMigration (j.pb 0) s)).modSlice (j.pb 0) (fun sl => { sl with state := .active, freeze := none })

theorem thawed_job : (j.thawed s).job? id = s.job? id := by
  unfold Job.thawed
  exact job_congr ((modSlice_jobs ..).trans (thawQueues_jobs.trans dropMigration_jobs)) id

theorem sliceThawDo_eq (h : computes s id 0x0C03 j) (hi : j.pb 0 ≠ 0) (hs : (s.slice (j.pb 0)).state = .frozen ∨ (s.slice (j.pb 0)).state = .saved) :
    sliceThawDo id s = refetchSlice (j.pb 0) (done j [] (j.thawed s)) := by
  refine (runOp_computes _ h).trans (if_neg ?_)
  rcases hs with hs | hs <;> simp [hi, hs]

theorem thawed_slice : ((j.thawed s).slice (j.pb 0)).state = .active ∧ ((j.thawed s).slice (j.pb 0)).freeze = none := by
  unfold Job.thawed
  rw [slice_modSlice]
  exact ⟨rfl, rfl⟩

theorem thawed_mig : (j.thawed s).mig = (dropMigration (j.pb 0) s).mig := by
  unfold Job.thawed
  exact (modSlice_mig ..).trans thawQueues_mig

/-- SLICE_THAW ends its job in a state in which the slice is ACTIVE and has no migration context. -/
theorem thawed_decides (h : s.job? id = some j) : decidedAs (done j [] (j.thawed s)) id 0 [] ∧ ((done j [] (j.thawed s)).slice (j.pb 0)).state = .active ∧
    ((done j [] (j.thawed s)).slice (j.pb 0)).freeze = none ∧ ∀ m ∈ (done j [] (j.thawed s)).mig.contexts, m.slice ≠ j.pb 0 := by
  obtain ⟨hst, hf⟩ := thawed_slice (s := s) (j := j)
  rw [done_slice, done_mig, thawed_mig]
  exact ⟨(decided_ok (thawed_job.trans h)).1, hst, hf, dropMigration_contexts⟩

/-! ## SLICE_RELEASE (R389, R401) -/

theorem releaseSlice_slice : ((releaseSlice i s).slice i).state = .disabled ∧ ((releaseSlice i s).slice i).enable = false := by
  unfold releaseSlice
  rw [slice_modSlice]
  exact ⟨rfl, rfl⟩

theorem sliceReleaseDo_refused (h : computes s id 0x0C04 j) (hg : j.stage ≠ 1) (hr : j.pb 0 = 0 ∨ (s.slice (j.pb 0)).state = .restoring) :
    ends s (sliceReleaseDo id s) id stBadParameter [] :=
  runOp_ends_of_fail h ((if_neg hg).trans (if_pos hr)) (by decide)

theorem sliceReleaseDo_over (h : computes s id 0x0C04 j) (hg : j.stage = 1) (hd : s.dyingOf (j.pb 0) = false) :
    ends s (sliceReleaseDo id s) id 0 [] :=
  runOp_ends_of_done h ((if_pos hg).trans (if_neg (ne_true_of_eq_false hd)))

theorem sliceReleaseDo_dying (h : computes s id 0x0C04 j) (hg : j.stage = 1) (hd : s.dyingOf (j.pb 0) = true) : sliceReleaseDo id s = s :=
  (runOp_computes _ h).trans ((if_pos hg).trans (if_pos hd))

section
variable (h : computes s id 0x0C04 j) (hg : j.stage ≠ 1) (hi : j.pb 0 ≠ 0) (hr : (s.slice (j.pb 0)).state ≠ .restoring)
include h hg hi hr

theorem sliceReleaseDo_eq : sliceReleaseDo id s =
    if (s.slice (j.pb 0)).state = .freezing ∨ !s.resetClear (j.pb 0) then s
    else if (releaseSlice (j.pb 0) s).dyingOf (j.pb 0) then (releaseSlice (j.pb 0) s).modJob j.id (fun j => { j with stage := 1 })
      else done j [] (releaseSlice (j.pb 0) s) :=
  (runOp_computes _ h).trans ((if_neg hg).trans (if_neg (not_or.mpr ⟨hi, hr⟩)))

theorem sliceReleaseDo_waits (hw : (s.slice (j.pb 0)).state = .freezing ∨ s.resetClear (j.pb 0) = false) : sliceReleaseDo id s = s :=
  (sliceReleaseDo_eq h hg hi hr).trans (if_pos (by simpa using hw))

theorem sliceReleaseDo_releases (hf : (s.slice (j.pb 0)).state ≠ .freezing) (hc : s.resetClear (j.pb 0) = true) :
    ((sliceReleaseDo id s).slice (j.pb 0)).state = .disabled ∧ ((sliceReleaseDo id s).slice (j.pb 0)).enable = false := by
  rw [sliceReleaseDo_eq h hg hi hr, if_neg (by simp [hf, hc])]
  split
  · rw [slice_congr (modJob_slices ..)]
    exact releaseSlice_slice
  · rw [done_slice]
    exact releaseSlice_slice

end

end Sys2Proof.Machine
end

section
/-! SUPPORT. Saving and restoring a slice (R394 to R399). -/
namespace Sys2Proof.Machine

variable {s t u : State} {id i status : Nat} {j : Job} {outs : List (Nat × Bytes)} {c : MigContext}

/-! ## SLICE_SAVE (R398) -/

theorem migOf_setMig : (setMig c s).migOf c.slice = some c := by
  unfold State.migOf setMig
  rw [List.find?_append, List.find?_eq_none.mpr fun d hd => by simpa using (List.mem_filter.mp hd).2]
  simp

theorem freeSlots_mig {kt : Bool} {n : Nat} : (freeSlots kt i n s).mig = s.mig := foldl_keeps State.mig _ (fun _ _ => modSlot_mig ..) _ _

theorem releaseRun_mig {kt : Bool} {first count : Nat} {g : BitVec 16} : (releaseRun kt first count i g s).mig = s.mig := by
  unfold releaseRun
  split
  · rfl
  · exact freeSlots_mig

theorem deleteKey_mig {kt : Bool} : (deleteKey kt i s).mig = s.mig := by
  unfold deleteKey
  dsimp only
  rw [modSlot_mig]
  split <;> exact releaseRun_mig

theorem dropEphemeral_mig : (dropEphemeral i s).mig = s.mig :=
  foldl_keeps State.mig _ (fun u k => by split; exacts [deleteKey_mig, rfl]) _ _

/-- A ticket that stands begins an image: its number is the next, and a context of the slice waits for part 1. -/
theorem saveFirst_begins (h : chainStatus (j.input 1) (cut (j.input 0) 4 8) ((j.input 0).take 1600) ((j.input 0).drop 1600) = 0) :
    ∃ outs c, c.slice = i ∧ c.saving = true ∧ c.nextPart = 1 ∧
      saveFirst j i s = fresh (done j outs (setMig c (dropEphemeral i { s with mig.imageSeq := s.mig.imageSeq + 1 }))) := by
  unfold saveFirst
  dsimp only
  split
  · exact ⟨_, _, rfl, rfl, rfl, rfl⟩
  next hn => exact absurd h hn

/-- Nothing refuses a SLICE_SAVE job. -/
def Job.saveOk (j : Job) (s : State) : Prop := j.pb 0 ≠ 0 ∧ (s.slice (j.pb 0)).state = .frozen

/-- The part that a migration job names. -/
def Job.movePart (j : Job) : Nat := fieldLE j.params 4 4

theorem sliceSaveDo_refused (h : computes s id 0x0C02 j) (hr : ¬j.saveOk s) : ends s (sliceSaveDo id s) id stBadParameter [] :=
  runOp_ends_of_fail h (if_pos (by simpa [Job.saveOk, Decidable.or_iff_not_imp_left] using hr)) (by decide)

section
variable (h : computes s id 0x0C02 j) (hok : j.saveOk s)
include h hok

theorem sliceSaveDo_again (hc : s.migOf (j.pb 0) = some c) (hp : c.nextPart = j.movePart + 1) :
    ends s (sliceSaveDo id s) id 0 [(0, c.lastPart)] := by
  refine runOp_ends_of_done h ((if_neg (not_or.mpr ⟨hok.1, not_not.mpr hok.2⟩)).trans ?_)
  rw [hc]
  exact if_pos hp.symm

section
variable (hc : s.migOf (j.pb 0) = none)
include hc

theorem sliceSaveDo_unknown (hp : j.movePart ≠ 0) : ends s (sliceSaveDo id s) id stBadParameter [] := by
  refine runOp_ends_of_fail h ((if_neg (not_or.mpr ⟨hok.1, not_not.mpr hok.2⟩)).trans ?_) (by decide)
  rw [hc]
  exact if_pos hp

theorem sliceSaveDo_full (hp : j.movePart = 0) (hf : 4 ≤ s.mig.contexts.length) : ends s (sliceSaveDo id s) id stSessionUnavailable [] := by
  refine runOp_ends_of_fail h ((if_neg (not_or.mpr ⟨hok.1, not_not.mpr hok.2⟩)).trans ?_) (by decide)
  rw [hc]
  exact (if_neg (not_not.mpr hp)).trans (if_pos hf)

theorem sliceSaveDo_first (hp : j.movePart = 0) (hf : s.mig.contexts.length < 4) : sliceSaveDo id s = saveFirst j (j.pb 0) s := by
  refine (runOp_computes _ h).trans ((if_neg (not_or.mpr ⟨hok.1, not_not.mpr hok.2⟩)).trans ?_)
  rw [hc]
  exact (if_neg (not_not.mpr hp)).trans (if_neg (Nat.not_le.mpr hf))

end
end

theorem saveFirst_saves (h : chainStatus (j.input 1) (cut (j.input 0) 4 8) ((j.input 0).take 1600) ((j.input 0).drop 1600) = 0) :
    (saveFirst j i s).mig.imageSeq = s.mig.imageSeq + 1 ∧
    ((saveFirst j i s).migOf i).any (fun m => m.saving && m.nextPart == 1) = true := by
  obtain ⟨outs, c, rfl, hsv, hn, heq⟩ := saveFirst_begins (i := i) (s := s) h
  rw [heq]
  have hm : (fresh (done j outs (setMig c (dropEphemeral c.slice { s with mig.imageSeq := s.mig.imageSeq + 1 })))).mig =
      (setMig c (dropEphemeral c.slice { s with mig.imageSeq := s.mig.imageSeq + 1 })).mig := (fresh_mig _).trans done_mig
  have hf := congrArg (fun m : MigState => m.contexts.find? (fun d => d.slice == c.slice)) hm
  refine ⟨(congrArg MigState.imageSeq hm).trans (congrArg MigState.imageSeq dropEphemeral_mig :), ?_⟩
  rw [show State.migOf _ _ = some c from hf.trans migOf_setMig]
  simp [hsv, hn]

/-! ## Placing the keys of a part (R330, R399) -/

section
variable {qk qp h : Nat} {kwrap attr mat : Bytes} {r : Nat × Bytes} {placed : List (Nat × Bool × Nat)} {out : Bytes}

theorem placeMoved_jobs {p : State × Nat} (hp : placeMoved i h qk qp attr mat s = .inl p) : p.1.jobs = s.jobs := by
  unfold placeMoved at hp
  dsimp only at hp
  (repeat' split at hp) <;> cases hp <;> exact layRun_jobs ..

theorem placeRecord_jobs {p : State × List (Nat × Bool × Nat) × Bytes} (hp : placeRecord i qk qp kwrap r placed s = .inl p) : p.1.jobs = s.jobs := by
  unfold placeRecord at hp
  dsimp only at hp
  (repeat' split at hp) <;> cases hp
  · exact placeMoved_jobs ‹_›
  · rfl
  · exact placeMoved_jobs ‹_›
  · exact placeMoved_jobs ‹_›

theorem placeAll_jobs {p : State × List (Nat × Bool × Nat) × Bytes} : ∀ {rs : List (Nat × Bytes)} {placed : List (Nat × Bool × Nat)} {out : Bytes} {s : State},
    placeAll i qk qp kwrap rs placed out s = .inl p → p.1.jobs = s.jobs
  | [], _, _, _, hp => by cases hp; rfl
  | r :: rs, placed, out, s, hp => by
    unfold placeAll at hp
    split at hp
    · split at hp
      next hr => exact (placeAll_jobs hp).trans (placeRecord_jobs hr)
      · cases hp
    · exact placeAll_jobs hp

/-! ## The commit of the last part (R399) -/

theorem applyRecord_jobs : (applyRecord i placed r s).jobs = s.jobs := by
  unfold applyRecord
  (repeat' split) <;> rfl

theorem restoreCommit_jobs {gen : BitVec 8} {recs : List (Nat × Bytes)} : (restoreCommit c gen recs s).jobs = s.jobs := by
  unfold restoreCommit
  refine (foldl_keeps State.jobs _ (fun _ _ => applyRecord_jobs) _ _).trans ?_
  exact foldl_keeps State.jobs _ (fun _ _ => modSlot_jobs ..) _ _

theorem restoreCommit_slice {gen : BitVec 8} {recs : List (Nat × Bytes)} : ((restoreCommit c gen recs s).slice c.slice).state = .frozen := by
  unfold restoreCommit
  rw [slice_modSlice]

end

end Sys2Proof.Machine
end

section
/-! SUPPORT. A part of a SLICE_RESTORE that passes the checks (R399). -/
namespace Sys2Proof.Machine

variable {s t u : State} {id i part : Nat} {j : Job} {recs : List (Nat × Bytes)} {placed : List (Nat × Bool × Nat)} {out : Bytes}

/-! ## What a part holds (R395, R396) -/

/-- The context of the restore of slice `i`, a new one before part 0. -/
def State.restoreOf (s : State) (i : Nat) : MigContext := (s.migOf i).getD { slice := i, saving := false }

/-- The header of a part, the length of what part 0 holds besides its area, the length of the area, its source and its image's number. -/
def Job.partHead (j : Job) : Bytes := (j.input 0).take 48
def partExtra (part : Nat) : Nat := if part = 0 then 1664 else 0
def Job.partLen (j : Job) : Nat := fieldLE j.partHead 12 4
def Job.partSource (j : Job) : Bytes := cut j.partHead 24 8
def Job.partSeq (j : Job) : Nat := fieldLE j.partHead 4 4

/-- The nonce and the keys of an image: those of part 0, then those of the context. -/
def Job.partNonce (j : Job) (s : State) (i part : Nat) : Bytes :=
  if part = 0 then fit 16 (Config.crypto .imageParse [s.kv.migKey, j.input 0]) else (s.restoreOf i).nonce
def Job.partKeys (j : Job) (s : State) (i part : Nat) : Bytes :=
  if part = 0 then migKeys (alg .mlKemDecaps 32 [num 0x03, s.kv.migKey, cut (j.input 0) 48 1568]) j.partSource serialBytes j.partSeq (j.partNonce s i part)
  else (s.restoreOf i).secret

/-- The opened area of a part, what its tag covers, the tag. -/
def Job.partArea (j : Job) (s : State) (i part : Nat) : Bytes :=
  partCrypt (cut (j.partKeys s i part) 0 32) part (cut (j.input 0) (48 + partExtra part) j.partLen)
def Job.partBody (j : Job) (part : Nat) : Bytes := (j.input 0).take (48 + partExtra part + j.partLen)
def Job.partMac (j : Job) (part : Nat) : Bytes := (j.input 0).drop (48 + partExtra part + j.partLen)

/-- The record of the slice, that of part 0 or that the context keeps; the records the context keeps and those of this part. -/
def State.sliceRec (s : State) (i part : Nat) (recs : List (Nat × Bytes)) : Bytes :=
  if part = 0 then (recs.headD (1, [])).2 else (s.restoreOf i).stateRec
def State.allRecs (s : State) (i : Nat) (recs : List (Nat × Bytes)) : List (Nat × Bytes) :=
  (s.restoreOf i).rest.map (fun b => ((byteAt b 0).toNat, b.drop 1)) ++ recs

/-- What a part shows of itself before a key is used: its header and the form of its records (R399, checks 1 and 2). -/
structure Job.PartFormed (j : Job) (s : State) (i part : Nat) (recs : List (Nat × Bytes)) : Prop where
  kind : fieldLE j.partHead 0 2 = 0x0102
  target : cut j.partHead 32 8 = serialBytes
  version : byteAt j.partHead 2 = 1
  number : fieldLE j.partHead 8 4 = part
  inOrder : part = (s.restoreOf i).nextPart
  last : (byteAt j.partHead 3).toNat < 2
  reserved : isZero j.partHead 18 6 = true
  reservedEnd : isZero j.partHead 40 8 = true
  whole : (j.input 0).length = 48 + partExtra part + j.partLen + 32
  parses : parseRecs (j.partArea s i part).length (j.partArea s i part) = some recs
  same : part ≠ 0 → j.partSource = (s.restoreOf i).peer ∧ j.partSeq = (s.restoreOf i).imageSeq
  begins : part = 0 → recs.head?.any (fun r => r.1 == 1 && r.2.length == 136) = true

/-- The further checks pass: signature, tag, nonce, contract and room (R399, checks 3 to 6). -/
structure Job.PartPasses (j : Job) (s : State) (i part : Nat) (recs : List (Nat × Bytes)) : Prop where
  formed : j.PartFormed s i part recs
  signed : part = 0 → chainStatus (j.input 1) j.partSource (j.partHead ++ cut (j.input 0) 48 1568) (cut (j.input 0) 1616 96) = 0
  tagged : partTag (cut (j.partKeys s i part) 32 32) (if part = 0 then zeros 32 else (s.restoreOf i).prevTag) (j.partBody part) = j.partMac part
  pending : part = 0 → s.mig.nonces.contains (j.partNonce s i part) = true
  admitted : part = 0 → s.admission i (parseContract (s.sliceRec i part recs)) = none
  room : roomStatus s (s.allRecs i recs) (min 4000 (fieldLE (s.sliceRec i part recs) 124 4)) = 0

/-! ## What a part leaves -/

/-- The context after a part, and the state: the commit after the last one, otherwise the slice RESTORING. -/
def Job.nextContext (j : Job) (s : State) (i part : Nat) (recs : List (Nat × Bytes)) (placed : List (Nat × Bool × Nat)) : MigContext :=
  { s.restoreOf i with
    nextPart := part + 1, prevTag := j.partMac part, secret := j.partKeys s i part, imageSeq := j.partSeq, nonce := j.partNonce s i part
    peer := j.partSource, rest := (s.allRecs i recs).map (fun r => leBytes 1 r.1 ++ r.2), placed := placed, stateRec := s.sliceRec i part recs }
def Job.restored (j : Job) (s : State) (i part : Nat) (recs : List (Nat × Bytes)) (placed : List (Nat × Bool × Nat)) (u : State) : State :=
  if byteAt j.partHead 3 = 1 then restoreCommit (j.nextContext s i part recs placed) (byteAt j.partHead 17) (s.allRecs i recs) u
  else (setMig (j.nextContext s i part recs placed) u).modSlice i (fun sl => { sl with state := .restoring })

theorem restoreOf_slice : (s.restoreOf i).slice = i := by
  unfold State.restoreOf
  cases hc : s.migOf i with
  | none => rfl
  | some c => simpa using List.find?_some hc

theorem restored_jobs : (j.restored s i part recs placed u).jobs = u.jobs := by
  unfold Job.restored
  split
  · exact restoreCommit_jobs
  · exact modSlice_jobs ..

theorem restored_slice : ((j.restored s i part recs placed u).slice i).state = if byteAt j.partHead 3 = 1 then .frozen else .restoring := by
  have hi : (j.nextContext s i part recs placed).slice = i := restoreOf_slice
  unfold Job.restored
  split
  · have hc := restoreCommit_slice (c := j.nextContext s i part recs placed) (gen := byteAt j.partHead 17) (recs := s.allRecs i recs) (s := u)
    rwa [hi] at hc
  · rw [slice_modSlice]

/-- A record that leads as the slice's own does not refuse the part. -/
theorem sliceRecord_leads (h : recs.head?.any (fun r => r.1 == 1 && r.2.length == 136) = true) :
    ¬(recs.head?.elim true fun r => decide (¬r.1 = 1 ∨ ¬r.2.length = 136)) = true := by
  cases hr : recs.head? with
  | none => simp [hr] at h
  | some r => simpa [hr] using h

/-- A part that passes the checks places its keys and ends with the handle map. -/
theorem restorePart_passes (h : j.PartPasses s i part recs)
    (hp : placeAll i (fieldLE (s.sliceRec i part recs) 112 4) (fieldLE (s.sliceRec i part recs) 116 4) (cut (j.partKeys s i part) 64 32) recs
      (s.restoreOf i).placed [] s = .inl (u, placed, out)) :
    restorePart j i part s = done j [(0, out)] (j.restored s i part recs placed u) := by
  obtain ⟨⟨hkind, htarget, hversion, hnumber, horder, hlast, hres, hresEnd, hwhole, hparses, hsame, hbegins⟩, hsigned, htagged, hpending, hadmitted, hroom⟩ := h
  unfold restorePart
  extract_lets img first c h extra n src ct sig seq nonce keys area body recs' stop recs'' st0 all
  have hfirst : first = true ↔ part = 0 := beq_iff_eq
  have hextra : extra = partExtra part := if_congr hfirst rfl rfl
  have hnonce : nonce = j.partNonce s i part := if_congr hfirst rfl rfl
  have hkeys : keys = j.partKeys s i part := if_congr hfirst (by rw [hnonce]; rfl) rfl
  have harea : area = j.partArea s i part := by
    show partCrypt (cut keys 0 32) part (cut img (48 + extra) n) = _
    rw [hkeys, hextra]
    rfl
  have hbody : body = j.partBody part := congrArg (fun e => img.take (48 + e + n)) hextra
  have hrecs : recs' = some recs := by
    show parseRecs area.length area = _
    rw [harea]
    exact hparses
  have hrecs' : recs'' = recs := congrArg (Option.getD · []) hrecs
  have hchain : (if first = true then chainStatus (j.input 1) src (h ++ ct) sig else 0) = 0 := by
    split
    next hf => exact hsigned (hfirst.mp hf)
    · rfl
  have hst : st0 = s.sliceRec i part recs := if_congr hfirst (congrArg (fun l => (List.headD l (1, [])).2) hrecs') rfl
  have hall : all = s.allRecs i recs := congrArg (List.map _ c.rest ++ ·) hrecs'
  have hadm : (if first = true then s.admission i (parseContract st0) else none) = none := by
    split
    next hf =>
      rw [hst]
      exact hadmitted (hfirst.mp hf)
    · rfl
  have hprev : (if first = true then zeros 32 else c.prevTag) = if part = 0 then zeros 32 else c.prevTag := if_congr hfirst rfl rfl
  refine (if_neg ?formed).trans ?_
  case formed =>
    simp only [not_or, not_and, ne_eq, not_not, hfirst, hrecs, hextra, Nat.not_le, Bool.not_eq_true', Bool.not_eq_false, Option.isNone_some, Option.getD_some,
      Bool.false_eq_true, not_false_eq_true]
    refine ⟨hkind, htarget, hversion, hnumber, horder, hlast, hres, hresEnd, hwhole, trivial, fun hf => hsame fun h0 => ?_, fun h0 => ?_⟩
    · exact absurd (hfirst.mpr h0) (ne_true_of_eq_false hf)
    · exact sliceRecord_leads (hbegins h0)
  rw [hchain]
  refine (if_neg (not_not.mpr ?tagged)).trans ((if_neg ?pending).trans ?_)
  case tagged =>
    rw [hprev, hkeys, hbody, hextra]
    exact htagged
  case pending =>
    rw [Bool.and_eq_true, hfirst, hnonce]
    exact fun ⟨h0, hn⟩ => Bool.false_ne_true (((Bool.not_eq_true' _).mp hn).symm.trans (hpending h0))
  rw [hadm, hst, hall, hkeys, hrecs']
  simp only [hroom]
  rw [show placeAll _ _ _ _ recs c.placed [] s = _ from hp]
  refine Eq.trans ?_ (apply_ite (done j [(0, out)]) _ _ _).symm
  rw [hextra, hnonce]
  rfl

end Sys2Proof.Machine
end

section
/-! SUPPORT. How the management opcodes end their jobs (R394, R399, R414, R419, R509 to R512). -/
namespace Sys2Proof.Machine

variable {s u : State} {id : Nat} {j : Job} {recs : List (Nat × Bytes)} {placed : List (Nat × Bool × Nat)} {out : Bytes}

/-! ## SLICE_RESTORE (R399) -/

/-- A slice takes parts: it is a tenant's, enabled, and no other slice has its PASID. -/
def Job.restoreOk (j : Job) (s : State) : Prop :=
  j.pb 0 ≠ 0 ∧ (s.slice (j.pb 0)).enable = true ∧ s.pasidTaken (j.pb 0) (s.slice (j.pb 0)).pasid = false

/-- Part 0 finds its slice ACTIVE and empty. -/
def Job.restoreBegins (j : Job) (s : State) : Prop :=
  j.movePart = 0 ∧ (s.slice (j.pb 0)).state = .active ∧ s.sliceEmpty (j.pb 0) = true

theorem sliceRestoreDo_refused (h : computes s id 0x0C11 j) (hr : ¬j.restoreOk s) : ends s (sliceRestoreDo id s) id stBadParameter [] :=
  runOp_ends_of_fail h (if_pos (by simpa [Job.restoreOk, Decidable.or_iff_not_imp_left] using hr)) (by decide)

section
variable (h : computes s id 0x0C11 j) (hok : j.restoreOk s)
include h hok

theorem sliceRestoreDo_eq : sliceRestoreDo id s =
    if (s.slice (j.pb 0)).state = .restoring then restorePart j (j.pb 0) j.movePart s
    else if j.movePart ≠ 0 ∨ (s.slice (j.pb 0)).state ≠ .active ∨ !s.sliceEmpty (j.pb 0) then fail j stBadParameter s
    else if 4 ≤ s.mig.contexts.length then fail j stSessionUnavailable s
    else restorePart j (j.pb 0) 0 s := by
  obtain ⟨hi, he, hp⟩ := hok
  exact (runOp_computes _ h).trans (if_neg (by simp [hi, he, hp]))

theorem sliceRestoreDo_unready (hs : (s.slice (j.pb 0)).state ≠ .restoring) (hb : ¬j.restoreBegins s) :
    ends s (sliceRestoreDo id s) id stBadParameter [] := by
  rw [sliceRestoreDo_eq h hok, if_neg hs, if_pos (by simpa [Job.restoreBegins, Decidable.or_iff_not_imp_left] using hb)]
  exact decided_fail h.1 (by decide)

theorem sliceRestoreDo_full (hb : j.restoreBegins s) (hf : 4 ≤ s.mig.contexts.length) : ends s (sliceRestoreDo id s) id stSessionUnavailable [] := by
  obtain ⟨hp, ha, he⟩ := hb
  rw [sliceRestoreDo_eq h hok, if_neg (by simp [ha]), if_neg (by simp [hp, ha, he]), if_pos hf]
  exact decided_fail h.1 (by decide)

/-- The part is read: a later one while RESTORING, or part 0 with room for its context. -/
theorem sliceRestoreDo_reads (hr : (s.slice (j.pb 0)).state = .restoring ∨ (j.restoreBegins s ∧ s.mig.contexts.length < 4)) :
    sliceRestoreDo id s = restorePart j (j.pb 0) j.movePart s := by
  rw [sliceRestoreDo_eq h hok]
  rcases hr with hr | ⟨⟨hp, ha, he⟩, hf⟩
  · exact if_pos hr
  · rw [if_neg (by simp [ha]), if_neg (by simp [hp, ha, he]), if_neg (Nat.not_le.mpr hf), hp]

end

theorem restorePart_ends (h : s.job? id = some j) (hr : j.PartPasses s (j.pb 0) j.movePart recs)
    (hp : placeAll (j.pb 0) (fieldLE (s.sliceRec (j.pb 0) j.movePart recs) 112 4) (fieldLE (s.sliceRec (j.pb 0) j.movePart recs) 116 4)
      (cut (j.partKeys s (j.pb 0) j.movePart) 64 32) recs (s.restoreOf (j.pb 0)).placed [] s = .inl (u, placed, out)) :
    ends (j.restored s (j.pb 0) j.movePart recs placed u) (restorePart j (j.pb 0) j.movePart s) id 0 [(0, out)] ∧
    ((restorePart j (j.pb 0) j.movePart s).slice (j.pb 0)).state = if byteAt j.partHead 3 = 1 then .frozen else .restoring := by
  rw [restorePart_passes hr hp, done_slice]
  exact ⟨decided_ok ((job_congr (restored_jobs.trans (placeAll_jobs hp)) id).trans h), restored_slice⟩

/-! ## MIG_PREPARE, contracts, records (R394, R414, R511) -/

theorem migPrepareDo_ends (h : computes s id 0x0C10 j) :
    ends (fresh { s with mig.nonces := lastN 16 (s.mig.nonces ++ [fit 16 j.seed]) }) (migPrepareDo id s) id 0 [(0, ticketOf s (fit 16 j.seed))] := by
  unfold migPrepareDo
  rw [runOp_computes _ h]
  exact ends_fresh (decided_ok (s := { s with mig.nonces := lastN 16 (s.mig.nonces ++ [fit 16 j.seed]) }) h.1)

/-- What admission says of the contract of a job. -/
def Job.contractRefused (j : Job) (s : State) : Option (Nat × Nat) := s.admission (j.pb 0) (parseContract (j.input 0))

theorem contractSetDo_malformed (h : computes s id 0x0C20 j) (hk : contractOk (j.input 0) = false) :
    ends s (contractSetDo id s) id stBadParameter [] := runOp_ends_of_fail h (refusedBy rfl hk) (by decide)

section
variable (h : computes s id 0x0C20 j) (hk : contractOk (j.input 0) = true)
include h hk

theorem contractSetDo_admits (ha : j.contractRefused s = none) :
    ends (s.modSlice (j.pb 0) (fun sl => { sl with nextContract := some (parseContract (j.input 0)) })) (contractSetDo id s) id 0 [] := by
  refine runOp_ends_in_of_done h ((job_congr (modSlice_jobs ..) id).trans h.1) ((passedBy rfl hk).trans ?_)
  rw [show s.admission _ _ = none from ha]

theorem contractSetDo_infeasible {x : Nat × Nat} (ha : j.contractRefused s = some x) :
    ends { s with sched.admitLast := BitVec.ofNat 16 (j.pb 0 * 256 + x.1 * 16 + x.2) } (contractSetDo id s) id stConfigInfeasible [] := by
  unfold contractSetDo
  rw [runOp_computes _ h, passedBy rfl hk, show s.admission _ _ = some x from ha]
  exact decided_fail (s := { s with sched.admitLast := BitVec.ofNat 16 (j.pb 0 * 256 + x.1 * 16 + x.2) }) h.1 (by decide)

end

theorem unrecorded_eventClear {authority : Nat} : (eventClear authority s).unrecorded = s.unrecorded := by
  unfold eventClear
  dsimp only
  rw [unrecorded_drainRecords, unrecorded_writeRecord]
  rfl

theorem eventClear_jobs {authority : Nat} : (eventClear authority s).jobs = s.jobs := (congrArg State.jobs unrecorded_eventClear :)

theorem eventClearDo_ends (h : computes s id 0x0C32 j) : ends (eventClear 1 s) (eventClearDo id s) id 0 [] :=
  runOp_ends_in_of_done h ((job_congr eventClear_jobs id).trans h.1) rfl

end Sys2Proof.Machine
end

section
/-! SUPPORT. The statement on management jobs. -/
namespace Sys2Proof.Machine

/-- Settles O31: each row is a law of its opcode; a part of a restore goes through the checks by name. -/
theorem managementJobsDecide : Obligations.ManagementJobsDecide := by
  unfold Obligations.ManagementJobsDecide
  intro s id j i sl part n con adm b free held saveOk restOk
  have hsave : saveOk = true ↔ j.saveOk s := by simp [saveOk, Job.saveOk, i, sl]
  have hrest : restOk = true ↔ j.restoreOk s := by simp [restOk, Job.restoreOk, i, sl, and_assoc]
  refine ⟨forall_sextuple_of_forall_mem ?rows, fun hc hi he ha => ⟨_, rfl, ?freezes⟩,
    fun hc hi hs => ⟨_, next_congr (sliceThawDo_eq hc hi hs), thawed_decides hc.1⟩,
    fun hc hg hd => next_congr (sliceReleaseDo_dying hc hg hd),
    fun hc hg hi hr => ⟨fun hw => next_congr (sliceReleaseDo_waits hc hg hi hr hw), fun hf hcl => ⟨_, rfl, sliceReleaseDo_releases hc hg hi hr hf hcl⟩⟩,
    fun hc hok hn hp hf => ⟨_, next_congr (sliceSaveDo_first hc (hsave.mp hok) hn hp hf), saveFirst_saves⟩, ?restores⟩
  case rows =>
    have hnosave : saveOk = false ↔ ¬j.saveOk s := (Bool.not_eq_true _).symm.to_iff.trans (not_congr hsave)
    have hnorest : restOk = false ↔ ¬j.restoreOk s := (Bool.not_eq_true _).symm.to_iff.trans (not_congr hrest)
    simp only [List.forall_mem_cons, Bool.and_eq_true, Bool.or_eq_true, Bool.not_eq_true', Bool.or_eq_false_iff, beq_eq_false_iff_ne, decide_eq_true_eq,
      beq_iff_eq, bne_iff_ne, hsave, hrest, hnosave, hnorest, Option.isNone_iff_eq_none, Option.isSome_iff_exists]
    refine ⟨fun hc => ⟨_, rfl, sliceFreezeDo_refused hc⟩,
      fun hc => ⟨_, rfl, sliceThawDo_refused hc⟩,
      fun hc => ⟨_, rfl, fun ⟨hg, hr⟩ => sliceReleaseDo_refused hc hg hr⟩,
      fun hc => ⟨_, rfl, fun ⟨hg, hd⟩ => sliceReleaseDo_over hc hg hd⟩,
      fun hc => ⟨_, rfl, ?saveRefused⟩,
      fun hc => ⟨_, rfl, fun ⟨⟨⟨hok, hn⟩, hp⟩, hf⟩ => sliceSaveDo_full hc hok hn hp hf⟩,
      fun hc => ⟨_, rfl, ?saveAgain⟩,
      fun hc => ⟨_, rfl, sliceRestoreDo_refused hc⟩,
      fun hc => ⟨_, rfl, ?restoreUnready⟩,
      fun hc => ⟨_, rfl, fun ⟨⟨⟨⟨hok, ha⟩, hp⟩, he⟩, hf⟩ => sliceRestoreDo_full hc hok ⟨hp, ha, he⟩ hf⟩,
      fun hc => ⟨_, rfl, fun _ => migPrepareDo_ends hc⟩,
      fun hc => ⟨_, rfl, contractSetDo_malformed hc⟩,
      fun hc => ⟨_, rfl, fun ⟨hk, ha⟩ => contractSetDo_admits hc hk ha⟩,
      fun hc => ⟨_, rfl, ?infeasible⟩,
      fun hc => ⟨_, rfl, fun _ => runOp_ends_of_done hc rfl⟩,
      fun hc => ⟨_, rfl, fun _ => runOp_ends_of_done hc rfl⟩,
      fun hc => ⟨_, rfl, fun _ => runOp_ends_of_done hc rfl⟩,
      fun hc => ⟨_, rfl, fun _ => runOp_ends_of_done hc rfl⟩,
      fun hc => ⟨_, rfl, fun _ => eventClearDo_ends hc⟩,
      fun hc => ⟨_, rfl, fun _ => runOp_ends_of_done hc rfl⟩,
      List.forall_mem_nil _⟩
    case saveRefused =>
      intro hr
      by_cases hok : j.saveOk s
      · obtain ⟨hn, hp⟩ := hr.resolve_left (not_not.mpr hok)
        exact sliceSaveDo_unknown hc hok hn hp
      · exact sliceSaveDo_refused hc hok
    case saveAgain =>
      intro ⟨hok, hm⟩
      cases hh : held with
      | none => simp [hh] at hm
      | some c => exact sliceSaveDo_again hc hok hh (show c.nextPart = part + 1 by simpa [hh] using hm)
    case restoreUnready =>
      intro ⟨⟨hok, hs⟩, hb⟩
      refine sliceRestoreDo_unready hc hok hs fun ⟨hp, ha, he⟩ => ?_
      rcases hb with (hb | hb) | hb
      · exact hb hp
      · exact hb ha
      · exact Bool.false_ne_true (hb.symm.trans he)
    case infeasible =>
      intro ⟨hk, ha⟩
      obtain ⟨x, hx⟩ := ha
      rw [hx]
      exact contractSetDo_infeasible hc hk hx
  case freezes =>
    split
    next hb => exact sliceFreezeDo_busy hc hi he ha hb
    next hb => exact sliceFreezeDo_clear hc hi he ha hb
  case restores =>
    intro hc hok hr img c h extra len src ct seq nonce keys area tag
    have hr : sl.state = .restoring ∨ (j.restoreBegins s ∧ s.mig.contexts.length < 4) :=
      hr.imp_right fun ⟨hp, ha, he, hf⟩ => ⟨⟨hp, ha, he⟩, hf⟩
    refine ⟨_, next_congr (sliceRestoreDo_reads hc (hrest.mp hok) hr), ?_⟩
    intro recs u placed out hkind htarget hversion hnumber horder hlast hres hresEnd hwhole hparses hsame hbegins hsigned htagged hpending st0 all hadmitted
      hroom hp
    exact restorePart_ends hc.1 ⟨⟨hkind, htarget, hversion, hnumber, horder, hlast, hres, hresEnd, hwhole, hparses, hsame, hbegins⟩, hsigned, htagged,
      hpending, hadmitted, hroom⟩ hp

end Sys2Proof.Machine
end
